-- ==== Sys2Proof/Word.lean ====
section
/-! DEFINITION. The word types of the block, and the sparse map in which every large store of the model is held. -/

namespace Sys2Proof

/-- One byte of a packet, a payload or a store. -/
abbrev Byte := BitVec 8
/-- One 32-bit register or window word. -/
abbrev Word := BitVec 32
/-- One 16-bit word of a strand line or a driver reply. -/
abbrev Half := BitVec 16

/-- A sparse store: pairs of key and value, keys strictly rising, no value equal to what an unlisted
key reads as. That canonical form is `SMap.wf`; `SMap.set` keeps it. -/
abbrev SMap (α : Type) := List (Nat × α)

namespace SMap

/-- What key `k` holds; an unlisted key holds `d k`. -/
def get {α : Type} (d : Nat → α) : SMap α → Nat → α
  | [], k => d k
  | (j, v) :: m, k => if k = j then v else get d m k

/-- Put the pair in its place, replacing an older one. -/
def insert {α : Type} : SMap α → Nat → α → SMap α
  | [], k, v => [(k, v)]
  | (j, w) :: m, k, v =>
    if k < j then (k, v) :: (j, w) :: m
    else if k = j then (k, v) :: m
    else (j, w) :: insert m k v

/-- Take key `k` out. -/
def erase {α : Type} : SMap α → Nat → SMap α
  | [], _ => []
  | (j, w) :: m, k => if k = j then m else (j, w) :: erase m k

/-- Write `v` at `k`: writing what an unlisted key reads as removes the entry. -/
def set {α : Type} [DecidableEq α] (d : Nat → α) (m : SMap α) (k : Nat) (v : α) : SMap α :=
  if v = d k then erase m k else insert m k v

/-- Every key of `m` is above `k`. -/
def above {α : Type} (k : Nat) : SMap α → Bool
  | [] => true
  | (j, _) :: _ => decide (k < j)

/-- The canonical form. -/
def wf {α : Type} [DecidableEq α] (d : Nat → α) : SMap α → Bool
  | [] => true
  | (j, v) :: m => decide (v ≠ d j) && above j m && wf d m

end SMap

end Sys2Proof
end

