-- ==== Sys2Proof/Machine/Types.lean ====
section
/-! DEFINITION. The plain data that both the commands and the state are made of: names of modes, ports and roles, and
the records that travel between blocks. -/

namespace Sys2Proof.Machine

/-- R4: the six operating modes. -/
inductive Mode where
  | boot | idle | live | hold | shadow | service
  deriving DecidableEq, Repr

/-- R96: the three Ethernet ports. -/
inductive Port where
  | a | b | sv
  deriving DecidableEq, Repr

/-- R99, R431: the links that come up and go down: the ports and the mirror link. -/
inductive Link where
  | a | b | sv | mirror
  deriving DecidableEq, Repr

/-- R381: the mailbox channels. -/
inductive Chan where
  | c0 | c1 | c2 | c3
  deriving DecidableEq, Repr

/-- R413: the redundancy roles. -/
inductive Role where
  | solo | active | standby | electing
  deriving DecidableEq, Repr

/-- R444: the shadow flavours. -/
inductive Flavour where
  | hot | warm
  deriving DecidableEq, Repr

/-- R385: a network endpoint, a source IP address (16 bytes, IPv6 or IPv4-mapped) and UDP port; `[]`, 0 on channels 0 and 3. -/
structure Endpoint where
  addr : List Byte
  udp : Nat
  deriving DecidableEq, Repr

/-- R386: one mailbox request, as the CP receives it: header fields and the bytes received after the header. The opcode
is the row's own. `port` is the port by which a datagram arrived (R384); channels 0 and 3 have none. -/
structure Request where
  chan : Chan
  from_ : Endpoint
  port : Port
  flags : BitVec 16
  seq : Word
  len : Word
  client : BitVec 16
  payload : List Byte
  deriving DecidableEq, Repr

/-- Who makes a register access: a mailbox client (R19's unlocked level is judged for it) or an engine of the device. -/
inductive Accessor where
  | engine
  | client (chan : Chan) (from_ : Endpoint)
  deriving DecidableEq, Repr

/-- R363: one journal entry. -/
structure JEntry where
  short : Word
  source : Nat
  kind : Nat
  code : Nat
  payload : Nat
  deriving DecidableEq, Repr

/-- R349, R367: why an engine faults. -/
inductive FaultCause where
  | lockOrder | lockHold | taskWdt | memUncorr | busErr | illegalOp
  deriving DecidableEq, Repr

/-- R55: the servo's lock state. -/
inductive ServoState where
  | free | acquire | locked | holdover
  deriving DecidableEq, Repr

/-- R59: the transports of PTP. -/
inductive PtpTransport where
  | ethernet | udp4 | udp6
  deriving DecidableEq, Repr

/-- DOMn_STATUS.STATE. -/
inductive DomState where
  | none | acquire | locked | lost
  deriving DecidableEq, Repr

/-- R78: the timing: rate N/M, slot count and the four slot weights. -/
structure Timing where
  n : Nat
  m : Nat
  slots : Nat
  w0 : Nat
  w1 : Nat
  w2 : Nat
  w3 : Nat
  deriving DecidableEq, Repr

/-- R219: one run of a pixel map. -/
structure Run where
  x : Nat
  y : Nat
  count : Nat
  dir : Nat
  dark : Bool
  deriving DecidableEq, Repr

/-- R218: the pixel map of one strand, header and runs. -/
structure PixMap where
  pixels : Nat
  runCount : Nat
  emitters : Nat
  order : Nat
  wFirst : Bool
  pixPerLine : Nat
  runs : List Run
  deriving DecidableEq, Repr

/-- R209: a LAYER_SET request as staged. -/
structure LayerReq where
  layer : Nat
  enable : Bool
  flip : Bool
  raise_ : Bool
  slotMask : Nat
  alpha : Nat
  x : Nat
  y : Nat
  front : Nat
  back : Nat
  deriving DecidableEq, Repr

/-- R209: a MARK_SET request as staged. -/
structure MarkReq where
  stream : Nat
  pin : Bool
  clear : Bool
  byFrame : Bool
  frame : Nat
  deriving DecidableEq, Repr

/-- R321 to R326: what lamp control keeps for one zone (one driver). -/
structure Zone where
  temp : Int
  source : Nat
  te : Option Int
  q : Nat
  g0 : Nat
  g1 : Nat
  g2 : Nat
  g3 : Nat
  /-- Tick index at which the zone last had a source, and the fallback flag of R321. -/
  lastSourceMs : Nat
  lost : Bool
  /-- R327: OVERTEMP replies seen, as the replies with OVERTEMP = 0 still missing. -/
  overtempLeft : Nat
  /-- The current codes last written to the driver (R326). -/
  c0 : Nat
  c1 : Nat
  c2 : Nat
  c3 : Nat
  deriving DecidableEq, Repr

/-- R268, R270, R328: a CONFIG or RAW line queued on a strand: its class of R328, its target and words. -/
structure CfgLine where
  cls : Nat
  raw : Bool
  driver : Nat
  words : List Half
  /-- R296: the return slot of a DRIVER_COMMAND asks for sense words. -/
  sense : Bool := false
  /-- R297: the number of the DRIVER_COMMAND. -/
  id : Nat := 0
  deriving DecidableEq, Repr

/-- R27: the kinds of staged change. -/
inductive Change where
  | commit (recs : List (Nat × List Byte)) (retimes : Bool)
  | mapSwitch (strand : Nat)
  | tableSwitch (id : Nat)
  | calSwitch (planeCrc : Nat)
  | layer (req : LayerReq)
  | mark (req : MarkReq)
  | rewind (stream : Nat)
  deriving DecidableEq, Repr

/-- R437: the SELECTION item of one stream. -/
structure SelItem where
  stream : Nat
  chosen : Option Nat
  cadence : Nat
  mark : Option Nat
  pin : Bool
  /-- REWIND position: ticks of the loop already played. -/
  play : Option Nat := none
  deriving DecidableEq, Repr

/-- R82, R86: a scheduled retime: tick T (old index and instant in full ns), tick U, the new timing. -/
structure Retime where
  tIndex : Nat
  tNs : Nat
  uIndex : Nat
  uNs : Nat
  timing : Timing
  deriving DecidableEq, Repr

/-- R436, R437: a tick record. The byte layout of the sections is not stated; their content is. -/
structure TickRecord where
  tick : Nat
  recordPointNs : Nat
  lagging : Bool
  digest : List Byte
  size : Nat
  mode : Mode
  shortRun : Nat
  goodRun : Nat
  holdTicks : Nat
  raise3 : Bool
  brightStep : Nat
  selection : List SelItem
  flips : List Nat
  staged : List Change
  retime : Option Retime
  plan : List Nat
  /-- LAMP_PLAN: the timing from which the pitches follow. -/
  planTiming : Timing
  sensePos : Nat
  expiry : Nat
  role : Role
  redundArb : Nat
  cfgQueue : List (Nat × CfgLine)
  zones : List (Nat × Zone)
  latency : List (Nat × Nat × Nat)
  faultMap : List (Nat × Byte)
  deriving DecidableEq, Repr

/-- R201: an overlay buffer: its handle, size, format, granted granules and content, one word per 4 bytes. -/
structure Buffer where
  handle : Nat
  width : Nat
  height : Nat
  rgba16 : Bool
  data : SMap Nat
  freeDeferred : Bool
  deriving DecidableEq, Repr

/-- R441: what a full-state copy carries. -/
structure FullCopy where
  live : List (Nat × List Byte)
  maps : List (Nat × PixMap)
  calPlane : SMap Nat
  tables : List (Nat × SMap Nat)
  faultMap : SMap Byte
  zones : List (Nat × Zone)
  buffers : List Buffer
  /-- The bindings of layers 1 and 2, in the form of the LAYER_SET that made them. -/
  layers : List LayerReq
  safeImage : SMap Nat
  emergImage : SMap Nat
  deriving DecidableEq, Repr

/-- R432, R433: the payload of a mirror frame: its bytes, or a chunk, by offset and length, of a tick record or of a
full-state copy, whose byte layout the spec does not state. -/
inductive MirrorPayload where
  | bytes (b : List Byte)
  | record (offset len : Nat) (r : TickRecord)
  | state (offset len : Nat) (c : FullCopy)
  deriving DecidableEq, Repr

/-- R432: payload bytes. -/
def MirrorPayload.len : MirrorPayload → Nat
  | .bytes b => b.length
  | .record _ n _ => 4 + n
  | .state _ n _ => 8 + n

/-- R431 to R433: a frame on the mirror link: its type, its header and its payload. -/
structure MirrorFrame where
  type : Nat
  header : List Byte
  payload : MirrorPayload
  deriving DecidableEq, Repr

/-- R439: the tick record that is being sent: when its last chunk has left (monotonic ns), and whether the transfer was cut
short. -/
structure RecordSend where
  record : TickRecord
  endUp : Nat
  broken : Bool
  deriving DecidableEq, Repr

/-- R441: the full-state copy that is being sent: its content, its bytes and the offset of the next chunk. -/
structure CopySend where
  copy : FullCopy
  size : Nat
  next : Nat
  deriving DecidableEq, Repr

/-- R461: a parsed update manifest with the bytes it was parsed from. -/
structure Manifest where
  kind : Nat
  mirrorVersion : Nat
  release : Nat
  security : Nat
  fwVersion : Nat
  blocks : Nat
  packageLength : Nat
  baseDigest : List Byte
  baseBlocks : Nat
  imageDigest : List Byte
  bytes : List Byte
  deriving DecidableEq, Repr

end Sys2Proof.Machine
end

