-- ==== Sys2Proof/Syntax.lean ====
section
/-! DEFINITION. The commands of the block: one constructor per row of spec/opcode_table.json, with the operands that
the row's rule gives the event. A command is an indivisible step of the part (95_what_each_step_holds.md). -/

namespace Sys2Proof

open Machine

/-- R102: how the end of a received frame looked on the wire: truncated by link-down, or by a block-decode error. -/
inductive Fcs where
  | good | bad | truncated | decodeErr
  deriving DecidableEq, Repr

/-- R130: what the receiver of a port has found on the line since the frame before: decode errors, and RS-FEC codewords that
it corrected or could not correct. -/
structure LineErrors where
  symbols : Nat
  corrected : Nat
  uncorrected : Nat
  deriving DecidableEq, Repr

/-- R102, R130: how a frame ended on the wire, and what the receiver found on the line since the frame before. -/
structure Reception where
  fcs : Fcs
  line : LineErrors
  deriving DecidableEq, Repr

/-- R59: a port, and the time in full ns at which a message left or came there. -/
structure PortTime where
  port : Port
  ns : Nat
  deriving DecidableEq, Repr

/-- R124: a Pdelay_Req as received: its transport, domain, sequence number and requesting port identity, and the turnaround
time in ns from its reception to the transmission of the Pdelay_Resp. -/
structure PdelayMsg where
  transport : PtpTransport
  domain : Nat
  seq : Nat
  requester : List Byte
  turnaround : Nat
  deriving DecidableEq, Repr

/-- What the board and the stores show at a reset release (R493, R494, R496, R515, R524). -/
structure BootInputs where
  idStrap : Fin 8
  roleStrap : Bool
  bootStrap : BitVec 2
  /-- R540: type, and the channels that are populated and train. -/
  lpddr4x : Bool
  /-- R92: pulses were seen on TICK_OD during BOOT. -/
  tickOd : Bool
  ch0 : Bool
  ch1 : Bool
  mb : Nat
  rate : Nat
  /-- R535: VDDIO_H is 3.3 V, else 1.8 V. -/
  ioHigh : Bool
  /-- R515, R516: rows no spare covers. -/
  critical : Bool
  lostStrands : List Nat
  set2Lost : Bool
  set3Lost : Bool
  journalLost : List Nat
  sparesUsed : Nat
  /-- R524: the measured VDDIO of the eight banks, mV; R259: whether calibration succeeded. -/
  vddio : List Nat
  zcalOk : Bool
  /-- R503: eye widths of ports A, B, service and mirror, 0.001 UI. -/
  eyes : List Nat
  deriving DecidableEq, Repr

/-- R59: the fields of a received Sync that the servo uses. Times are full ns, corrections units of 2^-16 ns. -/
structure SyncMsg where
  domain : Nat
  port : Port
  transport : PtpTransport
  gm : Nat
  seq : Nat
  twoStep : Bool
  t1 : Nat
  t2 : Nat
  corr : Int
  logInterval : Int
  deriving DecidableEq, Repr

/-- R59: the fields of a received Announce that the best master clock algorithm compares. -/
structure AnnounceMsg where
  domain : Nat
  port : Port
  gm : Nat
  priority1 : Nat
  clockClass : Nat
  accuracy : Nat
  variance : Nat
  priority2 : Nat
  steps : Nat
  ptpScale : Bool
  logInterval : Int
  deriving DecidableEq, Repr

/-- R131: the carrier of an HPT packet. -/
inductive Carrier where
  | udp (srcIp : List Byte) (dstPort : Nat)
  | raw
  deriving DecidableEq, Repr

/-- R162: the fields of a received E1.31 packet that the device judges. -/
structure SacnMsg where
  wellFormed : Bool
  rootVector : Nat
  framingVector : Nat
  dmpVector : Nat
  addrType : Nat
  firstAddr : Nat
  incr : Nat
  univ : Nat
  priority : Nat
  startCode : Nat
  preview : Bool
  terminated : Bool
  cid : Nat
  seq : Nat
  slots : List Byte
  deriving DecidableEq, Repr

/-- R275: a driver reply as captured: HEAD, payload words, CRC and the latency sample in units of 0.25 ns. -/
structure ReplyIn where
  head : Half
  words : List Half
  crc : Half
  sample : Nat
  deriving DecidableEq, Repr

/-- R295: what the line shows after an RDM request: whether a slot had a framing error, and the bytes received, from the start
code on. -/
structure RdmIn where
  framing : Bool
  bytes : List Byte
  deriving DecidableEq, Repr

/-- R322: what a diode measurement shows. -/
inductive DiodeReading where
  | temp (t : Int) | openCircuit | shorted
  deriving DecidableEq, Repr

/-- R338: when a submitted task becomes READY. -/
inductive TaskWait where
  | now | atShort (t : Word) | onEvent (ev : Nat)
  deriving DecidableEq, Repr

/-- R433: LINK_HELLO as received. -/
structure HelloFrame where
  serial : Nat
  role : Role
  roleStrap : Bool
  mirrorVersion : Nat
  flavour : Flavour
  fwVersion : Nat
  portA : List Byte
  digest : List Byte
  deriving DecidableEq, Repr

/-- R439: one RECORD frame: the tick, the bytes this chunk brings, whether its CRC holds, and the record when this chunk
completes it. -/
structure RecordFrame where
  tick : Nat
  offset : Nat
  bytes : Nat
  crcOk : Bool
  complete : Option TickRecord
  deriving DecidableEq, Repr

/-- R507, R511: the result of a test. -/
inductive TestResult where
  | pass | fail | repaired | degraded
  deriving DecidableEq, Repr

/-- R504: the figures of a class 2 calibration. -/
structure Class2Figures where
  dram0 : Nat
  dram1 : Nat
  /-- Worst return margin of each bank, % UI, with its strand. -/
  ret : List (Nat × Nat)
  zcalOk : Bool
  deriving DecidableEq, Repr

/-- R126: what happens to the DHCPv4 client. -/
inductive DhcpEvent where
  | offer (ip mask gw : Word) (server : Word)
  | ack (ip mask gw : Word) (leaseS : Nat)
  | nak
  | timer
  deriving DecidableEq, Repr

/-- The commands. -/
inductive Instr where
  -- reset, start-up (13_startup_reset_selftest.md)
  | porstN (lowNs : Nat)
  | sysrstN (lowNs : Nat)
  | resetRelease (b : BootInputs)
  | supervisorUndervoltage (belowMv : Nat) (ns : Nat)
  | resetAfterResponse
  | dlWindowClose
  | dlCtrl (v : Word)
  | downloadDatagram (toOwnOrBroadcast : Bool) (src : Endpoint) (data : List Byte)
  | autoLive
  -- Hearth (02_hearth_time_and_tick.md)
  | tick
  | subTick (j : Fin 4)
  | recordPoint
  | epoch
  | sync (m : SyncMsg)
  | followUp (domain : Nat) (port : Port) (seq : Nat) (t1 : Nat) (corr : Int)
  | delayReqSend (second : Bool) (t3 : PortTime)
  | delayResp (domain : Nat) (seq : Nat) (t4 : PortTime) (corr : Int)
  | announce (m : AnnounceMsg)
  | announceReceiptTimeout (second : Bool)
  | pdelayReq (port : Port) (m : PdelayMsg)
  | syncLoss
  | ppsIn (stamp : Nat)
  | ppsInLost
  | ppsOut
  | tickOdEdge (skew : Int)
  | tickSkew
  | tickMaster
  -- ports (03_network_ports.md)
  | receivedFrame (port : Port) (bytes : List Byte) (rx : Reception)
  | forwarding (ingress : Port) (bytes : List Byte) (fcs : Fcs) (sinceNs : Nat)
  | frameBoundary (port : Port)
  | linkUp (link : Link) (speed : Nat)
  | linkDown (link : Link)
  | searchWindow (port : Port)
  | multicastQuery (port : Port) (group : Option (List Byte)) (maxMs : Nat)
  | membershipReport (group : List Byte)
  | arpRequest (port : Port) (target : Word) (srcMac : List Byte) (srcIp : Word)
  | neighbourSolicitation (port : Port) (target : List Byte) (src : List Byte)
  | echoRequest (port : Port) (dst : List Byte) (src : List Byte) (data : List Byte)
  | headRefill (set : Fin 4) (cls : Fin 4)
  | qsPop (set : Fin 4) (byRegRead : Bool)
  | qsDone (set : Fin 4) (addr : Word)
  -- HPT and sACN (04_pixel_transport.md)
  | hptPacket (port : Port) (carrier : Carrier) (srcMac : List Byte) (data : List Byte)
  | sourceFailover (stream : Fin 64)
  | streamDown (stream : Fin 64)
  | sacnPacket (port : Port) (m : SacnMsg)
  | sacnSrcLost (univ : Nat) (cid : Nat)
  -- frame store (05_frame_store.md)
  | consolidation (stream : Fin 64)
  | holdEnter
  | holdExit
  | emergNAsserted
  | emergNDeasserted
  -- Anvil and strands (06, 07)
  | lineRender (lane : Fin 2)
  | dataLineSend (strand : Fin 128)
  | underrun (strand : Fin 128)
  | syn (strand : Fin 128)
  | rts (strand : Fin 128)
  | reply (strand : Fin 128) (r : ReplyIn)
  | replyTimeout (strand : Fin 128)
  | commandFrame (strand : Fin 128)
  | legacyFrame (strand : Fin 128)
  | dmxFrame (port : Fin 64)
  | rdmTransaction (port : Fin 64)
  | rdmResponse (port : Fin 64) (brk : Bool) (r : RdmIn)
  | enumerationComplete (strands : List (Fin 128))
  -- lamp control (08_lamp_control.md)
  | dieTemp (t : Int)
  | diodeMeasurement (n : Fin 4) (r : DiodeReading)
  | zoneTempLost (strand : Fin 128) (driver : Nat)
  | vddioSample (bank : Fin 8) (mv : Nat)
  -- engines, scheduler, arbiter, journal (09)
  | taskSubmit (engine : Fin 20) (prio : Fin 8) (targets : List (Fin 21)) (flow : Option (Fin 256)) (wait : TaskWait)
  | taskReady (slot : Fin 512)
  | taskDispatch (engine : Fin 21)
  | taskDone (engine : Fin 21)
  | taskWdt (engine : Fin 20)
  | lockAcquire (engine : Fin 20) (lock : Fin 64) (tryOnly : Bool)
  | lockRelease (engine : Fin 20) (lock : Fin 64)
  | lockHold (lock : Fin 64)
  | engineFault (engine : Fin 20) (cause : FaultCause) (pc : Word)
  | engineRestarted (engine : Fin 20)
  | burstGrant (channel : Fin 2)
  | turnForecastReissue (channel : Fin 2) (cls : Fin 8)
  | starveWarn (channel : Fin 2) (cls : Fin 8)
  | journalEntry (source : Fin 48) (kind : Fin 6) (code : BitVec 16) (payload : BitVec 64)
  | journalSpill
  | journalDatagram
  | sessionExpired (scope : Fin 5)
  -- redundancy (11)
  | linkHelloSend
  | linkHello (h : HelloFrame)
  | electWait
  | renew (byHeartbeat : Bool) (serial : Nat) (expiry : Nat)
  | release (byHeartbeat : Bool) (serial : Nat) (lastTick : Nat) (reason : Fin 4)
  | takeover
  | switchoverAtTick
  | record (f : RecordFrame)
  | state (offset : Nat) (crcOk : Bool) (complete : Option FullCopy)
  | resyncReq
  | ack (tick : Nat) (offset : Option Nat)
  | mailbox (response : Bool) (opcode : BitVec 16) (r : Request)
  -- self-test and trim (13), persistence (12), control (10): timed steps
  | bistStart
  | bistDone (id : Nat) (result : TestResult) (durationUs : Nat) (detail : Nat)
  | class2Calibration (f : Class2Figures)
  | retrainSlice (channel : Fin 2)
  | autoConfirm
  | confirmWindow
  | unlockExpired (chan : Chan) (from_ : Endpoint)
  | lockoutEnd
  | nonceExpiry
  | storeComplete
  | calCopyDone
  | bankStoreComplete
  -- host SPI and host window (10)
  | write (id : Fin 8) (addr : BitVec 16) (words : List Word)
  | read (id : Fin 8) (addr : BitVec 16) (n : Nat)
  | qwrite (id : Fin 8) (addr : BitVec 16) (words : List Word)
  | qread (id : Fin 8) (addr : BitVec 16) (n : Nat)
  | mbxCtrl (v : Word)
  | mbxRsp
  | irqStatus (v : Word)
  | jwFirstLo (v : Word)
  -- register accesses with a row of their own
  | jnlMark (v : Word)
  | taskCancel (v : Word)
  | faultClear (v : Word)
  | arbRank (channel : Fin 2) (v : Word)
  | timeSecHiRead (hostWindow : Bool)
  | timeSecWrite (by_ : Accessor) (hi : Bool) (v : Word)
  | timeNs (by_ : Accessor) (v : Word)
  | timeIncHi (by_ : Accessor) (v : Word)
  | tickIndexHi
  | jnlNextHi
  | jnlOldestHi
  | counterRead (addr : Word)
  | byteCounterHiRead (addr : Word)
  | registerWrite (by_ : Accessor) (addr : Word) (v : Word)
  -- mailbox commands (R407)
  | hello (r : Request)
  | sessionOpen (r : Request)
  | sessionClose (r : Request)
  | keepalive (r : Request)
  | responseAck (r : Request)
  | paramGet (r : Request)
  | paramSet (r : Request)
  | paramCommit (r : Request)
  | store (r : Request)
  | factoryReset (r : Request)
  | modeGet (r : Request)
  | modeSet (r : Request)
  | timeGet (r : Request)
  | timingSet (r : Request)
  | domainSelect (r : Request)
  | strandEnumerate (r : Request)
  | strandStatus (r : Request)
  | driverCommand (r : Request)
  | rdmRequest (r : Request)
  | mapWrite (r : Request)
  | bufferAlloc (r : Request)
  | bufferWrite (r : Request)
  | bufferFree (r : Request)
  | layerSet (r : Request)
  | markSet (r : Request)
  | rewind (r : Request)
  | calBegin (r : Request)
  | calWrite (r : Request)
  | calCommit (r : Request)
  | bank (r : Request)
  | safe (r : Request)
  | emergency (r : Request)
  | libSave (r : Request)
  | libLoad (r : Request)
  | colourTableWrite (r : Request)
  | updOpen (r : Request)
  | updBlock (r : Request)
  | updFinish (r : Request)
  | updActivate (r : Request)
  | updConfirm (r : Request)
  | updStatus (r : Request)
  | bistRun (r : Request)
  | bistResult (r : Request)
  | countersRead (r : Request)
  | journalRead (r : Request)
  | eventsRead (r : Request)
  | trimRun (r : Request)
  | trimReport (r : Request)
  | roleGet (r : Request)
  | roleSet (r : Request)
  | switchover (r : Request)
  | unlockChallenge (r : Request)
  | unlockResponse (r : Request)
  | unlockPassword (r : Request)
  | relock (r : Request)
  | setKey (r : Request)
  | setPassword (r : Request)
  | clearPassword (r : Request)
  | sealLevel (r : Request)
  | unsealLevel (r : Request)
  | permitDownload (r : Request)
  | regRead (r : Request)
  | regWrite (r : Request)
  -- boundary scan (R517)
  | extest (bits : List Bool)
  | samplePreload (bits : List Bool)
  | idcode
  | clamp
  | highz
  | extestPulse
  | extestTrain
  | dbgSelect (engine : Nat)
  | dbgData (v : Word)
  | repairRead
  | bypass (ir : BitVec 8)
  | trstN
  | scanExit
  -- steps of ports, strands and persistence that stand at the table's end
  | blockLock (link : Link) (fecAligned : Bool)
  | hiBer (link : Link) (present : Bool)
  | busSense (strand : Fin 128) (inSwapWindow : Bool)
  | ownIl (level : Bool)
  | dhcpv4 (port : Port) (e : DhcpEvent)
  | completionRecordRead (slot : Fin 512)
  | verifyComplete
  | imageWriteComplete
  | reloadComplete
  | supplyReturn
  deriving DecidableEq, Repr

end Sys2Proof
end

