-- ==== Sys2Proof/Decode.lean ====
section
/-! DEFINITION. The decoder over the table's bits. No row of spec/opcode_table.json gives bits ("fields" is empty in every
row): the commands reach the block as events, register accesses and mailbox requests, and no word spells one. -/

namespace Sys2Proof

/-- The command that a word of `nbits` bits spells by the table: none, for no row gives bits (log 1). -/
def decodeTableWord (_nbits _w : Nat) : Option Instr := none

end Sys2Proof
end

