-- ==== Sys2Proof/Config.lean ====
section
/-! DEFINITION. What the spec leaves open, as constants without a body: nothing can be proved of their values, so a
statement holds whatever they are. Each names the log entry that marks it. -/

namespace Sys2Proof.Config

/-- R462: whether an ECDSA P-384 signature over the 160 manifest bytes verifies under the release key, which the spec
does not give (log 5). -/
opaque signatureOk : List Byte → List Byte → Bool

/-- R483, R484: the random bytes of salts and nonces, by a draw counter (log 6). -/
opaque randomByte : Nat → Byte

/-- R436: CONFIG_DIGEST, SHA-256 over the live set and the CRCs, in a byte order the spec does not state (log 8). -/
opaque configDigest : List (Nat × List Byte) → List Nat → List Byte

/-- R241, R245: a record of a plane whose content is undefined, by plane and record number (log 9). -/
opaque undefinedRecord : Nat → Nat → Nat

/-- R153: what a pixel of the ring reads as that nothing has written, by entry and position (log 9). -/
opaque undefinedPixel : Nat → Nat

/-- R383: the remainder of a response that is not complete, by word offset and read counter (log 10). -/
opaque undefinedWord : Nat → Nat → Word

/-- A free value for a quantity the spec does not state, by a draw counter (log 11). -/
opaque freeNat : Nat → Nat

/-- R52: the increment of the proportional-integral filter, by KP, KI, the increment before and the offset; the filter's
equation is not stated (log 14). -/
opaque piIncrement : Nat → Nat → Nat → Int → Nat

/-- R52: the slew bias that the filter asks for, by KP, KI and the offset, before its limit (log 14). -/
opaque piBias : Nat → Nat → Int → Int

/-- R126: the MAC address of the next hop to a destination address, as ARP or neighbour discovery tells it (log 121). -/
opaque nextHop : List Byte → Nat

/-- R34: where the firmware places the CP's four DRAM windows, in units of 256 MB of DRAM (log 134). -/
opaque cpWindow : Nat → Nat

end Sys2Proof.Config
end

