-- ==== Sys2Proof/Machine/Bits.lean ====
section
/-! DEFINITION. Bit-field, byte-order, checksum and digest helpers: big-endian fields (00_scope.md, Conventions), the
signed difference of R71, CRC-16/CCITT (R138, R267), CRC-32C and the digests of R16. -/

namespace Sys2Proof.Machine

/-- Bits [hi:lo] of a number. -/
def bits (n hi lo : Nat) : Nat := (n / 2 ^ lo) % 2 ^ (hi + 1 - lo)

/-- Bit `i` of a number. -/
def bit (n i : Nat) : Bool := n.testBit i

/-- A Boolean as a number, for packing status words. -/
def b2n (b : Bool) : Nat := if b then 1 else 0

/-- The big-endian number that bytes spell. -/
def beNat : List Byte → Nat
  | [] => 0
  | b :: bs => b.toNat * 256 ^ bs.length + beNat bs

/-- The low `k` bytes of a number, big-endian. -/
def beBytes : Nat → Nat → List Byte
  | 0, _ => []
  | k + 1, n => BitVec.ofNat 8 (n / 256 ^ k) :: beBytes k n

/-- The big-endian field of `size` bytes at `off` of a payload; bytes beyond its end read 0. -/
def field (p : List Byte) (off size : Nat) : Nat :=
  let f := (p.drop off).take size
  beNat f * 256 ^ (size - f.length)

/-- Byte `off` of a payload, 0 beyond its end. -/
def byteAt (p : List Byte) (off : Nat) : Nat := field p off 1

/-- Bytes as big-endian 32-bit words; a short last word is filled with zeros. -/
def wordsOf (p : List Byte) : Nat → List Word
  | 0 => []
  | k + 1 => BitVec.ofNat 32 (field p 0 4) :: wordsOf (p.drop 4) k

/-- 32-bit words as big-endian bytes. -/
def bytesOfWords : List Word → List Byte
  | [] => []
  | w :: ws => beBytes 4 w.toNat ++ bytesOfWords ws

/-- Zero bytes up to length `n`, cut there. -/
def padTo (n : Nat) (p : List Byte) : List Byte := (p ++ List.replicate (n - p.length) 0).take n

/-- R71: the signed 32-bit difference of two short times or sequence numbers. -/
def signed32 (a : Int) : Int := (BitVec.ofInt 32 a).toInt

/-- The two's complement number of a field of `w` bits. -/
def signedOf (w n : Nat) : Int := (BitVec.ofNat w n).toInt

/-- A signed number as the field of `w` bits that holds it; a number outside the field takes its nearest bound. -/
def satSigned (w : Nat) (i : Int) : Nat :=
  (BitVec.ofInt w (max (-(2 ^ (w - 1) : Int)) (min (2 ^ (w - 1) - 1 : Int) i))).toNat

/-- Division of integers, rounded towards minus infinity. -/
def floorDiv (a : Int) (b : Nat) : Int := Int.fdiv a b

/-- Division rounded up. -/
def ceilDiv (a b : Nat) : Nat := (a + b - 1) / b

/-- Division rounded to nearest, halves up. -/
def roundDiv (a b : Nat) : Nat := (2 * a + b) / (2 * b)

/-- Keep a number within bounds. -/
def clampInt (lo hi x : Int) : Int := max lo (min hi x)

/-! ### Checksums -/

def crc16Bit (p : BitVec 16) (c : BitVec 16) : BitVec 16 :=
  if c.msb then (c <<< 1) ^^^ p else c <<< 1

def crc16Bits (p : BitVec 16) : Nat → BitVec 16 → BitVec 16
  | 0, c => c
  | k + 1, c => crc16Bits p k (crc16Bit p c)

/-- CRC-16/CCITT: polynomial 0x1021, initial value 0xFFFF, msb first, over bytes. -/
def crc16 (bs : List Byte) : BitVec 16 :=
  bs.foldl (fun c b => crc16Bits 0x1021 8 (c ^^^ (BitVec.setWidth 16 b <<< (8 : Nat)))) (0xFFFF : BitVec 16)

/-- CRC-16/CCITT over 16-bit words, msb first. -/
def crc16Words (ws : List Half) : BitVec 16 :=
  crc16 (ws.flatMap fun w => beBytes 2 w.toNat)

def crc32cBits : Nat → BitVec 32 → BitVec 32
  | 0, c => c
  | k + 1, c => crc32cBits k (if c.getLsbD 0 then (c >>> 1) ^^^ 0x82F63B78 else c >>> 1)

/-- CRC-32C of bytes (R16). -/
def crc32c (bs : List Byte) : Nat :=
  ((bs.foldl (fun c b => crc32cBits 8 (c ^^^ BitVec.setWidth 32 b)) (0xFFFFFFFF : BitVec 32)) ^^^ 0xFFFFFFFF).toNat

/-! ### Integer roots, for the constants of FIPS 180-4 and for R229 -/

/-- The largest `r` of `b` bits above `acc` with `r ^ k ≤ n`. -/
def rootFrom (n k : Nat) : Nat → Nat → Nat
  | 0, acc => acc
  | b + 1, acc => rootFrom n k b (if (acc + 2 ^ b) ^ k ≤ n then acc + 2 ^ b else acc)

/-- The integer k-th root of `n`, when it has at most `b` bits. -/
def root (k b n : Nat) : Nat := rootFrom n k b 0

def isPrimeBelow (n : Nat) : Nat → Bool
  | 0 => true
  | d + 1 => if 1 < d + 1 ∧ (d + 1) ∣ n then false else isPrimeBelow n d

/-- The first `k` primes from `n` on, looking at `fuel` numbers. -/
def primesFrom : Nat → Nat → Nat → List Nat
  | 0, _, _ => []
  | _, 0, _ => []
  | fuel + 1, k + 1, n =>
    if 1 < n ∧ isPrimeBelow n (n - 1) then n :: primesFrom fuel k (n + 1) else primesFrom fuel (k + 1) (n + 1)

def primes (k : Nat) : List Nat := primesFrom 410 k 2

/-! ### SHA-256 and SHA-384 (FIPS 180-4, R16) -/

def sha256K : List Word := (primes 64).map fun p => BitVec.ofNat 32 (root 3 36 (p * 2 ^ 96))
def sha256H : List Word := (primes 8).map fun p => BitVec.ofNat 32 (root 2 36 (p * 2 ^ 64))
def sha512K : List (BitVec 64) := (primes 80).map fun p => BitVec.ofNat 64 (root 3 68 (p * 2 ^ 192))
def sha384H : List (BitVec 64) := ((primes 16).drop 8).map fun p => BitVec.ofNat 64 (root 2 68 (p * 2 ^ 128))

/-- The rotations and shifts of one member of the SHA-2 family: Σ0, Σ1, σ0, σ1. -/
structure ShaRot where
  s0 : Nat × Nat × Nat
  s1 : Nat × Nat × Nat
  g0 : Nat × Nat × Nat
  g1 : Nat × Nat × Nat

def sha256Rot : ShaRot := ⟨(2, 13, 22), (6, 11, 25), (7, 18, 3), (17, 19, 10)⟩
def sha512Rot : ShaRot := ⟨(28, 34, 39), (14, 18, 41), (1, 8, 7), (19, 61, 6)⟩

def bigSigma {w : Nat} (r : Nat × Nat × Nat) (x : BitVec w) : BitVec w :=
  x.rotateRight r.1 ^^^ x.rotateRight r.2.1 ^^^ x.rotateRight r.2.2

def smallSigma {w : Nat} (r : Nat × Nat × Nat) (x : BitVec w) : BitVec w :=
  x.rotateRight r.1 ^^^ x.rotateRight r.2.1 ^^^ (x >>> r.2.2)

/-- The message schedule, newest word first. -/
def shaSchedule {w : Nat} (r : ShaRot) : Nat → List (BitVec w) → List (BitVec w)
  | 0, ws => ws
  | k + 1, ws =>
    shaSchedule r k ((smallSigma r.g1 (ws.getD 1 0) + ws.getD 6 0 + smallSigma r.g0 (ws.getD 14 0) + ws.getD 15 0) :: ws)

/-- One round on the eight working words. -/
def shaRound {w : Nat} (r : ShaRot) (v : List (BitVec w)) (kw : BitVec w × BitVec w) : List (BitVec w) :=
  match v with
  | [a, b, c, d, e, f, g, h] =>
    let t1 := h + bigSigma r.s1 e + ((e &&& f) ^^^ (~~~e &&& g)) + kw.1 + kw.2
    let t2 := bigSigma r.s0 a + ((a &&& b) ^^^ (a &&& c) ^^^ (b &&& c))
    [t1 + t2, a, b, c, d + t1, e, f, g]
  | v => v

/-- Add one block of 16 words to the digest words. -/
def shaBlock {w : Nat} (r : ShaRot) (ks : List (BitVec w)) (h : List (BitVec w)) (blk : List (BitVec w)) : List (BitVec w) :=
  let sched := (shaSchedule r (ks.length - 16) blk.reverse).reverse
  List.zipWith (· + ·) h ((ks.zip sched).foldl (shaRound r) h)

/-- Bytes cut into blocks of 16 words of `wb` bytes. -/
def shaBlocks (wb : Nat) : Nat → List Byte → List (List (BitVec (8 * wb)))
  | 0, _ => []
  | k + 1, p =>
    ((List.range 16).map fun i => BitVec.ofNat (8 * wb) (field p (wb * i) wb)) :: shaBlocks wb k (p.drop (16 * wb))

/-- The padded message: a one bit, zeros, and the length in bits. -/
def shaPad (wb : Nat) (p : List Byte) : List Byte :=
  let blk := 16 * wb
  let z := (2 * blk - (p.length + 1 + 2 * wb) % blk) % blk
  p ++ [0x80] ++ List.replicate z 0 ++ beBytes (2 * wb) (8 * p.length)

/-- SHA-256. -/
def sha256 (p : List Byte) : List Byte :=
  let m := shaPad 4 p
  ((shaBlocks 4 (m.length / 64) m).foldl (shaBlock sha256Rot sha256K) sha256H).flatMap fun w => beBytes 4 w.toNat

/-- SHA-384. -/
def sha384 (p : List Byte) : List Byte :=
  let m := shaPad 8 p
  (((shaBlocks 8 (m.length / 128) m).foldl (shaBlock sha512Rot sha512K) (sha384H)).take 6).flatMap
    fun w => beBytes 8 w.toNat

/-- HMAC-SHA-256 (RFC 2104). -/
def hmacSha256 (key msg : List Byte) : List Byte :=
  let k := padTo 64 (if 64 < key.length then sha256 key else key)
  sha256 ((k.map (· ^^^ 0x5C)) ++ sha256 ((k.map (· ^^^ 0x36)) ++ msg))

/-- SHA-256 applied `n` times more (R483). -/
def sha256Iter : Nat → List Byte → List Byte
  | 0, p => p
  | n + 1, p => sha256Iter n (sha256 p)

end Sys2Proof.Machine
end

