-- ==== Sys2Proof/Machine/Params.lean ====
section
/-! DEFINITION. The parameters of R400: every ID of the parameter tables with its size, default and range (R401, R402),
and the encoding of its records. -/

namespace Sys2Proof.Machine

/-- How PARAM_SET checks a value (R402). The fields of STREAMn and SACN_MAPn bind enabled entries only, so they are
checked at the commit (R140, R165). -/
inductive ParamKind where
  | any
  | nat (lo hi : Nat)
  | int (lo : Int) (hi : Nat)
  | orVal (lo hi other : Nat)
  | zeroOr (lo hi : Nat)
  | mask
  | etherType
  | strandCfg
  | strandLamp
  | readOnly
  deriving DecidableEq, Repr

/-- Parameters `base` to `base + count - 1`. -/
structure ParamRow where
  base : Nat
  count : Nat
  size : Nat
  dflt : List Byte
  kind : ParamKind
  deriving DecidableEq, Repr

/-! The parameter IDs, under the names of the parameter tables. -/

namespace P

def SV_IP_MODE : Nat := 0x0100
def SV_IPV4_ADDR : Nat := 0x0101
def SV_IPV4_MASK : Nat := 0x0102
def SV_IPV4_GW : Nat := 0x0103
def SV_IPV6_ADDR : Nat := 0x0104
def CTRL_CH1_ENABLE : Nat := 0x0105
def CTRL_CH2_ENABLE : Nat := 0x0106
def SESSION_LEASE : Nat := 0x0107
def AUTO_LIVE : Nat := 0x0108
def DEVICE_LABEL : Nat := 0x0109
def PORT_A_SPEED : Nat := 0x0200
def PORT_B_SPEED : Nat := 0x0201
def FEC_A : Nat := 0x0202
def FEC_B : Nat := 0x0203
def SV_MODE : Nat := 0x0204
def MAX_FRAME : Nat := 0x0205
def CHAIN_MODE : Nat := 0x0206
def EDGE_A : Nat := 0x0207
def EDGE_B : Nat := 0x0208
def BCAST_ACCEPT : Nat := 0x0209
def TC_ENABLE : Nat := 0x020A
def IP_MODE : Nat := 0x020B
def IPV4_ADDR : Nat := 0x020C
def IPV4_MASK : Nat := 0x020D
def IPV4_GW : Nat := 0x020E
def IPV6_ADDR : Nat := 0x020F
def VLAN_ID : Nat := 0x0210
def VLAN_PCP : Nat := 0x0211
def SV_PIXEL_EN : Nat := 0x0212
def HPT_UDP_PORT : Nat := 0x0220
def HPT_ETHERTYPE : Nat := 0x0221
def PT_WINDOW : Nat := 0x0222
def SOURCE_FAILOVER : Nat := 0x0223
def STREAM_TIMEOUT : Nat := 0x0224
def SACN_ENABLE : Nat := 0x0225
def SACN_TIMEOUT : Nat := 0x0226
def SACN_MERGE : Nat := 0x0227
def STREAM (i : Nat) : Nat := 0x0240 + i
def SACN_MAP (i : Nat) : Nat := 0x0280 + i
def DOMAIN_PRIMARY : Nat := 0x0300
def DOMAIN_SECONDARY : Nat := 0x0301
def PTP_PORT_SEL : Nat := 0x0302
def PTP_PROFILE : Nat := 0x0303
def DELAY_MECH : Nat := 0x0304
def PTP_ASYMMETRY_A : Nat := 0x0305
def PTP_ASYMMETRY_B : Nat := 0x0306
def TICK_RATE_N : Nat := 0x0307
def TICK_RATE_M : Nat := 0x0308
def SLOT_COUNT : Nat := 0x0309
def SLOT_WEIGHT (i : Nat) : Nat := 0x030A + i
def SLEW_MAX : Nat := 0x030E
def LOCK_THRESHOLD : Nat := 0x030F
def UNLOCK_THRESHOLD : Nat := 0x0310
def FREE_RUN_ALLOWED : Nat := 0x0311
def PT_TOLERANCE : Nat := 0x0312
def TICK_OD_TOLERANCE : Nat := 0x0313
def PPS_OUT_SEL : Nat := 0x0314
def PPS_OUT_WIDTH : Nat := 0x0315
def PPS_IN_MODE : Nat := 0x0316
def SERVO_KP : Nat := 0x0317
def SERVO_KI : Nat := 0x0318
def DRV_WDT_MS : Nat := 0x0400
def DRV_WDT_ACTION : Nat := 0x0401
def IDLE_OUTPUT : Nat := 0x0402
def ENUM_RATE : Nat := 0x0403
def LEG_LATCH : Nat := 0x0404
def LEG_T0H : Nat := 0x0405
def LEG_T1H : Nat := 0x0406
def DMX_BREAK : Nat := 0x0407
def DMX_MAB : Nat := 0x0408
def DMX_SLOTS : Nat := 0x0409
def DMX_MIN_PERIOD : Nat := 0x040A
def DMX_DIR_POL : Nat := 0x040B
def RDM_SRC_UID : Nat := 0x040C
def BANK_CFG (i : Nat) : Nat := 0x0410 + i
def STRAND_CFG (i : Nat) : Nat := 0x0480 + i
def FS_DEPTH : Nat := 0x0500
def FS_WINDOW_X : Nat := 0x0501
def FS_WINDOW_Y : Nat := 0x0502
def FS_WINDOW_W : Nat := 0x0503
def FS_WINDOW_H : Nat := 0x0504
def HOLD_AFTER : Nat := 0x0505
def RESUME_AFTER : Nat := 0x0506
def HOLD_POLICY : Nat := 0x0507
def HOLD_FADE_TICKS : Nat := 0x0508
def MASTER_BRIGHTNESS : Nat := 0x0600
def BRIGHT_RAMP_TICKS : Nat := 0x0601
def TONE_ENABLE : Nat := 0x0602
def DITHER_ENABLE : Nat := 0x0603
def SPLIT_THRESHOLD : Nat := 0x0604
def PQ_WHITE : Nat := 0x0605
def HLG_GAMMA : Nat := 0x0606
def OVL_A_FORMAT : Nat := 0x0607
def OVL_B_FORMAT : Nat := 0x0608
def TPG_PATTERN : Nat := 0x0609
def TPG_COLOUR : Nat := 0x060A
def TPG_PERIOD : Nat := 0x060B
def ANVIL_BYPASS : Nat := 0x060C
def REFRESH_MIN : Nat := 0x0700
def CAMERA_MODE : Nat := 0x0701
def SENSE_PER_TICK : Nat := 0x0702
def SENSE_CONFIRM : Nat := 0x0703
def FAULT_CLEAR_COUNT : Nat := 0x0704
def SHORT_LATCH : Nat := 0x0705
def PHASE_RETRIM : Nat := 0x0706
def TRACK_ENABLE : Nat := 0x0707
def QUENCH_ENABLE : Nat := 0x0708
def QUENCH_KNEE : Nat := 0x0709
def QUENCH_SLOPE : Nat := 0x070A
def QUENCH_FLOOR : Nat := 0x070B
def QUENCH_HYST : Nat := 0x070C
def TEMP_MAX_AGE : Nat := 0x070D
def TEMP_LOST_TIME : Nat := 0x070E
def DIODE_OFFSET (i : Nat) : Nat := 0x070F + i
def STRAND_LAMP (i : Nat) : Nat := 0x0780 + i
def JNL_STREAM_ENABLE : Nat := 0x0800
def JNL_STREAM_DEST : Nat := 0x0801
def JNL_STREAM_PORT : Nat := 0x0802
def JNL_STREAM_KINDS : Nat := 0x0803
def JNL_STREAM_PERIOD : Nat := 0x0804
def ARB_RANKS : Nat := 0x0805
def FAULT_WINDOW : Nat := 0x0806
def BIST_POWER_BUDGET : Nat := 0x0810
def TRIM_DELTA : Nat := 0x0811
def TRIM_EYE_MIN : Nat := 0x0812
def TRIM_DRAM_MIN : Nat := 0x0813
def TRIM_RET_MIN : Nat := 0x0814
def PAIR_ENABLE : Nat := 0x0900
def REDUND_ARB : Nat := 0x0901
def LEASE_TICKS : Nat := 0x0902
def SHADOW_FLAVOUR : Nat := 0x0903
def ELECT_WAIT : Nat := 0x0904
def TAKEOVER_WHEN_STALE : Nat := 0x0905
def PEER_IP : Nat := 0x0906
def CONFIRM_WINDOW : Nat := 0x0A00
def AUTO_CONFIRM : Nat := 0x0A01
def AUTO_CONFIRM_DELAY : Nat := 0x0A02
def ACCESS_LEVEL : Nat := 0x0A03
def LOCKOUT_LEFT : Nat := 0x0A04
def UNLOCK_FAILURES : Nat := 0x0A05

end P

/-- Group 0x01. -/
def paramRows1 : List ParamRow := [
  ⟨0x0100, 1, 4, beBytes 4 0, .nat 0 1⟩,
  ⟨0x0101, 1, 4, beBytes 4 0x0, .any⟩,
  ⟨0x0102, 1, 4, beBytes 4 0xffffff00, .mask⟩,
  ⟨0x0103, 1, 4, beBytes 4 0x0, .any⟩,
  ⟨0x0104, 1, 16, beBytes 16 0, .any⟩,
  ⟨0x0105, 1, 4, beBytes 4 1, .nat 0 1⟩,
  ⟨0x0106, 1, 4, beBytes 4 1, .nat 0 1⟩,
  ⟨0x0107, 1, 4, beBytes 4 30, .nat 5 300⟩,
  ⟨0x0108, 1, 4, beBytes 4 0, .nat 0 1⟩,
  ⟨0x0109, 1, 16, beBytes 16 0, .any⟩]

/-- Group 0x02. -/
def paramRows2 : List ParamRow := [
  ⟨0x0200, 1, 4, beBytes 4 0, .nat 0 2⟩,
  ⟨0x0201, 1, 4, beBytes 4 0, .nat 0 2⟩,
  ⟨0x0202, 1, 4, beBytes 4 0, .nat 0 1⟩,
  ⟨0x0203, 1, 4, beBytes 4 0, .nat 0 1⟩,
  ⟨0x0204, 1, 4, beBytes 4 0, .nat 0 1⟩,
  ⟨0x0205, 1, 4, beBytes 4 9600, .nat 1518 9600⟩,
  ⟨0x0206, 1, 4, beBytes 4 1, .nat 0 1⟩,
  ⟨0x0207, 1, 4, beBytes 4 0, .nat 0 1⟩,
  ⟨0x0208, 1, 4, beBytes 4 0, .nat 0 1⟩,
  ⟨0x0209, 1, 4, beBytes 4 1, .nat 0 1⟩,
  ⟨0x020A, 1, 4, beBytes 4 1, .nat 0 1⟩,
  ⟨0x020B, 1, 4, beBytes 4 0, .nat 0 1⟩,
  ⟨0x020C, 1, 4, beBytes 4 0x0, .any⟩,
  ⟨0x020D, 1, 4, beBytes 4 0xffffff00, .mask⟩,
  ⟨0x020E, 1, 4, beBytes 4 0x0, .any⟩,
  ⟨0x020F, 1, 16, beBytes 16 0, .any⟩,
  ⟨0x0210, 1, 4, beBytes 4 0, .nat 0 4094⟩,
  ⟨0x0211, 1, 4, beBytes 4 5, .nat 0 7⟩,
  ⟨0x0212, 1, 4, beBytes 4 0, .nat 0 1⟩,
  ⟨0x0220, 1, 4, beBytes 4 47810, .nat 1024 65535⟩,
  ⟨0x0221, 1, 4, beBytes 4 0x88B5, .etherType⟩,
  ⟨0x0222, 1, 4, beBytes 4 1000000, .nat 1000 2000000⟩,
  ⟨0x0223, 1, 4, beBytes 4 2, .nat 1 255⟩,
  ⟨0x0224, 1, 4, beBytes 4 30, .nat 1 255⟩,
  ⟨0x0225, 1, 4, beBytes 4 0, .nat 0 1⟩,
  ⟨0x0226, 1, 4, beBytes 4 2500, .nat 1000 10000⟩,
  ⟨0x0227, 1, 4, beBytes 4 0, .nat 0 1⟩,
  ⟨0x0240, 64, 48, beBytes 48 0, .any⟩,
  ⟨0x0280, 32, 24, beBytes 24 0, .any⟩]

/-- Group 0x03. -/
def paramRows3 : List ParamRow := [
  ⟨0x0300, 1, 4, beBytes 4 0, .nat 0 127⟩,
  ⟨0x0301, 1, 4, beBytes 4 1, .orVal 0 127 255⟩,
  ⟨0x0302, 1, 4, beBytes 4 0, .nat 0 2⟩,
  ⟨0x0303, 1, 4, beBytes 4 0, .nat 0 1⟩,
  ⟨0x0304, 1, 4, beBytes 4 0, .nat 0 1⟩,
  ⟨0x0305, 1, 4, beBytes 4 0, .int (-100000) 100000⟩,
  ⟨0x0306, 1, 4, beBytes 4 0, .int (-100000) 100000⟩,
  ⟨0x0307, 1, 4, beBytes 4 60, .nat 1 16777215⟩,
  ⟨0x0308, 1, 4, beBytes 4 1, .nat 1 16777215⟩,
  ⟨0x0309, 1, 4, beBytes 4 1, .nat 1 4⟩,
  ⟨0x030A, 1, 4, beBytes 4 1000, .zeroOr 50 1000⟩,
  ⟨0x030B, 3, 4, beBytes 4 0, .zeroOr 50 1000⟩,
  ⟨0x030E, 1, 4, beBytes 4 100, .nat 1 500⟩,
  ⟨0x030F, 1, 4, beBytes 4 1000, .nat 100 100000⟩,
  ⟨0x0310, 1, 4, beBytes 4 10000, .nat 101 1000000⟩,
  ⟨0x0311, 1, 4, beBytes 4 0, .nat 0 1⟩,
  ⟨0x0312, 1, 4, beBytes 4 1000, .nat 0 100000⟩,
  ⟨0x0313, 1, 4, beBytes 4 200, .nat 20 2550⟩,
  ⟨0x0314, 1, 4, beBytes 4 0, .nat 0 3⟩,
  ⟨0x0315, 1, 4, beBytes 4 1000, .nat 1 500000⟩,
  ⟨0x0316, 1, 4, beBytes 4 0, .nat 0 2⟩,
  ⟨0x0317, 1, 4, beBytes 4 8192, .nat 1 65535⟩,
  ⟨0x0318, 1, 4, beBytes 4 512, .nat 1 65535⟩]

/-- Group 0x04. -/
def paramRows4 : List ParamRow := [
  ⟨0x0400, 1, 4, beBytes 4 100, .nat 100 10000⟩,
  ⟨0x0401, 1, 4, beBytes 4 0, .nat 0 1⟩,
  ⟨0x0402, 1, 4, beBytes 4 0, .nat 0 1⟩,
  ⟨0x0403, 1, 4, beBytes 4 5, .nat 3 5⟩,
  ⟨0x0404, 1, 4, beBytes 4 300, .nat 50 1000⟩,
  ⟨0x0405, 1, 4, beBytes 4 400, .nat 100 1000⟩,
  ⟨0x0406, 1, 4, beBytes 4 800, .nat 200 1200⟩,
  ⟨0x0407, 1, 4, beBytes 4 176, .nat 92 1000⟩,
  ⟨0x0408, 1, 4, beBytes 4 16, .nat 12 1000⟩,
  ⟨0x0409, 1, 4, beBytes 4 512, .nat 24 512⟩,
  ⟨0x040A, 1, 4, beBytes 4 25000, .nat 1204 1000000⟩,
  ⟨0x040B, 1, 4, beBytes 4 1, .nat 0 1⟩,
  ⟨0x040C, 1, 8, [], .nat 0 (2 ^ 48 - 1)⟩,
  ⟨0x0410, 8, 2, beBytes 2 1, .any⟩,
  ⟨0x0480, 128, 20, beBytes 20 (beNat ([0, 5, 48, 0, 8, 0] ++ beBytes 2 0 ++ beBytes 4 40000 ++ beBytes 2 0 ++ beBytes 2 2000 ++ beBytes 4 0)), .strandCfg⟩]

/-- Group 0x05. -/
def paramRows5 : List ParamRow := [
  ⟨0x0500, 1, 4, beBytes 4 8, .nat 4 32⟩,
  ⟨0x0501, 1, 4, beBytes 4 0, .nat 0 16383⟩,
  ⟨0x0502, 1, 4, beBytes 4 0, .nat 0 16383⟩,
  ⟨0x0503, 1, 4, beBytes 4 2048, .nat 64 16384⟩,
  ⟨0x0504, 1, 4, beBytes 4 1024, .nat 64 16384⟩,
  ⟨0x0505, 1, 4, beBytes 4 3, .nat 1 255⟩,
  ⟨0x0506, 1, 4, beBytes 4 2, .nat 1 255⟩,
  ⟨0x0507, 1, 4, beBytes 4 0, .nat 0 3⟩,
  ⟨0x0508, 1, 4, beBytes 4 120, .nat 1 65535⟩]

/-- Group 0x06. -/
def paramRows6 : List ParamRow := [
  ⟨0x0600, 1, 4, beBytes 4 65535, .nat 0 65535⟩,
  ⟨0x0601, 1, 4, beBytes 4 0, .nat 0 65535⟩,
  ⟨0x0602, 1, 4, beBytes 4 0, .nat 0 1⟩,
  ⟨0x0603, 1, 4, beBytes 4 1, .nat 0 1⟩,
  ⟨0x0604, 1, 4, beBytes 4 32768, .nat 1024 32768⟩,
  ⟨0x0605, 1, 4, beBytes 4 1000, .nat 625 10000⟩,
  ⟨0x0606, 1, 4, beBytes 4 120, .nat 100 150⟩,
  ⟨0x0607, 1, 4, beBytes 4 0, .nat 0 15⟩,
  ⟨0x0608, 1, 4, beBytes 4 0, .nat 0 15⟩,
  ⟨0x0609, 1, 4, beBytes 4 0, .nat 0 8⟩,
  ⟨0x060A, 1, 8, beBytes 8 0x8000800080000000, .any⟩,
  ⟨0x060B, 1, 4, beBytes 4 64, .nat 1 16384⟩,
  ⟨0x060C, 1, 4, beBytes 4 0, .nat 0 7⟩]

/-- Group 0x07. -/
def paramRows7 : List ParamRow := [
  ⟨0x0700, 1, 4, beBytes 4 3840, .nat 960 15360⟩,
  ⟨0x0701, 1, 4, beBytes 4 0, .nat 0 1⟩,
  ⟨0x0702, 1, 4, beBytes 4 8, .nat 0 32⟩,
  ⟨0x0703, 1, 4, beBytes 4 3, .nat 1 7⟩,
  ⟨0x0704, 1, 4, beBytes 4 3, .nat 1 255⟩,
  ⟨0x0705, 1, 4, beBytes 4 1, .nat 0 1⟩,
  ⟨0x0706, 1, 4, beBytes 4 2, .nat 1 100⟩,
  ⟨0x0707, 1, 4, beBytes 4 1, .nat 0 1⟩,
  ⟨0x0708, 1, 4, beBytes 4 1, .nat 0 1⟩,
  ⟨0x0709, 1, 4, beBytes 4 85, .nat 40 120⟩,
  ⟨0x070A, 1, 4, beBytes 4 20, .nat 1 200⟩,
  ⟨0x070B, 1, 4, beBytes 4 40, .nat 10 100⟩,
  ⟨0x070C, 1, 4, beBytes 4 3, .nat 0 20⟩,
  ⟨0x070D, 1, 4, beBytes 4 5000, .nat 500 60000⟩,
  ⟨0x070E, 1, 4, beBytes 4 10, .nat 1 600⟩,
  ⟨0x070F, 4, 4, beBytes 4 0, .int (-2560) 2560⟩,
  ⟨0x0780, 128, 12, beBytes 12 (beNat (beBytes 2 4095 ++ beBytes 2 4095 ++ beBytes 2 4095 ++ beBytes 2 4095 ++ [0xFF, 0xFF, 0, 0])), .strandLamp⟩]

/-- Group 0x08. -/
def paramRows8 : List ParamRow := [
  ⟨0x0800, 1, 4, beBytes 4 0, .nat 0 1⟩,
  ⟨0x0801, 1, 16, beBytes 16 0, .any⟩,
  ⟨0x0802, 1, 4, beBytes 4 47812, .nat 1024 65535⟩,
  ⟨0x0803, 1, 4, beBytes 4 0x3F, .nat 0 255⟩,
  ⟨0x0804, 1, 4, beBytes 4 10, .nat 1 1000⟩,
  ⟨0x0805, 1, 4, beBytes 4 0xFAC688, .nat 0 0xFFFFFF⟩,
  ⟨0x0806, 1, 4, beBytes 4 1000, .nat 100 10000⟩,
  ⟨0x0810, 1, 4, beBytes 4 600, .nat 100 1000⟩,
  ⟨0x0811, 1, 4, beBytes 4 10, .nat 2 40⟩,
  ⟨0x0812, 1, 4, beBytes 4 30, .nat 10 60⟩,
  ⟨0x0813, 1, 4, beBytes 4 25, .nat 5 100⟩,
  ⟨0x0814, 1, 4, beBytes 4 20, .nat 5 50⟩]

/-- Group 0x09. -/
def paramRows9 : List ParamRow := [
  ⟨0x0900, 1, 4, beBytes 4 0, .nat 0 1⟩,
  ⟨0x0901, 1, 4, beBytes 4 0, .nat 0 2⟩,
  ⟨0x0902, 1, 4, beBytes 4 3, .nat 2 16⟩,
  ⟨0x0903, 1, 4, beBytes 4 0, .nat 0 1⟩,
  ⟨0x0904, 1, 4, beBytes 4 2000, .nat 500 10000⟩,
  ⟨0x0905, 1, 4, beBytes 4 1, .nat 0 1⟩,
  ⟨0x0906, 1, 16, beBytes 16 0, .any⟩]

/-- Group 0x0A. -/
def paramRowsA : List ParamRow := [
  ⟨0x0A00, 1, 4, beBytes 4 600, .nat 30 3600⟩,
  ⟨0x0A01, 1, 4, beBytes 4 1, .nat 0 1⟩,
  ⟨0x0A02, 1, 4, beBytes 4 60, .nat 10 600⟩,
  ⟨0x0A03, 1, 4, beBytes 4 0, .readOnly⟩,
  ⟨0x0A04, 1, 4, beBytes 4 0, .readOnly⟩,
  ⟨0x0A05, 1, 4, beBytes 4 0, .readOnly⟩]

/-- The group of an ID is its high byte. -/
def paramRowsOf (group : Nat) : List ParamRow :=
  match group with
  | 0x01 => paramRows1
  | 0x02 => paramRows2
  | 0x03 => paramRows3
  | 0x04 => paramRows4
  | 0x05 => paramRows5
  | 0x06 => paramRows6
  | 0x07 => paramRows7
  | 0x08 => paramRows8
  | 0x09 => paramRows9
  | 0x0A => paramRowsA
  | _ => []

/-- The row of parameter `id`. -/
def paramRow (id : Nat) : Option ParamRow :=
  (paramRowsOf (id / 256)).find? fun r => decide (r.base ≤ id) && decide (id < r.base + r.count)

/-- The default value of `id`. RDM_SRC_UID takes its default from the identity sectors (R298), so it has none here. -/
def paramDefault (id : Nat) : List Byte :=
  match paramRow id with
  | some r => r.dflt
  | none => []

/-- R127, R404: a mask of ones followed by zeros. -/
def contiguousMask (n : Nat) : Bool :=
  (List.range 33).any fun k => n == 2 ^ 32 - 2 ^ k

/-- R286, R298: the fields of STRANDn_CFG are in range. -/
def strandCfgOk (v : List Byte) : Bool :=
  decide (field v 0 1 ≤ 4) && decide (field v 1 1 ≤ 7) &&
    (decide (1 ≤ field v 2 1) && decide (field v 2 1 ≤ 64)) && decide (4 ≤ field v 4 1) &&
    decide (field v 6 2 ≤ 1024) && (decide (10 ≤ field v 8 4) && decide (field v 8 4 ≤ 262143)) &&
    decide (field v 12 2 ≤ 1023) && decide (40 ≤ field v 14 2) && decide (field v 16 2 ≤ 1023)

/-- R333: the fields of STRANDn_LAMP are in range. -/
def strandLampOk (v : List Byte) : Bool :=
  ([0, 2, 4, 6].all fun o => decide (1 ≤ field v o 2) && decide (field v o 2 ≤ 4095)) &&
    (decide (field v 8 1 ≤ 15) || decide (field v 8 1 = 0xFF)) &&
    (decide (field v 9 1 ≤ 3) || decide (field v 9 1 = 0xFF))

/-- R402: is the value, of the right size, within the range? -/
def ParamKind.ok (k : ParamKind) (v : List Byte) : Bool :=
  let n := beNat v
  match k with
  | .any => true
  | .nat lo hi => decide (lo ≤ n) && decide (n ≤ hi)
  | .int lo hi => decide (lo ≤ signedOf 32 n) && decide (signedOf 32 n ≤ hi)
  | .orVal lo hi o => decide (n = o) || (decide (lo ≤ n) && decide (n ≤ hi))
  | .zeroOr lo hi => decide (n = 0) || (decide (lo ≤ n) && decide (n ≤ hi))
  | .mask => contiguousMask n
  | .etherType => decide (0x0600 ≤ n) && decide (n ≤ 0xFFFF) &&
      !([0x0800, 0x0806, 0x86DD, 0x8100, 0x8808, 0x88F7].contains n)
  | .strandCfg => strandCfgOk v
  | .strandLamp => strandLampOk v
  | .readOnly => false

/-- R401, R402: the record is of a settable parameter, of its size and in its range. -/
def paramOk (id : Nat) (v : List Byte) : Bool :=
  match paramRow id with
  | some r => decide (v.length = r.size) && r.kind.ok v
  | none => false

/-- R401: one record: ID, SIZE, FLAGS and the value padded to a multiple of 4. -/
def paramRecord (id : Nat) (staged : Bool) (v : List Byte) : List Byte :=
  beBytes 2 id ++ beBytes 1 v.length ++ [if staged then 1 else 0] ++ padTo (4 * ((v.length + 3) / 4)) v

/-- R401: cut a payload into records (ID, value); none when its length is not the sum of its padded records. -/
def parseRecords : Nat → List Byte → Option (List (Nat × List Byte))
  | _, [] => some []
  | 0, _ => none
  | fuel + 1, p =>
    let size := byteAt p 2
    let whole := 4 + 4 * ((size + 3) / 4)
    if p.length < whole then none
    else (parseRecords fuel (p.drop whole)).map fun rs => (field p 0 2, (p.drop 4).take size) :: rs

end Sys2Proof.Machine
end

