-- ==== Sys2Proof/Machine/RegMap.lean ====
section
/-! DEFINITION. The register map of the block: every register of the register tables of spec/, its address, its reset
value and its access masks (R19, R20), block by block. Addresses are those of R34's register blocks. -/

namespace Sys2Proof.Machine

/-- One register, or one array of registers at `base + i * s1 + j * s2` for `i < c1`, `j < c2`. The masks say which bits
have which access code of R19; bits in no mask are RO; bits outside `dfd` are reserved and read 0 (R20). -/
structure RegRow where
  base : Nat
  c1 : Nat
  s1 : Nat
  c2 : Nat
  s2 : Nat
  reset : Nat
  rw : Nat
  w1c : Nat
  rc : Nat
  rwl : Nat
  wo : Nat
  dfd : Nat
  deriving DecidableEq, Repr

/-- Does the row hold address `a`? -/
def RegRow.covers (r : RegRow) (a : Nat) : Bool :=
  decide (r.base ≤ a) &&
    (let d := a % 0x10000 - r.base % 0x10000
     let i := if r.s1 = 0 then 0 else min (d / r.s1) (r.c1 - 1)
     let e := d - i * r.s1
     let j := if r.s2 = 0 then 0 else min (e / r.s2) (r.c2 - 1)
     decide (e = j * r.s2))

namespace Reg

def TIME_CTRL : Nat := 0x40010000
def TIME_INC_HI : Nat := 0x40010004
def TIME_INC_LO : Nat := 0x40010008
def TIME_SEC_HI : Nat := 0x40010010
def TIME_SEC_LO : Nat := 0x40010014
def TIME_NS : Nat := 0x40010018
def TIME_FRAC : Nat := 0x4001001c
def SHORT_TIME : Nat := 0x40010020
def SERVO_STATUS : Nat := 0x40010040
def SERVO_OFFSET : Nat := 0x40010044
def SERVO_GAIN : Nat := 0x40010048
def SLEW_LIMIT : Nat := 0x4001004c
def DOM_CFG (i : Nat) : Nat := 0x40010080 + i * 0x40
def DOM_STATUS (i : Nat) : Nat := 0x40010084 + i * 0x40
def DOM_GM_ID_HI (i : Nat) : Nat := 0x40010088 + i * 0x40
def DOM_GM_ID_LO (i : Nat) : Nat := 0x4001008c + i * 0x40
def DOM_OFFSET (i : Nat) : Nat := 0x40010090 + i * 0x40
def DOM_RATE (i : Nat) : Nat := 0x40010094 + i * 0x40
def DOM_PATH_DELAY (i : Nat) : Nat := 0x40010098 + i * 0x40
def TICK_RATE : Nat := 0x40010100
def TICK_RATE_DEN : Nat := 0x40010104
def TICK_PERIOD : Nat := 0x40010108
def TICK_INDEX_HI : Nat := 0x40010110
def TICK_INDEX_LO : Nat := 0x40010114
def NEXT_TICK : Nat := 0x40010118
def SLOT_CFG : Nat := 0x40010120
def SLOT_WEIGHTS : Nat := 0x40010124
def RETIME_STATUS : Nat := 0x40010140
def RETIME_TICK : Nat := 0x40010144
def TICK_OD_CTRL : Nat := 0x40010160
def TICK_OD_STATUS : Nat := 0x40010164
def TICK_OD_SKEW : Nat := 0x40010168
def PPS_CTRL : Nat := 0x40010180
def PPS_IN_STAMP : Nat := 0x40010184
def PPS_IN_ERROR : Nat := 0x40010188
def HEARTH_EVENTS : Nat := 0x400101a0
def HEARTH_EVENT_EN : Nat := 0x400101a4
def MAC_CTRL (i : Nat) : Nat := 0x40020000 + i * 0x1000
def MAC_STATUS (i : Nat) : Nat := 0x40020004 + i * 0x1000
def MAC_MAX_FRAME (i : Nat) : Nat := 0x40020008 + i * 0x1000
def OWN_MAC_HI (i : Nat) : Nat := 0x40020010 + i * 0x1000
def OWN_MAC_LO (i : Nat) : Nat := 0x40020014 + i * 0x1000
def VLAN_CFG (i : Nat) : Nat := 0x40020018 + i * 0x1000
def TS_LATENCY (i : Nat) : Nat := 0x40020020 + i * 0x1000
def FWD_STATUS (i : Nat) : Nat := 0x40020040 + i * 0x1000
def PORT_EVENTS (i : Nat) : Nat := 0x40020060 + i * 0x1000
def PORT_EVENT_EN (i : Nat) : Nat := 0x40020064 + i * 0x1000
def FILT_HI (i j : Nat) : Nat := 0x40020100 + i * 0x1000 + j * 0x8
def FILT_LO (i j : Nat) : Nat := 0x40020104 + i * 0x1000 + j * 0x8
def ING_CTRL : Nat := 0x40030000
def ING_CARRIER : Nat := 0x40030004
def ING_STATUS : Nat := 0x40030008
def ING_EVENTS : Nat := 0x40030010
def ING_EVENT_EN : Nat := 0x40030014
def STRM_STATUS (i : Nat) : Nat := 0x40030100 + i * 0x10
def STRM_FRAME (i : Nat) : Nat := 0x40030104 + i * 0x10
def STRM_SEQ (i : Nat) : Nat := 0x40030108 + i * 0x10
def STRM_LOST (i : Nat) : Nat := 0x4003010c + i * 0x10
def FS_CFG : Nat := 0x40040000
def FS_WINDOW_ORG : Nat := 0x40040004
def FS_WINDOW_SIZE : Nat := 0x40040008
def HOLD_STATUS : Nat := 0x40040010
def EMERG_STATUS : Nat := 0x40040014
def FS_EVENTS : Nat := 0x40040020
def FS_EVENT_EN : Nat := 0x40040024
def MARK_FRAME (i : Nat) : Nat := 0x40040100 + i * 0x8
def MARK_STATE (i : Nat) : Nat := 0x40040104 + i * 0x8
def LAYER_STATUS (i : Nat) : Nat := 0x40040304 + i * 0x4
def Q_CFG (i j : Nat) : Nat := 0x40031000 + i * 0x100 + j * 0x20
def Q_LEVEL (i j : Nat) : Nat := 0x40031004 + i * 0x100 + j * 0x20
def Q_POP (i : Nat) : Nat := 0x40031080 + i * 0x100
def Q_POP_ADDR (i : Nat) : Nat := 0x40031084 + i * 0x100
def Q_POP_STAMP (i : Nat) : Nat := 0x40031088 + i * 0x100
def Q_DONE (i : Nat) : Nat := 0x4003108c + i * 0x100
def ANVIL_CTRL : Nat := 0x40050000
def ANVIL_STATUS : Nat := 0x40050004
def ANVIL_LOAD : Nat := 0x40050008
def ANVIL_CYCLES : Nat := 0x4005000c
def ANVIL_END : Nat := 0x40050010
def ANVIL_END_MAX : Nat := 0x40050014
def BRIGHT_STATUS : Nat := 0x40050020
def SPLIT_CFG : Nat := 0x40050024
def TPG_COLOUR_RG : Nat := 0x40050030
def TPG_COLOUR_BW : Nat := 0x40050034
def TPG_PERIOD : Nat := 0x40050038
def ANVIL_EVENTS : Nat := 0x40050060
def ANVIL_EVENT_EN : Nat := 0x40050064
def TABLE_CRC (i : Nat) : Nat := 0x40050100 + i * 0x4
def STR_CTRL (s : Nat) : Nat := 0x40060000 + s / 16 * 0x1000 + s % 16 * 0x100
def STR_STATUS (s : Nat) : Nat := 0x40060004 + s / 16 * 0x1000 + s % 16 * 0x100
def RASTER_H (s : Nat) : Nat := 0x40060010 + s / 16 * 0x1000 + s % 16 * 0x100
def RASTER_V0 (s : Nat) : Nat := 0x40060014 + s / 16 * 0x1000 + s % 16 * 0x100
def RASTER_V1 (s : Nat) : Nat := 0x40060018 + s / 16 * 0x1000 + s % 16 * 0x100
def RASTER_V2 (s : Nat) : Nat := 0x4006001c + s / 16 * 0x1000 + s % 16 * 0x100
def LB_WM (s : Nat) : Nat := 0x40060020 + s / 16 * 0x1000 + s % 16 * 0x100
def LB_LEVEL (s : Nat) : Nat := 0x40060024 + s / 16 * 0x1000 + s % 16 * 0x100
def STR_EVENTS (s : Nat) : Nat := 0x40060030 + s / 16 * 0x1000 + s % 16 * 0x100
def STR_EVENT_EN (s : Nat) : Nat := 0x40060034 + s / 16 * 0x1000 + s % 16 * 0x100
def RET_STATUS (s : Nat) : Nat := 0x40060040 + s / 16 * 0x1000 + s % 16 * 0x100
def BANK_STATUS (i : Nat) : Nat := 0x40068000 + i * 0x4
def STR_BUS_SENSE (i : Nat) : Nat := 0x40068040 + i * 0x4
def STR_EVENT_SUMMARY (i : Nat) : Nat := 0x40068050 + i * 0x4
def LAMP_CTRL : Nat := 0x40070000
def SEG_PLAN : Nat := 0x40070004
def SEG_PITCH (i : Nat) : Nat := 0x40070010 + i * 0x4
def LAMP_STATUS : Nat := 0x40070020
def SENSE_POS : Nat := 0x40070024
def DIE_TEMP : Nat := 0x40070030
def DIODE_TEMP (i : Nat) : Nat := 0x40070040 + i * 0x4
def QUENCH_SUMMARY : Nat := 0x40070050
def ZONE_SEL : Nat := 0x40070060
def ZONE_INFO : Nat := 0x40070064
def ZONE_GAIN_RG : Nat := 0x40070068
def ZONE_GAIN_BW : Nat := 0x4007006c
def FAULT_CLEAR : Nat := 0x40070070
def FAULT_TOTALS : Nat := 0x40070074
def LAMP_EVENTS : Nat := 0x400700a0
def LAMP_EVENT_EN : Nat := 0x400700a4
def SCHED_STATUS : Nat := 0x40080000
def TASK_CANCEL : Nat := 0x40080004
def SCHED_EVENTS : Nat := 0x40080060
def SCHED_EVENT_EN : Nat := 0x40080064
def FLOW_BUSY (i : Nat) : Nat := 0x40080100 + i * 0x4
def TASK_STATE (i : Nat) : Nat := 0x40081000 + i * 0x4
def LOCK_STATE (i : Nat) : Nat := 0x40082000 + i * 0x4
def ENG_STATUS (i : Nat) : Nat := 0x40083000 + i * 0x4
def ARB_RANK (i : Nat) : Nat := 0x40090000 + i * 0x100
def ARB_STATUS (i : Nat) : Nat := 0x40090004 + i * 0x100
def ARB_WAIT_MAX (i j : Nat) : Nat := 0x40090020 + i * 0x100 + j * 0x4
def ARB_THRESH (i j : Nat) : Nat := 0x40090040 + i * 0x100 + j * 0x4
def DRAM_CFG : Nat := 0x40090800
def ARB_EVENTS : Nat := 0x40090810
def ARB_EVENT_EN : Nat := 0x40090814
def JNL_STATUS : Nat := 0x400a0000
def JNL_NEXT_HI : Nat := 0x400a0008
def JNL_NEXT_LO : Nat := 0x400a000c
def JNL_OLDEST_HI : Nat := 0x400a0010
def JNL_OLDEST_LO : Nat := 0x400a0014
def JNL_MARK : Nat := 0x400a0020
def CTRL_EVENTS : Nat := 0x40000200
def CTRL_EVENT_EN : Nat := 0x40000204
def RED_STATUS : Nat := 0x400b0000
def LEASE_EXPIRY : Nat := 0x400b0004
def PEER_SERIAL_HI : Nat := 0x400b0008
def PEER_SERIAL_LO : Nat := 0x400b000c
def RECORD_STATUS : Nat := 0x400b0010
def RED_EVENTS : Nat := 0x400b0060
def RED_EVENT_EN : Nat := 0x400b0064
def NVM_STATUS : Nat := 0x400c0000
def NVM_SETTINGS_SEQ : Nat := 0x400c0004
def BOOT_STATE : Nat := 0x400c0008
def SEC_FLOOR : Nat := 0x400c000c
def NVM_RAW_ADDR : Nat := 0x400c0010
def NVM_RAW_DATA : Nat := 0x400c0014
def NVM_EVENTS : Nat := 0x400c0060
def NVM_EVENT_EN : Nat := 0x400c0064
def ACCESS_STATUS : Nat := 0x400f0000
def LOCKOUT_LEFT : Nat := 0x400f0004
def ACCESS_EVENTS : Nat := 0x400f0060
def ACCESS_EVENT_EN : Nat := 0x400f0064
def BIST_STATUS : Nat := 0x400d0000
def BIST_BUDGET : Nat := 0x400d0004
def REPAIR_STATUS : Nat := 0x400d0010
def STR_LOST (i : Nat) : Nat := 0x400d0040 + i * 0x4
def BIST_EVENTS : Nat := 0x400d0060
def BIST_EVENT_EN : Nat := 0x400d0064
def TRIM_STATUS : Nat := 0x400e0000
def TRIM_LINK (i : Nat) : Nat := 0x400e0010 + i * 0x4
def TRIM_DRAM (i : Nat) : Nat := 0x400e0020 + i * 0x4
def TRIM_RET (i : Nat) : Nat := 0x400e0030 + i * 0x4
def TRIM_EVENTS : Nat := 0x400e0060
def TRIM_EVENT_EN : Nat := 0x400e0064
def RX_FRAMES (i : Nat) : Nat := 0x40020400 + i * 0x1000
def RX_UCAST (i : Nat) : Nat := 0x40020404 + i * 0x1000
def RX_MCAST (i : Nat) : Nat := 0x40020408 + i * 0x1000
def RX_BCAST (i : Nat) : Nat := 0x4002040c + i * 0x1000
def RX_RUNT (i : Nat) : Nat := 0x40020410 + i * 0x1000
def RX_GIANT (i : Nat) : Nat := 0x40020414 + i * 0x1000
def RX_FCS_ERR (i : Nat) : Nat := 0x40020418 + i * 0x1000
def RX_SYMBOL_ERR (i : Nat) : Nat := 0x4002041c + i * 0x1000
def RX_PAUSE (i : Nat) : Nat := 0x40020420 + i * 0x1000
def RX_OWN_SRC (i : Nat) : Nat := 0x40020424 + i * 0x1000
def RX_FILTERED (i : Nat) : Nat := 0x40020428 + i * 0x1000
def RX_IP_HDR_ERR (i : Nat) : Nat := 0x4002042c + i * 0x1000
def RX_UDP_CSUM_ERR (i : Nat) : Nat := 0x40020430 + i * 0x1000
def RX_IP_FRAG (i : Nat) : Nat := 0x40020434 + i * 0x1000
def RX_DROP_FIFO (i : Nat) : Nat := 0x40020438 + i * 0x1000
def RX_DELIVERED (i : Nat) : Nat := 0x4002043c + i * 0x1000
def TX_FRAMES (i : Nat) : Nat := 0x40020440 + i * 0x1000
def FWD_FRAMES (i : Nat) : Nat := 0x40020444 + i * 0x1000
def FWD_DROP (i : Nat) : Nat := 0x40020448 + i * 0x1000
def FWD_STOMPED (i : Nat) : Nat := 0x4002044c + i * 0x1000
def TC_CORRECTED (i : Nat) : Nat := 0x40020450 + i * 0x1000
def TC_NO_FIXUP (i : Nat) : Nat := 0x40020454 + i * 0x1000
def FEC_CORRECTED (i : Nat) : Nat := 0x40020458 + i * 0x1000
def FEC_UNCORRECTED (i : Nat) : Nat := 0x4002045c + i * 0x1000
def LINK_DOWN_COUNT (i : Nat) : Nat := 0x40020460 + i * 0x1000
def RX_BYTES_LO (i : Nat) : Nat := 0x40020480 + i * 0x1000
def RX_BYTES_HI (i : Nat) : Nat := 0x40020484 + i * 0x1000
def TX_BYTES_LO (i : Nat) : Nat := 0x40020488 + i * 0x1000
def TX_BYTES_HI (i : Nat) : Nat := 0x4002048c + i * 0x1000
def FWD_BYTES_LO (i : Nat) : Nat := 0x40020490 + i * 0x1000
def FWD_BYTES_HI (i : Nat) : Nat := 0x40020494 + i * 0x1000
def HPT_ACCEPTED : Nat := 0x40030800
def HPT_PARITY_RX : Nat := 0x40030804
def HPT_RECOVERED : Nat := 0x40030808
def HPT_PARITY_FAIL : Nat := 0x4003080c
def HPT_PARITY_EVICT : Nat := 0x40030810
def HPT_BAD_MAGIC : Nat := 0x40030814
def HPT_BAD_VERSION : Nat := 0x40030818
def HPT_BAD_LENGTH : Nat := 0x4003081c
def HPT_BAD_CRC : Nat := 0x40030820
def HPT_BAD_TYPE : Nat := 0x40030824
def HPT_NO_STREAM : Nat := 0x40030828
def HPT_FOREIGN : Nat := 0x4003082c
def HPT_BAD_BINDING : Nat := 0x40030830
def HPT_DUP : Nat := 0x40030834
def HPT_SEQ_OLD : Nat := 0x40030838
def HPT_BAD_FORMAT : Nat := 0x4003083c
def HPT_OUT_OF_RECT : Nat := 0x40030840
def HPT_PT_MISMATCH : Nat := 0x40030844
def LATE : Nat := 0x40030848
def HPT_OUT_OF_WINDOW : Nat := 0x4003084c
def HPT_LOST : Nat := 0x40030850
def HPT_SEQ_RESET : Nat := 0x40030854
def HPT_DISABLED : Nat := 0x40030858
def SACN_RX : Nat := 0x40030860
def SACN_BAD : Nat := 0x40030864
def SACN_PREVIEW : Nat := 0x40030868
def SACN_ALT_START : Nat := 0x4003086c
def SACN_OTHER : Nat := 0x40030870
def SACN_UNMAPPED : Nat := 0x40030874
def SACN_OUT_OF_ORDER : Nat := 0x40030878
def SACN_SRC_LOST : Nat := 0x4003087c
def SACN_SRC_OVERFLOW : Nat := 0x40030880
def PATCHED : Nat := 0x40040800
def FS_SKIPPED : Nat := 0x40040804
def FS_CONSOLIDATE_LATE : Nat := 0x40040808
def FS_NO_ENTRY : Nat := 0x4004080c
def FS_ABANDONED : Nat := 0x40040810
def PIN_DROP : Nat := 0x40040814
def FS_NO_TARGET : Nat := 0x40040818
def FS_BACK_BUSY : Nat := 0x4004081c
def SNAP_DROP : Nat := 0x40040820
def SHORT_TICKS : Nat := 0x40040824
def HOLD_TICKS : Nat := 0x40040828
def LINES_SKIPPED : Nat := 0x40050800
def RENDER_OVERRUNS : Nat := 0x40050804
def CLIP_HIGH : Nat := 0x40050808
def CLIP_NEG : Nat := 0x4005080c
def MASKED_CH : Nat := 0x40050810
def LOW_RANGE_CH : Nat := 0x40050814
def FRAMES_SWP (s : Nat) : Nat := 0x40060080 + s / 16 * 0x1000 + s % 16 * 0x100
def FRAMES_NSW (s : Nat) : Nat := 0x40060084 + s / 16 * 0x1000 + s % 16 * 0x100
def UNDERRUNS (s : Nat) : Nat := 0x40060088 + s / 16 * 0x1000 + s % 16 * 0x100
def CFG_SENT (s : Nat) : Nat := 0x4006008c + s / 16 * 0x1000 + s % 16 * 0x100
def CFG_DEFERRED (s : Nat) : Nat := 0x40060090 + s / 16 * 0x1000 + s % 16 * 0x100
def RET_REPLIES (s : Nat) : Nat := 0x40060094 + s / 16 * 0x1000 + s % 16 * 0x100
def RET_TIMEOUT (s : Nat) : Nat := 0x40060098 + s / 16 * 0x1000 + s % 16 * 0x100
def RET_CRC_ERR (s : Nat) : Nat := 0x4006009c + s / 16 * 0x1000 + s % 16 * 0x100
def RET_DEFERRED (s : Nat) : Nat := 0x400600a0 + s / 16 * 0x1000 + s % 16 * 0x100
def LEG_SKIP (s : Nat) : Nat := 0x400600a4 + s / 16 * 0x1000 + s % 16 * 0x100
def DMX_FRAMES (s : Nat) : Nat := 0x400600a8 + s / 16 * 0x1000 + s % 16 * 0x100
def RDM_NO_RESPONSE (s : Nat) : Nat := 0x400600ac + s / 16 * 0x1000 + s % 16 * 0x100
def SENSE_POLLS : Nat := 0x40070800
def SENSE_UNKNOWN : Nat := 0x40070804
def FAULT_CONFIRMS : Nat := 0x40070808
def FAULT_CLEARS : Nat := 0x4007080c
def PHASE_RETRIM_WRITE : Nat := 0x40070810
def PHASE_OUTLIER : Nat := 0x40070814
def CUR_WRITE : Nat := 0x40070818
def TEMP_FALLBACK : Nat := 0x4007081c
def JNL_OVERWRITTEN : Nat := 0x400a0800
def JNL_SRC_DROPPED : Nat := 0x400a0804
def JNL_STREAM_DGRAMS : Nat := 0x400a0808
def JNL_STREAM_SKIPPED : Nat := 0x400a080c
def MBX_REQUESTS : Nat := 0x40000800
def MBX_DUPLICATES : Nat := 0x40000804
def MBX_STALE : Nat := 0x40000808
def MBX_BUSY : Nat := 0x4000080c
def MBX_DROPPED : Nat := 0x40000810
def MBX_OVERRUN : Nat := 0x40000814
def RECORDS_SENT : Nat := 0x400b0800
def RECORDS_APPLIED : Nat := 0x400b0804
def RECORDS_STALE : Nat := 0x400b0808
def MR_CRC_ERR : Nat := 0x400b080c
def HB_SENT : Nat := 0x400b0810
def HB_RX : Nat := 0x400b0814
def HB_FOREIGN : Nat := 0x400b0818
def TAKEOVERS : Nat := 0x400b081c
def RESYNCS : Nat := 0x400b0820
def SHADOW_PATCHED : Nat := 0x400b0824
def DELTA_LAGGED : Nat := 0x400b0828
def STORES : Nat := 0x400c0800
def SETTINGS_FIXED : Nat := 0x400c0804
def CHECKPOINTS : Nat := 0x400c0808
def UNLOCK_OK : Nat := 0x400f0800
def UNLOCK_FAIL : Nat := 0x400f0804
def UNLOCK_REFUSED : Nat := 0x400f0808

end Reg

/-- The registers of block 0x0, System. -/
def regRows0 : List RegRow := [
  ⟨0x40000200, 1, 0x0, 1, 0x0, 0x0, 0x0, 0x1f, 0x0, 0x0, 0x0, 0x1f⟩,
  ⟨0x40000204, 1, 0x0, 1, 0x0, 0x0, 0x1f, 0x0, 0x0, 0x0, 0x0, 0x1f⟩,
  ⟨0x40000800, 1, 0x0, 1, 0x0, 0x0, 0x0, 0x0, 0xffffffff, 0x0, 0x0, 0xffffffff⟩,
  ⟨0x40000804, 1, 0x0, 1, 0x0, 0x0, 0x0, 0x0, 0xffffffff, 0x0, 0x0, 0xffffffff⟩,
  ⟨0x40000808, 1, 0x0, 1, 0x0, 0x0, 0x0, 0x0, 0xffffffff, 0x0, 0x0, 0xffffffff⟩,
  ⟨0x4000080c, 1, 0x0, 1, 0x0, 0x0, 0x0, 0x0, 0xffffffff, 0x0, 0x0, 0xffffffff⟩,
  ⟨0x40000810, 1, 0x0, 1, 0x0, 0x0, 0x0, 0x0, 0xffffffff, 0x0, 0x0, 0xffffffff⟩,
  ⟨0x40000814, 1, 0x0, 1, 0x0, 0x0, 0x0, 0x0, 0xffffffff, 0x0, 0x0, 0xffffffff⟩]

/-- The registers of block 0x1, Hearth. -/
def regRows1 : List RegRow := [
  ⟨0x40010000, 1, 0x0, 1, 0x0, 0x3, 0x0, 0x0, 0x0, 0x3, 0x0, 0x3⟩,
  ⟨0x40010004, 1, 0x0, 1, 0x0, 0x2, 0x0, 0x0, 0x0, 0xffffffff, 0x0, 0xffffffff⟩,
  ⟨0x40010008, 1, 0x0, 1, 0x0, 0x0, 0x0, 0x0, 0x0, 0xffffffff, 0x0, 0xffffffff⟩,
  ⟨0x40010010, 1, 0x0, 1, 0x0, 0x0, 0x0, 0x0, 0x0, 0xffff, 0x0, 0xffff⟩,
  ⟨0x40010014, 1, 0x0, 1, 0x0, 0x0, 0x0, 0x0, 0x0, 0xffffffff, 0x0, 0xffffffff⟩,
  ⟨0x40010018, 1, 0x0, 1, 0x0, 0x0, 0x0, 0x0, 0x0, 0x3fffffff, 0x0, 0x3fffffff⟩,
  ⟨0x4001001c, 1, 0x0, 1, 0x0, 0x0, 0x0, 0x0, 0x0, 0x0, 0x0, 0xffffffff⟩,
  ⟨0x40010020, 1, 0x0, 1, 0x0, 0x0, 0x0, 0x0, 0x0, 0x0, 0x0, 0xffffffff⟩,
  ⟨0x40010040, 1, 0x0, 1, 0x0, 0x0, 0x0, 0x0, 0x0, 0x0, 0x0, 0x3f⟩,
  ⟨0x40010044, 1, 0x0, 1, 0x0, 0x0, 0x0, 0x0, 0x0, 0x0, 0x0, 0xffffffff⟩,
  ⟨0x40010048, 1, 0x0, 1, 0x0, 0x2002000, 0xffffffff, 0x0, 0x0, 0x0, 0x0, 0xffffffff⟩,
  ⟨0x4001004c, 1, 0x0, 1, 0x0, 0x64, 0x1ff, 0x0, 0x0, 0x0, 0x0, 0x1ff⟩,
  ⟨0x40010080, 2, 0x40, 1, 0x0, 0x8000, 0x8fff, 0x0, 0x0, 0x0, 0x0, 0x8fff⟩,
  ⟨0x40010084, 2, 0x40, 1, 0x0, 0xff00, 0x0, 0x0, 0xff000000, 0x0, 0x0, 0xffffff1f⟩,
  ⟨0x40010088, 2, 0x40, 1, 0x0, 0x0, 0x0, 0x0, 0x0, 0x0, 0x0, 0xffffffff⟩,
  ⟨0x4001008c, 2, 0x40, 1, 0x0, 0x0, 0x0, 0x0, 0x0, 0x0, 0x0, 0xffffffff⟩,
  ⟨0x40010090, 2, 0x40, 1, 0x0, 0x0, 0x0, 0x0, 0x0, 0x0, 0x0, 0xffffffff⟩,
  ⟨0x40010094, 2, 0x40, 1, 0x0, 0x0, 0x0, 0x0, 0x0, 0x0, 0x0, 0xffffffff⟩,
  ⟨0x40010098, 2, 0x40, 1, 0x0, 0x0, 0x0, 0x0, 0x0, 0x0, 0x0, 0xffffffff⟩,
  ⟨0x40010100, 1, 0x0, 1, 0x0, 0x3c, 0x0, 0x0, 0x0, 0x0, 0x0, 0xffffff⟩,
  ⟨0x40010104, 1, 0x0, 1, 0x0, 0x1, 0x0, 0x0, 0x0, 0x0, 0x0, 0xffffff⟩,
  ⟨0x40010108, 1, 0x0, 1, 0x0, 0xfe502a, 0x0, 0x0, 0x0, 0x0, 0x0, 0xffffffff⟩,
  ⟨0x40010110, 1, 0x0, 1, 0x0, 0x0, 0x0, 0x0, 0x0, 0x0, 0x0, 0xffffffff⟩,
  ⟨0x40010114, 1, 0x0, 1, 0x0, 0x0, 0x0, 0x0, 0x0, 0x0, 0x0, 0xffffffff⟩,
  ⟨0x40010118, 1, 0x0, 1, 0x0, 0x0, 0x0, 0x0, 0x0, 0x0, 0x0, 0xffffffff⟩,
  ⟨0x40010120, 1, 0x0, 1, 0x0, 0x3e80001, 0x0, 0x0, 0x0, 0x0, 0x0, 0x3ff0007⟩,
  ⟨0x40010124, 1, 0x0, 1, 0x0, 0x0, 0x0, 0x0, 0x0, 0x0, 0x0, 0x3fffffff⟩,
  ⟨0x40010140, 1, 0x0, 1, 0x0, 0x0, 0x0, 0x0, 0x0, 0x0, 0x0, 0x3⟩,
  ⟨0x40010144, 1, 0x0, 1, 0x0, 0x0, 0x0, 0x0, 0x0, 0x0, 0x0, 0xffffffff⟩,
  ⟨0x40010160, 1, 0x0, 1, 0x0, 0x1401, 0xff01, 0x0, 0x0, 0x0, 0x0, 0xff01⟩,
  ⟨0x40010164, 1, 0x0, 1, 0x0, 0x0, 0x0, 0x0, 0x0, 0x0, 0x0, 0xff0707⟩,
  ⟨0x40010168, 1, 0x0, 1, 0x0, 0x0, 0x0, 0x0, 0x0, 0x0, 0x0, 0xffffffff⟩,
  ⟨0x40010180, 1, 0x0, 1, 0x0, 0x3e800, 0x7ffff0f, 0x0, 0x0, 0x0, 0x0, 0x7ffff0f⟩,
  ⟨0x40010184, 1, 0x0, 1, 0x0, 0x0, 0x0, 0x0, 0x0, 0x0, 0x0, 0xffffffff⟩,
  ⟨0x40010188, 1, 0x0, 1, 0x0, 0x0, 0x0, 0x0, 0x0, 0x0, 0x0, 0xffffffff⟩,
  ⟨0x400101a0, 1, 0x0, 1, 0x0, 0x0, 0x0, 0x3ff, 0x0, 0x0, 0x0, 0x3ff⟩,
  ⟨0x400101a4, 1, 0x0, 1, 0x0, 0x0, 0x3ff, 0x0, 0x0, 0x0, 0x0, 0x3ff⟩]

/-- The registers of block 0x2, MAC ports. -/
def regRows2 : List RegRow := [
  ⟨0x40020000, 3, 0x1000, 1, 0x0, 0xd1, 0xff, 0x0, 0x0, 0x0, 0x0, 0xff⟩,
  ⟨0x40020004, 3, 0x1000, 1, 0x0, 0x0, 0x0, 0x0, 0x0, 0x0, 0x0, 0xff⟩,
  ⟨0x40020008, 3, 0x1000, 1, 0x0, 0x2580, 0x3fff, 0x0, 0x0, 0x0, 0x0, 0x3fff⟩,
  ⟨0x40020010, 3, 0x1000, 1, 0x0, 0x0, 0x0, 0x0, 0x0, 0x0, 0x0, 0xffff⟩,
  ⟨0x40020014, 3, 0x1000, 1, 0x0, 0x0, 0x0, 0x0, 0x0, 0x0, 0x0, 0xffffffff⟩,
  ⟨0x40020018, 3, 0x1000, 1, 0x0, 0x5000, 0x7fff, 0x0, 0x0, 0x0, 0x0, 0x7fff⟩,
  ⟨0x40020020, 3, 0x1000, 1, 0x0, 0x0, 0x0, 0x0, 0x0, 0x0, 0x0, 0xffffffff⟩,
  ⟨0x40020040, 3, 0x1000, 1, 0x0, 0x0, 0x0, 0x0, 0xffff0000, 0x0, 0x0, 0xffffffff⟩,
  ⟨0x40020060, 3, 0x1000, 1, 0x0, 0x0, 0x0, 0x3f, 0x0, 0x0, 0x0, 0x3f⟩,
  ⟨0x40020064, 3, 0x1000, 1, 0x0, 0x0, 0x3f, 0x0, 0x0, 0x0, 0x0, 0x3f⟩,
  ⟨0x40020100, 3, 0x1000, 8, 0x8, 0x0, 0x7ffff, 0x0, 0x0, 0x0, 0x0, 0x7ffff⟩,
  ⟨0x40020104, 3, 0x1000, 8, 0x8, 0x0, 0xffffffff, 0x0, 0x0, 0x0, 0x0, 0xffffffff⟩,
  ⟨0x40020400, 3, 0x1000, 1, 0x0, 0x0, 0x0, 0x0, 0xffffffff, 0x0, 0x0, 0xffffffff⟩,
  ⟨0x40020404, 3, 0x1000, 1, 0x0, 0x0, 0x0, 0x0, 0xffffffff, 0x0, 0x0, 0xffffffff⟩,
  ⟨0x40020408, 3, 0x1000, 1, 0x0, 0x0, 0x0, 0x0, 0xffffffff, 0x0, 0x0, 0xffffffff⟩,
  ⟨0x4002040c, 3, 0x1000, 1, 0x0, 0x0, 0x0, 0x0, 0xffffffff, 0x0, 0x0, 0xffffffff⟩,
  ⟨0x40020410, 3, 0x1000, 1, 0x0, 0x0, 0x0, 0x0, 0xffffffff, 0x0, 0x0, 0xffffffff⟩,
  ⟨0x40020414, 3, 0x1000, 1, 0x0, 0x0, 0x0, 0x0, 0xffffffff, 0x0, 0x0, 0xffffffff⟩,
  ⟨0x40020418, 3, 0x1000, 1, 0x0, 0x0, 0x0, 0x0, 0xffffffff, 0x0, 0x0, 0xffffffff⟩,
  ⟨0x4002041c, 3, 0x1000, 1, 0x0, 0x0, 0x0, 0x0, 0xffffffff, 0x0, 0x0, 0xffffffff⟩,
  ⟨0x40020420, 3, 0x1000, 1, 0x0, 0x0, 0x0, 0x0, 0xffffffff, 0x0, 0x0, 0xffffffff⟩,
  ⟨0x40020424, 3, 0x1000, 1, 0x0, 0x0, 0x0, 0x0, 0xffffffff, 0x0, 0x0, 0xffffffff⟩,
  ⟨0x40020428, 3, 0x1000, 1, 0x0, 0x0, 0x0, 0x0, 0xffffffff, 0x0, 0x0, 0xffffffff⟩,
  ⟨0x4002042c, 3, 0x1000, 1, 0x0, 0x0, 0x0, 0x0, 0xffffffff, 0x0, 0x0, 0xffffffff⟩,
  ⟨0x40020430, 3, 0x1000, 1, 0x0, 0x0, 0x0, 0x0, 0xffffffff, 0x0, 0x0, 0xffffffff⟩,
  ⟨0x40020434, 3, 0x1000, 1, 0x0, 0x0, 0x0, 0x0, 0xffffffff, 0x0, 0x0, 0xffffffff⟩,
  ⟨0x40020438, 3, 0x1000, 1, 0x0, 0x0, 0x0, 0x0, 0xffffffff, 0x0, 0x0, 0xffffffff⟩,
  ⟨0x4002043c, 3, 0x1000, 1, 0x0, 0x0, 0x0, 0x0, 0xffffffff, 0x0, 0x0, 0xffffffff⟩,
  ⟨0x40020440, 3, 0x1000, 1, 0x0, 0x0, 0x0, 0x0, 0xffffffff, 0x0, 0x0, 0xffffffff⟩,
  ⟨0x40020444, 3, 0x1000, 1, 0x0, 0x0, 0x0, 0x0, 0xffffffff, 0x0, 0x0, 0xffffffff⟩,
  ⟨0x40020448, 3, 0x1000, 1, 0x0, 0x0, 0x0, 0x0, 0xffffffff, 0x0, 0x0, 0xffffffff⟩,
  ⟨0x4002044c, 3, 0x1000, 1, 0x0, 0x0, 0x0, 0x0, 0xffffffff, 0x0, 0x0, 0xffffffff⟩,
  ⟨0x40020450, 3, 0x1000, 1, 0x0, 0x0, 0x0, 0x0, 0xffffffff, 0x0, 0x0, 0xffffffff⟩,
  ⟨0x40020454, 3, 0x1000, 1, 0x0, 0x0, 0x0, 0x0, 0xffffffff, 0x0, 0x0, 0xffffffff⟩,
  ⟨0x40020458, 3, 0x1000, 1, 0x0, 0x0, 0x0, 0x0, 0xffffffff, 0x0, 0x0, 0xffffffff⟩,
  ⟨0x4002045c, 3, 0x1000, 1, 0x0, 0x0, 0x0, 0x0, 0xffffffff, 0x0, 0x0, 0xffffffff⟩,
  ⟨0x40020460, 3, 0x1000, 1, 0x0, 0x0, 0x0, 0x0, 0xffffffff, 0x0, 0x0, 0xffffffff⟩,
  ⟨0x40020480, 3, 0x1000, 1, 0x0, 0x0, 0x0, 0x0, 0xffffffff, 0x0, 0x0, 0xffffffff⟩,
  ⟨0x40020484, 3, 0x1000, 1, 0x0, 0x0, 0x0, 0x0, 0xffffffff, 0x0, 0x0, 0xffffffff⟩,
  ⟨0x40020488, 3, 0x1000, 1, 0x0, 0x0, 0x0, 0x0, 0xffffffff, 0x0, 0x0, 0xffffffff⟩,
  ⟨0x4002048c, 3, 0x1000, 1, 0x0, 0x0, 0x0, 0x0, 0xffffffff, 0x0, 0x0, 0xffffffff⟩,
  ⟨0x40020490, 3, 0x1000, 1, 0x0, 0x0, 0x0, 0x0, 0xffffffff, 0x0, 0x0, 0xffffffff⟩,
  ⟨0x40020494, 3, 0x1000, 1, 0x0, 0x0, 0x0, 0x0, 0xffffffff, 0x0, 0x0, 0xffffffff⟩]

/-- The registers of block 0x3, HPT ingress and class queues. -/
def regRows3 : List RegRow := [
  ⟨0x40030000, 1, 0x0, 1, 0x0, 0x1, 0x1, 0x0, 0x0, 0x0, 0x0, 0x3⟩,
  ⟨0x40030004, 1, 0x0, 1, 0x0, 0x88b5bac2, 0x0, 0x0, 0x0, 0x0, 0x0, 0xffffffff⟩,
  ⟨0x40030008, 1, 0x0, 1, 0x0, 0x0, 0x0, 0x0, 0x0, 0x0, 0x0, 0x1ff3f7f⟩,
  ⟨0x40030010, 1, 0x0, 1, 0x0, 0x0, 0x0, 0x7f, 0x0, 0x0, 0x0, 0x7f⟩,
  ⟨0x40030014, 1, 0x0, 1, 0x0, 0x0, 0x7f, 0x0, 0x0, 0x0, 0x0, 0x7f⟩,
  ⟨0x40030100, 64, 0x10, 1, 0x0, 0x0, 0x0, 0x0, 0x0, 0x0, 0x0, 0xffffff1f⟩,
  ⟨0x40030104, 64, 0x10, 1, 0x0, 0x0, 0x0, 0x0, 0x0, 0x0, 0x0, 0xffffffff⟩,
  ⟨0x40030108, 64, 0x10, 1, 0x0, 0x0, 0x0, 0x0, 0x0, 0x0, 0x0, 0xffffffff⟩,
  ⟨0x4003010c, 64, 0x10, 1, 0x0, 0x0, 0x0, 0x0, 0xffffffff, 0x0, 0x0, 0xffffffff⟩,
  ⟨0x40031000, 4, 0x100, 4, 0x20, 0x1, 0x3, 0x0, 0x0, 0x0, 0x0, 0x3⟩,
  ⟨0x40031004, 4, 0x100, 4, 0x20, 0x0, 0x0, 0x0, 0x0, 0x0, 0x0, 0x7ff7f7f⟩,
  ⟨0x40031080, 4, 0x100, 1, 0x0, 0x0, 0x0, 0x0, 0x0, 0x0, 0x0, 0xfffff⟩,
  ⟨0x40031084, 4, 0x100, 1, 0x0, 0x0, 0x0, 0x0, 0x0, 0x0, 0x0, 0xffffffff⟩,
  ⟨0x40031088, 4, 0x100, 1, 0x0, 0x0, 0x0, 0x0, 0x0, 0x0, 0x0, 0xffffffff⟩,
  ⟨0x4003108c, 4, 0x100, 1, 0x0, 0x0, 0x0, 0x0, 0x0, 0x0, 0xffffffff, 0xffffffff⟩,
  ⟨0x40030800, 1, 0x0, 1, 0x0, 0x0, 0x0, 0x0, 0xffffffff, 0x0, 0x0, 0xffffffff⟩,
  ⟨0x40030804, 1, 0x0, 1, 0x0, 0x0, 0x0, 0x0, 0xffffffff, 0x0, 0x0, 0xffffffff⟩,
  ⟨0x40030808, 1, 0x0, 1, 0x0, 0x0, 0x0, 0x0, 0xffffffff, 0x0, 0x0, 0xffffffff⟩,
  ⟨0x4003080c, 1, 0x0, 1, 0x0, 0x0, 0x0, 0x0, 0xffffffff, 0x0, 0x0, 0xffffffff⟩,
  ⟨0x40030810, 1, 0x0, 1, 0x0, 0x0, 0x0, 0x0, 0xffffffff, 0x0, 0x0, 0xffffffff⟩,
  ⟨0x40030814, 1, 0x0, 1, 0x0, 0x0, 0x0, 0x0, 0xffffffff, 0x0, 0x0, 0xffffffff⟩,
  ⟨0x40030818, 1, 0x0, 1, 0x0, 0x0, 0x0, 0x0, 0xffffffff, 0x0, 0x0, 0xffffffff⟩,
  ⟨0x4003081c, 1, 0x0, 1, 0x0, 0x0, 0x0, 0x0, 0xffffffff, 0x0, 0x0, 0xffffffff⟩,
  ⟨0x40030820, 1, 0x0, 1, 0x0, 0x0, 0x0, 0x0, 0xffffffff, 0x0, 0x0, 0xffffffff⟩,
  ⟨0x40030824, 1, 0x0, 1, 0x0, 0x0, 0x0, 0x0, 0xffffffff, 0x0, 0x0, 0xffffffff⟩,
  ⟨0x40030828, 1, 0x0, 1, 0x0, 0x0, 0x0, 0x0, 0xffffffff, 0x0, 0x0, 0xffffffff⟩,
  ⟨0x4003082c, 1, 0x0, 1, 0x0, 0x0, 0x0, 0x0, 0xffffffff, 0x0, 0x0, 0xffffffff⟩,
  ⟨0x40030830, 1, 0x0, 1, 0x0, 0x0, 0x0, 0x0, 0xffffffff, 0x0, 0x0, 0xffffffff⟩,
  ⟨0x40030834, 1, 0x0, 1, 0x0, 0x0, 0x0, 0x0, 0xffffffff, 0x0, 0x0, 0xffffffff⟩,
  ⟨0x40030838, 1, 0x0, 1, 0x0, 0x0, 0x0, 0x0, 0xffffffff, 0x0, 0x0, 0xffffffff⟩,
  ⟨0x4003083c, 1, 0x0, 1, 0x0, 0x0, 0x0, 0x0, 0xffffffff, 0x0, 0x0, 0xffffffff⟩,
  ⟨0x40030840, 1, 0x0, 1, 0x0, 0x0, 0x0, 0x0, 0xffffffff, 0x0, 0x0, 0xffffffff⟩,
  ⟨0x40030844, 1, 0x0, 1, 0x0, 0x0, 0x0, 0x0, 0xffffffff, 0x0, 0x0, 0xffffffff⟩,
  ⟨0x40030848, 1, 0x0, 1, 0x0, 0x0, 0x0, 0x0, 0xffffffff, 0x0, 0x0, 0xffffffff⟩,
  ⟨0x4003084c, 1, 0x0, 1, 0x0, 0x0, 0x0, 0x0, 0xffffffff, 0x0, 0x0, 0xffffffff⟩,
  ⟨0x40030850, 1, 0x0, 1, 0x0, 0x0, 0x0, 0x0, 0xffffffff, 0x0, 0x0, 0xffffffff⟩,
  ⟨0x40030854, 1, 0x0, 1, 0x0, 0x0, 0x0, 0x0, 0xffffffff, 0x0, 0x0, 0xffffffff⟩,
  ⟨0x40030858, 1, 0x0, 1, 0x0, 0x0, 0x0, 0x0, 0xffffffff, 0x0, 0x0, 0xffffffff⟩,
  ⟨0x40030860, 1, 0x0, 1, 0x0, 0x0, 0x0, 0x0, 0xffffffff, 0x0, 0x0, 0xffffffff⟩,
  ⟨0x40030864, 1, 0x0, 1, 0x0, 0x0, 0x0, 0x0, 0xffffffff, 0x0, 0x0, 0xffffffff⟩,
  ⟨0x40030868, 1, 0x0, 1, 0x0, 0x0, 0x0, 0x0, 0xffffffff, 0x0, 0x0, 0xffffffff⟩,
  ⟨0x4003086c, 1, 0x0, 1, 0x0, 0x0, 0x0, 0x0, 0xffffffff, 0x0, 0x0, 0xffffffff⟩,
  ⟨0x40030870, 1, 0x0, 1, 0x0, 0x0, 0x0, 0x0, 0xffffffff, 0x0, 0x0, 0xffffffff⟩,
  ⟨0x40030874, 1, 0x0, 1, 0x0, 0x0, 0x0, 0x0, 0xffffffff, 0x0, 0x0, 0xffffffff⟩,
  ⟨0x40030878, 1, 0x0, 1, 0x0, 0x0, 0x0, 0x0, 0xffffffff, 0x0, 0x0, 0xffffffff⟩,
  ⟨0x4003087c, 1, 0x0, 1, 0x0, 0x0, 0x0, 0x0, 0xffffffff, 0x0, 0x0, 0xffffffff⟩,
  ⟨0x40030880, 1, 0x0, 1, 0x0, 0x0, 0x0, 0x0, 0xffffffff, 0x0, 0x0, 0xffffffff⟩]

/-- The registers of block 0x4, Frame store. -/
def regRows4 : List RegRow := [
  ⟨0x40040000, 1, 0x0, 1, 0x0, 0x808, 0x0, 0x0, 0x0, 0x0, 0x0, 0x3f3f⟩,
  ⟨0x40040004, 1, 0x0, 1, 0x0, 0x0, 0x0, 0x0, 0x0, 0x0, 0x0, 0x3fff3fff⟩,
  ⟨0x40040008, 1, 0x0, 1, 0x0, 0x4000800, 0x0, 0x0, 0x0, 0x0, 0x0, 0x7fff7fff⟩,
  ⟨0x40040010, 1, 0x0, 1, 0x0, 0x0, 0x0, 0x0, 0x0, 0x0, 0x0, 0xffff07⟩,
  ⟨0x40040014, 1, 0x0, 1, 0x0, 0x0, 0x0, 0x0, 0x0, 0x0, 0x0, 0x1f⟩,
  ⟨0x40040020, 1, 0x0, 1, 0x0, 0x0, 0x0, 0x3ff, 0x0, 0x0, 0x0, 0x3ff⟩,
  ⟨0x40040024, 1, 0x0, 1, 0x0, 0x0, 0x3ff, 0x0, 0x0, 0x0, 0x0, 0x3ff⟩,
  ⟨0x40040100, 64, 0x8, 1, 0x0, 0x0, 0x0, 0x0, 0x0, 0x0, 0x0, 0xffffffff⟩,
  ⟨0x40040104, 64, 0x8, 1, 0x0, 0x0, 0x0, 0x0, 0x0, 0x0, 0x0, 0x3f07⟩,
  ⟨0x40040304, 3, 0x4, 1, 0x0, 0x0, 0x0, 0x0, 0x0, 0x0, 0x0, 0xffffffff⟩,
  ⟨0x40040800, 1, 0x0, 1, 0x0, 0x0, 0x0, 0x0, 0xffffffff, 0x0, 0x0, 0xffffffff⟩,
  ⟨0x40040804, 1, 0x0, 1, 0x0, 0x0, 0x0, 0x0, 0xffffffff, 0x0, 0x0, 0xffffffff⟩,
  ⟨0x40040808, 1, 0x0, 1, 0x0, 0x0, 0x0, 0x0, 0xffffffff, 0x0, 0x0, 0xffffffff⟩,
  ⟨0x4004080c, 1, 0x0, 1, 0x0, 0x0, 0x0, 0x0, 0xffffffff, 0x0, 0x0, 0xffffffff⟩,
  ⟨0x40040810, 1, 0x0, 1, 0x0, 0x0, 0x0, 0x0, 0xffffffff, 0x0, 0x0, 0xffffffff⟩,
  ⟨0x40040814, 1, 0x0, 1, 0x0, 0x0, 0x0, 0x0, 0xffffffff, 0x0, 0x0, 0xffffffff⟩,
  ⟨0x40040818, 1, 0x0, 1, 0x0, 0x0, 0x0, 0x0, 0xffffffff, 0x0, 0x0, 0xffffffff⟩,
  ⟨0x4004081c, 1, 0x0, 1, 0x0, 0x0, 0x0, 0x0, 0xffffffff, 0x0, 0x0, 0xffffffff⟩,
  ⟨0x40040820, 1, 0x0, 1, 0x0, 0x0, 0x0, 0x0, 0xffffffff, 0x0, 0x0, 0xffffffff⟩,
  ⟨0x40040824, 1, 0x0, 1, 0x0, 0x0, 0x0, 0x0, 0xffffffff, 0x0, 0x0, 0xffffffff⟩,
  ⟨0x40040828, 1, 0x0, 1, 0x0, 0x0, 0x0, 0x0, 0xffffffff, 0x0, 0x0, 0xffffffff⟩]

/-- The registers of block 0x5, Anvil. -/
def regRows5 : List RegRow := [
  ⟨0x40050000, 1, 0x0, 1, 0x0, 0x1, 0x0, 0x0, 0x0, 0x0, 0x0, 0xf1f⟩,
  ⟨0x40050004, 1, 0x0, 1, 0x0, 0x0, 0x0, 0x0, 0x0, 0x0, 0x0, 0x7ff⟩,
  ⟨0x40050008, 1, 0x0, 1, 0x0, 0x0, 0x0, 0x0, 0x0, 0x0, 0x0, 0xffffff⟩,
  ⟨0x4005000c, 1, 0x0, 1, 0x0, 0x0, 0x0, 0x0, 0x0, 0x0, 0x0, 0x1ffffff⟩,
  ⟨0x40050010, 1, 0x0, 1, 0x0, 0x0, 0x0, 0x0, 0x0, 0x0, 0x0, 0xffffffff⟩,
  ⟨0x40050014, 1, 0x0, 1, 0x0, 0x0, 0x0, 0x0, 0xffffffff, 0x0, 0x0, 0xffffffff⟩,
  ⟨0x40050020, 1, 0x0, 1, 0x0, 0xffffffff, 0x0, 0x0, 0x0, 0x0, 0x0, 0xffffffff⟩,
  ⟨0x40050024, 1, 0x0, 1, 0x0, 0x8000, 0x0, 0x0, 0x0, 0x0, 0x0, 0xffff⟩,
  ⟨0x40050030, 1, 0x0, 1, 0x0, 0x80008000, 0x0, 0x0, 0x0, 0x0, 0x0, 0xffffffff⟩,
  ⟨0x40050034, 1, 0x0, 1, 0x0, 0x8000, 0x0, 0x0, 0x0, 0x0, 0x0, 0xffffffff⟩,
  ⟨0x40050038, 1, 0x0, 1, 0x0, 0x40, 0x0, 0x0, 0x0, 0x0, 0x0, 0x7fff⟩,
  ⟨0x40050060, 1, 0x0, 1, 0x0, 0x0, 0x0, 0x1f, 0x0, 0x0, 0x0, 0x1f⟩,
  ⟨0x40050064, 1, 0x0, 1, 0x0, 0x0, 0x1f, 0x0, 0x0, 0x0, 0x0, 0x1f⟩,
  ⟨0x40050100, 5, 0x4, 1, 0x0, 0x0, 0x0, 0x0, 0x0, 0x0, 0x0, 0xffffffff⟩,
  ⟨0x40050800, 1, 0x0, 1, 0x0, 0x0, 0x0, 0x0, 0xffffffff, 0x0, 0x0, 0xffffffff⟩,
  ⟨0x40050804, 1, 0x0, 1, 0x0, 0x0, 0x0, 0x0, 0xffffffff, 0x0, 0x0, 0xffffffff⟩,
  ⟨0x40050808, 1, 0x0, 1, 0x0, 0x0, 0x0, 0x0, 0xffffffff, 0x0, 0x0, 0xffffffff⟩,
  ⟨0x4005080c, 1, 0x0, 1, 0x0, 0x0, 0x0, 0x0, 0xffffffff, 0x0, 0x0, 0xffffffff⟩,
  ⟨0x40050810, 1, 0x0, 1, 0x0, 0x0, 0x0, 0x0, 0xffffffff, 0x0, 0x0, 0xffffffff⟩,
  ⟨0x40050814, 1, 0x0, 1, 0x0, 0x0, 0x0, 0x0, 0xffffffff, 0x0, 0x0, 0xffffffff⟩]

/-- The registers of block 0x6, Strands. -/
def regRows6 : List RegRow := [
  ⟨0x40060000, 8, 0x1000, 16, 0x100, 0x50, 0x0, 0x0, 0x0, 0x0, 0x0, 0x77⟩,
  ⟨0x40060004, 8, 0x1000, 16, 0x100, 0x0, 0x0, 0x0, 0x0, 0x0, 0x0, 0x3ff003f⟩,
  ⟨0x40060010, 8, 0x1000, 16, 0x100, 0x8001030, 0x0, 0x0, 0x0, 0x0, 0x0, 0xffffff7f⟩,
  ⟨0x40060014, 8, 0x1000, 16, 0x100, 0x0, 0x0, 0x0, 0x0, 0x0, 0x0, 0x3ff07ff⟩,
  ⟨0x40060018, 8, 0x1000, 16, 0x100, 0x9c40, 0x0, 0x0, 0x0, 0x0, 0x0, 0x3ffff⟩,
  ⟨0x4006001c, 8, 0x1000, 16, 0x100, 0x7d00000, 0x0, 0x0, 0x0, 0x0, 0x0, 0xffff03ff⟩,
  ⟨0x40060020, 8, 0x1000, 16, 0x100, 0x70001000, 0x7fff7fff, 0x0, 0x0, 0x0, 0x0, 0x7fff7fff⟩,
  ⟨0x40060024, 8, 0x1000, 16, 0x100, 0xffff0000, 0x0, 0x0, 0xffff0000, 0x0, 0x0, 0xffffffff⟩,
  ⟨0x40060030, 8, 0x1000, 16, 0x100, 0x0, 0x0, 0x1f, 0x0, 0x0, 0x0, 0x1f⟩,
  ⟨0x40060034, 8, 0x1000, 16, 0x100, 0x0, 0x1f, 0x0, 0x0, 0x0, 0x0, 0x1f⟩,
  ⟨0x40060040, 8, 0x1000, 16, 0x100, 0x0, 0x0, 0x0, 0x0, 0x0, 0x0, 0xffff⟩,
  ⟨0x40068000, 8, 0x4, 1, 0x0, 0x4, 0x0, 0x0, 0x0, 0x0, 0x0, 0x3f⟩,
  ⟨0x40068040, 4, 0x4, 1, 0x0, 0x0, 0x0, 0x0, 0x0, 0x0, 0x0, 0xffffffff⟩,
  ⟨0x40068050, 4, 0x4, 1, 0x0, 0x0, 0x0, 0x0, 0x0, 0x0, 0x0, 0xffffffff⟩,
  ⟨0x40060080, 8, 0x1000, 16, 0x100, 0x0, 0x0, 0x0, 0xffffffff, 0x0, 0x0, 0xffffffff⟩,
  ⟨0x40060084, 8, 0x1000, 16, 0x100, 0x0, 0x0, 0x0, 0xffffffff, 0x0, 0x0, 0xffffffff⟩,
  ⟨0x40060088, 8, 0x1000, 16, 0x100, 0x0, 0x0, 0x0, 0xffffffff, 0x0, 0x0, 0xffffffff⟩,
  ⟨0x4006008c, 8, 0x1000, 16, 0x100, 0x0, 0x0, 0x0, 0xffffffff, 0x0, 0x0, 0xffffffff⟩,
  ⟨0x40060090, 8, 0x1000, 16, 0x100, 0x0, 0x0, 0x0, 0xffffffff, 0x0, 0x0, 0xffffffff⟩,
  ⟨0x40060094, 8, 0x1000, 16, 0x100, 0x0, 0x0, 0x0, 0xffffffff, 0x0, 0x0, 0xffffffff⟩,
  ⟨0x40060098, 8, 0x1000, 16, 0x100, 0x0, 0x0, 0x0, 0xffffffff, 0x0, 0x0, 0xffffffff⟩,
  ⟨0x4006009c, 8, 0x1000, 16, 0x100, 0x0, 0x0, 0x0, 0xffffffff, 0x0, 0x0, 0xffffffff⟩,
  ⟨0x400600a0, 8, 0x1000, 16, 0x100, 0x0, 0x0, 0x0, 0xffffffff, 0x0, 0x0, 0xffffffff⟩,
  ⟨0x400600a4, 8, 0x1000, 16, 0x100, 0x0, 0x0, 0x0, 0xffffffff, 0x0, 0x0, 0xffffffff⟩,
  ⟨0x400600a8, 8, 0x1000, 16, 0x100, 0x0, 0x0, 0x0, 0xffffffff, 0x0, 0x0, 0xffffffff⟩,
  ⟨0x400600ac, 8, 0x1000, 16, 0x100, 0x0, 0x0, 0x0, 0xffffffff, 0x0, 0x0, 0xffffffff⟩]

/-- The registers of block 0x7, Lamp control. -/
def regRows7 : List RegRow := [
  ⟨0x40070000, 1, 0x0, 1, 0x0, 0x8b, 0x0, 0x0, 0x0, 0x0, 0x0, 0x3ff⟩,
  ⟨0x40070004, 1, 0x0, 1, 0x0, 0x40, 0x0, 0x0, 0x0, 0x0, 0x0, 0x7f7f7f7f⟩,
  ⟨0x40070010, 4, 0x4, 1, 0x0, 0x0, 0x0, 0x0, 0x0, 0x0, 0x0, 0xffffffff⟩,
  ⟨0x40070020, 1, 0x0, 1, 0x0, 0x0, 0x0, 0x0, 0x0, 0x0, 0x0, 0xf⟩,
  ⟨0x40070024, 1, 0x0, 1, 0x0, 0x0, 0x0, 0x0, 0x0, 0x0, 0x0, 0xffff⟩,
  ⟨0x40070030, 1, 0x0, 1, 0x0, 0x80000000, 0x0, 0x0, 0xffff0000, 0x0, 0x0, 0xffffffff⟩,
  ⟨0x40070040, 4, 0x4, 1, 0x0, 0x8000, 0x0, 0x0, 0x0, 0x0, 0x0, 0x1ffff⟩,
  ⟨0x40070050, 1, 0x0, 1, 0x0, 0x0, 0x0, 0x0, 0x0, 0x0, 0x0, 0xffffffff⟩,
  ⟨0x40070060, 1, 0x0, 1, 0x0, 0x0, 0x1ff007f, 0x0, 0x0, 0x0, 0x0, 0x1ff007f⟩,
  ⟨0x40070064, 1, 0x0, 1, 0x0, 0x80008000, 0x0, 0x0, 0x0, 0x0, 0x0, 0xfffbffff⟩,
  ⟨0x40070068, 1, 0x0, 1, 0x0, 0x80008000, 0x0, 0x0, 0x0, 0x0, 0x0, 0xffffffff⟩,
  ⟨0x4007006c, 1, 0x0, 1, 0x0, 0x80008000, 0x0, 0x0, 0x0, 0x0, 0x0, 0xffffffff⟩,
  ⟨0x40070070, 1, 0x0, 1, 0x0, 0x0, 0x0, 0x0, 0x0, 0x0, 0xff, 0xff⟩,
  ⟨0x40070074, 1, 0x0, 1, 0x0, 0x0, 0x0, 0x0, 0x0, 0x0, 0x0, 0xffffffff⟩,
  ⟨0x400700a0, 1, 0x0, 1, 0x0, 0x0, 0x0, 0xff, 0x0, 0x0, 0x0, 0xff⟩,
  ⟨0x400700a4, 1, 0x0, 1, 0x0, 0x0, 0xff, 0x0, 0x0, 0x0, 0x0, 0xff⟩,
  ⟨0x40070800, 1, 0x0, 1, 0x0, 0x0, 0x0, 0x0, 0xffffffff, 0x0, 0x0, 0xffffffff⟩,
  ⟨0x40070804, 1, 0x0, 1, 0x0, 0x0, 0x0, 0x0, 0xffffffff, 0x0, 0x0, 0xffffffff⟩,
  ⟨0x40070808, 1, 0x0, 1, 0x0, 0x0, 0x0, 0x0, 0xffffffff, 0x0, 0x0, 0xffffffff⟩,
  ⟨0x4007080c, 1, 0x0, 1, 0x0, 0x0, 0x0, 0x0, 0xffffffff, 0x0, 0x0, 0xffffffff⟩,
  ⟨0x40070810, 1, 0x0, 1, 0x0, 0x0, 0x0, 0x0, 0xffffffff, 0x0, 0x0, 0xffffffff⟩,
  ⟨0x40070814, 1, 0x0, 1, 0x0, 0x0, 0x0, 0x0, 0xffffffff, 0x0, 0x0, 0xffffffff⟩,
  ⟨0x40070818, 1, 0x0, 1, 0x0, 0x0, 0x0, 0x0, 0xffffffff, 0x0, 0x0, 0xffffffff⟩,
  ⟨0x4007081c, 1, 0x0, 1, 0x0, 0x0, 0x0, 0x0, 0xffffffff, 0x0, 0x0, 0xffffffff⟩]

/-- The registers of block 0x8, Scheduler and locks. -/
def regRows8 : List RegRow := [
  ⟨0x40080000, 1, 0x0, 1, 0x0, 0x0, 0x0, 0x0, 0x0, 0x0, 0x0, 0x7fbff⟩,
  ⟨0x40080004, 1, 0x0, 1, 0x0, 0x0, 0x0, 0x0, 0x0, 0x0, 0x1ff, 0x1ff⟩,
  ⟨0x40080060, 1, 0x0, 1, 0x0, 0x0, 0x0, 0x1f, 0x0, 0x0, 0x0, 0x1f⟩,
  ⟨0x40080064, 1, 0x0, 1, 0x0, 0x0, 0x1f, 0x0, 0x0, 0x0, 0x0, 0x1f⟩,
  ⟨0x40080100, 8, 0x4, 1, 0x0, 0x0, 0x0, 0x0, 0x0, 0x0, 0x0, 0xffffffff⟩,
  ⟨0x40081000, 512, 0x4, 1, 0x0, 0x0, 0x0, 0x0, 0x0, 0x0, 0x0, 0x1fffff⟩,
  ⟨0x40082000, 64, 0x4, 1, 0x0, 0x0, 0x0, 0x0, 0x0, 0x0, 0x0, 0x1f1f07⟩,
  ⟨0x40083000, 20, 0x4, 1, 0x0, 0x0, 0x0, 0x0, 0xff00, 0x0, 0x0, 0x1ffff03⟩]

/-- The registers of block 0x9, DRAM arbiter. -/
def regRows9 : List RegRow := [
  ⟨0x40090000, 2, 0x100, 1, 0x0, 0xfac688, 0xffffff, 0x0, 0x0, 0x0, 0x0, 0xffffff⟩,
  ⟨0x40090004, 2, 0x100, 1, 0x0, 0x0, 0x0, 0x0, 0x0, 0x0, 0x0, 0xff0ff7⟩,
  ⟨0x40090020, 2, 0x100, 8, 0x4, 0x0, 0x0, 0x0, 0xffffff, 0x0, 0x0, 0xffffff⟩,
  ⟨0x40090040, 2, 0x100, 8, 0x4, 0x0, 0xffffff, 0x0, 0x0, 0x0, 0x0, 0xffffff⟩,
  ⟨0x40090800, 1, 0x0, 1, 0x0, 0x0, 0x0, 0x0, 0x0, 0x0, 0x0, 0xffff1f07⟩,
  ⟨0x40090810, 1, 0x0, 1, 0x0, 0x0, 0x0, 0x1, 0x0, 0x0, 0x0, 0x1⟩,
  ⟨0x40090814, 1, 0x0, 1, 0x0, 0x0, 0x1, 0x0, 0x0, 0x0, 0x0, 0x1⟩]

/-- The registers of block 0xa, Journal. -/
def regRows10 : List RegRow := [
  ⟨0x400a0000, 1, 0x0, 1, 0x0, 0x0, 0x0, 0x0, 0x0, 0x0, 0x0, 0x1ffff07⟩,
  ⟨0x400a0008, 1, 0x0, 1, 0x0, 0x0, 0x0, 0x0, 0x0, 0x0, 0x0, 0xffffffff⟩,
  ⟨0x400a000c, 1, 0x0, 1, 0x0, 0x0, 0x0, 0x0, 0x0, 0x0, 0x0, 0xffffffff⟩,
  ⟨0x400a0010, 1, 0x0, 1, 0x0, 0x0, 0x0, 0x0, 0x0, 0x0, 0x0, 0xffffffff⟩,
  ⟨0x400a0014, 1, 0x0, 1, 0x0, 0x0, 0x0, 0x0, 0x0, 0x0, 0x0, 0xffffffff⟩,
  ⟨0x400a0020, 1, 0x0, 1, 0x0, 0x0, 0x0, 0x0, 0x0, 0x0, 0xffffffff, 0xffffffff⟩,
  ⟨0x400a0800, 1, 0x0, 1, 0x0, 0x0, 0x0, 0x0, 0xffffffff, 0x0, 0x0, 0xffffffff⟩,
  ⟨0x400a0804, 1, 0x0, 1, 0x0, 0x0, 0x0, 0x0, 0xffffffff, 0x0, 0x0, 0xffffffff⟩,
  ⟨0x400a0808, 1, 0x0, 1, 0x0, 0x0, 0x0, 0x0, 0xffffffff, 0x0, 0x0, 0xffffffff⟩,
  ⟨0x400a080c, 1, 0x0, 1, 0x0, 0x0, 0x0, 0x0, 0xffffffff, 0x0, 0x0, 0xffffffff⟩]

/-- The registers of block 0xb, Mirror and redundancy. -/
def regRows11 : List RegRow := [
  ⟨0x400b0000, 1, 0x0, 1, 0x0, 0x0, 0x0, 0x0, 0x0, 0x0, 0x0, 0xfff⟩,
  ⟨0x400b0004, 1, 0x0, 1, 0x0, 0x0, 0x0, 0x0, 0x0, 0x0, 0x0, 0xffffffff⟩,
  ⟨0x400b0008, 1, 0x0, 1, 0x0, 0x0, 0x0, 0x0, 0x0, 0x0, 0x0, 0xffffffff⟩,
  ⟨0x400b000c, 1, 0x0, 1, 0x0, 0x0, 0x0, 0x0, 0x0, 0x0, 0x0, 0xffffffff⟩,
  ⟨0x400b0010, 1, 0x0, 1, 0x0, 0x0, 0x0, 0x0, 0x0, 0x0, 0x0, 0x3ffff⟩,
  ⟨0x400b0060, 1, 0x0, 1, 0x0, 0x0, 0x0, 0x7ff, 0x0, 0x0, 0x0, 0x7ff⟩,
  ⟨0x400b0064, 1, 0x0, 1, 0x0, 0x0, 0x7ff, 0x0, 0x0, 0x0, 0x0, 0x7ff⟩,
  ⟨0x400b0800, 1, 0x0, 1, 0x0, 0x0, 0x0, 0x0, 0xffffffff, 0x0, 0x0, 0xffffffff⟩,
  ⟨0x400b0804, 1, 0x0, 1, 0x0, 0x0, 0x0, 0x0, 0xffffffff, 0x0, 0x0, 0xffffffff⟩,
  ⟨0x400b0808, 1, 0x0, 1, 0x0, 0x0, 0x0, 0x0, 0xffffffff, 0x0, 0x0, 0xffffffff⟩,
  ⟨0x400b080c, 1, 0x0, 1, 0x0, 0x0, 0x0, 0x0, 0xffffffff, 0x0, 0x0, 0xffffffff⟩,
  ⟨0x400b0810, 1, 0x0, 1, 0x0, 0x0, 0x0, 0x0, 0xffffffff, 0x0, 0x0, 0xffffffff⟩,
  ⟨0x400b0814, 1, 0x0, 1, 0x0, 0x0, 0x0, 0x0, 0xffffffff, 0x0, 0x0, 0xffffffff⟩,
  ⟨0x400b0818, 1, 0x0, 1, 0x0, 0x0, 0x0, 0x0, 0xffffffff, 0x0, 0x0, 0xffffffff⟩,
  ⟨0x400b081c, 1, 0x0, 1, 0x0, 0x0, 0x0, 0x0, 0xffffffff, 0x0, 0x0, 0xffffffff⟩,
  ⟨0x400b0820, 1, 0x0, 1, 0x0, 0x0, 0x0, 0x0, 0xffffffff, 0x0, 0x0, 0xffffffff⟩,
  ⟨0x400b0824, 1, 0x0, 1, 0x0, 0x0, 0x0, 0x0, 0xffffffff, 0x0, 0x0, 0xffffffff⟩,
  ⟨0x400b0828, 1, 0x0, 1, 0x0, 0x0, 0x0, 0x0, 0xffffffff, 0x0, 0x0, 0xffffffff⟩]

/-- The registers of block 0xc, NVM. -/
def regRows12 : List RegRow := [
  ⟨0x400c0000, 1, 0x0, 1, 0x0, 0x0, 0x0, 0x0, 0x0, 0x0, 0x0, 0x1f⟩,
  ⟨0x400c0004, 1, 0x0, 1, 0x0, 0x0, 0x0, 0x0, 0x0, 0x0, 0x0, 0xffffffff⟩,
  ⟨0x400c0008, 1, 0x0, 1, 0x0, 0x0, 0x0, 0x0, 0x0, 0x0, 0x0, 0xff⟩,
  ⟨0x400c000c, 1, 0x0, 1, 0x0, 0x0, 0x0, 0x0, 0x0, 0x0, 0x0, 0xffffffff⟩,
  ⟨0x400c0010, 1, 0x0, 1, 0x0, 0x0, 0x0, 0x0, 0x0, 0x7ffff, 0x0, 0x7ffff⟩,
  ⟨0x400c0014, 1, 0x0, 1, 0x0, 0x0, 0x0, 0x0, 0x0, 0x0, 0x0, 0xffffffff⟩,
  ⟨0x400c0060, 1, 0x0, 1, 0x0, 0x0, 0x0, 0xf, 0x0, 0x0, 0x0, 0xf⟩,
  ⟨0x400c0064, 1, 0x0, 1, 0x0, 0x0, 0xf, 0x0, 0x0, 0x0, 0x0, 0xf⟩,
  ⟨0x400c0800, 1, 0x0, 1, 0x0, 0x0, 0x0, 0x0, 0xffffffff, 0x0, 0x0, 0xffffffff⟩,
  ⟨0x400c0804, 1, 0x0, 1, 0x0, 0x0, 0x0, 0x0, 0xffffffff, 0x0, 0x0, 0xffffffff⟩,
  ⟨0x400c0808, 1, 0x0, 1, 0x0, 0x0, 0x0, 0x0, 0xffffffff, 0x0, 0x0, 0xffffffff⟩]

/-- The registers of block 0xd, Self-test. -/
def regRows13 : List RegRow := [
  ⟨0x400d0000, 1, 0x0, 1, 0x0, 0x0, 0x0, 0x0, 0x0, 0x0, 0x0, 0x3ff007f⟩,
  ⟨0x400d0004, 1, 0x0, 1, 0x0, 0x258, 0x0, 0x0, 0x0, 0x0, 0x0, 0x3ff⟩,
  ⟨0x400d0010, 1, 0x0, 1, 0x0, 0x0, 0x0, 0x0, 0x0, 0x0, 0x0, 0xfff⟩,
  ⟨0x400d0040, 4, 0x4, 1, 0x0, 0x0, 0x0, 0x0, 0x0, 0x0, 0x0, 0xffffffff⟩,
  ⟨0x400d0060, 1, 0x0, 1, 0x0, 0x0, 0x0, 0xf, 0x0, 0x0, 0x0, 0xf⟩,
  ⟨0x400d0064, 1, 0x0, 1, 0x0, 0x0, 0xf, 0x0, 0x0, 0x0, 0x0, 0xf⟩]

/-- The registers of block 0xe, Interface trim. -/
def regRows14 : List RegRow := [
  ⟨0x400e0000, 1, 0x0, 1, 0x0, 0x0, 0x0, 0x0, 0x0, 0x0, 0x0, 0xffff0007⟩,
  ⟨0x400e0010, 4, 0x4, 1, 0x0, 0x0, 0x0, 0x0, 0x0, 0x0, 0x0, 0x3ff⟩,
  ⟨0x400e0020, 2, 0x4, 1, 0x0, 0x0, 0x0, 0x0, 0x0, 0x0, 0x0, 0xfff⟩,
  ⟨0x400e0030, 8, 0x4, 1, 0x0, 0x0, 0x0, 0x0, 0x0, 0x0, 0x0, 0x7fff⟩,
  ⟨0x400e0060, 1, 0x0, 1, 0x0, 0x0, 0x0, 0x3, 0x0, 0x0, 0x0, 0x3⟩,
  ⟨0x400e0064, 1, 0x0, 1, 0x0, 0x0, 0x3, 0x0, 0x0, 0x0, 0x0, 0x3⟩]

/-- The registers of block 0xf, Access. -/
def regRows15 : List RegRow := [
  ⟨0x400f0000, 1, 0x0, 1, 0x0, 0x0, 0x0, 0x0, 0x0, 0x0, 0x0, 0x1fff1f⟩,
  ⟨0x400f0004, 1, 0x0, 1, 0x0, 0x0, 0x0, 0x0, 0x0, 0x0, 0x0, 0x1ffff⟩,
  ⟨0x400f0060, 1, 0x0, 1, 0x0, 0x0, 0x0, 0x3f, 0x0, 0x0, 0x0, 0x3f⟩,
  ⟨0x400f0064, 1, 0x0, 1, 0x0, 0x0, 0x3f, 0x0, 0x0, 0x0, 0x0, 0x3f⟩,
  ⟨0x400f0800, 1, 0x0, 1, 0x0, 0x0, 0x0, 0x0, 0xffffffff, 0x0, 0x0, 0xffffffff⟩,
  ⟨0x400f0804, 1, 0x0, 1, 0x0, 0x0, 0x0, 0x0, 0xffffffff, 0x0, 0x0, 0xffffffff⟩,
  ⟨0x400f0808, 1, 0x0, 1, 0x0, 0x0, 0x0, 0x0, 0xffffffff, 0x0, 0x0, 0xffffffff⟩]

/-- The rows of the block that holds address `a` (R364: the block is bits [19:16]). -/
def regRowsOf (a : Nat) : List RegRow :=
  if a < 0x40000000 ∨ 0x40100000 ≤ a then [] else
  match a / 0x10000 % 0x4000 with
  | 0 => regRows0
  | 1 => regRows1
  | 2 => regRows2
  | 3 => regRows3
  | 4 => regRows4
  | 5 => regRows5
  | 6 => regRows6
  | 7 => regRows7
  | 8 => regRows8
  | 9 => regRows9
  | 10 => regRows10
  | 11 => regRows11
  | 12 => regRows12
  | 13 => regRows13
  | 14 => regRows14
  | 15 => regRows15
  | _ => []

/-- The row of address `a`; `none` for an unmapped word (R34). -/
def regRow (a : Nat) : Option RegRow := (regRowsOf a).find? (·.covers a)

/-- Reset values that differ inside one array: DOM1_CFG, FILT0 of each port, SEG_PITCH0, the ARB_THRESH classes and the
lock marks of R347. -/
def regResetOf (a : Nat) (base : Nat) : Nat :=
  if a = 0x400100C0 then 0x8001
  else if a = 0x40020100 ∨ a = 0x40021100 ∨ a = 0x40022100 then 0x10000
  else if a = 0x40070010 then 0x03F940AB
  else if (0x40090040 ≤ a ∧ a < 0x40090060) ∨ (0x40090140 ≤ a ∧ a < 0x40090160) then
    (let k := a % 0x20 / 4
     if k < 3 then 2048 else if k < 5 then 16384 else 400000)
  else if 0x40082000 ≤ a ∧ a < 0x40082100 then
    (let n := a % 0x100 / 4
     (if 40 ≤ n ∧ n ≤ 44 then 2 else 0) + (if n < 16 ∨ (32 ≤ n ∧ n ≤ 39) then 4 else 0))
  else base

/-- What the register at `a` holds after reset; 0 where no register is (R34). -/
def regReset (a : Nat) : Word :=
  match regRow a with
  | some r => BitVec.ofNat 32 (regResetOf a r.reset)
  | none => 0

/-- An event of a block: the events register that records it and its bit there. -/
structure Ev where
  reg : Nat
  bit : Nat
  deriving DecidableEq, Repr

namespace Ev

def TIME_LOCKED : Ev := ⟨Reg.HEARTH_EVENTS, 0⟩
def TIME_UNLOCKED : Ev := ⟨Reg.HEARTH_EVENTS, 1⟩
def STEP : Ev := ⟨Reg.HEARTH_EVENTS, 2⟩
def DOMAIN_SWITCH : Ev := ⟨Reg.HEARTH_EVENTS, 3⟩
def GM_CHANGE : Ev := ⟨Reg.HEARTH_EVENTS, 4⟩
def TICK_SKEW : Ev := ⟨Reg.HEARTH_EVENTS, 5⟩
def TICK_MASTER : Ev := ⟨Reg.HEARTH_EVENTS, 6⟩
def RETIME_DONE : Ev := ⟨Reg.HEARTH_EVENTS, 7⟩
def PPS_IN_LOST : Ev := ⟨Reg.HEARTH_EVENTS, 8⟩
def PPS_IN_ERROR : Ev := ⟨Reg.HEARTH_EVENTS, 9⟩
def LINK_UP (p : Nat) : Ev := ⟨Reg.PORT_EVENTS p, 0⟩
def LINK_DOWN (p : Nat) : Ev := ⟨Reg.PORT_EVENTS p, 1⟩
def SPEED_FALLBACK (p : Nat) : Ev := ⟨Reg.PORT_EVENTS p, 2⟩
def FEC_UNCORR (p : Nat) : Ev := ⟨Reg.PORT_EVENTS p, 3⟩
def FWD_OVERFLOW (p : Nat) : Ev := ⟨Reg.PORT_EVENTS p, 4⟩
def OWN_SRC_SEEN (p : Nat) : Ev := ⟨Reg.PORT_EVENTS p, 5⟩
def STREAM_UP : Ev := ⟨Reg.ING_EVENTS, 0⟩
def STREAM_DOWN : Ev := ⟨Reg.ING_EVENTS, 1⟩
def SOURCE_CHANGE : Ev := ⟨Reg.ING_EVENTS, 2⟩
def SEQ_RESET : Ev := ⟨Reg.ING_EVENTS, 3⟩
def PARITY_EVICT : Ev := ⟨Reg.ING_EVENTS, 4⟩
def SACN_SRC_LOST : Ev := ⟨Reg.ING_EVENTS, 5⟩
def SACN_SRC_OVERFLOW : Ev := ⟨Reg.ING_EVENTS, 6⟩
def HOLD_ENTER : Ev := ⟨Reg.FS_EVENTS, 0⟩
def HOLD_EXIT : Ev := ⟨Reg.FS_EVENTS, 1⟩
def MARK_LOST : Ev := ⟨Reg.FS_EVENTS, 2⟩
def PIN_DROP_START : Ev := ⟨Reg.FS_EVENTS, 3⟩
def REPLAY_NO_MARK : Ev := ⟨Reg.FS_EVENTS, 4⟩
def EMERG_RAISED : Ev := ⟨Reg.FS_EVENTS, 5⟩
def EMERG_LOWERED : Ev := ⟨Reg.FS_EVENTS, 6⟩
def IMAGE_BAD : Ev := ⟨Reg.FS_EVENTS, 7⟩
def BUFFER_RELEASED : Ev := ⟨Reg.FS_EVENTS, 8⟩
def QUEUE_SPILL : Ev := ⟨Reg.FS_EVENTS, 9⟩
def RENDER_OVERRUN : Ev := ⟨Reg.ANVIL_EVENTS, 0⟩
def CAL_SWITCH : Ev := ⟨Reg.ANVIL_EVENTS, 1⟩
def TABLE_SWITCH : Ev := ⟨Reg.ANVIL_EVENTS, 2⟩
def TABLE_CHECK_FAIL : Ev := ⟨Reg.ANVIL_EVENTS, 3⟩
def MAP_SWITCH : Ev := ⟨Reg.ANVIL_EVENTS, 4⟩
def START_OF_BLANK (s : Nat) : Ev := ⟨Reg.STR_EVENTS s, 0⟩
def LINE_MATCH (s : Nat) : Ev := ⟨Reg.STR_EVENTS s, 1⟩
def FRAME_DONE (s : Nat) : Ev := ⟨Reg.STR_EVENTS s, 2⟩
def UNDERRUN (s : Nat) : Ev := ⟨Reg.STR_EVENTS s, 3⟩
def DRIVER_LOST (s : Nat) : Ev := ⟨Reg.STR_EVENTS s, 4⟩
def REFRESH_SHORT : Ev := ⟨Reg.LAMP_EVENTS, 0⟩
def PHASE_RANGE : Ev := ⟨Reg.LAMP_EVENTS, 1⟩
def FAULT_CONFIRMED : Ev := ⟨Reg.LAMP_EVENTS, 2⟩
def FAULT_CLEARED : Ev := ⟨Reg.LAMP_EVENTS, 3⟩
def ZONE_TEMP_LOST : Ev := ⟨Reg.LAMP_EVENTS, 4⟩
def DIODE_FAULT : Ev := ⟨Reg.LAMP_EVENTS, 5⟩
def DIE_WARN : Ev := ⟨Reg.LAMP_EVENTS, 6⟩
def DIE_SHUTDOWN : Ev := ⟨Reg.LAMP_EVENTS, 7⟩
def ENGINE_FAULT : Ev := ⟨Reg.SCHED_EVENTS, 0⟩
def ENGINE_RESTARTED : Ev := ⟨Reg.SCHED_EVENTS, 1⟩
def TICK_TASK_LATE : Ev := ⟨Reg.SCHED_EVENTS, 2⟩
def TASK_SLOTS_FULL : Ev := ⟨Reg.SCHED_EVENTS, 3⟩
def FATAL_FAULT : Ev := ⟨Reg.SCHED_EVENTS, 4⟩
def STARVE_WARN : Ev := ⟨Reg.ARB_EVENTS, 0⟩
def SESSION_EXPIRED : Ev := ⟨Reg.CTRL_EVENTS, 0⟩
def SESSION_DENIED : Ev := ⟨Reg.CTRL_EVENTS, 1⟩
def MBX_STALE : Ev := ⟨Reg.CTRL_EVENTS, 2⟩
def EVENT_OVERFLOW : Ev := ⟨Reg.CTRL_EVENTS, 3⟩
def ENDPOINT_EVICTED : Ev := ⟨Reg.CTRL_EVENTS, 4⟩
def TAKEOVER : Ev := ⟨Reg.RED_EVENTS, 0⟩
def RELEASE_RX : Ev := ⟨Reg.RED_EVENTS, 1⟩
def PEER_LOST : Ev := ⟨Reg.RED_EVENTS, 2⟩
def PEER_UNHEARD : Ev := ⟨Reg.RED_EVENTS, 3⟩
def MIRROR_DOWN : Ev := ⟨Reg.RED_EVENTS, 4⟩
def STALE : Ev := ⟨Reg.RED_EVENTS, 5⟩
def RESYNC_DONE : Ev := ⟨Reg.RED_EVENTS, 6⟩
def BUS_CONFLICT : Ev := ⟨Reg.RED_EVENTS, 7⟩
def OWN_IL_CONFLICT : Ev := ⟨Reg.RED_EVENTS, 8⟩
def MIRROR_VERSION_MISMATCH : Ev := ⟨Reg.RED_EVENTS, 9⟩
def ROLE_CHANGE : Ev := ⟨Reg.RED_EVENTS, 10⟩
def SETTINGS_DEFAULTED : Ev := ⟨Reg.NVM_EVENTS, 0⟩
def FALLBACK : Ev := ⟨Reg.NVM_EVENTS, 1⟩
def CONFIRMED : Ev := ⟨Reg.NVM_EVENTS, 2⟩
def CAL_BANK_BAD : Ev := ⟨Reg.NVM_EVENTS, 3⟩
def UNLOCKED : Ev := ⟨Reg.ACCESS_EVENTS, 0⟩
def UNLOCK_FAILED : Ev := ⟨Reg.ACCESS_EVENTS, 1⟩
def LOCKOUT_START : Ev := ⟨Reg.ACCESS_EVENTS, 2⟩
def UNLOCK_EXPIRED : Ev := ⟨Reg.ACCESS_EVENTS, 3⟩
def RELOCKED : Ev := ⟨Reg.ACCESS_EVENTS, 4⟩
def LEVEL_CHANGE : Ev := ⟨Reg.ACCESS_EVENTS, 5⟩
def BIST_DONE : Ev := ⟨Reg.BIST_EVENTS, 0⟩
def BIST_FAIL : Ev := ⟨Reg.BIST_EVENTS, 1⟩
def BIST_ABORTED : Ev := ⟨Reg.BIST_EVENTS, 2⟩
def REPAIR_DEGRADED : Ev := ⟨Reg.BIST_EVENTS, 3⟩
def TRIM_STEP : Ev := ⟨Reg.TRIM_EVENTS, 0⟩
def MARGIN_LOW : Ev := ⟨Reg.TRIM_EVENTS, 1⟩

end Ev

end Sys2Proof.Machine
end

