-- ==== Sys2Proof/Machine/State.lean ====
section
/-! DEFINITION. The state of the block, as plain data, block by block. A field's default value is its value right after
reset: the spec's where it gives one, otherwise the value the assumption log names. -/

namespace Sys2Proof.Machine

/-- No command of this block ends in a fault: every event the spec describes has an effect (log 2). The type is closed
and empty, so nothing can raise one: safe. -/
inductive Fault where
  deriving DecidableEq, Repr

/-- Why a command has no meaning. -/
inductive Refusal where
  /-- Raised by `exec` for a row that has no meaning yet, by its mnemonic; safe: nothing runs. -/
  | notModelled (mnemonic : String)
  deriving DecidableEq, Repr

/-! ### Hearth (R47 to R95) -/

/-- R47, R48: the local counter, with its increment as a 32.32 number of ns. -/
structure Counter where
  sec : Nat := 0
  ns : Nat := 0
  frac : Nat := 0
  inc : Nat := 0x200000000
  deriving DecidableEq, Repr

/-- R50: the latched copies that a read of TIME_SEC_HI fills. -/
structure TimeLatch where
  secLo : Nat := 0
  ns : Nat := 0
  frac : Nat := 0
  short : Nat := 0
  deriving DecidableEq, Repr

/-- R59: one foreign master of a domain, from its last Announce. -/
structure Foreign where
  gm : Nat
  port : Port
  rank : List Nat
  ptpScale : Bool
  deriving DecidableEq, Repr

/-- R59, R60: what the device knows of one port's path to a domain's selected grandmaster. -/
structure PortPath where
  /-- t2 − t1 − correction of the last Sync there, the term the path delay needs. -/
  t2mt1 : Option Int := none
  mpd : Option Int := none
  /-- The outstanding Delay_Req or Pdelay_Req: sequence and time of sending. -/
  req : Option (Nat × Nat) := none
  /-- A two-step Sync that waits for its Follow_Up: sequence, t2 and correction. -/
  twoStep : Option (Nat × Nat × Int) := none
  deriving DecidableEq, Repr

/-- R62: what the device tracks of one domain. Its number, port choice and delay mechanism stand in DOMn_CFG. -/
structure Domain where
  st : DomState := .none
  port : Option Port := none
  gm : Nat := 0
  /-- R63: the grandmasterIdentity selected last, 0 before the first. -/
  gmLast : Nat := 0
  ptpScale : Bool := false
  /-- R59: the transport by which the grandmaster's Syncs come. -/
  transport : PtpTransport := .ethernet
  syncAge : Nat := 255
  /-- Monotonic time of the last complete Sync. -/
  syncUp : Nat := 0
  logSync : Int := 0
  offset : Int := 0
  rate : Int := 0
  mpd : Int := 0
  good : Nat := 0
  bad : Nat := 0
  lastT1 : Nat := 0
  lastT2 : Nat := 0
  delaySeq : Nat := 0
  masters : List Foreign := []
  announceAge : Nat := 0
  /-- R60: the paths through ports A and B. -/
  pathA : PortPath := {}
  pathB : PortPath := {}
  deriving DecidableEq, Repr

/-- R89 to R92: the board's shared tick line. -/
structure TickOd where
  master : Nat := 0
  driving : Bool := false
  /-- R89: monotonic time at which this device last pulled the line low, for 1 µs. -/
  fall : Option Nat := none
  silent : Nat := 0
  skew : Int := 0
  skewRun : Nat := 0
  /-- R92: an own tick edge has opened an interval, so the next one judges its tick. -/
  counting : Bool := false
  /-- R90, R92: of the last tick: an edge within the tolerance was seen, and an edge was measured. -/
  edgeSeen : Bool := false
  measured : Bool := false
  /-- The same of the next tick, for edges that come before it. -/
  edgeNext : Bool := false
  measuredNext : Bool := false
  aligning : Bool := false
  deriving DecidableEq, Repr

/-- The tick and time domain. -/
structure Hearth where
  timing : Timing := ⟨60, 1, 1, 1000, 0, 0, 0⟩
  /-- R68: index of the last tick. -/
  k : Nat := 0
  /-- Full ns, and monotonic time, of the last tick edge. -/
  lastTickNs : Nat := 0
  lastTickUp : Nat := 0
  /-- R313: the sub-tick of this interval that has passed. -/
  subTick : Nat := 0
  retime : Option Retime := none
  /-- R83: 0 outside a retime's gap, 1 from tick T to tick U, 2 from tick U to tick U+1. -/
  gap : Nat := 0
  lastRetimeNs : Nat := 0
  servo : ServoState := .free
  everLocked : Bool := false
  good : Nat := 0
  bad : Nat := 0
  /-- R62: DOMAIN_SECONDARY is the active domain. -/
  secondActive : Bool := false
  /-- R67: neither domain delivers Sync; the first to reach LOCKED becomes active. -/
  bothLost : Bool := false
  sourcePps : Bool := false
  slewing : Bool := false
  clamped : Bool := false
  /-- R52: the filtered increment, before the slew bias. -/
  baseInc : Nat := 0x200000000
  offset : Int := 0
  dom0 : Domain := {}
  dom1 : Domain := {}
  latch : TimeLatch := {}
  hostLatch : TimeLatch := {}
  tickLatchLo : Nat := 0
  /-- The slew bias on the increment, in units of 2^-32 ns a cycle (R52). -/
  bias : Int := 0
  stageSecHi : Nat := 0
  stageSecLo : Nat := 0
  stageIncLo : Nat := 0
  od : TickOd := {}
  ppsStamp : Nat := 0
  ppsError : Int := 0
  ppsGood : Nat := 0
  /-- Monotonic time of the last PPS_IN edge, and whether PPS_IN_LOST stands. -/
  ppsLastUp : Nat := 0
  ppsLost : Bool := false
  ppsOutLevel : Bool := false
  /-- R93: the instant of the last PPS_OUT edge that rose, in counter units. -/
  ppsRise : Nat := 0
  /-- R90: the recorded 100 µs point of this interval has passed (R26). -/
  recordDone : Bool := false
  deriving DecidableEq, Repr

/-! ### Network ports (R96 to R130) -/

/-- The own frames the device sends. -/
inductive OwnKind where
  | udp | arp | na | echo | report | ptp | dhcp
  deriving DecidableEq, Repr

/-- An own frame waiting at an egress MAC (R115). -/
structure OwnFrame where
  kind : OwnKind
  cls0 : Bool
  dst : List Byte
  sport : Nat
  dport : Nat
  payload : List Byte
  /-- The destination MAC address and the source address, where the frame itself gives them. -/
  mac : Option (List Byte) := none
  src : Option (List Byte) := none
  waited : Nat := 0
  /-- R106, R108: the bytes on the wire without the FCS, from the start of transmission on. -/
  wire : List Byte := []
  /-- R111: the transmit stamp of a PTP event frame. -/
  stamp : Option Word := none
  deriving DecidableEq, Repr

/-- A forwarded copy in an egress FIFO (R112 to R116): the received frame, of which the first `keep` bytes leave before the
FCS, which is correct, or complemented when `stomp`; `dropped` when the copy is counted FWD_DROP. -/
structure FwdFrame where
  bytes : List Byte
  keep : Nat
  stomp : Bool
  dropped : Bool := false
  /-- R111: full ns at which its first bit crossed the receive ball. -/
  ingressNs : Nat := 0
  /-- R111: the transmit stamp of a PTP event frame. -/
  stamp : Option Word := none
  deriving DecidableEq, Repr

/-- R115: the frame that an egress MAC has in transmission. -/
inductive TxItem where
  | own (f : OwnFrame) | fwd (f : FwdFrame)
  deriving DecidableEq, Repr

/-- One port's MAC. Control, filter, event and counter registers stand in the register store. -/
structure Mac where
  up : Bool := false
  speed : Nat := 0
  fecActive : Bool := false
  blockLock : Bool := false
  /-- RS-FEC codeword alignment; on the service port, Clause 37 auto-negotiation complete or the PHY's link up (R99). -/
  aligned : Bool := false
  /-- R99: monotonic time since which the lock conditions hold. -/
  lockUp : Nat := 0
  hiBer : Bool := false
  /-- R99: monotonic time since which the high-BER condition stands. -/
  hiBerUp : Nat := 0
  /-- R97: in the 25G window of an AUTO search, and the monotonic time at which the window began. -/
  win25 : Bool := true
  winUp : Nat := 0
  sgmii : Nat := 0
  /-- R494: the training of step 9 has ended; before it the transmitter is at electrical idle. -/
  trained : Bool := false
  /-- R110: the class and length of the frame that a class queue could not accept: the receive FIFO is full behind it. -/
  rxBlocked : Option (Nat × Nat) := none
  own : List OwnFrame := []
  fwd : List FwdFrame := []
  /-- R115: the frame in transmission. -/
  tx : Option TxItem := none
  /-- Frames that left, newest first: what the port last sent. -/
  sent : List OwnFrame := []
  sentFwd : List FwdFrame := []
  deriving DecidableEq, Repr

/-- R126: the IPv4 address in use of a port group and its DHCP lease. -/
structure IpState where
  addr : Word := 0
  mask : Word := 0xFFFFFF00
  gw : Word := 0
  leaseUntil : Nat := 0
  requested : Bool := false
  /-- The transaction number of the DHCPv4 exchange in progress. -/
  xid : Nat := 0
  deriving DecidableEq, Repr

/-! ### Class queues (R170 to R175) -/

/-- A received frame in a queue: the position of its first byte among all bytes that the queue has taken, its length, receive
stamp and bytes. -/
structure QFrame where
  pos : Nat
  len : Nat
  stamp : Word
  bytes : List Byte
  deriving DecidableEq, Repr

/-- R171: one queue: its frames, oldest first, as one run of bytes. Those before `hPos` are in the head, those from there to
`sPos` in the spill ring, and those from there to `tPos` in the tail. -/
structure ClassQueue where
  frames : List QFrame := []
  hPos : Nat := 0
  sPos : Nat := 0
  tPos : Nat := 0
  deriving DecidableEq, Repr

/-- R170, R173, R174: one queue set with its popped frames and their classes. -/
structure QueueSet where
  q0 : ClassQueue := {}
  q1 : ClassQueue := {}
  q2 : ClassQueue := {}
  q3 : ClassQueue := {}
  popped : List (Nat × QFrame) := []
  /-- R173: consecutive pops of classes 0 to 2 while class 3 waited. -/
  lowRun : Nat := 0
  stalled : Bool := false
  deriving DecidableEq, Repr

/-! ### Ingress and the frame store (R131 to R211) -/

/-- R180: the state of a part. -/
inductive PartState where
  | free | open_ | complete | source | held
  deriving DecidableEq, Repr

/-- R180 to R182: one stream's part of one ring entry and the frame in it. -/
structure Part where
  entry : Nat
  st : PartState
  frame : Nat
  v1 : Bool
  pt : Word
  /-- R182: the designated tick; none for an OPEN v1 frame. -/
  tick : Option Nat
  format : Nat
  /-- R152: pixels counted per region, by region number in the canvas. -/
  counts : SMap Nat
  /-- R186: the presenter has chosen this frame. -/
  chosen : Bool
  /-- R195: chosen at or after the marked frame. -/
  byMark : Bool
  /-- R142: a frame of a former owner. -/
  former : Bool
  deriving DecidableEq, Repr

/-- R195 to R198: a rewind mark and the play in progress. -/
structure Mark where
  frame : Nat
  pin : Bool
  pinDropSeen : Bool
  deriving DecidableEq, Repr

/-- What the device keeps of one enabled stream entry (R142, R143, R150, R168, R184 to R198). -/
structure Stream where
  version : Nat := 0
  port : Nat := 0
  up : Bool := false
  format : Nat := 0
  frame : Nat := 0
  owner : Option (List Byte) := none
  /-- R142: the owner has fallen silent, so the next good source takes over. -/
  ownerReleased : Bool := false
  hadOwner : Bool := false
  bound : Option Port := none
  silentTicks : Nat := 0
  /-- R143: ticks since the bound port carried a packet of the stream. -/
  boundSilent : Nat := 0
  /-- R150: highest SEQ seen, the SEQ that started the space, and the seen ones of the window. -/
  high : Option Nat := none
  first : Nat := 0
  seen : List Nat := []
  parts : List Part := []
  cadence : Nat := 1
  lastComplete : Option Nat := none
  lastPresented : Option Nat := none
  /-- R185: source of each region: entry number + 1, 0 for none. -/
  src : SMap Nat := []
  copying : Bool := false
  shortNow : Bool := false
  mark : Option Mark := none
  /-- R198: ticks of the loop already played, while a REWIND play runs, and the loop as it stood when the play began: the
  entry of each frame and the ticks for which it is shown. -/
  play : Option Nat := none
  playLoop : List (Nat × Nat) := []
  /-- R187: the entry of the part chosen last, into which the copies of its patched regions run. -/
  target : Option Nat := none
  /-- R184, R437: the frame number that this tick's selection chose. -/
  chosenNow : Option Nat := none
  /-- R147: FORMAT and PT of the frames whose packets so far are PARITY alone: frame number, FORMAT, PT. -/
  parityFacts : List (Nat × Nat × Nat) := []
  /-- R204: the frame in the layer's back buffer, for streams of layers 1 and 2. -/
  backFrame : Option Part := none
  deriving DecidableEq, Repr

/-- R157, R158: a parity accumulator. -/
structure Accum where
  stream : Nat
  base : Nat
  n : Nat
  frame : Nat
  pt : Nat
  got : List Nat
  parity : Option (Nat × Nat)
  block : List Byte
  deriving DecidableEq, Repr

/-- R163: one tracked sACN source. -/
structure SacnSource where
  cid : Nat
  seq : Nat
  priority : Nat
  rankSince : Nat
  slots : List Byte
  lastUp : Nat
  deriving DecidableEq, Repr

/-- R164: one mapped universe. -/
structure Universe where
  num : Nat
  sources : List SacnSource
  deriving DecidableEq, Repr

/-- The ingress block beside its registers. -/
structure Ingress where
  accums : List Accum := []
  /-- R157, R158: groups already released or evicted: stream, base, PT of their frame. -/
  deadGroups : List (Nat × Nat × Nat) := []
  universes : List Universe := []
  sacnOrder : Nat := 0
  /-- R167: last merged slots per DMX port. -/
  dmx : List (Nat × List Byte) := []
  set0 : QueueSet := {}
  set1 : QueueSet := {}
  set2 : QueueSet := {}
  set3 : QueueSet := {}
  deriving DecidableEq, Repr

/-- R199 to R205: one overlay layer. -/
structure Layer where
  enable : Bool := false
  alpha : Nat := 0
  slotMask : Nat := 0
  x : Nat := 0
  y : Nat := 0
  front : Nat := 0
  back : Nat := 0
  deriving DecidableEq, Repr

/-- The frame store, layers and HOLD. -/
structure FrameStore where
  streams : SMap Stream := []
  /-- The ring's DRAM: pixel words + 1 by entry and canvas position (`ringKey`), 0 for a pixel never written. -/
  ring : SMap Nat := []
  /-- R552: the SLOT_COUNT by which slots own entries. -/
  ownSlots : Nat := 1
  /-- R181: per slot, the entry in which the last frame opened. -/
  lastEntry : SMap Nat := []
  shortRun : Nat := 0
  goodRun : Nat := 0
  /-- R190: this tick's selection has made the run that enters or leaves HOLD. -/
  holdDue : Bool := false
  resumeDue : Bool := false
  /-- R193: presented ticks of the HOLD in progress. -/
  holdTicks : Nat := 0
  /-- R204, R437: the layers that this tick's selection flipped. -/
  flips : List Nat := []
  /-- R192: the fetch table as it stood at entry, per stream. -/
  holdSrc : List (Nat × SMap Nat) := []
  layer1 : Layer := {}
  layer2 : Layer := {}
  /-- R208: layer 3. -/
  alpha3 : Nat := 65535
  raiseCmd : Bool := false
  emergPin : Bool := false
  raised : Bool := false
  buffers : List Buffer := []
  nextHandle : Nat := 1
  safeImage : SMap Nat := []
  emergImage : SMap Nat := []
  safeOk : Bool := false
  emergOk : Bool := false
  deriving DecidableEq, Repr

/-! ### Anvil (R212 to R256) -/

/-- R241: a calibration plane: records written, over identity records or over undefined content. -/
structure Plane where
  recs : SMap Nat := []
  defined : Bool := false
  deriving DecidableEq, Repr

/-- R222: the staging copy of a strand's map: its header, as a map without runs, and the runs written, by index. -/
structure StagedMap where
  strand : Nat
  header : Option PixMap := none
  runs : SMap Run := []
  deriving DecidableEq, Repr

/-- The pixel pipeline. Active tables are held as entries that differ from their generated values. -/
structure Anvil where
  maps : SMap PixMap := []
  stagedMaps : List StagedMap := []
  /-- Maps checked at LAST, waiting for their tick. -/
  acceptedMaps : List (Nat × PixMap) := []
  table0 : SMap Nat := []
  table1 : SMap Nat := []
  table2 : SMap Nat := []
  table3 : SMap Nat := []
  tone : SMap Nat := []
  /-- R248: PQ_WHITE and HLG_GAMMA from which tables 1 and 2 were generated. -/
  pqWhite : Nat := 1000
  hlgGamma : Nat := 120
  /-- R247: staging copies, by table ID, as entries that differ from the table's base. -/
  stagedTables : List (Nat × SMap Nat) := []
  acceptedTables : List (Nat × SMap Nat) := []
  planeA : Plane := {}
  planeB : Plane := {}
  activeB : Bool := false
  staging : Bool := false
  calPending : Bool := false
  /-- R244: a MAP_WRITE has moved records since the CAL_BEGIN. -/
  calMoved : Bool := false
  copying : Bool := false
  bright : Nat := 65535
  brightFrom : Nat := 65535
  brightTo : Nat := 65535
  rampN : Nat := 0
  rampK : Nat := 0
  rendering : Bool := false
  /-- R359: the map and calibration reads of the next line were issued ahead. -/
  readAhead : Bool := false
  /-- Index of the tick whose image is rendered, and the instant of render start (monotonic ns). -/
  renderTick : Nat := 0
  renderUp : Nat := 0
  overrunRaised : Bool := false
  deriving DecidableEq, Repr

/-! ### Strands (R257 to R299) -/

/-- R291: the form of a legacy frame: bits a channel, high time of a 0 and of a 1, and the length of a bit, in ns. -/
structure LegacyForm where
  width : Nat
  highZero : Nat
  highOne : Nat
  bitNs : Nat
  deriving DecidableEq, Repr

/-- R263, R269, R291, R294: what a strand sends. A line carries its H_BP and H_FP, a DMX frame its break and its
mark-after-break in µs. -/
inductive StrandItem where
  | sof | syn | nsw | swp (bank : Nat) | rts (driver : Nat) (sense : Bool) (relay : Nat) | eof | brk | enm (hop : Nat)
  | line (type : Nat) (bank : Nat) (hBp : Nat) (hFp : Nat) (words : List Half) (crc : Half)
  | legacy (form : LegacyForm) (codes : List Half) | dmx (breakUs : Nat) (mabUs : Nat) (bytes : List Byte) | rdm (bytes : List Byte)
  deriving DecidableEq, Repr

/-- What the device keeps of one enumerated driver (R277, R280, R296, R308, R309). -/
structure Driver where
  word1 : Half
  word2 : Half
  minWdt : Nat
  minHbp : Nat
  uid : Nat
  lambda : Nat
  written : Nat
  status : Half
  temp : Half
  tempMs : Nat
  failed : Nat
  lost : Bool
  sampledMs : Nat
  deriving DecidableEq, Repr

/-- R278, R297, R317: a queued return slot. `raw`: the reply answers a RAW line (R275). -/
structure RetSlot where
  driver : Nat
  sense : Bool
  forCommand : Bool
  raw : Bool := false
  /-- R278: deferred from an earlier window. -/
  late : Bool := false
  /-- R297: the number of the DRIVER_COMMAND that it serves. -/
  id : Nat := 0
  deriving DecidableEq, Repr

/-- R281, R282: the enumeration of one strand: ENM has been sent, the driver of the next RTS, whether its reply is awaited and
when that RTS ended (monotonic ns), whether the slot before it failed, whether the loop has ended, with which result, and
the ENUM payloads with their latencies. -/
structure Enumeration where
  sent : Bool := false
  next : Nat := 0
  awaiting : Bool := false
  rtsUp : Nat := 0
  failed : Bool := false
  ended : Bool := false
  result : Nat := 0
  caps : List (List Half × Nat) := []
  deriving DecidableEq, Repr

/-- R269, R270, R273: the frame a strand sends in an interval: none, one that Anvil renders, a dark keep-alive frame, or a
command frame. -/
inductive FrameKind where
  | none | render | dark | command
  deriving DecidableEq, Repr

/-- R295: a queued RDM request. -/
structure RdmReq where
  discovery : Bool
  dst : List Byte
  sub : Nat
  cc : Nat
  pid : Nat
  data : List Byte
  chan : Chan
  from_ : Endpoint
  seq : Word
  deriving DecidableEq, Repr

/-- One strand port. -/
structure Strand where
  /-- R289: lines written by Anvil and not yet sent: slot of the image, words. -/
  buf : List (Nat × List Half) := []
  /-- Lines rendered and sent of the frame in progress. -/
  rendered : Nat := 0
  sentLines : Nat := 0
  kind : FrameKind := .none
  /-- DATA lines of the frame in progress. -/
  lines : Nat := 0
  /-- R425: the next tick swap is NSW whatever was sent. -/
  nswNext : Bool := false
  /-- A swap symbol was sent at this tick. -/
  swapped : Bool := false
  /-- R282: the result of the last enumeration. -/
  enumResult : Nat := 0
  /-- R311: the banks that the trains of the frame in progress load, and those that this interval's swaps name. -/
  banks : List Nat := []
  swapBanks : List Nat := []
  /-- R269: bit-times after the tick at which the next item may start, and at which EOF started. -/
  pos : Nat := 0
  eofAt : Nat := 0
  synDone : Nat := 0
  underrun : Bool := false
  eof : Bool := false
  lastSwp : Bool := false
  bellows : Bool := false
  /-- R281: waiting for, or in, an enumeration. -/
  enumerating : Bool := false
  scan : Enumeration := {}
  engineDown : Bool := false
  driving : Bool := false
  /-- R260: released after an RTS until the return slot ends. -/
  released : Bool := false
  /-- R269: trains whose SOF has been sent. -/
  sofs : Nat := 0
  drivers : List Driver := []
  cfg : List CfgLine := []
  cfgSent : Nat := 0
  ret : List RetSlot := []
  /-- R278: slots that move to the head of the next frame's queue. -/
  retLate : List RetSlot := []
  /-- The slot whose reply is awaited. -/
  awaiting : Option RetSlot := none
  slotsRun : Nat := 0
  /-- R261: edges seen in this interval and in the last complete one. -/
  edgeNow : Bool := false
  /-- Monotonic time of the last edge seen (R430). -/
  edgeUp : Nat := 0
  busActive : Bool := false
  /-- R422: an edge outside the swap window of this interval breaks silence. -/
  edgeJudged : Bool := false
  silent : Bool := true
  /-- R294: start and end of the last DMX frame (monotonic ns), its bytes, the end of the request of the RDM transaction in
  progress, and the end of the last transaction. -/
  dmxStartUp : Nat := 0
  dmxEndUp : Nat := 0
  dmxFrame : List Byte := []
  rdmSentUp : Nat := 0
  rdmEndUp : Nat := 0
  rdm : List RdmReq := []
  rdmNow : Option RdmReq := none
  rdmTn : Nat := 0
  /-- Symbols and lines sent in this interval, oldest first. -/
  tx : List StrandItem := []
  deriving DecidableEq, Repr

/-- R257, R524: one strand bank. -/
structure Bank where
  vclass : Nat := 0
  foundClass : Nat := 0
  outRun : Nat := 0
  zcalOk : Bool := false
  deriving DecidableEq, Repr

/-! ### Lamp control (R300 to R334) -/

structure Lamp where
  n0 : Nat := 64
  n1 : Nat := 0
  n2 : Nat := 0
  n3 : Nat := 0
  /-- R301: the timing from which the plan was computed; its pitches follow from both. -/
  planTiming : Timing := ⟨60, 1, 1, 1000, 0, 0, 0⟩
  refreshShort : Bool := false
  sensePos : Nat := 0
  faultMap : SMap Byte := []
  /-- R320: results that change the map at the next tick. -/
  faultNext : List (Nat × Byte) := []
  /-- Those that a record point has taken: they apply at the next tick. -/
  faultReady : List (Nat × Byte) := []
  clearRun : SMap Nat := []
  zones : SMap Zone := []
  /-- Gains computed at the record point, in force from the next tick. -/
  zonesNext : List (Nat × Zone) := []
  track : SMap Nat := []
  hostTemp : SMap Nat := []
  hostTempMs : Nat := 0
  die : Int := 0
  /-- Highest die temperature since the last read of DIE_TEMP. -/
  dieMax : Int := -32768
  dieWarn : Bool := false
  shutdown : Bool := false
  diode0 : Option Int := none
  diode1 : Option Int := none
  diode2 : Option Int := none
  diode3 : Option Int := none
  diodeFault0 : Bool := false
  diodeFault1 : Bool := false
  diodeFault2 : Bool := false
  diodeFault3 : Bool := false
  anyLost : Bool := false
  deriving DecidableEq, Repr

/-! ### Scheduler, locks, engines, arbiter, journal (R335 to R375) -/

/-- R338: the state of a task slot. -/
inductive TaskState where
  | free | waiting | ready | dispatched | suspended | done
  deriving DecidableEq, Repr

structure Task where
  st : TaskState := .free
  prio : Nat := 0
  targets : List Nat := []
  flow : Option Nat := none
  wait : TaskWait := .now
  /-- Order of submission in its flow, and order in which it became READY (R339, R340). -/
  order : Nat := 0
  readyOrder : Nat := 0
  engine : Nat := 0
  cancelReq : Bool := false
  /-- Completion record: 0 normal, 1 CANCELLED, 2 FAULTED. -/
  result : Nat := 0
  faults : Nat := 0
  deriving DecidableEq, Repr

structure Lock where
  owner : Option Nat := none
  waiters : List Nat := []
  /-- R346: monotonic time of the grant. -/
  sinceUp : Nat := 0
  deriving DecidableEq, Repr

structure Engine where
  restarting : Bool := false
  halted : Bool := false
  task : Option Nat := none
  lastFaultUp : Option Nat := none
  /-- R336: monotonic time of the last yield point. -/
  yieldUp : Nat := 0
  deriving DecidableEq, Repr

structure Sched where
  tasks : SMap Task := []
  locks : SMap Lock := []
  engines : SMap Engine := []
  order : Nat := 0
  refusing : Bool := false
  fatal : Bool := false
  deriving DecidableEq, Repr

/-- R355 to R360: one DRAM channel's arbiter. A waiting request carries its class and cycle of issue. -/
structure ArbChannel where
  cycle : Nat := 0
  waiting : List (Nat × Nat) := []
  owner : Nat := 0
  /-- R357: class last granted at each rank. -/
  lastAtRank : SMap Nat := []
  /-- R359: withdrawn requests: class and the cycle at which they are issued again. -/
  withdrawn : List (Nat × Nat) := []
  /-- R358: ranks that apply from the next decision. -/
  ranks : Nat := 0xFAC688
  warned : List Nat := []
  deriving DecidableEq, Repr

structure Arb where
  /-- R35: the first byte of DRAM regions 1 to 9 and their sizes, as the last BOOT laid them out. -/
  regions : List (Nat × Nat) := []
  ch0 : ArbChannel := {}
  ch1 : ArbChannel := {}
  pop0 : Bool := false
  pop1 : Bool := false
  lpddr4x : Bool := false
  mb : Nat := 0
  rate : Nat := 0
  deriving DecidableEq, Repr

/-- R368: a source's journal buffer: entries waiting, and entries dropped since the last accepted one. -/
structure JSource where
  wait : List JEntry := []
  dropped : Nat := 0
  deriving DecidableEq, Repr

structure Journal where
  /-- Number of the next entry; entries retained on chip (oldest first, newest number next − 1) and in DRAM. -/
  next : Nat := 0
  started : Bool := false
  ring : List JEntry := []
  unspilled : Nat := 0
  /-- Entries in the DRAM ring, by entry number. -/
  dram : SMap JEntry := []
  frozen : Bool := false
  /-- R370: the flight record: the number of its first entry, and the entries. -/
  flight : Option (Nat × List JEntry) := none
  sources : SMap JSource := []
  turn : Nat := 0
  ringCap : Nat := 65536
  latchNext : Nat := 0
  latchOldest : Nat := 0
  /-- R372: the window's selection. -/
  jwHi : Nat := 0
  jwLo : Nat := 0
  jwSel : Option Nat := none
  /-- R373: next entry number to stream. -/
  streamNext : Nat := 0
  /-- R373: the port on which a frame of an address was received last, by the address. -/
  heardOn : SMap Port := []
  /-- R373: selected entries overwritten before they were sent, since the previous datagram. -/
  skipped : Nat := 0
  deriving DecidableEq, Repr

/-! ### Control (R376 to R412) -/

/-- R388: one response slot. -/
structure Slot where
  seq : Word
  opcode : Nat
  status : Nat
  done : Bool
  acked : Bool
  deferred : Bool
  /-- Copies already received by the host (REPEAT of R387). -/
  seen : Bool
  payload : List Byte
  doneTime : Word
  deriving DecidableEq, Repr

/-- R385, R388, R402, R406: what one channel or endpoint holds. -/
structure Client where
  ep : Endpoint := ⟨[], 0⟩
  high : Option Word := none
  s0 : Option Slot := none
  s1 : Option Slot := none
  s2 : Option Slot := none
  s3 : Option Slot := none
  staging : List (Nat × List Byte) := []
  queue : List JEntry := []
  kinds : Nat := 0
  sources : Nat := 0
  overflow : Bool := false
  lastUse : Nat := 0
  port : Port := .a
  /-- R485: rights granted here and when they end (monotonic ns; 0: at reset). -/
  rights : Nat := 0
  rightsUntil : Nat := 0
  deriving DecidableEq, Repr

/-- R393 to R396: an open session. -/
structure Session where
  scope : Nat
  chan : Chan
  ep : Endpoint
  handle : Nat
  lease : Nat
  until_ : Nat
  /-- R352: the staged work was discarded by a CP restart. -/
  aborted : Bool
  deriving DecidableEq, Repr

/-- Why a response waits. -/
inductive Wait where
  | modeSet (target : Mode)
  | change (id : Nat)
  | roleSet (role : Role) (flavour : Flavour) (keep : Bool)
  | domain (second : Bool)
  | enumerate (strands : List Nat)
  | driver (strand id : Nat)
  | rdm (port : Nat)
  | store
  | calCopy
  | bankStore
  /-- CAL_STORE OP 1 to 4: the entry, and the content as it was accepted. -/
  | imageWrite (op entry : Nat) (b : Buffer)
  | verify
  /-- R519: TRIM_RUN with its TARGETS. -/
  | trim (targets : Nat)
  | selfTest (opcode : Nat) (r : Request)
  deriving DecidableEq, Repr

/-- A request accepted and not yet complete. -/
structure Waiting where
  chan : Chan
  ep : Endpoint
  seq : Word
  opcode : Nat
  /-- R396: the session handle that the request carries. -/
  client : Nat
  why : Wait
  deriving DecidableEq, Repr

/-- R27: a staged change: its number, whether a record point has recorded it, and the change. -/
structure Staged where
  id : Nat
  recorded : Bool
  change : Change
  deriving DecidableEq, Repr

structure Ctrl where
  ch0 : Client := {}
  ch1 : List Client := []
  ch2 : List Client := []
  ch3 : Client := {}
  sessions : List Session := []
  lastHandle : Nat := 0
  /-- Requests seen so far, by which the least recently used endpoint is known (R385). -/
  uses : Nat := 0
  waiting : List Waiting := []
  staged : List Staged := []
  stagedId : Nat := 0
  /-- R400: the live parameter set, as values that differ from their defaults. -/
  live : SMap (List Byte) := []
  prevMode : Mode := .boot
  modeNs : Nat := 0
  autoLiveArmed : Bool := false
  autoLiveDue : Bool := false
  /-- R485: a grant of SERVICE ended; the device returns to IDLE at the next tick. -/
  serviceEnds : Bool := false
  mbxReq : SMap Word := []
  reqFree : Bool := false
  cpRestarting : Bool := false
  overrun : Bool := false
  mbxSel : Word := 0
  submitted : List (List Byte) := []
  /-- R297: the number of the last DRIVER_COMMAND accepted. -/
  commandId : Nat := 0
  irq : Nat := 0
  irqEn : Nat := 0
  bcastEn : Bool := true
  /-- The words the device last put on HS_DQ, and whether it answered. -/
  spiOut : List Word := []
  spiAnswered : Bool := false
  /-- The value of the last register read through a row of its own. -/
  regOut : Word := 0
  undefReads : Nat := 0
  deriving DecidableEq, Repr

/-! ### Redundancy (R413 to R449) -/

structure Red where
  /-- R448: PAIR_ENABLE as the BOOT found it; a new value acts at the next BOOT. -/
  pairEn : Bool := false
  role : Role := .solo
  flavour : Flavour := .hot
  roleStrap : Bool := false
  stale : Bool := false
  mirrorUp : Bool := false
  mirrorLock : Bool := false
  mirrorHiBer : Bool := false
  /-- R99: monotonic times since which the mirror link's lock and its high-BER condition hold. -/
  mirrorLockUp : Nat := 0
  mirrorHiBerUp : Nat := 0
  hbSeen : Bool := false
  peerHeard : Bool := false
  peerRole : Role := .solo
  peerSerial : Nat := 0
  peerAddr : List Byte := []
  peerDigest : List Byte := []
  versionOk : Bool := true
  expiry : Nat := 0
  releaseRx : Bool := false
  ownIlIn : Bool := true
  /-- OWN_IL has been high throughout this interval, and through the last one. -/
  ownIlHigh : Bool := true
  ownIlHighLast : Bool := true
  ownIlOut : Bool := false
  ownIlPulled : Bool := false
  ownIlCheck : Bool := false
  electStartUp : Nat := 0
  hbSeq : Nat := 0
  mirrorSeq : Nat := 0
  /-- Frames sent on the mirror link, newest first. -/
  mirrorSent : List MirrorFrame := []
  /-- R388, R435: SEQ of the last request forwarded on channel 3. -/
  forwardSeq : Nat := 0
  /-- R439: the tick record that is being sent. -/
  sending : Option RecordSend := none
  /-- R438: what the records and copies have told the standby so far, and the keys whose deltas wait, oldest first. -/
  toldZones : SMap Zone := []
  toldLatency : SMap (Nat × Nat) := []
  toldFaults : SMap Byte := []
  zoneQueue : List Nat := []
  latencyQueue : List Nat := []
  faultQueue : List Nat := []
  lastRecord : Option TickRecord := none
  pendingRecord : Option TickRecord := none
  recordAcked : Bool := true
  resyncWanted : Bool := false
  awaitDigest : Bool := false
  copy : Option CopySend := none
  switchX : Option Nat := none
  takeoverNs : Nat := 0
  lastSwapTick : Nat := 0
  recordSize : Nat := 0
  lagging : Bool := false
  lostPeer : Bool := false
  /-- R443: PEER_UNHEARD stands for the present expiry. -/
  unheard : Bool := false
  /-- R423: the conditions held at the last tick. -/
  takeoverDue : Bool := false
  /-- R414: monotonic time of the last LINK_HELLO sent. -/
  helloUp : Nat := 0
  /-- R429: monotonic time at which OWN_IL was first pulled low. -/
  ownIlPullUp : Nat := 0
  deriving DecidableEq, Repr

/-! ### Persistence and access (R450 to R489) -/

/-- R454: a settings copy. -/
structure Settings where
  seq : Nat
  /-- FW_VERSION of the writer. -/
  fw : Nat
  records : List (Nat × List Byte)
  deriving DecidableEq, Repr

/-- R459: a firmware slot: its manifest and its image blocks of 4 KB. -/
structure FwSlot where
  manifest : Manifest
  blocks : List (List Byte)
  deriving DecidableEq, Repr

/-- R460: a calibration and map bank. -/
structure FlashBank where
  seq : Nat
  valid : Bool
  plane : SMap Nat
  maps : SMap PixMap
  tables : List (Nat × SMap Nat)
  deriving DecidableEq, Repr

/-- R453, R478: an image area and its IMAGE record. -/
structure FlashImage where
  data : SMap Nat
  length : Nat
  crc : Nat
  deriving DecidableEq, Repr

/-- R453, R478: a library entry. -/
structure LibEntry where
  entry : Nat
  rgba16 : Bool
  width : Nat
  height : Nat
  data : SMap Nat
  crc : Nat
  deriving DecidableEq, Repr

/-- R468: the update checkpoint in force. -/
structure Checkpoint where
  id : Nat
  manifestDigest : List Byte
  blocksDone : Nat
  nextOffset : Nat
  crc : Nat
  tag : List Byte
  deriving DecidableEq, Repr

/-- R452: a 64-byte record of an NVM log, in its place: TYPE, LEN and the body's named fields. -/
structure LogRecord where
  slot : Nat
  seq : Nat
  type : Nat
  body : List Byte
  deriving DecidableEq, Repr

/-- R452: a log: its records, oldest first, the place of the next one, and the SEQ of the last. -/
structure NvmLog where
  recs : List LogRecord := []
  next : Nat := 0
  seq : Nat := 0
  deriving DecidableEq, Repr

/-- The non-volatile stores: they outlive every reset. The fields hold the records in force; the logs all that stand in the NVM. -/
structure Nvm where
  serial : Nat := 0
  macBase : Nat := 0
  rdmUid : Nat := 0
  level : Nat := 0
  key : Option (List Byte) := none
  pwSalt : List Byte := []
  pwDigest : Option (List Byte) := none
  pwRights : Nat := 0
  permit : Bool := false
  failures : Nat := 0
  activeSlotB : Bool := false
  trialState : Nat := 0
  trialSlotB : Bool := false
  /-- R458, R535: the FL_CLK rate in MHz that the boot headers name; no command writes it. -/
  headerMhz : Nat := 200
  activeBankB : Bool := false
  secFloor : Nat := 0
  copyA : Option Settings := none
  copyB : Option Settings := none
  slotA : Option FwSlot := none
  slotB : Option FwSlot := none
  bankA : Option FlashBank := none
  bankB : Option FlashBank := none
  safe : Option FlashImage := none
  emerg : Option FlashImage := none
  library : List LibEntry := []
  /-- R466: the blocks programmed into the target slot, which has no header yet. -/
  partBlocks : List (List Byte) := []
  ckpt : Option Checkpoint := none
  /-- R467: the manifest digest of the CKPT_HEAD record in force; none when its CKPT_ID is 0. -/
  ckptHead : Option (List Byte) := none
  lastCkptId : Nat := 0
  /-- R468: CAL_CKPT: content CRC, bytes done. -/
  calCkpt : Option (Nat × Nat) := none
  /-- R450, R453: the boot log, sectors 12 to 19. -/
  bootLog : NvmLog := {}
  /-- R450, R468: the checkpoint log, sectors 20 to 35. -/
  ckptLog : NvmLog := {}
  deriving DecidableEq, Repr

/-- R464: the update state. -/
inductive UpdState where
  | none | receiving | verifying | ready | trial | suspended
  deriving DecidableEq, Repr

/-- Update, storing and access work in progress: it ends at reset. -/
structure Work where
  upd : UpdState := .none
  manifest : Option Manifest := none
  nextOffset : Nat := 0
  /-- Package bytes of the record in progress. -/
  partial_ : List Byte := []
  /-- R455: a STORE in progress: whether it writes copy B, and what it writes. -/
  storing : Option (Bool × Settings) := none
  /-- R476: a BANK in progress: what it writes. -/
  bankNew : Option FlashBank := none
  /-- R492: a reset is due 100 ms after the response: its RESET_CAUSE and its time (monotonic ns). -/
  resetDue : Option (Nat × Nat) := none
  runningB : Bool := false
  running : Option Manifest := none
  runningBlocks : List (List Byte) := []
  downloaded : Bool := false
  copyALoaded : Bool := true
  defaulted : Bool := false
  idleUp : Nat := 0
  bootEndUp : Nat := 0
  /-- R487: CONFIRM_WINDOW with which the running trial started, s. -/
  confirmWindow : Nat := 0
  engineFaulted : Bool := false
  nonce : Option (List Byte) := none
  nonceUp : Nat := 0
  draws : Nat := 0
  lockout : Bool := false
  lockoutUntil : Nat := 0
  deriving DecidableEq, Repr

/-! ### Start-up, self-test, trim, scan (R490 to R518) -/

/-- R499: the download registers and the package so far. -/
structure Download where
  open_ : Bool := false
  strap : Nat := 0
  offset : Word := 0
  next : Nat := 0
  st : Nat := 0
  /-- Bytes of the manifest or record in progress, the manifest once it has verified, and the blocks built from it. -/
  bytes : List Byte := []
  manifest : Option Manifest := none
  blocks : List (List Byte) := []
  buf : SMap Word := []
  deriving DecidableEq, Repr

structure Sys where
  inReset : Bool := true
  /-- R49: the REFCLK PLL has locked since PORST_N, so the counter runs. -/
  clockRuns : Bool := false
  /-- Monotonic time of the last reset release. -/
  releaseUp : Nat := 0
  /-- R525: the supervisor holds the device in reset. -/
  supervisor : Bool := false
  phase : Nat := 0
  strap : Nat := 0
  cause : Nat := 0
  idStrap : Nat := 0
  dlRefused : Bool := false
  dlTimeout : Bool := false
  fallback : Bool := false
  degraded : Bool := false
  criticalMem : Bool := false
  dramFail : Bool := false
  noSlot : Bool := false
  calBankBad : Bool := false
  /-- FAULT_N is pulled low. -/
  faultN : Bool := true
  fwVersion : Nat := 0
  /-- R535: the flash interface runs 8D-8D-8D, else 1S-1S-1S; and FL_CLK in MHz. -/
  flash8d : Bool := false
  flashMhz : Nat := 25
  dl : Download := {}
  boot : Option BootInputs := none
  sparesUsed : Nat := 0
  lost : List Nat := []
  set2Lost : Bool := false
  set3Lost : Bool := false
  deriving DecidableEq, Repr

/-- R507 to R511: a test. -/
structure Test where
  id : Nat
  target : Nat
  index : Nat
  arg : Nat
  running : Bool
  startUp : Nat
  deriving DecidableEq, Repr

/-- R511, R519: a kept result. -/
structure TestDone where
  id : Nat
  result : Nat
  durationUs : Nat
  detail : Nat
  deriving DecidableEq, Repr

structure Bist where
  tests : List Test := []
  results : List TestDone := []
  nextId : Nat := 0
  dramTested : Bool := false
  /-- R514: the reload runs since the tick at this full-ns count. -/
  reloading : Bool := false
  reloadNs : Nat := 0
  deriving DecidableEq, Repr

structure Trim where
  eye : List Nat := [0, 0, 0, 0]
  dram : List Nat := [0, 0]
  ret : List (Nat × Nat) := [(0, 0), (0, 0), (0, 0), (0, 0), (0, 0), (0, 0), (0, 0), (0, 0)]
  lastTemp : Int := 0
  lastStepNs : Nat := 0
  pending : Option Class2Figures := none
  due : Bool := false
  sliceDone : Bool := false
  slices : Nat := 0
  marginLow : Bool := false
  deriving DecidableEq, Repr

/-- R517: the boundary-scan TAP. -/
structure Tap where
  ir : Nat := 2
  boundary : List Bool := []
  captured : List Bool := []
  dbgEngine : Nat := 0
  tdo : Word := 0
  draws : Nat := 0
  deriving DecidableEq, Repr

/-- R347, R350: the structures that SHADOW locks protect, as the firmware copied them at the lock's last release: the live
parameters with the staged ones of each client, the frame store's streams, and lamp control. -/
structure Shadow where
  live : SMap (List Byte)
  ch0 : List (Nat × List Byte)
  ch1 : List (Endpoint × List (Nat × List Byte))
  ch2 : List (Endpoint × List (Nat × List Byte))
  ch3 : List (Nat × List Byte)
  streams : SMap Stream
  lamp : Lamp
  deriving DecidableEq, Repr

/-! ### The whole block -/

/-- The state of the HV960. `regs` holds every register of the register map that no other field is the home of, as the
values that differ from their reset values; `pending` is the queue of waiting commands. -/
structure State where
  mode : Mode := .boot
  time : Counter := {}
  /-- Monotonic time since the counter first ran, ns: the base of the device's timers (the model's own, log 3). -/
  up : Nat := 0
  sys : Sys := {}
  hearth : Hearth := {}
  macA : Mac := {}
  macB : Mac := {}
  macSv : Mac := {}
  ip : IpState := {}
  ipSv : IpState := {}
  groups : List (List Byte) := []
  /-- R125: reports due: the group and the monotonic time at which the report is due. -/
  reports : List (List Byte × Nat) := []
  ingress : Ingress := {}
  fs : FrameStore := {}
  anvil : Anvil := {}
  strands : SMap Strand := []
  banks : SMap Bank := []
  lamp : Lamp := {}
  sched : Sched := {}
  arb : Arb := {}
  jnl : Journal := {}
  ctrl : Ctrl := {}
  red : Red := {}
  nvm : Nvm := {}
  work : Work := {}
  bist : Bist := {}
  trim : Trim := {}
  tap : Tap := {}
  regs : SMap Word := []
  /-- R34: words that engines have written to memory of the system address space that no other field holds, by address:
  the word + 1, 0 where none was written. -/
  memory : SMap Nat := []
  /-- R129: low-word reads that have latched a byte counter's high word: (address of the low word, latched high word). -/
  byteLatch : List (Nat × Word) := []
  /-- The model's own counter of free values drawn (log 11). -/
  draws : Nat := 0
  /-- R350: the shadow copies of the SHADOW locks that are held, by lock. -/
  shadows : SMap (Option Shadow) := []
  pending : List Instr := []
  deriving DecidableEq, Repr

/-- The machine right after reset entry by PORST_N: every field at its reset value, nothing pending. The register
store lists only the address filters of ports B and the service port, which hold their own addresses (FILT0_LO). -/
def State.reset : State := { regs := [(0x40021104, 1), (0x40022104, 2)] }

end Sys2Proof.Machine
end

