-- ==== Sys2Proof/Machine/Flags.lean ====
section
/-! DEFINITION. The register store, counters, event flags, interrupt flags and the journal: how a happening is counted,
flagged and journalled (R19, R129, R363 to R369, R379, R380, R406, R411). -/

namespace Sys2Proof.Machine

/-! ### Live parameters (R400) -/

/-- The value bytes of a live parameter. RDM_SRC_UID defaults to the identity sectors' UID (R298). -/
def State.paramBytes (s : State) (id : Nat) : List Byte :=
  let v := SMap.get paramDefault s.ctrl.live id
  if id = P.RDM_SRC_UID ∧ v = [] then beBytes 8 s.nvm.rdmUid else v

/-- The live value as a number. -/
def State.param (s : State) (id : Nat) : Nat := beNat (s.paramBytes id)

/-- Does a 0/1 parameter hold 1? -/
def State.paramOn (s : State) (id : Nat) : Bool := decide (s.param id = 1)

/-! ### The register store -/

/-- What the store holds for the register at `a`. -/
def State.reg (s : State) (a : Nat) : Word := SMap.get regReset s.regs a

/-- The same as a number. -/
def State.regN (s : State) (a : Nat) : Nat := (s.reg a).toNat

/-- Store `v` for the register at `a`. -/
def State.setReg (s : State) (a : Nat) (v : Word) : State := { s with regs := SMap.set regReset s.regs a v }

/-- Store a number for the register at `a`. -/
def State.setRegN (s : State) (a n : Nat) : State := s.setReg a (BitVec.ofNat 32 n)

/-- R129: add `n` to a 32-bit counter, which saturates at all ones. -/
def State.countN (s : State) (a n : Nat) : State := s.setRegN a (min (2 ^ 32 - 1) (s.regN a + n))

/-- R129: count one. -/
def State.count (s : State) (a : Nat) : State := s.countN a 1

/-- R129: add `n` to the 64-bit byte counter whose low word lies at `a` and whose high word follows. -/
def State.countBytes (s : State) (a n : Nat) : State :=
  let v := min (2 ^ 64 - 1) (s.regN (a + 4) * 2 ^ 32 + s.regN a + n)
  (s.setRegN a (v % 2 ^ 32)).setRegN (a + 4) (v / 2 ^ 32)

/-- Keep the highest value in a register that shows a maximum. -/
def State.maxReg (s : State) (a n : Nat) : State := if s.regN a < n then s.setRegN a n else s

/-! ### Time as the journal and the mailboxes see it -/

/-- The full nanosecond count of R74. -/
def Counter.fullNs (c : Counter) : Nat := c.sec * 1000000000 + c.ns

/-- The full nanosecond count now. -/
def State.nowNs (s : State) : Nat := s.time.fullNs

/-- R71: short time. -/
def State.short (s : State) : Word := BitVec.ofNat 32 s.nowNs

/-! ### Interrupt flags of the host window (R379, R380) -/

namespace Irq
def MBX_DONE : Nat := 0
def REQ_FREE : Nat := 1
def EVENT : Nat := 2
def MODE_CHANGE : Nat := 3
def FATAL : Nat := 4
def EMERG : Nat := 5
def LOCK_CHANGE : Nat := 6
end Irq

/-- Set a bit of IRQ_STATUS. -/
def State.irq (s : State) (b : Nat) : State := { s with ctrl := { s.ctrl with irq := s.ctrl.irq ||| 2 ^ b } }

/-- R380: HOST_IRQ_N is pulled low: an enabled bit is set, outside reset and BOOT. -/
def State.hostIrqLow (s : State) : Bool :=
  decide (s.ctrl.irq &&& s.ctrl.irqEn ≠ 0) && !s.sys.inReset && decide (s.mode ≠ .boot)

/-! ### Journal sources, kinds and codes (R364 to R367) -/

namespace Src
def SYS : Nat := 0x00
def HEARTH : Nat := 0x01
def NVM : Nat := 0x0C
def CP : Nat := 0x10
def SC : Nat := 0x11
end Src

namespace Kind
def EPOCH : Nat := 0
def STEP : Nat := 1
def EVENT : Nat := 2
def FAULT : Nat := 3
def CONFIG : Nat := 4
def LOSS : Nat := 5
end Kind

namespace Code
def MODE_CHANGE : Nat := 1
def COMMIT : Nat := 2
def REG_WRITE : Nat := 3
def REG_READ : Nat := 4
def REG_DENIED : Nat := 5
def UNMAPPED : Nat := 6
def INC_CLAMP : Nat := 7
def HOST_MARK : Nat := 8
def BANK_VDDIO_FAULT : Nat := 9
def SETTINGS_FIXED : Nat := 10
def ENGINE_REFAULT : Nat := 0x100
def SC_FAULT : Nat := 0x101
def DIE_SHUTDOWN : Nat := 0x102
def CRITICAL_MEM : Nat := 0x103
end Code

/-- R368: entries that are never dropped and go ahead of every other. -/
def JEntry.urgent (e : JEntry) : Bool := decide (e.kind = Kind.EPOCH) || decide (e.kind = Kind.STEP) || decide (e.kind = Kind.FAULT)

/-- R363: an entry as its 16 bytes, big-endian. -/
def JEntry.bytes (e : JEntry) : List Byte :=
  beBytes 8 e.payload ++ beBytes 2 e.code ++ beBytes 1 e.kind ++ beBytes 1 e.source ++ beBytes 4 e.short.toNat

/-- The events enable register that governs an EVENT entry of hardware block `source`; strand and port blocks have one
for each instance, which the payload's index names (R364, R366). -/
def eventEnable (source payload : Nat) : Option Nat :=
  let i := payload / 2 ^ 56
  match source with
  | 0x0 => some Reg.CTRL_EVENT_EN
  | 0x1 => some Reg.HEARTH_EVENT_EN
  | 0x2 => some (Reg.PORT_EVENT_EN i)
  | 0x3 => some Reg.ING_EVENT_EN
  | 0x4 => some Reg.FS_EVENT_EN
  | 0x5 => some Reg.ANVIL_EVENT_EN
  | 0x6 => some (Reg.STR_EVENT_EN i)
  | 0x7 => some Reg.LAMP_EVENT_EN
  | 0x8 => some Reg.SCHED_EVENT_EN
  | 0x9 => some Reg.ARB_EVENT_EN
  | 0xB => some Reg.RED_EVENT_EN
  | 0xC => some Reg.NVM_EVENT_EN
  | 0xD => some Reg.BIST_EVENT_EN
  | 0xE => some Reg.TRIM_EVENT_EN
  | 0xF => some Reg.ACCESS_EVENT_EN
  | _ => none

/-- R406: for KIND = EVENT the event must be enabled in its block. -/
def State.eventEnabled (s : State) (e : JEntry) : Bool :=
  if e.kind = Kind.EVENT then
    match eventEnable e.source e.payload with
    | some a => bit (s.regN a) e.code
    | none => false
  else true

/-- R406: does the client's subscription take the entry? -/
def Client.takes (c : Client) (e : JEntry) : Bool := bit c.kinds e.kind && bit c.sources e.source

/-- R406: put the entry into a queue of 64; a full queue drops its oldest and remembers OVERFLOW. -/
def Client.offer (c : Client) (e : JEntry) : Client :=
  if c.takes e then
    if c.queue.length < 64 then { c with queue := c.queue ++ [e] }
    else { c with queue := c.queue.drop 1 ++ [e], overflow := true }
  else c

/-- Does the entry make the queue drop one? -/
def Client.overflows (c : Client) (e : JEntry) : Bool := c.takes e && decide (64 ≤ c.queue.length)

/-- R406: offer an entry to every queue. -/
def State.offer (s : State) (e : JEntry) : State :=
  if s.eventEnabled e then
    let c := s.ctrl
    let c' := { c with ch0 := c.ch0.offer e, ch1 := c.ch1.map (·.offer e), ch2 := c.ch2.map (·.offer e), ch3 := c.ch3.offer e }
    let s' := { s with ctrl := c' }
    if c'.ch0.queue.isEmpty then s' else s'.irq Irq.EVENT
  else s

/-- Does the entry make some queue drop one? -/
def State.offerOverflows (s : State) (e : JEntry) : Bool :=
  s.eventEnabled e &&
    (s.ctrl.ch0.overflows e || s.ctrl.ch1.any (·.overflows e) || s.ctrl.ch2.any (·.overflows e) || s.ctrl.ch3.overflows e)

/-- R373: streaming is on. -/
def State.streamOn (s : State) : Bool := s.paramOn P.JNL_STREAM_ENABLE && decide (s.param P.JNL_STREAM_DEST ≠ 0)

/-- R373: the stream takes the entry. -/
def State.streamTakes (s : State) (e : JEntry) : Bool := bit (s.param P.JNL_STREAM_KINDS) e.kind || decide (e.kind = Kind.EPOCH)

/-- R373, R375: entry `n` is overwritten: while the stream still has to send it, it is one of the SKIPPED. -/
def State.streamLoses (s : State) (n : Nat) (e : Option JEntry) : State :=
  if s.streamOn && decide (s.jnl.streamNext ≤ n) && (e.any s.streamTakes) then
    { s with jnl := { s.jnl with skipped := s.jnl.skipped + 1 } }.count Reg.JNL_STREAM_SKIPPED
  else s

/-- R368: the journal takes one entry: it gets the next number; a ring full of entries not yet moved loses its oldest. A
journal that has not started or is frozen takes none (R369). -/
def State.jAppend (s : State) (e : JEntry) : State :=
  if !s.jnl.started || s.jnl.frozen then s
  else
    let j := s.jnl
    let lost := decide (j.ringCap ≤ j.unspilled)
    let ring := (if j.ringCap ≤ j.ring.length then j.ring.drop (j.ring.length + 1 - j.ringCap) else j.ring) ++ [e]
    let s := { s with jnl := { j with next := j.next + 1, ring := ring, unspilled := min j.ringCap (j.unspilled + 1) } }
    let s := if lost then (s.streamLoses (j.next - j.unspilled) j.ring.head?).count Reg.JNL_OVERWRITTEN else s
    s.offer e

/-- R411: EVENT_OVERFLOW, whose own entry raises none (log 12). -/
def State.jOverflow (s : State) (short : Word) : State :=
  let s := s.setReg Reg.CTRL_EVENTS (s.reg Reg.CTRL_EVENTS ||| BitVec.ofNat 32 (2 ^ Ev.EVENT_OVERFLOW.bit))
  s.jAppend ⟨short, Src.SYS, Kind.EVENT, Ev.EVENT_OVERFLOW.bit, 0⟩

/-- Does accepting the entry make an event queue drop one (R406)? -/
def State.jDrops (s : State) (e : JEntry) : Bool := s.jnl.started && !s.jnl.frozen && s.offerOverflows e

/-- R406, R411: an entry that makes a queue drop one also raises EVENT_OVERFLOW (log 12). -/
def State.jAccept (s : State) (e : JEntry) : State :=
  if s.jDrops e then (s.jAppend e).jOverflow e.short else s.jAppend e

/-- The buffer of a journal source (R368). -/
def State.jSource (s : State) (src : Nat) : JSource := SMap.get (fun _ => {}) s.jnl.sources src

def State.setJSource (s : State) (src : Nat) (b : JSource) : State :=
  { s with jnl := { s.jnl with sources := SMap.set (fun _ => {}) s.jnl.sources src b } }

/-- Take the waiting entries of one source that `f` selects; the others keep their places. -/
def State.jDrain (s : State) (src : Nat) (f : JEntry → Bool) : State :=
  let b := s.jSource src
  (b.wait.filter f).foldl State.jAccept
    (if (b.wait.filter f).isEmpty then s else s.setJSource src { b with wait := b.wait.filter fun e => !f e })

/-- Write an entry of the device's own: it passes its source's buffer, whose earlier entries go first, and is taken at
once; EPOCH, STEP and FAULT entries go ahead of every other, so only earlier ones of their kind go first (log 13). -/
def State.emit (s : State) (src kind code payload : Nat) : State :=
  let e : JEntry := ⟨s.short, src, kind, code, payload⟩
  (s.jDrain src fun x => x.urgent || !e.urgent).jAccept e

/-- R368: does a buffer's next entry go ahead of every other one? -/
def JSource.urgent (b : JSource) : Bool :=
  match b.wait with
  | e :: _ => e.urgent
  | [] => false

/-- R368: the source served next: one whose next entry is EPOCH, STEP or FAULT, else the first after `turn` that has an
entry waiting. -/
def nextSource (srcs : SMap JSource) (turn : Nat) : Option (Nat × JSource) :=
  match srcs.find? fun p => p.2.urgent with
  | some p => some p
  | none =>
    match srcs.find? fun p => decide (turn < p.1) && !p.2.wait.isEmpty with
    | some p => some p
    | none => srcs.find? fun p => !p.2.wait.isEmpty

/-- R368: the journal takes one entry, serving in turn the sources that have entries waiting. -/
def State.journalTurn (s : State) : State :=
  match nextSource s.jnl.sources s.jnl.turn with
  | some (i, b) =>
    match b.wait with
    | e :: rest => ({ (s.setJSource i { b with wait := rest }) with jnl := { (s.setJSource i { b with wait := rest }).jnl with turn := i } }).jAccept e
    | [] => s
  | none => s

/-- Entries that wait in the sources' buffers. -/
def State.jWaiting (s : State) : Nat := s.jnl.sources.foldl (fun n p => n + p.2.wait.length) 0

/-- `n` turns of the journal, one per 2 ns. -/
def State.journalTurns : Nat → State → State
  | 0, s => s
  | n + 1, s => State.journalTurns n s.journalTurn

/-- R368: the journal takes at most `n` of the entries that wait. -/
def State.takeWaiting (s : State) (n : Nat) : State := State.journalTurns (min n s.jWaiting) s

/-- R54, R368: two entries that the journal takes directly one after the other; a queue that drops one for either raises
EVENT_OVERFLOW after both. -/
def State.jAcceptPair (s : State) (e f : JEntry) : State :=
  let a := s.jAppend e
  let b := a.jAppend f
  let b := if s.jDrops e then b.jOverflow e.short else b
  if a.jDrops f then b.jOverflow f.short else b

/-! ### Events -/

/-- R19: set an event bit. -/
def State.setEv (s : State) (e : Ev) : State := s.setReg e.reg (s.reg e.reg ||| BitVec.ofNat 32 (2 ^ e.bit))

/-- The block of a register address, which is its SOURCE number by R364. -/
def blockOf (a : Nat) : Nat := a / 0x10000 % 0x4000

/-- Raise an event: set its bit and journal it, with its index and detail (R366). R290: the strand events other than
UNDERRUN and DRIVER_LOST are journalled only when enabled. -/
def State.raiseWith (s : State) (e : Ev) (index detail : Nat) : State :=
  let s := s.setEv e
  if blockOf e.reg = 6 ∧ e.bit < 3 ∧ bit (s.regN (e.reg + 4)) e.bit = false then s
  else s.emit (blockOf e.reg) Kind.EVENT e.bit (index * 2 ^ 56 + detail)

/-- Raise an event without index and detail. -/
def State.raise (s : State) (e : Ev) : State := s.raiseWith e 0 0

/-- Raise an event of one instance. -/
def State.raiseAt (s : State) (e : Ev) (index : Nat) : State := s.raiseWith e index 0

end Sys2Proof.Machine
end

