-- ==== Sys2Proof/Machine/Ops.lean ====
section
/-! DEFINITION. The named operations on the state that several families share: parameters, time and the tick grid, modes,
clients and responses, own frames, strands, drivers, streams and locks. -/

namespace Sys2Proof.Machine

/-! ### Parameters (R400 to R404) -/

/-- The live value as a signed 32-bit number. -/
def State.paramI (s : State) (id : Nat) : Int := signedOf 32 (s.param id)

/-- Set a live parameter. -/
def State.setParam (s : State) (id : Nat) (v : List Byte) : State :=
  { s with ctrl := { s.ctrl with live := SMap.set paramDefault s.ctrl.live id v } }

/-- Set a live parameter of 4 bytes. -/
def State.setParamN (s : State) (id n : Nat) : State := s.setParam id (beBytes 4 n)

/-! ### Time (R47 to R50, R74) -/

/-- The counter in units of 2^-32 ns. -/
def Counter.units (c : Counter) : Nat := c.fullNs * 2 ^ 32 + c.frac

/-- The counter that holds `u` units; seconds wrap at 48 bits. -/
def Counter.atUnits (c : Counter) (u : Nat) : Counter :=
  { c with
    sec := u / 2 ^ 32 / 1000000000 % 2 ^ 48
    ns := u / 2 ^ 32 % 1000000000
    frac := u % 2 ^ 32 }

/-- Set the counter, by a step or a load. -/
def State.setUnits (s : State) (u : Nat) : State := { s with time := s.time.atUnits u }

/-- Set the counter and the timers' clock, as time passes. -/
def State.setClock (s : State) (u up : Nat) : State := { s with time := s.time.atUnits u, up := up }

/-- R74: the EPOCH entry, with the full nanosecond count. -/
def State.emitEpoch (s : State) : State := s.emit Src.SC Kind.EPOCH 0 s.nowNs

/-- R368: turns of the journal, one per 2 ns, while the counter goes to `u` units. -/
def State.turnsTo (s : State) (u : Nat) : Nat := u / 2 ^ 33 - s.time.units / 2 ^ 33

/-- R75, R368: the journal takes waiting entries on the way to `u` units, in their turns. -/
def State.journalTo (s : State) (u : Nat) : State := s.takeWaiting (s.turnsTo u)

/-- R74: the counter reaches the multiple `b` of 2^30 ns: the entries that wait are taken in their turns, then EPOCH. -/
def State.crossEpoch (s : State) (b : Nat) : State :=
  let u := b * 2 ^ 30 * 2 ^ 32
  ((s.journalTo u).setUnits u).emitEpoch

/-- R74: the multiples of 2^30 ns that the counter crosses on its way to `u` units. -/
def State.epochsTo (s : State) (u : Nat) : List Nat :=
  List.range' (s.nowNs / 2 ^ 30 + 1) (u / 2 ^ 32 / 2 ^ 30 - s.nowNs / 2 ^ 30)

/-- Time passes until the counter holds `u` units; it never goes back. Every multiple of 2^30 ns that is crossed writes an
EPOCH entry at its instant (R74), and the journal takes waiting entries as time passes (R75, R368). -/
def State.advanceTo (s : State) (u : Nat) : State :=
  if u ≤ s.time.units then s
  else
    (((s.epochsTo u).foldl State.crossEpoch s).journalTo u).setClock u (s.up + (u / 2 ^ 32 - s.nowNs))

/-- Time passes until the whole nanosecond `n`. -/
def State.advanceNs (s : State) (n : Nat) : State := s.advanceTo (n * 2 ^ 32)

/-- Time passes by `n` ns. -/
def State.pass (s : State) (n : Nat) : State := s.advanceTo (s.time.units + n * 2 ^ 32)

/-- Milliseconds of the timers' clock. -/
def State.upMs (s : State) : Nat := s.up / 1000000

/-- R48: keep an increment within 2.0 ns ± 1,000 ppm, 1.998 to 2.002 ns in 32.32 form. -/
def incMin : Nat := ceilDiv (1998 * 2 ^ 32) 1000
def incMax : Nat := 2002 * 2 ^ 32 / 1000

/-- R48: load an increment; one outside the range is clamped and the clamp journalled. -/
def State.loadInc (s : State) (inc : Nat) : State :=
  let c := max incMin (min incMax inc)
  let s := { s with time := { s.time with inc := c } }
  if c = inc then { s with hearth := { s.hearth with clamped := false } }
  else { s with hearth := { s.hearth with clamped := true } }.emit Src.HEARTH Kind.CONFIG Code.INC_CLAMP (inc % 2 ^ 64)

/-! ### The tick grid (R68 to R78) -/

/-- The instant of tick `k` in units of 2^-32 ns, as the counter reaches it. -/
def Timing.tickUnits (t : Timing) (k : Nat) : Nat := ceilDiv (k * t.m * 1000000000 * 2 ^ 32) t.n

/-- The instant of tick `k` in whole ns. -/
def Timing.tickNs (t : Timing) (k : Nat) : Nat := k * t.m * 1000000000 / t.n

/-- R68: index of the last tick whose instant the counter has reached. -/
def Timing.lastIndex (t : Timing) (units : Nat) : Nat := units * t.n / (t.m * 1000000000 * 2 ^ 32)

/-- The tick period in whole ns. -/
def Timing.periodNs (t : Timing) : Nat := t.m * 1000000000 / t.n

/-- The weight of slot `j`. -/
def Timing.weight (t : Timing) (j : Nat) : Nat :=
  match j with
  | 0 => t.w0
  | 1 => t.w1
  | 2 => t.w2
  | 3 => t.w3
  | _ => 0

/-- The weights of the slots below `j`. -/
def Timing.weightBelow (t : Timing) (j : Nat) : Nat :=
  match j with
  | 0 => 0
  | 1 => t.w0
  | 2 => t.w0 + t.w1
  | 3 => t.w0 + t.w1 + t.w2
  | _ => t.w0 + t.w1 + t.w2 + t.w3

/-- R77: the instant of sub-tick `j` of tick `k`, in units. -/
def Timing.subUnits (t : Timing) (k j : Nat) : Nat :=
  ceilDiv ((k * 1000 + t.weightBelow j) * t.m * 1000000000 * 2 ^ 32) (t.n * 1000)

/-- R70: is N/M a rate the device accepts? -/
def rateOk (n m : Nat) : Bool :=
  decide (1 ≤ n) && decide (n ≤ 16777215) && decide (1 ≤ m) && decide (m ≤ 16777215) &&
    decide (24000 * m ≤ n * 1001) && decide (n ≤ 240 * m)

/-- R70: N/M in lowest terms. -/
def Timing.reduced (t : Timing) : Timing :=
  let g := Nat.gcd t.n t.m
  { t with n := t.n / g, m := t.m / g }

/-- R70, R76: the timing is legal. -/
def Timing.ok (t : Timing) : Bool :=
  rateOk t.n t.m && decide (1 ≤ t.slots) && decide (t.slots ≤ 4) && decide (t.weightBelow t.slots = 1000) &&
    (List.range 4).all fun j => if j < t.slots then decide (50 ≤ t.weight j) else decide (t.weight j = 0)

/-- The index and the instant of the next tick: the one after the last tick `k`, and during the gap of a retime tick U
(R551). -/
def State.nextTickIndex (s : State) : Nat :=
  match s.hearth.retime, s.hearth.gap with
  | some r, 1 => r.uIndex
  | _, _ => s.hearth.k + 1

def State.nextTickUnits (s : State) : Nat := s.hearth.timing.tickUnits s.nextTickIndex

def State.nextTickNs (s : State) : Nat := s.hearth.timing.tickNs s.nextTickIndex

/-- R26: the record point lies 100 µs before the next tick. -/
def State.recordPointNs (s : State) : Nat := s.nextTickNs - 100000

/-! ### Modes (R4 to R11) -/

/-- R4: the encoding of MODE. -/
def Mode.code : Mode → Nat
  | .boot => 0
  | .idle => 1
  | .live => 2
  | .hold => 3
  | .shadow => 4
  | .service => 5

/-- R413: the encoding of the role. -/
def Role.code : Role → Nat
  | .solo => 0
  | .active => 1
  | .standby => 2
  | .electing => 3

/-- R55: the encoding of the servo state. -/
def ServoState.code : ServoState → Nat
  | .free => 0
  | .acquire => 1
  | .locked => 2
  | .holdover => 3

/-- The index of a port by R366. -/
def Port.index : Port → Nat
  | .a => 0
  | .b => 1
  | .sv => 2

/-- The number of a mailbox channel. -/
def Chan.index : Chan → Nat
  | .c0 => 0
  | .c1 => 1
  | .c2 => 2
  | .c3 => 3

/-! R367: the triggers of a mode change. -/

namespace Trigger
def MODE_SET : Nat := 0
def HOLD_RULE : Nat := 1
def ROLE : Nat := 2
def TAKEOVER : Nat := 3
end Trigger

/-- The mode changes: it is journalled, flagged and time-stamped. Without a change nothing happens. -/
def State.changeMode (s : State) (m : Mode) (trigger : Nat) : State :=
  if s.mode = m then s
  else
    let old := s.mode
    let s := { s with mode := m, ctrl := { s.ctrl with prevMode := old, modeNs := s.nowNs } }
    (s.irq Irq.MODE_CHANGE).emit Src.CP Kind.CONFIG Code.MODE_CHANGE
      (old.code * 2 ^ 56 + m.code * 2 ^ 48 + trigger * 2 ^ 40)

/-- A mode change for which R367 lists no trigger: its trigger is a free value (log 11). -/
def State.changeModeOpen (s : State) (m : Mode) : State :=
  if s.mode = m then s else ({ s with draws := s.draws + 1 } : State).changeMode m (Config.freeNat s.draws % 256)

/-- The device presents frames. -/
def Mode.presenting : Mode → Bool
  | .live => true
  | .hold => true
  | _ => false

/-! ### Ports -/

def State.mac (s : State) : Port → Mac
  | .a => s.macA
  | .b => s.macB
  | .sv => s.macSv

def State.setMac (s : State) (p : Port) (m : Mac) : State :=
  match p with
  | .a => { s with macA := m }
  | .b => { s with macB := m }
  | .sv => { s with macSv := m }

/-- R450: the address of a port: the MAC base of the identity sectors, +1 for B, +2 for the service port. -/
def State.ownMac (s : State) (p : Port) : List Byte := beBytes 6 (s.nvm.macBase + p.index)

/-- Queue an own frame on a port that has link (R115, R117). -/
def State.sendOwn (s : State) (p : Port) (f : OwnFrame) : State :=
  let m := s.mac p
  if m.up then s.setMac p { m with own := m.own ++ [f] } else s

/-- R384: the port a response leaves by: its own while it has link, else the other of A and B, else none. -/
def State.responsePort (s : State) (p : Port) : Option Port :=
  if (s.mac p).up then some p
  else
    match p with
    | .a => if s.macB.up then some .b else none
    | .b => if s.macA.up then some .a else none
    | .sv => none

/-! ### Clients, slots and responses (R385 to R391) -/

/-- The client record of a channel or endpoint. -/
def State.client? (s : State) (ch : Chan) (ep : Endpoint) : Option Client :=
  match ch with
  | .c0 => some s.ctrl.ch0
  | .c1 => s.ctrl.ch1.find? fun c => decide (c.ep = ep)
  | .c2 => s.ctrl.ch2.find? fun c => decide (c.ep = ep)
  | .c3 => some s.ctrl.ch3

/-- The same, as a fresh record where there is none. -/
def State.client (s : State) (ch : Chan) (ep : Endpoint) : Client := (s.client? ch ep).getD { ep := ep }

/-- R480: "an unlocked access level" for the accessor: OPEN, OWNED, or SEALED with the REGISTERS right. -/
def State.unlocked (s : State) (by_ : Accessor) : Bool :=
  match by_ with
  | .engine => true
  | .client ch ep => decide (s.nvm.level ≠ 2) || bit (s.client ch ep).rights 1

/-- Replace the record of an endpoint in a list. -/
def replaceClient (ep : Endpoint) (c : Client) : List Client → List Client
  | [] => []
  | d :: ds => if d.ep = ep then c :: ds else d :: replaceClient ep c ds

/-- Store the client record of a channel or endpoint. -/
def State.setClient (s : State) (ch : Chan) (ep : Endpoint) (c : Client) : State :=
  match ch with
  | .c0 => { s with ctrl := { s.ctrl with ch0 := c } }
  | .c1 => { s with ctrl := { s.ctrl with ch1 := replaceClient ep c s.ctrl.ch1 } }
  | .c2 => { s with ctrl := { s.ctrl with ch2 := replaceClient ep c s.ctrl.ch2 } }
  | .c3 => { s with ctrl := { s.ctrl with ch3 := c } }

/-- R388: the slot that serves SEQ `q`. -/
def Client.slot (c : Client) (q : Word) : Option Slot :=
  match q.toNat % 4 with
  | 0 => c.s0
  | 1 => c.s1
  | 2 => c.s2
  | _ => c.s3

def Client.setSlot (c : Client) (q : Word) (v : Option Slot) : Client :=
  match q.toNat % 4 with
  | 0 => { c with s0 := v }
  | 1 => { c with s1 := v }
  | 2 => { c with s2 := v }
  | _ => { c with s3 := v }

/-- The slot that holds SEQ `q`. -/
def Client.holds (c : Client) (q : Word) : Option Slot :=
  match c.slot q with
  | some t => if t.seq = q then some t else none
  | none => none

/-- Slots whose response is not complete. -/
def Client.inFlight (c : Client) : Nat :=
  ([c.s0, c.s1, c.s2, c.s3].filter fun o =>
    match o with
    | some t => !t.done
    | none => false).length

/-- R387: the header and payload of a response. DONE_TIME of one that is neither complete nor deferred is not stated: a free
value (log 10). -/
def Client.responseBytes (c : Client) (t : Slot) : List Byte :=
  let flags := b2n (t.done && t.seen) + 2 * b2n (!c.queue.isEmpty)
  let status := if t.done then t.status else if t.deferred then 2 else 1
  let payload := if t.done then t.payload else []
  beBytes 2 status ++ beBytes 2 t.opcode ++ beBytes 4 t.seq.toNat ++ beBytes 2 flags ++ beBytes 2 payload.length ++
    beBytes 4 (if t.done || t.deferred then t.doneTime else Config.undefinedWord 12 t.seq.toNat).toNat ++ payload

/-- R432: the header of the next mirror frame. -/
def State.mirrorHeader (s : State) (type len : Nat) : List Byte :=
  beBytes 2 0x4D52 ++ beBytes 1 type ++ [0] ++ beBytes 4 s.hearth.k ++ beBytes 4 s.red.mirrorSeq ++ beBytes 2 len ++ [0, 0]

/-- R431, R432: a frame on the mirror link, while it is up. -/
def State.sendMirror (s : State) (type : Nat) (p : MirrorPayload) : State :=
  if s.red.mirrorUp then
    { s with red := { s.red with
        mirrorSent := ⟨type, s.mirrorHeader type p.len, p⟩ :: s.red.mirrorSent, mirrorSeq := (s.red.mirrorSeq + 1) % 2 ^ 32 } }
  else s

/-- R431: the bytes of a frame on the wire, with the CRC-32C over header and payload at its end. -/
def mirrorWire (header payload : List Byte) : List Byte := header ++ payload ++ beBytes 4 (crc32c (header ++ payload))

/-- R384, R431: send a response message to a network endpoint or over the mirror link; channel 0 responses stay in their
slots. -/
def State.sendMessage (s : State) (ch : Chan) (ep : Endpoint) (bytes : List Byte) : State :=
  match ch with
  | .c0 => s
  | .c3 => s.sendMirror 5 (.bytes bytes)
  | _ =>
    match s.responsePort (s.client ch ep).port with
    | some p => s.sendOwn p { kind := .udp, cls0 := true, dst := ep.addr, sport := 47811, dport := ep.udp, payload := bytes }
    | none => s

/-- R390: send the slot that holds `q`, and remember that the host has had a copy of a complete response. -/
def State.sendSlot (s : State) (ch : Chan) (ep : Endpoint) (q : Word) : State :=
  let c := s.client ch ep
  match c.holds q with
  | some t =>
    let s := s.sendMessage ch ep (c.responseBytes t)
    if t.done ∧ ch ≠ .c0 then s.setClient ch ep (c.setSlot q (some { t with seen := true })) else s
  | none => s

/-- A response completes in its slot, with its status, payload and DONE_TIME, and is sent or flagged (R379, R387, R390).
A slot that is no longer held takes nothing. -/
def State.complete (s : State) (ch : Chan) (ep : Endpoint) (q : Word) (status : Nat) (payload : List Byte) : State :=
  let c := s.client ch ep
  match c.holds q with
  | some t =>
    if t.done then s
    else
      let t := { t with status := status, done := true, deferred := false, payload := payload, doneTime := s.short }
      let s := s.setClient ch ep (c.setSlot q (some t))
      if ch = .c0 then s.irq Irq.MBX_DONE else s.sendSlot ch ep q
  | none => s

/-- R396: the lease restarts at full length. -/
def State.restartLease (s : State) (h : Nat) : State :=
  { s with ctrl := { s.ctrl with sessions := s.ctrl.sessions.map fun x =>
      if x.handle = h then { x with until_ := s.up + x.lease * 1000000000 } else x } }

/-- Complete every waiting response that `f` gives a status and payload, and forget it. -/
def State.completeWaiting (s : State) (f : Waiting → Option (Nat × List Byte)) : State :=
  let rest := s.ctrl.waiting.filter fun w => (f w).isNone
  s.ctrl.waiting.foldl
    (fun s w =>
      match f w with
      | some (st, p) => (s.complete w.chan w.ep w.seq st p).restartLease w.client
      | none => s)
    { s with ctrl := { s.ctrl with waiting := rest } }

/-! R398: the status codes. -/

namespace Status
def OK : Nat := 0x0000
def PENDING : Nat := 0x0001
def DEFERRED : Nat := 0x0002
def BAD_OPCODE : Nat := 0x0100
def BAD_LENGTH : Nat := 0x0101
def BAD_PARAM : Nat := 0x0102
def UNSUPPORTED_VERSION : Nat := 0x0103
def DENIED_MODE : Nat := 0x0200
def DENIED_LOCK : Nat := 0x0201
def DENIED_ACCESS : Nat := 0x0202
def BUSY : Nat := 0x0300
def BUSY_SELFTEST : Nat := 0x0301
def NO_RESOURCE : Nat := 0x0302
def CHECK_FAILED : Nat := 0x0400
def SIGNATURE_FAILED : Nat := 0x0401
def VERSION_LOWER : Nat := 0x0402
def VERSION_CONFLICT : Nat := 0x0403
def MARK_LOST : Nat := 0x0500
def BUFFER_IN_USE : Nat := 0x0501
def CAPACITY_EXCEEDED : Nat := 0x0502
def CANCELLED : Nat := 0x0600
def TIMEOUT : Nat := 0x0601
def ABORTED : Nat := 0x0602
def INTERNAL : Nat := 0x0700
end Status

/-- Time passes until the timers' clock reads `due` ns: a timer runs out no earlier than its time (log 3). -/
def State.reach (s : State) (due : Nat) : State := if s.up < due then s.pass (due - s.up) else s

/-! ### Staged changes (R27) -/

/-- Stage a change for the tick that follows the next record point; its number names it. -/
def State.stage (s : State) (c : Change) : State :=
  { s with ctrl := { s.ctrl with
      staged := s.ctrl.staged ++ [⟨s.ctrl.stagedId, false, c⟩], stagedId := s.ctrl.stagedId + 1 } }

/-! ### Strands, banks and drivers -/

def State.strand (s : State) (n : Nat) : Strand := SMap.get (fun _ => {}) s.strands n

def State.setStrand (s : State) (n : Nat) (t : Strand) : State :=
  { s with strands := SMap.set (fun _ => {}) s.strands n t }

def State.bank (s : State) (b : Nat) : Bank := SMap.get (fun _ => {}) s.banks b

def State.setBank (s : State) (b : Nat) (k : Bank) : State := { s with banks := SMap.set (fun _ => {}) s.banks b k }

/-- R298: the fields of STRANDn_CFG. -/
def State.strandCfg (s : State) (n : Nat) : List Byte := s.paramBytes (P.STRAND_CFG n)
def State.coder (s : State) (n : Nat) : Nat := byteAt (s.strandCfg n) 0
def State.rateCode (s : State) (n : Nat) : Nat := byteAt (s.strandCfg n) 1
def State.hActive (s : State) (n : Nat) : Nat := byteAt (s.strandCfg n) 2
def State.hBp (s : State) (n : Nat) : Nat := byteAt (s.strandCfg n) 3
def State.hFp (s : State) (n : Nat) : Nat := byteAt (s.strandCfg n) 4
def State.vActive (s : State) (n : Nat) : Nat := field (s.strandCfg n) 6 2
def State.vFp (s : State) (n : Nat) : Nat := field (s.strandCfg n) 8 4
def State.vSync (s : State) (n : Nat) : Nat := field (s.strandCfg n) 12 2
def State.vBp (s : State) (n : Nat) : Nat := field (s.strandCfg n) 14 2
def State.lineMatch (s : State) (n : Nat) : Nat := field (s.strandCfg n) 16 2

/-! R298: the coders. -/

namespace Coder
def OFF : Nat := 0
def NSP : Nat := 1
def LEGACY8 : Nat := 2
def LEGACY16 : Nat := 3
def DMX : Nat := 4
end Coder

def State.isNsp (s : State) (n : Nat) : Bool := decide (s.coder n = Coder.NSP)
def State.isLegacy (s : State) (n : Nat) : Bool :=
  decide (s.coder n = Coder.LEGACY8) || decide (s.coder n = Coder.LEGACY16)

/-- R258: bits per second of a rate code. -/
def rateBps (code : Nat) : Nat :=
  match code with
  | 0 => 250000000
  | 1 => 200000000
  | 2 => 125000000
  | 3 => 100000000
  | 4 => 50000000
  | 5 => 25000000
  | 6 => 800000
  | _ => 400000

/-- The rate a strand runs at: ENUM_RATE during enumeration (R281), 250 kbit/s for DMX (R258). -/
def State.strandBps (s : State) (n : Nat) : Nat :=
  if s.coder n = Coder.DMX then 250000
  else if (s.strand n).enumerating then rateBps (s.param P.ENUM_RATE)
  else rateBps (s.rateCode n)

/-- The strands 0 to 127. -/
def allStrands : List Nat := List.range 128

/-- Change every strand. -/
def State.mapStrands (s : State) (f : State → Nat → Strand → Strand) : State :=
  allStrands.foldl (fun t n => t.setStrand n (f s n (t.strand n))) s

/-- The enumerated driver `d` of a strand. -/
def Strand.driver? (t : Strand) (d : Nat) : Option Driver := t.drivers[d]?

/-- Change one driver of a strand. -/
def Strand.setDriver (t : Strand) (d : Nat) (v : Driver) : Strand := { t with drivers := t.drivers.set d v }

/-- R280: fields of ENUM payload words 1 and 2. -/
def Driver.version (d : Driver) : Nat := bits d.word1.toNat 15 12
def Driver.v2 (d : Driver) : Bool := decide (2 ≤ d.version)

/-- Number of a zone or driver: strand × 512 + driver. -/
def zoneKey (strand driver : Nat) : Nat := strand * 512 + driver

/-! ### Streams -/

/-- R139: the fields of STREAMn. -/
def State.streamCfg (s : State) (i : Nat) : List Byte := s.paramBytes (P.STREAM i)
/-- R165: the fields of SACN_MAPm. -/
def State.mapCfg (s : State) (m : Nat) : List Byte := s.paramBytes (P.SACN_MAP m)

/-- R139: the entry is enabled. -/
def State.streamEnabled (s : State) (i : Nat) : Bool := bit (byteAt (s.streamCfg i) 2) 0
def streamSlot (cfg : List Byte) : Nat := byteAt cfg 3 / 16
def streamLayer (cfg : List Byte) : Nat := byteAt cfg 3 % 16
def State.stream (s : State) (i : Nat) : Stream := SMap.get (fun _ => {}) s.fs.streams i
def State.setStream (s : State) (i : Nat) (t : Stream) : State :=
  { s with fs := { s.fs with streams := SMap.set (fun _ => {}) s.fs.streams i t } }

/-! ### DRAM requests (R355 to R360) -/

def State.channelArb (s : State) (c : Nat) : ArbChannel := if c = 0 then s.arb.ch0 else s.arb.ch1

def State.setChannelArb (s : State) (c : Nat) (a : ArbChannel) : State :=
  if c = 0 then { s with arb := { s.arb with ch0 := a } } else { s with arb := { s.arb with ch1 := a } }

def State.channelPopulated (s : State) (c : Nat) : Bool := if c = 0 then s.arb.pop0 else s.arb.pop1

/-- R355: the arbiter cycle of a channel: the data rate divided by 16. -/
def State.arbCycle (s : State) (a : ArbChannel) : Nat := max a.cycle (s.up * s.arb.rate / 16000)

/-- R356: a request of class `cls` on one channel. -/
def State.issueOn (s : State) (cls c : Nat) : State :=
  if s.channelPopulated c then
    let a := s.channelArb c
    s.setChannelArb c { a with waiting := a.waiting ++ [(cls, s.arbCycle a)] }
  else s

/-- R355, R356: the DRAM traffic of one step of the device: one request on each populated channel (log 23). -/
def State.issue (s : State) (cls : Nat) : State := (s.issueOn cls 0).issueOn cls 1

/-! ### Self-test -/

/-- R507: a test of this block runs. -/
def State.testing (s : State) (target index : Nat) : Bool :=
  s.bist.tests.any fun t => t.running && decide (t.target = target) && decide (t.index = index)

/-! ### Locks (R345 to R347) -/

def State.lock (s : State) (n : Nat) : Lock := SMap.get (fun _ => {}) s.sched.locks n
def State.setLock (s : State) (n : Nat) (l : Lock) : State :=
  { s with sched := { s.sched with locks := SMap.set (fun _ => {}) s.sched.locks n l } }

def State.task (s : State) (n : Nat) : Task := SMap.get (fun _ => {}) s.sched.tasks n
def State.setTask (s : State) (n : Nat) (t : Task) : State :=
  { s with sched := { s.sched with tasks := SMap.set (fun _ => {}) s.sched.tasks n t } }
def State.engine (s : State) (n : Nat) : Engine := SMap.get (fun _ => {}) s.sched.engines n
def State.setEngine (s : State) (n : Nat) (e : Engine) : State :=
  { s with sched := { s.sched with engines := SMap.set (fun _ => {}) s.sched.engines n e } }

end Sys2Proof.Machine
end

