-- ==== Sys2Proof/Machine/Hearth.lean ====
section
/-! DEFINITION. The tick and time domain: the counter's registers, PTP, the servo, domains, PPS and TICK_OD
(02_hearth_time_and_tick.md). What happens at a tick stands in Tick.lean. -/

namespace Sys2Proof.Machine

/-! ### Retime (R82 to R88, R551) -/

/-- R82: the first tick of the grid `t` at or after `ns`. -/
def Timing.firstAtOrAfter (t : Timing) (ns : Nat) : Nat := ceilDiv (ns * t.n) (t.m * 1000000000)

/-- R82: the first tick of the grid `t` that lies more than 1 µs after `units`. -/
def Timing.firstPast (t : Timing) (units : Nat) : Nat := t.lastIndex (units + 1000 * 2 ^ 32) + 1

/-- R82: the retime to `t` whose tick T is tick `k` of the grid in force. -/
def State.retimeAt (s : State) (t : Timing) (k : Nat) : Retime :=
  let u := t.firstPast (s.hearth.timing.tickUnits k)
  { tIndex := k, tNs := s.hearth.timing.tickNs k, uIndex := u, uNs := t.tickNs u, timing := t }

/-- R551: the live set holds the timing of the retime from tick T. -/
def State.setTimingParams (s : State) (t : Timing) : State :=
  ((((((s.setParamN P.TICK_RATE_N t.n).setParamN P.TICK_RATE_M t.m).setParamN P.SLOT_COUNT t.slots).setParamN
    (P.SLOT_WEIGHT 0) t.w0).setParamN (P.SLOT_WEIGHT 1) t.w1).setParamN (P.SLOT_WEIGHT 2) t.w2).setParamN
    (P.SLOT_WEIGHT 3) t.w3

/-- The old grid ends: tick T of the pending retime, or a step past it (R83, R88, R551). -/
def State.endOldGrid (s : State) (r : Retime) : State :=
  let s := s.setTimingParams r.timing
  { s with hearth := { s.hearth with
      timing := r.timing, retime := some r, gap := 1, lastRetimeNs := r.tNs, lastTickNs := r.tNs } }

/-! ### Steps (R53, R54, R88) -/

/-- R88: the counter has reached tick T of the pending retime. -/
def State.reachedT (s : State) (r : Retime) : Bool := decide (s.hearth.timing.tickUnits r.tIndex ≤ s.time.units)

/-- After a step: a retime's tick T that the step reached or passed falls at the new time (`settleStep` runs it), and a grid
that the step passed resumes at the first tick after it; a tick already generated is not repeated (log 15). -/
def State.resumeGrid (s : State) : State :=
  let h := s.hearth
  match h.retime, h.gap with
  | some r, 0 =>
    if s.reachedT r then
      let u := r.timing.firstPast s.time.units
      { s with hearth := { h with
          k := r.tIndex - 1, retime := some { r with tNs := s.nowNs, uIndex := u, uNs := r.timing.tickNs u } } }
    else { s with hearth := { h with k := max h.k (h.timing.lastIndex s.time.units) } }
  | some r, 1 =>
    let u := max r.uIndex (h.timing.lastIndex s.time.units + 1)
    { s with hearth := { h with retime := some { r with uIndex := u, uNs := h.timing.tickNs u } } }
  | _, _ => { s with hearth := { h with k := max h.k (h.timing.lastIndex s.time.units) } }

/-- R54: the counter steps to `units`: STEP with the time before, then EPOCH, with no other entry between them. Entries that
still wait are taken before the step, so that their short times stay near the time of writing (R75; log 13). The STEP bit
of HEARTH_EVENTS is set; the happening is journalled as STEP, not as EVENT (R365). -/
def State.stepTo (s : State) (units : Nat) : State :=
  let s := s.takeWaiting s.jWaiting
  let old := s.nowNs
  let s := (s.setUnits units).setEv Ev.STEP
  (s.jAcceptPair ⟨s.short, Src.HEARTH, Kind.STEP, 0, old⟩ ⟨s.short, Src.SC, Kind.EPOCH, 0, s.nowNs⟩).resumeGrid

/-! ### The servo (R48, R52 to R58) -/

/-- R52: the bias limit of SLEW_LIMIT ppm of the 2 ns cycle, in units of 2^-32 ns. -/
def State.slewLimit (s : State) : Nat := bits (s.regN Reg.SLEW_LIMIT) 8 0 * 2 ^ 33 / 1000000

def State.servoEn (s : State) : Bool := bit (s.regN Reg.TIME_CTRL) 0
def State.stepEn (s : State) : Bool := bit (s.regN Reg.TIME_CTRL) 1

/-- R48: an increment within its bounds. -/
def clampInc (inc : Nat) : Nat := max incMin (min incMax inc)

/-- R48: load base increment and bias: their sum is clamped, and the clamp journalled, where it lies outside the range. -/
def State.setServoInc (s : State) (base : Nat) (bias : Int) : State :=
  let s := { s with hearth := { s.hearth with
      baseInc := clampInc base, bias := bias, slewing := decide (bias.natAbs = s.slewLimit) } }
  s.loadInc ((base : Int) + bias).toNat

/-- R52: the increment that the proportional-integral filter gives for an offset (log 14). -/
def State.filtered (s : State) (offset : Int) : Nat :=
  Config.piIncrement (bits (s.regN Reg.SERVO_GAIN) 15 0) (bits (s.regN Reg.SERVO_GAIN) 31 16) s.hearth.baseInc offset

/-- R52, R53: the filter updates the increment, and the phase error is removed by slewing. A positive offset means that the
counter is ahead: the bias slows it, by at most the slew limit, and by the limit itself beyond 1 ms. -/
def State.slewBy (s : State) (offset : Int) : State :=
  let lim : Int := s.slewLimit
  let ask := Config.piBias (bits (s.regN Reg.SERVO_GAIN) 15 0) (bits (s.regN Reg.SERVO_GAIN) 31 16) offset
  s.setServoInc (s.filtered offset)
    (if offset.natAbs ≤ 1000000 then clampInt (-lim) lim ask else if 0 < offset then -lim else lim)

/-- R53: may a step happen in this mode? -/
def Mode.maySteps : Mode → Bool
  | .boot => true
  | .idle => true
  | .service => true
  | _ => false

/-- R55: while no source delivers time, the counter runs on the last filtered increment. -/
def State.holdBase (s : State) : State := if s.servoEn then s.setServoInc s.hearth.baseInc 0 else s

/-- STATE enters LOCKED (R56). -/
def State.servoLock (s : State) : State :=
  if s.hearth.servo = .locked then s
  else ({ s with hearth := { s.hearth with servo := .locked, everLocked := true, bad := 0, bothLost := false } }.irq Irq.LOCK_CHANGE).raise
    Ev.TIME_LOCKED

/-- STATE leaves LOCKED (R55, R56, R58): to HOLDOVER; a servo that was never locked goes back to FREE. -/
def State.servoUnlock (s : State) : State :=
  if s.hearth.servo = .locked then
    ({ s with hearth := { s.hearth with servo := .holdover, good := 0 } }.irq Irq.LOCK_CHANGE).raise Ev.TIME_UNLOCKED
  else { s with hearth := { s.hearth with servo := if s.hearth.everLocked then .holdover else .free, good := 0 } }

/-- R55, R56: the lock criteria at one measurement. -/
def State.servoCriteria (s : State) (offset : Int) : State :=
  let h := s.hearth
  let good := if offset.natAbs ≤ s.param P.LOCK_THRESHOLD then h.good + 1 else 0
  let bad := if s.param P.UNLOCK_THRESHOLD < offset.natAbs then h.bad + 1 else 0
  let servo := if h.servo = .free then .acquire else h.servo
  let s := { s with hearth := { h with good := good, bad := bad, servo := servo } }
  if servo = .locked then (if 4 ≤ bad then s.servoUnlock else s)
  else if 16 ≤ good then s.servoLock
  else s

/-- R52, R53, R56: one measurement of the disciplining source. With SERVO_EN = 0 the increment is held. A step removes the
whole phase error, so no bias is left beside the filtered increment (log 14). -/
def State.servoMeasure (s : State) (offset : Int) (mayStep : Bool) : State :=
  let s := { s with hearth := { s.hearth with offset := offset } }
  let s :=
    if s.servoEn then
      if 1000000 < offset.natAbs ∧ mayStep ∧ s.mode.maySteps ∧ s.stepEn then
        (s.setServoInc (s.filtered offset) 0).stepTo ((s.time.units : Int) - offset * 2 ^ 32).toNat
      else s.slewBy offset
    else s
  s.servoCriteria offset

/-! ### Domains (R59 to R67) -/

/-- DOM0 is DOMAIN_PRIMARY, DOM1 is DOMAIN_SECONDARY. -/
def State.dom (s : State) (second : Bool) : Domain := if second then s.hearth.dom1 else s.hearth.dom0

def State.setDom (s : State) (second : Bool) (d : Domain) : State :=
  if second then { s with hearth := { s.hearth with dom1 := d } } else { s with hearth := { s.hearth with dom0 := d } }

def domIndex (second : Bool) : Nat := b2n second

def State.domCfg (s : State) (second : Bool) : Nat := s.regN (Reg.DOM_CFG (domIndex second))
def State.domNumber (s : State) (second : Bool) : Nat := bits (s.domCfg second) 7 0
def State.domEnabled (s : State) (second : Bool) : Bool := bit (s.domCfg second) 15
def State.domPortSel (s : State) (second : Bool) : Nat := bits (s.domCfg second) 9 8
def State.domP2p (s : State) (second : Bool) : Bool := bit (s.domCfg second) 10

/-- The tracked domain that carries a domain number. -/
def State.domOf (s : State) (number : Nat) : Option Bool :=
  if s.domEnabled false ∧ s.domNumber false = number then some false
  else if s.domEnabled true ∧ s.domNumber true = number then some true
  else none

/-- R60: the path of a domain through port A or B. -/
def Domain.path (d : Domain) : Port → PortPath
  | .a => d.pathA
  | .b => d.pathB
  | .sv => {}

def Domain.setPath (d : Domain) (p : Port) (x : PortPath) : Domain :=
  match p with
  | .a => { d with pathA := x }
  | .b => { d with pathB := x }
  | .sv => d

/-- R60: the mean path delay of the domain on a port; a port without a measurement of its own takes the domain's last. -/
def Domain.mpdOn (d : Domain) (p : Port) : Int := ((d.path p).mpd).getD d.mpd

/-- R59: the Sync interval, 2^logSyncInterval s, in ns. -/
def Domain.intervalNs (d : Domain) : Nat := 1000000000 * 2 ^ (d.logSync + 7).toNat / 128

/-- SYNC_AGE: whole Sync intervals since the last Sync; 255 while there was none. -/
def Domain.age (d : Domain) (up : Nat) : Nat := max d.syncAge ((up - d.syncUp) / max 1 d.intervalNs)

/-- Does the domain deliver Sync? -/
def Domain.delivers (d : Domain) : Bool := decide (d.st = .acquire) || decide (d.st = .locked)

/-- R366: the reasons of DOMAIN_SWITCH. -/
def State.domainSwitchEvent (s : State) (second : Bool) (reason : Nat) : State :=
  s.raiseWith Ev.DOMAIN_SWITCH (domIndex second) (reason * 2 ^ 48 + s.domNumber second * 2 ^ 40)

/-- R64: the active domain becomes `second`; the servo takes its offset as its own and slews; no step. -/
def State.switchDomain (s : State) (second : Bool) (reason : Nat) : State :=
  let off := -(s.dom second).offset
  let s := { s with hearth := { s.hearth with secondActive := second, sourcePps := false, bothLost := false, offset := off, good := 0, bad := 0 } }
  let s := if s.servoEn then s.slewBy off else s
  s.domainSwitchEvent second reason

/-- R366: DOMAIN_SELECT that waits for this domain's Sync takes effect (R66). -/
def State.domainSelected (s : State) (second : Bool) : State :=
  if s.ctrl.waiting.any fun w => decide (w.why = .domain second) then
    let s := if s.hearth.secondActive = second then s else s.switchDomain second 2
    s.completeWaiting fun w => if w.why = .domain second then some (Status.OK, []) else none
  else s

/-- R62: the domain's own measurement: offset and rate against the counter, and its lock state by the criterion of R56.
For the domain that disciplines the counter the criterion judges the offset; for the other one the distance from its
virtual clock (log 16). -/
def Domain.measure (d : Domain) (lockThr unlockThr : Nat) (active : Bool) (offset : Int) (m : SyncMsg) (port : Port) : Domain :=
  let first := decide (d.lastT2 = 0)
  let dt1 : Int := (m.t1 : Int) - d.lastT1
  let dt2 : Int := (m.t2 : Int) - d.lastT2
  let rate := if first ∨ dt2 ≤ 0 then 0 else Int.fdiv ((dt1 - dt2) * 2 ^ 32) dt2
  let predicted := d.offset + Int.fdiv (d.rate * dt2) (2 ^ 32)
  let err := if active then offset else if first then 0 else (-offset) - predicted
  let good := if err.natAbs ≤ lockThr then d.good + 1 else 0
  let bad := if unlockThr < err.natAbs then d.bad + 1 else 0
  let st := if d.st = .locked then (if 4 ≤ bad then .acquire else .locked) else if 16 ≤ good then .locked else .acquire
  { d with
    st := st, port := some port, syncAge := 0, logSync := m.logInterval, offset := -offset, rate := rate,
    transport := m.transport, good := good, bad := bad, lastT1 := m.t1, lastT2 := m.t2 }

/-- PTP_PORT_SEL lets the domain use the port; the service port carries no PTP (R96). -/
def State.domMayUse (s : State) (second : Bool) : Port → Bool
  | .a => decide (s.domPortSel second ≤ 1)
  | .b => decide (s.domPortSel second = 0) || decide (s.domPortSel second = 2)
  | .sv => false

/-- R60: does a Sync on port `p` discipline the domain, and does the domain move to `p` with it? Under AUTO it uses the port
with the smaller mean path delay, and port A on a tie, once both are measured. -/
def State.portMove (s : State) (second : Bool) (p : Port) : Bool × Bool :=
  let d := s.dom second
  if s.domMayUse second p = false then (false, false)
  else
    match s.domPortSel second, d.port with
    | 0, some q =>
      if p = q then (true, false)
      else
        match d.pathA.mpd, d.pathB.mpd with
        | some a, some b =>
          let better := if p = .a then decide (a ≤ b) else decide (b < a)
          (better, better)
        | _, _ => (false, false)
    | _, _ => (true, false)

/-- The path asymmetry of a port (R59). -/
def State.asymmetry (s : State) : Port → Int
  | .a => s.paramI P.PTP_ASYMMETRY_A
  | .b => s.paramI P.PTP_ASYMMETRY_B
  | .sv => 0

/-- The offset of a complete Sync: (t2 − t1) − mean path delay − correction − asymmetry. -/
def State.syncOffset (s : State) (second : Bool) (m : SyncMsg) : Int :=
  (m.t2 : Int) - m.t1 - (s.dom second).mpdOn m.port - Int.fdiv m.corr 65536 - s.asymmetry m.port

/-- R52, R62 to R67, R94: a complete Sync of a tracked domain on its port. A domain that reaches LOCKED takes over from
PPS_IN, and after the loss of both the first one becomes active; a Sync at which a switch takes effect never steps (R64).
Log 117: a domain that reaches LOCKED while the active one delivers no Sync, although R63's Sync-loss trigger came when it
was not yet LOCKED, also becomes active, with reason 0. -/
def State.takeSync (s : State) (second : Bool) (m : SyncMsg) (moved : Bool) : State :=
  let off := s.syncOffset second m
  let disciplines := decide (s.hearth.secondActive = second) && !s.hearth.sourcePps
  let d := (s.dom second).measure (s.param P.LOCK_THRESHOLD) (s.param P.UNLOCK_THRESHOLD) disciplines off m m.port
  let other := s.dom (!second)
  let s := s.setDom second { d with syncUp := s.up, mpd := (s.dom second).mpdOn m.port }
  let s := if s.hearth.sourcePps ∧ d.st = .locked then s.switchDomain second 3 else s
  let s := s.domainSelected second
  if s.hearth.sourcePps then s
  else if s.hearth.secondActive = second then s.servoMeasure off (!moved && disciplines)
  else if d.st = .locked ∧ s.hearth.servo ≠ .locked ∧ (s.hearth.bothLost ∨ !other.delivers) then s.switchDomain second 0
  else s

/-- R59, R60: a complete Sync of the selected grandmaster: its path is measured on whichever port it came, and on the
domain's port it is taken. -/
def State.completeSync (s : State) (second : Bool) (m : SyncMsg) : State :=
  let mv := s.portMove second m.port
  let d := s.dom second
  let s := s.setDom second (d.setPath m.port
    { d.path m.port with t2mt1 := some ((m.t2 : Int) - m.t1 - Int.fdiv m.corr 65536), twoStep := none })
  if mv.1 then s.takeSync second m mv.2 else s

/-- The instant of a received message is not before the counter's. -/
def State.ptpReady (s : State) : Bool := !s.sys.inReset

/-- The clock identity of the device: the port A address in EUI-64 form (log 118). -/
def State.clockIdentity (s : State) : List Byte :=
  let a := s.ownMac .a
  a.take 3 ++ [0xFF, 0xFE] ++ a.drop 3

/-- R59: the header of a PTP message by IEEE 1588 (log 118): type, length, domain, correction, source port and sequence. -/
def State.ptpHeader (s : State) (p : Port) (type len domain : Nat) (corr : Int) (seq : Nat) : List Byte :=
  beBytes 1 type ++ [0x12] ++ beBytes 2 len ++ beBytes 1 domain ++ [0, 0, 0] ++ beBytes 8 (satSigned 64 corr) ++
    [0, 0, 0, 0] ++ s.clockIdentity ++ beBytes 2 (p.index + 1) ++ beBytes 2 seq ++ beBytes 1 (if type = 1 then 1 else 5) ++ [0x7F]

/-- R104: the PTP multicast address of a transport, or its peer-delay address, as MAC address and IP address (log 118 for the
scope of the IPv6 ones). -/
def ptpDst (t : PtpTransport) (peer : Bool) : List Byte × List Byte :=
  match t, peer with
  | .ethernet, false => ([0x01, 0x1B, 0x19, 0, 0, 0], [])
  | .ethernet, true => ([0x01, 0x80, 0xC2, 0, 0, 0x0E], [])
  | .udp4, false => ([0x01, 0, 0x5E, 0, 0x01, 0x81], List.replicate 10 0 ++ [0xFF, 0xFF, 224, 0, 1, 129])
  | .udp4, true => ([0x01, 0, 0x5E, 0, 0, 0x6B], List.replicate 10 0 ++ [0xFF, 0xFF, 224, 0, 0, 107])
  | .udp6, false => ([0x33, 0x33, 0, 0, 0x01, 0x81], [0xFF, 0x0E] ++ List.replicate 12 0 ++ [0x01, 0x81])
  | .udp6, true => ([0x33, 0x33, 0, 0, 0, 0x6B], [0xFF, 0x02] ++ List.replicate 13 0 ++ [0x6B])

/-- A PTP event frame of the device's own: class 0 (R115), EtherType 0x88F7 or UDP port 319 by the transport. -/
def ptpFrame (t : PtpTransport) (peer : Bool) (payload : List Byte) : OwnFrame :=
  { kind := .ptp, cls0 := true, dst := (ptpDst t peer).2, sport := 319, dport := 319, payload := payload, mac := some (ptpDst t peer).1 }

/-- R59: the Delay_Req of a domain, or under P2P its Pdelay_Req, as it leaves by port `p`. -/
def State.delayRequest (s : State) (second : Bool) (p : Port) : OwnFrame :=
  let d := s.dom second
  let n := s.domNumber second
  if s.domP2p second then
    ptpFrame d.transport true (s.ptpHeader p 2 54 n 0 d.delaySeq ++ List.replicate 20 0)
  else ptpFrame d.transport false (s.ptpHeader p 1 44 n 0 d.delaySeq ++ List.replicate 10 0)

/-- DELAY_REQ_SEND: R59, R60: a Delay_Req leaves at t3 on a port that carries the Syncs of the domain's grandmaster, and
under P2P a Pdelay_Req on a port that the domain may use. -/
def execDelayReqSend (second : Bool) (t3 : PortTime) (s : State) : Host.Outcome State Fault Refusal :=
  let d := s.dom second
  let p := t3.port
  if s.ptpReady ∧ s.domEnabled second ∧ s.domMayUse second p ∧ (s.domP2p second ∨ (d.path p).t2mt1.isSome) ∧ (s.mac p).up then
    .next ((s.sendOwn p (s.delayRequest second p)).setDom second
      { (d.setPath p { d.path p with req := some (d.delaySeq, t3.ns) }) with delaySeq := (d.delaySeq + 1) % 65536 })
  else .next s

/-- R59: the mean path delay that a response gives: half of ((t2 − t1) + (t4 − t3)) end to end; under P2P half of the time
from t3, when the request left, to t4, when its response came, less the corrections, in which the peer's turnaround lies
(R124). -/
def pathDelay (p2p : Bool) (x : PortPath) (t3 t4 : Nat) (corr : Int) : Option Int :=
  let back := (t4 : Int) - t3 - Int.fdiv corr 65536
  if p2p then some (Int.fdiv back 2) else x.t2mt1.map fun f => Int.fdiv (f + back) 2

/-- DELAY_RESP: R59: the Delay_Resp, or under P2P the Pdelay_Resp, of the outstanding request on the port. For a Pdelay_Resp
t4 is the time at which it came, and the correction holds the turnaround of a two-step peer as well. -/
def execDelayResp (domain seq : Nat) (t4 : PortTime) (corr : Int) (s : State) : Host.Outcome State Fault Refusal :=
  let p := t4.port
  match s.domOf domain with
  | none => .next s
  | some second =>
    let d := s.dom second
    let x := d.path p
    match x.req with
    | some (q, t3) =>
      if s.ptpReady ∧ q = seq then
        let mpd := (pathDelay (s.domP2p second) x t3 t4.ns corr).or x.mpd
        let d := d.setPath p { x with req := none, mpd := mpd }
        .next (s.setDom second (if d.port = some p then { d with mpd := mpd.getD d.mpd } else d))
      else .next s
    | none => .next s

/-! ### Best master clock (R59, R63) -/

/-- Order of two ranks, compared field by field; smaller is better. -/
def rankLt : List Nat → List Nat → Bool
  | a :: as, b :: bs => if a = b then rankLt as bs else decide (a < b)
  | _, _ => false

/-- The rank of an Announce, in the order of IEEE 1588: priority1, class, accuracy, variance, priority2, identity, steps
removed (log 17). -/
def AnnounceMsg.rank (m : Sys2Proof.AnnounceMsg) : List Nat :=
  [m.priority1, m.clockClass, m.accuracy, m.variance, m.priority2, m.gm, m.steps]

def bestMaster : List Foreign → Option Foreign
  | [] => none
  | f :: fs =>
    match bestMaster fs with
    | some g => if rankLt g.rank f.rank then some g else some f
    | none => some f

/-- What is known of a path when another grandmaster is selected: nothing that concerns the old one. -/
def PortPath.newMaster (x : PortPath) : PortPath := { x with t2mt1 := none, req := none, twoStep := none }

/-- R63: the grandmaster of a domain is selected afresh. An identity other than the one selected last raises GM_CHANGE and counts; on the active domain
it switches when the other domain is LOCKED, and otherwise the device follows the new grandmaster. -/
def State.selectMaster (s : State) (second : Bool) : State :=
  let d := s.dom second
  match bestMaster d.masters with
  | none => s.setDom second { d with gm := 0, good := 0, pathA := d.pathA.newMaster, pathB := d.pathB.newMaster }
  | some f =>
    if f.gm = d.gmLast then s.setDom second { d with gm := f.gm, ptpScale := f.ptpScale }
    else
      let a := Reg.DOM_STATUS (domIndex second)
      let n := s.regN a
      let s := s.setRegN a (n % 2 ^ 24 + min 255 (n / 2 ^ 24 + 1) * 2 ^ 24)
      let s := s.setDom second
        { d with
          gm := f.gm, gmLast := f.gm, ptpScale := f.ptpScale, good := 0, bad := 0, lastT1 := 0, lastT2 := 0
          pathA := d.pathA.newMaster, pathB := d.pathB.newMaster
          port := if s.domPortSel second = 0 then none else d.port }
      let s := s.raiseAt Ev.GM_CHANGE (domIndex second)
      if s.hearth.secondActive = second ∧ !s.hearth.sourcePps ∧ (s.dom (!second)).st = .locked then
        s.switchDomain (!second) 1
      else s

/-- ANNOUNCE: R59, R63. -/
def execAnnounce (m : AnnounceMsg) (s : State) : Host.Outcome State Fault Refusal :=
  match s.domOf m.domain with
  | none => .next s
  | some second =>
    if s.ptpReady = false ∨ m.port = .sv then .next s
    else
      let d := s.dom second
      let f : Foreign := ⟨m.gm, m.port, AnnounceMsg.rank m, m.ptpScale⟩
      let masters := (d.masters.filter fun g => !(g.gm = m.gm ∧ g.port = m.port)) ++ [f]
      .next ((s.setDom second { d with masters := masters, announceAge := 0 }).selectMaster second)

/-- ANNOUNCE_RECEIPT_TIMEOUT: R59: the selected grandmaster is dropped from the selection. -/
def execAnnounceReceiptTimeout (second : Bool) (s : State) : Host.Outcome State Fault Refusal :=
  let d := s.dom second
  .next ((s.setDom second { d with masters := d.masters.filter (fun g => decide (g.gm ≠ d.gm)), announceAge := 3 }).selectMaster second)

/-- R124: the one-step Pdelay_Resp to the requester, with the turnaround time in its correctionField. -/
def State.pdelayResponse (s : State) (p : Port) (m : PdelayMsg) : OwnFrame :=
  ptpFrame m.transport true
    (s.ptpHeader p 3 54 m.domain (m.turnaround * 65536) m.seq ++ List.replicate 10 0 ++ padTo 10 m.requester)

/-- R124: a tracked domain of the port uses the peer-to-peer mechanism. -/
def State.p2pOn (s : State) (p : Port) : Bool :=
  [false, true].any fun second => s.domEnabled second && s.domP2p second &&
    (decide ((s.dom second).port = some p) || decide (s.domPortSel second = p.index + 1) || decide (s.domPortSel second = 0))

/-- PDELAY_REQ: R124: on a port whose tracked domain uses P2P. -/
def execPdelayReq (p : Port) (m : PdelayMsg) (s : State) : Host.Outcome State Fault Refusal :=
  if s.ptpReady ∧ p ≠ .sv ∧ s.p2pOn p then .next (s.sendOwn p (s.pdelayResponse p m)) else .next s

/-- No source delivers time any more (R55, R56, R67). -/
def State.sourcesLost (s : State) : State :=
  if s.hearth.dom0.delivers ∨ s.hearth.dom1.delivers ∨ s.hearth.sourcePps then s else s.servoUnlock.holdBase

/-- R63: the active domain has gone silent: switch when the other domain is LOCKED, otherwise HOLDOVER. -/
def State.loseActive (s : State) : State :=
  let a := s.hearth.secondActive
  let d := s.dom a
  let s := s.setDom a { d with st := if d.st = .none then .none else .lost, syncAge := min 255 (max 3 d.syncAge), good := 0, bad := 0 }
  if (s.dom (!a)).st = .locked then s.switchDomain (!a) 0
  else
    let s := if (s.dom (!a)).delivers then s else { s with hearth := { s.hearth with bothLost := true } }
    if s.hearth.sourcePps then s else s.servoUnlock.holdBase

/-- R60: the port to which a domain on AUTO moves when its own port brings no more Sync: the other one, when it has link and
carries the same grandmaster. -/
def State.otherPort (s : State) (second : Bool) : Option Port :=
  let d := s.dom second
  let other := if d.port = some .a then Port.b else Port.a
  if s.domPortSel second = 0 ∧ d.port.isSome ∧ (s.mac other).up ∧
      (d.masters.any fun g => decide (g.gm = d.gm) && decide (g.port = other)) then some other
  else none

/-- R60: the domain moves to a port. -/
def State.moveDomain (s : State) (second : Bool) (p : Port) : State :=
  let d := s.dom second
  s.setDom second { d with port := some p, syncAge := 0, syncUp := s.up, mpd := d.mpdOn p }

/-- SYNC_LOSS: R60, R63: no Sync on the active domain for 3 intervals. Under AUTO the domain moves to the other port when
that port carries the same grandmaster; otherwise R63's row applies. -/
def execSyncLoss (s : State) : Host.Outcome State Fault Refusal :=
  let a := s.hearth.secondActive
  if (s.dom a).delivers then
    match s.otherPort a with
    | some p => .next (s.moveDomain a p)
    | none => .next s.loseActive
  else .next s

/-! ### PPS (R93, R94) -/

def State.ppsInMode (s : State) : Nat := bits (s.regN Reg.PPS_CTRL) 3 2
def State.ppsOutSel (s : State) : Nat := bits (s.regN Reg.PPS_CTRL) 1 0

/-- R94: the signed distance to the nearest whole second. -/
def ppsErrorOf (stamp : Nat) : Int :=
  let f : Int := stamp % 1000000000
  if f < 500000000 then f else f - 1000000000

/-- PPS_IN: R94: the stamp and the error; MONITOR flags an error beyond ±1 µs; DISCIPLINE drives the servo while no PTP
domain is LOCKED. -/
def execPpsIn (stamp : Nat) (s : State) : Host.Outcome State Fault Refusal :=
  if s.sys.inReset then .next s
  else
    let err := ppsErrorOf stamp
    let s := { s with hearth := { s.hearth with ppsStamp := stamp % 2 ^ 32, ppsError := err, ppsLastUp := s.up, ppsLost := false } }
    if s.ppsInMode = 1 then .next (if 1000 < err.natAbs then s.raise Ev.PPS_IN_ERROR else s)
    else if s.ppsInMode = 2 ∧ s.hearth.dom0.st ≠ .locked ∧ s.hearth.dom1.st ≠ .locked then
      .next ({ s with hearth := { s.hearth with sourcePps := true } }.servoMeasure err false)
    else .next s

/-- PPS_IN_LOST: R94: no edge for 2 s, in every PPS_IN_MODE (log 119). -/
def execPpsInLost (s : State) : Host.Outcome State Fault Refusal :=
  if s.hearth.ppsLost ∨ s.sys.inReset then .next s
  else
    let s := s.reach (s.hearth.ppsLastUp + 2000000000)
    let s := { s with hearth := { s.hearth with ppsLost := true, sourcePps := false } }
    .next ((s.raise Ev.PPS_IN_LOST).sourcesLost)

/-- R56, R94: PPS_IN_MODE has left DISCIPLINE: PPS_IN no longer disciplines the counter. -/
def State.releasePps (s : State) : State :=
  if s.hearth.sourcePps ∧ s.ppsInMode ≠ 2 then { s with hearth := { s.hearth with sourcePps := false } }.sourcesLost else s

/-- The ticks from the last one on, each by its grid and index, and whether sub-ticks follow it: between tick T and tick U
there are none (R83). -/
def State.comingTicks (s : State) : List (Timing × Nat × Bool) :=
  let h := s.hearth
  let t := h.timing
  match h.retime, h.gap with
  | some r, 1 => [(t, r.uIndex, true), (t, r.uIndex + 1, true)]
  | some r, 0 =>
    if r.tIndex ≤ h.k + 1 then [(t, h.k, true), (t, h.k + 1, false), (r.timing, r.uIndex, true)]
    else if r.tIndex = h.k + 2 then [(t, h.k, true), (t, h.k + 1, true), (t, h.k + 2, false), (r.timing, r.uIndex, true)]
    else [(t, h.k, true), (t, h.k + 1, true), (t, h.k + 2, true)]
  | _, _ => [(t, h.k, true), (t, h.k + 1, true), (t, h.k + 2, true)]

/-- R93: the instants of PPS_OUT's edges after `u`, in counter units, oldest first. -/
def State.ppsEdges (s : State) (u : Nat) : List Nat :=
  let second := 1000000000 * 2 ^ 32
  match s.ppsOutSel with
  | 1 => [(u / second + 1) * second]
  | 2 => (s.comingTicks.map fun x => x.1.tickUnits x.2.1).filter fun e => decide (u < e)
  | _ =>
    (s.comingTicks.flatMap fun x => (List.range (if x.2.2 then x.1.slots else 1)).map fun j => x.1.subUnits x.2.1 j).filter
      fun e => decide (u < e)

/-- R93: the instant of the next edge; one that falls now counts unless the pin has risen at it. -/
def State.ppsNext (s : State) : Option Nat :=
  (s.ppsEdges (if s.hearth.ppsRise = s.time.units then s.time.units else s.time.units - 1)).head?

/-- R93: the high time: PPS_OUT_WIDTH, limited to half the interval from the edge that rose to the next one. -/
def State.ppsWidth (s : State) : Nat :=
  let w := bits (s.regN Reg.PPS_CTRL) 26 8 * 1000 * 2 ^ 32
  match (s.ppsEdges s.hearth.ppsRise).head? with
  | some e => min w ((e - s.hearth.ppsRise) / 2)
  | none => w

/-- PPS_OUT: R93: the pin rises at the next instant that PPS_OUT_SEL names, and falls after its high time. With OFF it stays
low. -/
def execPpsOut (s : State) : Host.Outcome State Fault Refusal :=
  if s.ppsOutSel = 0 ∨ s.sys.inReset then .next { s with hearth := { s.hearth with ppsOutLevel := false } }
  else if s.hearth.ppsOutLevel then
    let s := s.advanceTo (s.hearth.ppsRise + s.ppsWidth)
    .next { s with hearth := { s.hearth with ppsOutLevel := false } }
  else
    match s.ppsNext with
    | some u =>
      let s := s.advanceTo u
      .next { s with hearth := { s.hearth with ppsOutLevel := true, ppsRise := u } }
    | none => .next s

/-! ### TICK_OD (R89 to R92) -/

def State.odEn (s : State) : Bool := bit (s.regN Reg.TICK_OD_CTRL) 0
def State.odTolerance (s : State) : Nat := bits (s.regN Reg.TICK_OD_CTRL) 15 8 * 10

/-- R89: this device pulls TICK_OD low: for 1 µs from each of its tick edges while it is the tick master. -/
def State.tickOdLow (s : State) : Bool :=
  match s.hearth.od.fall with
  | some f => s.odEn && s.hearth.od.driving && decide (s.mode ≠ .boot) && decide (s.up < f + 1000)
  | none => false

/-- R89: the tick edge on the shared line. -/
def State.pulseTickOd (s : State) : State :=
  if s.odEn ∧ s.hearth.od.driving then { s with hearth := { s.hearth with od := { s.hearth.od with fall := some s.up } } } else s

/-- R92: a device whose EN is cleared leaves the line; when EN is set again it joins as a follower. -/
def State.leaveTickOd (s : State) : State :=
  if s.odEn then s else { s with hearth := { s.hearth with od := { master := s.hearth.od.master } } }

/-- R90, R92: what an edge at `skew` from the nearest own tick edge shows: an edge before it belongs to the coming tick. Of
several edges of one tick beyond the tolerance, one counts towards the run of R90. -/
def TickOd.edge (od : TickOd) (tolerance : Nat) (skew : Int) : TickOd :=
  let before := decide (skew < 0)
  let again := if before then od.measuredNext else od.measured
  let od := if before then { od with measuredNext := true } else { od with measured := true }
  if skew.natAbs ≤ tolerance then
    let od := { od with
      skew := skew, skewRun := 0, silent := 0, master := if 2 ≤ od.silent then (od.master + od.silent / 2) % 8 else od.master }
    if before then { od with edgeNext := true } else { od with edgeSeen := true }
  else { od with skew := skew, skewRun := if again then od.skewRun else od.skewRun + 1 }

/-- R90, R92: at an own tick edge the last tick is judged: without an edge within the tolerance it was silent, and without
any edge the run of R90 ends. The first tick edge only opens the count. -/
def TickOd.tick (od : TickOd) : TickOd :=
  let od := if od.counting then
      { od with silent := if od.edgeSeen then 0 else od.silent + 1, skewRun := if od.measured then od.skewRun else 0 }
    else od
  { od with
    counting := true, edgeSeen := od.edgeNext, measured := od.measuredNext, edgeNext := false, measuredNext := false
    aligning := od.aligning && od.measured }

/-- R91: a follower in HOLDOVER slews at SLEW_MAX towards the edge, and no longer once its tick edge meets it. -/
def State.alignTo (s : State) (skew : Int) : State :=
  let lim : Int := s.slewLimit
  if s.servoEn then s.setServoInc s.hearth.baseInc (if skew = 0 then 0 else if 0 < skew then -lim else lim) else s

/-- TICK_OD_EDGE: R90 to R92: a follower measures the skew of the falling edge from its own tick edge; pulses that resume
after two or more silent ticks move `m`; in HOLDOVER the counter slews towards the edge. -/
def execTickOdEdge (skew : Int) (s : State) : Host.Outcome State Fault Refusal :=
  let od := s.hearth.od
  if s.odEn = false ∨ od.driving ∨ s.mode = .boot then .next s
  else
    let align := decide (s.hearth.servo = .holdover)
    let s := { s with hearth := { s.hearth with od := { (od.edge s.odTolerance skew) with aligning := align } } }
    .next (if align then s.alignTo skew else s)

/-- R90 to R92: the follower at its own tick edge; an alignment without edges ends. -/
def State.followTickOd (s : State) : State :=
  let od := s.hearth.od
  if s.odEn = false ∨ od.driving then s
  else
    let t := { s with hearth := { s.hearth with od := od.tick } }
    if od.aligning && !t.hearth.od.aligning && decide (s.hearth.servo = .holdover) then t.holdBase else t

/-- TICK_SKEW: R90: the skew exceeded TICK_OD_TOLERANCE at 3 consecutive ticks. The run starts again. -/
def execTickSkew (s : State) : Host.Outcome State Fault Refusal :=
  let od := s.hearth.od
  if 3 ≤ od.skewRun ∧ s.odEn = true ∧ od.driving = false ∧ s.mode ≠ .boot then
    .next ({ s with hearth := { s.hearth with od := { od with skewRun := 0 } } }.raise Ev.TICK_SKEW)
  else .next s

/-- R92: 2 × d, with d = (i − m) mod 8, taken as 8 when it is 0. -/
def silentNeeded (i m : Nat) : Nat :=
  let d := (i + 8 - m % 8) % 8
  2 * (if d = 0 then 8 else d)

/-- TICK_MASTER: R92: after 2 × d consecutive silent ticks the follower starts to drive. -/
def execTickMaster (s : State) : Host.Outcome State Fault Refusal :=
  let od := s.hearth.od
  if s.odEn = true ∧ od.driving = false ∧ s.mode ≠ .boot ∧ silentNeeded s.sys.idStrap od.master ≤ od.silent then
    .next ({ s with hearth := { s.hearth with od := { od with driving := true, master := s.sys.idStrap, silent := 0, aligning := false } } }.raise
      Ev.TICK_MASTER)
  else .next s

/-! ### EPOCH (R74) -/

/-- EPOCH: the full nanosecond count crosses the next multiple of 2^30 ns. -/
def execEpoch (s : State) : Host.Outcome State Fault Refusal :=
  if s.sys.clockRuns then .next (s.advanceNs ((s.nowNs / 2 ^ 30 + 1) * 2 ^ 30)) else .next s

/-! ### Time registers with a row of their own (R50, R19) -/

/-- The latch of a read of TIME_SEC_HI. -/
def State.timeLatch (s : State) : TimeLatch :=
  { secLo := s.time.sec % 2 ^ 32, ns := s.time.ns, frac := s.time.frac, short := s.nowNs % 2 ^ 32 }

/-- TIME_SEC_HI_READ: R50: the read returns seconds [47:32] and latches the others, in Hearth or in the host window's own
snapshot. -/
def State.readTimeSecHi (s : State) (hostWindow : Bool) : State × Word :=
  (if hostWindow then { s with hearth := { s.hearth with hostLatch := s.timeLatch } }
   else { s with hearth := { s.hearth with latch := s.timeLatch } }, BitVec.ofNat 32 (s.time.sec / 2 ^ 32))

def execTimeSecHiRead (hostWindow : Bool) (s : State) : Host.Outcome State Fault Refusal :=
  let r := s.readTimeSecHi hostWindow
  .next { r.1 with ctrl := { r.1.ctrl with regOut := r.2 } }

/-- R19: a write that takes no effect because the accessor is not unlocked, or that its register's description ignores
with a journal entry: REG_DENIED. -/
def State.regDenied (s : State) (a : Nat) (v : Word) : State :=
  s.emit Src.CP Kind.CONFIG Code.REG_DENIED (a * 2 ^ 32 + v.toNat)

/-- TIME_SEC_WRITE: a write of TIME_SEC_HI or TIME_SEC_LO stages a load value. -/
def State.writeTimeSec (s : State) (by_ : Accessor) (hi : Bool) (v : Word) : State :=
  if s.unlocked by_ then
    if hi then { s with hearth := { s.hearth with stageSecHi := v.toNat % 65536 } }
    else { s with hearth := { s.hearth with stageSecLo := v.toNat } }
  else s.regDenied (if hi then Reg.TIME_SEC_HI else Reg.TIME_SEC_LO) v

def execTimeSecWrite (by_ : Accessor) (hi : Bool) (v : Word) (s : State) : Host.Outcome State Fault Refusal :=
  .next (s.writeTimeSec by_ hi v)

/-- TIME_NS: a write in IDLE or SERVICE with SERVO_EN = 0 loads the staged seconds and this value, zeroes the fraction and
acts as a step. Otherwise it is ignored and journalled. -/
def State.writeTimeNs (s : State) (by_ : Accessor) (v : Word) : State :=
  let ns := v.toNat % 2 ^ 30
  if s.unlocked by_ ∧ (s.mode = .idle ∨ s.mode = .service) ∧ !s.servoEn then
    s.stepTo (((s.hearth.stageSecHi * 2 ^ 32 + s.hearth.stageSecLo) * 1000000000 + ns) * 2 ^ 32)
  else s.regDenied Reg.TIME_NS v

/-- TIME_INC_HI: with SERVO_EN = 0 a write loads the increment with TIME_INC_LO, clamped by R48. With SERVO_EN = 1 the
write takes no effect. -/
def State.writeTimeIncHi (s : State) (by_ : Accessor) (v : Word) : State :=
  if s.unlocked by_ then
    if s.servoEn then s
    else
      let s := s.loadInc (v.toNat * 2 ^ 32 + s.hearth.stageIncLo)
      { s with hearth := { s.hearth with baseInc := s.time.inc, bias := 0 } }
  else s.regDenied Reg.TIME_INC_HI v

def execTimeIncHi (by_ : Accessor) (v : Word) (s : State) : Host.Outcome State Fault Refusal :=
  .next (s.writeTimeIncHi by_ v)

/-- TICK_INDEX_HI: a read returns index bits [63:32] and latches the low word. -/
def State.readTickIndexHi (s : State) : State × Word :=
  ({ s with hearth := { s.hearth with tickLatchLo := s.hearth.k % 2 ^ 32 } }, BitVec.ofNat 32 (s.hearth.k / 2 ^ 32))

def execTickIndexHi (s : State) : Host.Outcome State Fault Refusal :=
  let r := s.readTickIndexHi
  .next { r.1 with ctrl := { r.1.ctrl with regOut := r.2 } }

end Sys2Proof.Machine
end

