-- ==== Sys2Proof/Machine/Raster.lean ====
section
/-! DEFINITION. The raster of a strand: trains, lines and their drivers, banks, and the bit-time instants of SYN symbols
and sub-tick swaps (R265, R269, R277, R283, R286, R305 to R315). -/

namespace Sys2Proof.Machine

/-! ### Drivers and lines (R280, R283) -/

/-- R280: UNITS, CHANNELS and RANGES of a driver. -/
def Driver.units (d : Driver) : Nat := bits d.word1.toNat 11 8
def Driver.channels (d : Driver) : Nat := bits d.word1.toNat 7 0
def Driver.lowRange (d : Driver) : Bool := bit d.word2.toNat 9
def Driver.maxRate (d : Driver) : Nat := bits d.word2.toNat 7 0 * 2

/-- R283: line `j` of a train: index of its driver, the driver, and the line's unit within it. -/
def lineOwner (j : Nat) : Nat → List Driver → Option (Nat × Driver × Nat)
  | _, [] => none
  | h, d :: ds => if j < d.units then some (h, d, j) else lineOwner (j - d.units) (h + 1) ds

/-- R306, R315: does the strand have an NSP v1 driver? -/
def Strand.hasV1 (t : Strand) : Bool := t.drivers.any fun d => !d.v2

/-- Lines that the drivers of a strand take. -/
def Strand.units (t : Strand) : Nat := (t.drivers.map Driver.units).foldl (· + ·) 0

/-- Trains of a rendered frame: one for each slot; only slot 0 on a strand with a v1 driver (R315) and on a legacy strand
(R291). -/
def State.trains (s : State) (n : Nat) : Nat :=
  if (s.strand n).hasV1 ∨ s.isNsp n = false then 1 else s.hearth.timing.slots

/-- R286, R287: the bit-times of a line with `words` payload words. -/
def State.lineBits (s : State) (n words : Nat) : Nat := 16 + s.hBp n + 16 * words + 16 + s.hFp n

/-- DATA lines of the frame in progress. -/
def State.frameLines (s : State) (n : Nat) : Nat := (s.strand n).lines

/-- R311: the bank that the train of slot `j` loads in the frame presented at tick `k`. -/
def trainBank (slots k j : Nat) : Nat :=
  match slots with
  | 1 => k % 2
  | 2 => 2 * (k % 2) + j
  | 3 => if j = 0 then 3 * (k % 2) else j
  | _ => j

/-! ### Instants (R302, R305, R306, R313) -/

/-- R305: a quotient rounded to the nearest bit boundary, a tie to the earlier one. -/
def nearestBit (a b : Nat) : Nat := (2 * a + b - 1) / (2 * b)

/-- σ_j in bit-times of a strand: numerator over N × 1,000. -/
def Timing.offsetBits (t : Timing) (bps weight : Nat) : Nat := weight * t.m * bps

/-- R313: the bit at which the swap of sub-tick `j` starts. -/
def State.subSwapBit (s : State) (n j : Nat) : Nat :=
  let t := s.hearth.timing
  nearestBit (t.offsetBits (s.strandBps n) (t.weightBelow j)) (t.n * 1000) + s.vSync n

/-- R300: the segment count of a slot. -/
def State.segments (s : State) (j : Nat) : Nat :=
  match j with
  | 0 => s.lamp.n0
  | 1 => s.lamp.n1
  | 2 => s.lamp.n2
  | _ => s.lamp.n3

/-- R305, R306: the bit at which anchor `m` of slot `j` starts. -/
def State.anchorBit (s : State) (n j m : Nat) : Nat :=
  let t := s.hearth.timing
  let segs := s.segments j
  let bps := s.strandBps n
  let half := if (s.strand n).hasV1 then 1 else 2
  nearestBit (bps * t.m * (t.weightBelow j * segs * half + m * t.weight j)) (t.n * 1000 * segs * half) + s.vSync n

/-- The SYN instants of an interval, in bit-times after the tick. -/
def State.synBits (s : State) (n : Nat) : List Nat :=
  (List.range s.hearth.timing.slots).flatMap fun j =>
    let last := if (s.strand n).hasV1 then s.segments j - 1 else s.segments j
    (List.range last).map fun m => s.anchorBit n j (m + 1)

/-- The sub-tick swaps of an interval, in bit-times after the tick; a strand without frames has none. -/
def State.swapBits (s : State) (n : Nat) : List Nat :=
  (List.range (s.hearth.timing.slots - 1)).map fun j => s.subSwapBit n (j + 1)

/-- R312: the nominal action instant, in bit-times, of the last swap of this interval that names bank `b`; 0 when none. -/
def State.bankFreeBit (s : State) (n b : Nat) : Nat :=
  let t := s.hearth.timing
  let bps := s.strandBps n
  let lag := ceilDiv (16000 * bps) 1000000000
  ((List.range (s.strand n).swapBanks.length).map fun j =>
    if (s.strand n).swapBanks[j]? = some b then
      ceilDiv (t.offsetBits bps (t.weightBelow j)) (t.n * 1000) + s.vSync n + lag
    else 0).foldl max 0

/-! ### Placing symbols, lines and slots (R264, R265, R313) -/

/-- R265, R313: the first start at or after `b` of something `len` bit-times long that overlaps no fixed instant, each of
10 bit-times; `fixed` rises. -/
def placeSymbol (len : Nat) : List Nat → Nat → Nat
  | [], b => b
  | f :: fs, b => if f + 10 ≤ b then placeSymbol len fs b else if f < b + len then placeSymbol len fs (f + 10) else placeSymbol len fs b

/-- R264: the end of `len` bits sent from `b`, each SYN inside lengthening it by 10. -/
def stretch : List Nat → Nat → Nat → Nat
  | [], _, e => e
  | x :: xs, b, e => if b ≤ x ∧ x < e then stretch xs b (e + 10) else stretch xs b e

/-- R265: a start that falls into a SYN moves behind it. -/
def afterSyn : List Nat → Nat → Nat
  | [], b => b
  | x :: xs, b => if x ≤ b ∧ b < x + 10 then afterSyn xs (x + 10) else afterSyn xs b

/-- R264, R313: start and end of a line of `len` bit-times: SYNs interrupt it, a sub-tick swap does not. -/
def placeLine (syn : List Nat) (len : Nat) : List Nat → Nat → Nat × Nat
  | [], b => let b := afterSyn syn b; (b, stretch syn b (b + len))
  | w :: ws, b =>
    let b' := afterSyn syn b
    let e := stretch syn b' (b' + len)
    if b' < w + 10 ∧ w < e then placeLine syn len ws (w + 10) else placeLine syn len ws b

/-- Merge two rising lists. -/
def mergeRising : List Nat → List Nat → List Nat
  | [], ys => ys
  | x :: xs, ys => (ys.filter fun y => y < x) ++ x :: mergeRising xs (ys.filter fun y => x ≤ y)

/-- The SYN and sub-tick instants of a strand that sends frames; a command frame has neither (R270). -/
def State.synOf (s : State) (n : Nat) : List Nat := if (s.strand n).kind = .command then [] else s.synBits n
def State.swapsOf (s : State) (n : Nat) : List Nat := if (s.strand n).kind = .command then [] else s.swapBits n
def State.fixedBits (s : State) (n : Nat) : List Nat := mergeRising (s.synOf n) (s.swapsOf n)

/-- The counter's units at bit `b` of the interval. -/
def State.bitUnits (s : State) (n b : Nat) : Nat :=
  s.hearth.lastTickNs * 2 ^ 32 + b * 1000000000 * 2 ^ 32 / s.strandBps n

/-- Time passes until bit `b` of the interval (log 3). -/
def State.toBit (s : State) (n b : Nat) : State := s.advanceTo (s.bitUnits n b)

/-- Append what a strand sends. -/
def Strand.send (t : Strand) (l : List StrandItem) : Strand := { t with tx := t.tx ++ l }

/-! ### Line buffers (R289) -/

/-- Bytes in the line buffer. -/
def Strand.fill (t : Strand) : Nat := (t.buf.map fun l => 2 * l.2.length).foldl (· + ·) 0

/-- LB_LOW and LB_HIGH. -/
def State.lbLow (s : State) (n : Nat) : Nat := bits (s.regN (Reg.LB_WM n)) 14 0
def State.lbHigh (s : State) (n : Nat) : Nat := bits (s.regN (Reg.LB_WM n)) 30 16

/-- R289: Bellows after a change of the buffer of strand `n`. -/
def State.bellows (s : State) (n : Nat) : State :=
  let t := s.strand n
  let left := (decide (t.kind = .render) || decide (t.kind = .dark)) && decide (t.sentLines < s.frameLines n) && !t.underrun
  let b := left && (decide (t.fill < s.lbLow n) || (t.bellows && decide (t.fill < s.lbLow n + 2048)))
  s.setStrand n { t with bellows := b }

end Sys2Proof.Machine
end

