-- ==== Sys2Proof/Machine/FrameStore.lean ====
section
/-! DEFINITION. The frame store: geometry, parts, the ring, marks, selection, consolidation, HOLD and the overlay
layers' frames (05_frame_store.md). -/

namespace Sys2Proof.Machine

/-! ### Stream entries: 0 to 63 are STREAM0 to STREAM63, 64 + m is the CANVAS map SACN_MAPm (R166, log 20) -/

/-- The streams in table order. -/
def allStreams : List Nat := List.range 96

/-- Is the entry enabled (R139, R165)? -/
def State.enabled (s : State) (i : Nat) : Bool :=
  if i < 64 then s.streamEnabled i else decide (byteAt (s.mapCfg (i - 64)) 4 = 1)

/-- The SLOT_LAYER byte of an entry. -/
def State.slotLayer (s : State) (i : Nat) : Nat :=
  if i < 64 then byteAt (s.streamCfg i) 3 else byteAt (s.mapCfg (i - 64)) 6

def State.slotOf (s : State) (i : Nat) : Nat := s.slotLayer i / 16
def State.layerOf (s : State) (i : Nat) : Nat := s.slotLayer i % 16

/-- The rectangle fields of an entry: 8 bytes CANVAS_X, CANVAS_Y, WIDTH, HEIGHT. -/
def State.rectBytes (s : State) (i : Nat) : List Byte :=
  if i < 64 then (s.streamCfg i).drop 4 else (s.mapCfg (i - 64)).drop 8

def State.rectX (s : State) (i : Nat) : Nat := field (s.rectBytes i) 0 2
def State.rectY (s : State) (i : Nat) : Nat := field (s.rectBytes i) 2 2
def State.rectW (s : State) (i : Nat) : Nat := field (s.rectBytes i) 4 2
def State.rectH (s : State) (i : Nat) : Nat := field (s.rectBytes i) 6 2

/-- R143, R166: is the stream UP? A CANVAS map forms a complete frame at every tick, so it always is (log 20). -/
def State.isUp (s : State) (i : Nat) : Bool := if i < 64 then (s.stream i).up else true

/-! ### Regions and the ring (R152, R176) -/

/-- The number of the 64 × 64 region that holds a canvas position. -/
def regionOf (x y : Nat) : Nat := y / 64 * 256 + x / 64

/-- The length of the part of [a, a + n) that lies in the 64-cell `c`. -/
def cellOverlap (a n c : Nat) : Nat := min (a + n) (64 * c + 64) - max a (64 * c)

/-- The 64-cells that [a, a + n) meets. -/
def cellsOf (a n : Nat) : List Nat := (List.range ((a + n + 63) / 64 - a / 64)).map fun c => a / 64 + c

/-- The regions that the rectangle of entry `i` meets. -/
def State.regions (s : State) (i : Nat) : List Nat :=
  if s.rectW i = 0 ∨ s.rectH i = 0 then []
  else (cellsOf (s.rectY i) (s.rectH i)).flatMap fun cy => (cellsOf (s.rectX i) (s.rectW i)).map fun cx => cy * 256 + cx

/-- R152: the pixels of region `r` inside the rectangle of entry `i`. -/
def State.regionSize (s : State) (i r : Nat) : Nat :=
  cellOverlap (s.rectX i) (s.rectW i) (r % 256) * cellOverlap (s.rectY i) (s.rectH i) (r / 256)

/-- Where the ring keeps the pixel of an entry at a canvas position. -/
def ringKey (entry x y : Nat) : Nat := entry * 2 ^ 28 + y * 2 ^ 14 + x

/-- R153: a pixel of an entry, four 16-bit words; one never written holds an undefined value. -/
def State.ringAt (s : State) (entry x y : Nat) : Nat :=
  let v := SMap.get (fun _ => 0) s.fs.ring (ringKey entry x y)
  if v = 0 then Config.undefinedPixel (ringKey entry x y) else v - 1

/-- Write a pixel of an entry. -/
def ringSet (m : SMap Nat) (entry x y words : Nat) : SMap Nat := SMap.insert m (ringKey entry x y) (words + 1)

/-- R152: the canvas x and y of rectangle index `q` of entry `i`. -/
def State.canvasX (s : State) (i q : Nat) : Nat := s.rectX i + q % s.rectW i
def State.canvasY (s : State) (i q : Nat) : Nat := s.rectY i + q / s.rectW i

/-- R176: entries owned by an active slot. -/
def State.perSlot (s : State) : Nat := s.param P.FS_DEPTH / s.fs.ownSlots

/-- R176, R552: the entries of slot `j`, none for a slot that is not active. -/
def State.slotEntries (s : State) (j : Nat) : List Nat :=
  if j < s.fs.ownSlots then (List.range s.perSlot).map fun e => j * s.perSlot + e else []

/-- The tick for which a render has started: the last render start lies at the last tick, for the tick after it. In a
retime's gap it lies before tick U, so nothing designated for U + 1 is late. -/
def State.renderFor (s : State) : Nat :=
  match s.hearth.retime, s.hearth.gap with
  | some r, 1 => r.uIndex
  | _, _ => s.hearth.k + 1

/-- R72, R85: the designated tick of a presentation short time. -/
def State.designate (s : State) (pt : Word) : Nat :=
  let target := (s.nowNs : Int) + signed32 ((pt.toNat : Int) - s.param P.PT_TOLERANCE - s.nowNs)
  let t := s.hearth.timing.firstAtOrAfter target.toNat
  match s.hearth.retime, s.hearth.gap with
  | some r, 1 => max t (r.uIndex + 1)
  | some r, 2 => max t (r.uIndex + 1)
  | _, _ => t

/-- R149: is frame `a` later than frame `b`? 16 bits in v1, 32 bits otherwise. -/
def laterFrame (v1 : Bool) (a b : Nat) : Bool :=
  if v1 then decide (0 < (BitVec.ofInt 16 ((a : Int) - b)).toInt) else decide (0 < signed32 ((a : Int) - b))

/-! ### Parts (R180 to R183) -/

/-- The part of entry number `e`, none when it is FREE. -/
def Stream.partAt (t : Stream) (e : Nat) : Option Part := t.parts.find? fun p => decide (p.entry = e)

/-- The part that holds frame `f` of the stream's owner. -/
def Stream.frameOf (t : Stream) (f : Nat) : Option Part := t.parts.find? fun p => decide (p.frame = f) && !p.former

/-- Replace the part of the same entry. -/
def Stream.putPart (t : Stream) (p : Part) : Stream :=
  { t with parts := t.parts.map fun q => if q.entry = p.entry then p else q }

/-- Take out the parts for which `f` holds: they become FREE. -/
def Stream.freeParts (t : Stream) (f : Part → Bool) : Stream := { t with parts := t.parts.filter fun p => !f p }

/-- A frame that is still to be chosen. -/
def Part.waits (p : Part) : Bool := decide (p.st = .open_) || decide (p.st = .complete)

/-- R187: the part chosen last: the copies of its patched regions run into it. -/
def Stream.newestChosen (t : Stream) : Option Part := t.target.bind t.partAt

/-- R192: the entries that the HOLD snapshot of a stream names. -/
def State.snapshot (s : State) (i : Nat) : List Nat :=
  match s.fs.holdSrc.find? fun p => decide (p.1 = i) with
  | some p => p.2.map fun q => q.2 - 1
  | none => []

/-- R180, R185, R187: the states of the parts that have been chosen. One named by the fetch table, or into which copying
runs, is SOURCE; one that a mark, a loop or a HOLD snapshot retains is HELD; the others become FREE. -/
def Stream.settle (t : Stream) (snap : List Nat) : Stream :=
  let target := if t.copying then t.target else none
  { t with parts := t.parts.filterMap fun p =>
      if p.waits then some p
      else if t.src.any (fun q => decide (q.2 = p.entry + 1)) ∨ target = some p.entry then some { p with st := .source }
      else if p.byMark ∨ p.entry ∈ snap then some { p with st := .held }
      else none }

/-- Settle the parts of stream `i`. -/
def State.settle (s : State) (i : Nat) : State := s.setStream i ((s.stream i).settle (s.snapshot i))

/-- R196, R177, R553: the mark of stream `i` is invalidated with MARK_LOST; its HELD parts become FREE. -/
def State.loseMark (s : State) (i : Nat) : State :=
  let t := s.stream i
  match t.mark with
  | some m =>
    let t := { t with mark := none, play := none, playLoop := [], parts := t.parts.map fun p => { p with byMark := false } }
    ((s.setStream i t).settle i).raiseWith Ev.MARK_LOST i (m.frame * 2 ^ 24)
  | none => s

/-- R181, R196: what the search for a part finds. -/
inductive Search where
  | found (entry : Nat) | overMark (entry : Nat) | pinned | nothing
  deriving DecidableEq, Repr

/-- R181, R196: go through the entries in ring order. -/
def searchParts (t : Stream) : List Nat → Search
  | [] => .nothing
  | e :: es =>
    match t.partAt e with
    | none => .found e
    | some p =>
      if p.st = .held ∧ p.byMark then
        match t.mark with
        | some m => if m.pin then .pinned else .overMark e
        | none => searchParts t es
      else searchParts t es

/-- R181: the entries of a slot in ring order from the one after `last`. -/
def ringFrom (es : List Nat) (last : Option Nat) : List Nat :=
  match last with
  | some l => (es.filter fun e => decide (l < e)) ++ es.filter fun e => decide (e ≤ l)
  | none => es

/-- The last entry opened in a slot. -/
def State.lastEntry (s : State) (j : Nat) : Option Nat :=
  match SMap.get (fun _ => 0) s.fs.lastEntry j with
  | 0 => none
  | n + 1 => some n

/-- Open a frame of stream `i` in an entry. -/
def State.openIn (s : State) (i e : Nat) (p : Part) : State :=
  let t := s.stream i
  let s := s.setStream i { t with parts := t.parts ++ [{ p with entry := e }], format := p.format, frame := p.frame }
  { s with fs := { s.fs with lastEntry := SMap.set (fun _ => 0) s.fs.lastEntry (s.slotOf i) (e + 1) } }

/-- R181, R182, R196: open a new layer-0 frame of stream `i`: the state, and the counter of the drop where there is no
part. A later v1 frame abandons the OPEN one. -/
def State.openFrame (s : State) (i : Nat) (p : Part) : State × Option Nat :=
  let t := s.stream i
  let abandons := p.v1 && t.parts.any fun q => q.v1 && decide (q.st = .open_)
  let s := if abandons then (s.setStream i (t.freeParts fun q => q.v1 && decide (q.st = .open_))).count Reg.FS_ABANDONED else s
  let t := s.stream i
  match t.mark with
  | some { pin := true, pinDropSeen := true, .. } => (s, some Reg.PIN_DROP)
  | _ =>
    match searchParts t (ringFrom (s.slotEntries (s.slotOf i)) (s.lastEntry (s.slotOf i))) with
    | .found e => (s.openIn i e p, none)
    | .overMark e =>
      let s := s.loseMark i
      let s := s.setStream i ((s.stream i).freeParts fun q => decide (q.entry = e))
      (s.openIn i e p, none)
    | .pinned =>
      let s := s.setStream i { t with mark := t.mark.map fun m => { m with pinDropSeen := true } }
      (s.raiseAt Ev.PIN_DROP_START i, some Reg.PIN_DROP)
    | .nothing => (s, some Reg.FS_NO_ENTRY)

/-- R152, R183, R24: a frame whose regions are all complete is COMPLETE; a v1 frame then takes its tick. -/
def State.partDone (s : State) (i : Nat) (p : Part) : Part :=
  if p.st = .open_ ∧ (s.regions i).all (fun r => decide (s.regionSize i r ≤ SMap.get (fun _ => 0) p.counts r)) = true then
    { p with st := .complete, tick := if p.v1 then some (s.renderFor + 1) else p.tick }
  else p

/-- R141, R152: write pixels into the part of entry `e`, from rectangle index `q` on, and count their regions. -/
def State.writePixels (s : State) (i e : Nat) : Nat → List Nat → SMap Nat → SMap Nat → SMap Nat × SMap Nat
  | _, [], ring, counts => (ring, counts)
  | q, w :: ws, ring, counts =>
    let x := s.canvasX i q
    let y := s.canvasY i q
    let r := regionOf x y
    State.writePixels s i e (q + 1) ws (ringSet ring e x y w)
      (SMap.set (fun _ => 0) counts r (SMap.get (fun _ => 0) counts r + 1))

/-- Write the pixels of an accepted packet into the part `p` of stream `i`. -/
def State.placePixels (s : State) (i : Nat) (p : Part) (q : Nat) (ws : List Nat) : State :=
  let out := s.writePixels i p.entry q ws s.fs.ring p.counts
  let s := { s with fs := { s.fs with ring := out.1 } }.issue 3
  s.setStream i ((s.stream i).putPart (s.partDone i { p with counts := out.2 }))

/-! ### Overlay buffers and layers (R199 to R204) -/

def State.buffer? (s : State) (h : Nat) : Option Buffer := s.fs.buffers.find? fun b => decide (b.handle = h)

def State.putBuffer (s : State) (b : Buffer) : State :=
  { s with fs := { s.fs with buffers := s.fs.buffers.map fun c => if c.handle = b.handle then b else c } }

def State.layer (s : State) (n : Nat) : Layer := if n = 1 then s.fs.layer1 else s.fs.layer2

def State.setLayer (s : State) (n : Nat) (l : Layer) : State :=
  if n = 1 then { s with fs := { s.fs with layer1 := l } } else { s with fs := { s.fs with layer2 := l } }

/-- R204: the back buffer that a stream of layer 1 or 2 may write: slot 0 and a rectangle equal to the placement. -/
def State.backTarget (s : State) (i : Nat) : Option Buffer :=
  let l := s.layer (s.layerOf i)
  match s.buffer? l.back with
  | some b =>
    if s.slotOf i = 0 ∧ s.rectX i = l.x ∧ s.rectY i = l.y ∧ s.rectW i = b.width ∧ s.rectH i = b.height then some b else none
  | none => none

/-- The 16-bit words of a pixel: R, G, B, W or Y, Cb, Cr, 0. -/
def pixWord (w i : Nat) : Nat := bits w (63 - 16 * i) (48 - 16 * i)

/-- Four 16-bit words as one pixel. -/
def mkPixel (a b c d : Nat) : Nat := a * 2 ^ 48 + b * 2 ^ 32 + c * 2 ^ 16 + d

/-- R204: write a pixel into a buffer at rectangle index `q`, in the buffer's format. -/
def Buffer.putPixel (b : Buffer) (q w : Nat) : Buffer :=
  let z := fun _ => 0
  if b.rgba16 then { b with data := SMap.set z (SMap.set z b.data (2 * q) (w / 2 ^ 32)) (2 * q + 1) (w % 2 ^ 32) }
  else { b with data := SMap.set z b.data q <|
      (pixWord w 0 / 256 * 2 ^ 24 + pixWord w 1 / 256 * 2 ^ 16 + pixWord w 2 / 256 * 2 ^ 8 + pixWord w 3 / 256) }

def Buffer.putPixels (b : Buffer) : Nat → List Nat → Buffer
  | _, [] => b
  | q, w :: ws => Buffer.putPixels (b.putPixel q w) (q + 1) ws

/-- The region counts of pixels written from rectangle index `q` on. -/
def State.countRegions (s : State) (i : Nat) : Nat → List Nat → SMap Nat → SMap Nat
  | _, [], counts => counts
  | q, _ :: ws, counts =>
    let r := regionOf (s.canvasX i q) (s.canvasY i q)
    State.countRegions s i (q + 1) ws (SMap.set (fun _ => 0) counts r (SMap.get (fun _ => 0) counts r + 1))

/-- R204: is there a place for the frame of packet part `p`? The counter of the drop, or none. -/
def State.backRefuses (s : State) (i : Nat) (p : Part) : Option Nat :=
  if (s.backTarget i).isNone then some Reg.FS_NO_TARGET
  else
    match (s.stream i).backFrame with
    | some q =>
      if q.former then none
      else if q.frame = p.frame then none
      else if q.st = .complete ∨ !laterFrame p.v1 p.frame q.frame then some Reg.FS_BACK_BUSY
      else none
    | none => none

/-- R204: write the pixels of an accepted packet into the layer's back buffer, opening its frame when it is new. -/
def State.placeBack (s : State) (i : Nat) (p : Part) (q : Nat) (ws : List Nat) : State :=
  match s.backTarget i with
  | none => s
  | some b =>
    let t := s.stream i
    let old := t.backFrame
    let abandons := match old with
      | some o => o.former || decide (o.frame ≠ p.frame)
      | none => false
    let cur := match old with
      | some o => if o.frame = p.frame ∧ o.former = false then o else p
      | none => p
    let s := if abandons then s.count Reg.FS_ABANDONED else s
    let cur := { cur with counts := s.countRegions i q ws cur.counts }
    let s := s.putBuffer (b.putPixels q ws)
    let t := { t with format := cur.format, frame := cur.frame }
    s.setStream i { t with backFrame := some (s.partDone i cur) }

/-! ### Selection (R184 to R189) -/

/-- R184: the frame to choose among the candidates: the newest COMPLETE one, else the newest OPEN one. -/
def newest (ps : List Part) : Option Part :=
  ps.foldl (fun b p =>
    match b with
    | none => some p
    | some q => if laterFrame p.v1 p.frame q.frame then some p else b) none

def chooseFrame (t : Stream) (tick : Nat) : Option Part :=
  let c := t.parts.filter fun p => p.waits && decide (p.tick = some tick)
  match newest (c.filter fun p => decide (p.st = .complete)) with
  | some p => some p
  | none => newest c

/-- Designated for `tick` or earlier and not yet chosen. -/
def Part.dueBy (p : Part) (tick : Nat) : Bool :=
  p.waits && (match p.tick with
    | some t => decide (t ≤ tick)
    | none => false)

/-- R195: is a chosen frame at or after the mark? -/
def Stream.marks (t : Stream) (p : Part) : Bool :=
  match t.mark with
  | some m => !laterFrame p.v1 m.frame p.frame
  | none => false

/-- R185, R187, R188: stream `i` takes the chosen part for tick `next`. -/
def State.takeChosen (s : State) (i next : Nat) (p : Part) : State :=
  let t := s.stream i
  let whole := decide (p.st = .complete)
  let miss := if whole then [] else
    (s.regions i).filter fun r => decide (SMap.get (fun _ => 0) p.counts r < s.regionSize i r)
  let src := (s.regions i).foldl (fun m r => if r ∈ miss then m else SMap.set (fun _ => 0) m r (p.entry + 1)) t.src
  let cadence := if whole then
      match t.lastComplete with
      | some c => max 1 (min 255 (next - c))
      | none => t.cadence
    else t.cadence
  let t := t.putPart { p with st := .source, chosen := true, byMark := t.marks p }
  let t := { t with
    target := some p.entry, chosenNow := some p.frame, src := src, copying := !miss.isEmpty, cadence := cadence, lastComplete := if whole then some next else t.lastComplete }
  ((s.setStream i t).countN Reg.PATCHED miss.length).settle i

/-- R184, R187: the selection of one layer-0 stream for tick `next`, from `c`, the frame to choose; every other frame
designated for `next` or earlier is released. -/
def State.selectWith (s : State) (i next : Nat) (c : Option Part) : State :=
  let t := { s.stream i with chosenNow := none }
  if t.copying then
    let n := (t.parts.filter fun p => p.dueBy next).length
    (s.setStream i (t.freeParts fun p => p.dueBy next)).countN Reg.FS_CONSOLIDATE_LATE n
  else
    let skip := fun (p : Part) => p.dueBy next && decide (some p.entry ≠ c.map (·.entry))
    let s := (s.setStream i (t.freeParts skip)).countN Reg.FS_SKIPPED (t.parts.filter skip).length
    match c with
    | some p => s.takeChosen i next p
    | none => s

/-- R184, R187: the selection of one layer-0 stream for tick `next`. -/
def State.selectStream (s : State) (i next : Nat) : State := s.selectWith i next (chooseFrame (s.stream i) next)

/-- R188: is the stream due at tick `next`? -/
def Stream.dueAt (t : Stream) (next : Nat) : Bool :=
  match t.lastComplete with
  | some c => decide (c + t.cadence ≤ next)
  | none => true

/-- The enabled layer-0 streams of the active slots. -/
def State.layer0Streams (s : State) : List Nat :=
  allStreams.filter fun i => s.enabled i && decide (s.layerOf i = 0) && decide (s.slotOf i < s.fs.ownSlots)

/-- R148 step 14, R149: the frame that reaches presentation at tick `k` is the stream's last presented one. -/
def State.presentStream (s : State) (k i : Nat) : State :=
  let t := s.stream i
  match t.parts.find? fun p => p.chosen && decide (p.tick = some k) with
  | some p => s.setStream i { t with lastPresented := if p.former then t.lastPresented else some p.frame }
  | none => s

/-- R204: at tick T a COMPLETE frame of a layer-1 or layer-2 stream designated for tick T + 1 flips its layer; one that
was designated for an earlier tick is released. -/
def State.flipStream (s : State) (i next : Nat) : State :=
  let t := s.stream i
  match t.backFrame with
  | some p =>
    if p.st = .complete ∧ p.tick = some next then
      let n := s.layerOf i
      let l := s.layer n
      let s := (s.setStream i { t with backFrame := none, lastPresented := some p.frame, chosenNow := some p.frame }).setLayer n
        { l with front := l.back, back := l.front }
      { s with fs := { s.fs with flips := n :: s.fs.flips } }
    else if p.st = .complete ∧ p.tick.getD 0 < next then
      (s.setStream i { t with backFrame := none }).count Reg.FS_SKIPPED
    else s
  | none => s

/-- R158: render start of the frames for tick `next` releases their accumulators, each counted HPT_PARITY_FAIL. -/
def State.releaseAccums (s : State) (next : Nat) : State :=
  let late := fun (pt : Nat) => decide (s.designate (BitVec.ofNat 32 pt) ≤ next)
  let n := (s.ingress.accums.filter fun a => late a.pt).length
  { s with
    ingress := { s.ingress with
      accums := s.ingress.accums.filter fun a => !late a.pt
      deadGroups := s.ingress.deadGroups.filter fun g => !late g.2.2 }
    fs := { s.fs with streams := s.fs.streams.map fun (q : Nat × Stream) =>
      (q.1, { q.2 with parityFacts := q.2.parityFacts.filter fun f => !late f.2.2 }) } }.countN Reg.HPT_PARITY_FAIL n

/-! ### Retime (R85, R188, R552) -/

/-- R552: release what lies in an entry that the slot no longer owns. -/
def State.dropForeignParts (s : State) (i : Nat) : State :=
  let t := s.stream i
  let own := s.slotEntries (s.slotOf i)
  let out := fun (p : Part) => p.waits && !own.contains p.entry
  (s.setStream i (t.freeParts out)).countN Reg.FS_SKIPPED (t.parts.filter out).length

/-- R85: the tick of a waiting frame on the new grid. -/
def State.redesignate (s : State) (u : Nat) (p : Part) : Part :=
  if p.waits then
    if p.v1 then (if p.st = .complete then { p with tick := some (u + 1) } else p)
    else { p with tick := some (max (u + 1) (s.designate p.pt)) }
  else p

/-- R85: of several waiting frames of a stream for one tick, all but the newest. -/
def snapDrops (t : Stream) : List Nat :=
  (t.parts.filter fun p => p.waits && t.parts.any fun q =>
    q.waits && decide (p.tick.isSome) && decide (q.tick = p.tick) && decide (q.entry ≠ p.entry) &&
      laterFrame p.v1 q.frame p.frame).map (·.entry)

/-- Tick U for one stream: R552, then R85, then R188. -/
def State.retimeStream (s : State) (u i : Nat) : State :=
  let s := s.dropForeignParts i
  let t := s.stream i
  let t := { t with parts := t.parts.map (s.redesignate u), backFrame := t.backFrame.map (s.redesignate u) }
  let drops := snapDrops t
  let t := { t.freeParts fun p => drops.contains p.entry with cadence := 1, lastComplete := none }
  (s.setStream i t).countN Reg.SNAP_DROP drops.length

/-- Tick U: the new SLOT_COUNT owns the entries, and every stream moves to the new grid. -/
def State.retimeStreams (s : State) (u : Nat) : State :=
  let s := { s with fs := { s.fs with ownSlots := s.hearth.timing.slots } }
  allStreams.foldl (fun s i => if s.enabled i then s.retimeStream u i else s) s

/-! ### HOLD (R190 to R194) -/

/-- R189: the test pattern generator replaces layer 0. -/
def State.tpgOn (s : State) : Bool := decide (s.param P.TPG_PATTERN ≠ 0)

/-- R189: does the selection make tick `next` short? `complete i` says that the frame chosen for stream `i` is COMPLETE. -/
def State.shortTick (s : State) (next : Nat) : Bool :=
  let l0 := allStreams.filter fun i => s.enabled i && decide (s.layerOf i = 0)
  !s.tpgOn &&
    ((s.layer0Streams.any fun i => s.isUp i && decide ((s.stream i).lastComplete ≠ some next) && (s.stream i).dueAt next) ||
      (!l0.isEmpty && l0.all fun i => !s.isUp i))

/-- R198: is a REWIND play in progress? -/
def State.anyPlay (s : State) : Bool := s.fs.streams.any fun p => p.2.play.isSome

/-- R190, R194: count the tick; the run that enters or leaves HOLD makes the change due. Ticks of a retime's gap and of a
play are not counted. -/
def State.countShort (s : State) (next : Nat) (gapTick : Bool) : State :=
  if s.mode = .shadow then s
  else
    let short := s.shortTick next
    let s := if short then s.count Reg.SHORT_TICKS else s
    if gapTick ∨ s.anyPlay then s
    else
      let f := s.fs
      let a := if short then min 255 (f.shortRun + 1) else 0
      let b := if short then 0 else min 255 (f.goodRun + 1)
      { s with fs := { f with
          shortRun := a, goodRun := b
          holdDue := decide (s.mode = .live) && decide (s.param P.HOLD_AFTER ≤ a)
          resumeDue := decide (s.mode = .hold) && decide (s.param P.RESUME_AFTER ≤ b) } }

/-- R190: a mode change restarts the counts. -/
def State.restartRuns (s : State) : State :=
  { s with fs := { s.fs with shortRun := 0, goodRun := 0, holdDue := false, resumeDue := false } }

/-- R190, R192: enter HOLD when it is due: the fetch table is kept, its parts HELD until exit. -/
def State.enterHold (s : State) : State :=
  if s.fs.holdDue ∧ s.mode = .live then
    let noMark := decide (s.param P.HOLD_POLICY = 1) && s.layer0Streams.all fun i => decide ((s.stream i).mark = none)
    let s := (s.changeMode .hold Trigger.HOLD_RULE).restartRuns
    let s := { s with fs := { s.fs with holdTicks := 0, holdSrc := s.fs.streams.map fun (p : Nat × Stream) => (p.1, p.2.src) } }
    let s := s.raise Ev.HOLD_ENTER
    if noMark then s.raise Ev.REPLAY_NO_MARK else s
  else s

/-- Give up the HOLD snapshot. -/
def State.endSnapshot (s : State) : State :=
  let s := { s with fs := { s.fs with holdSrc := [], holdTicks := 0 } }
  s.fs.streams.foldl (fun s p => s.settle p.1) s

/-- R190: leave HOLD when it is due. -/
def State.exitHold (s : State) : State :=
  if s.fs.resumeDue ∧ s.mode = .hold then
    (((s.changeMode .live Trigger.HOLD_RULE).restartRuns).endSnapshot).raise Ev.HOLD_EXIT
  else s

/-- HOLD_ENTER: R190. -/
def execHoldEnter (s : State) : Host.Outcome State Fault Refusal := .next s.enterHold

/-- HOLD_EXIT: R190. -/
def execHoldExit (s : State) : Host.Outcome State Fault Refusal := .next s.exitHold

/-! ### Consolidation (R187) -/

/-- Copy region `r` of stream `i` from its previous source into entry `e`; a region without a source copies as 0. -/
def State.copyRegion (s : State) (i e : Nat) (ring : SMap Nat) (r : Nat) : SMap Nat :=
  let src := SMap.get (fun _ => 0) (s.stream i).src r
  let xs := (List.range 64).map (fun d => r % 256 * 64 + d) |>.filter fun x => s.rectX i ≤ x && decide (x < s.rectX i + s.rectW i)
  let ys := (List.range 64).map (fun d => r / 256 * 64 + d) |>.filter fun y => s.rectY i ≤ y && decide (y < s.rectY i + s.rectH i)
  ys.foldl (fun m y => xs.foldl (fun m x => ringSet m e x y (if src = 0 then 0 else s.ringAt (src - 1) x y)) m) ring

/-- CONSOLIDATION: R187: the copies are done; every region takes the chosen part and the previous parts become FREE. -/
def execConsolidation (i : Fin 64) (s : State) : Host.Outcome State Fault Refusal :=
  let t := s.stream i
  match t.copying, t.newestChosen with
  | true, some p =>
    let todo := (s.regions i).filter fun r => decide (SMap.get (fun _ => 0) t.src r ≠ p.entry + 1)
    let s := { s with fs := { s.fs with ring := todo.foldl (s.copyRegion i p.entry) s.fs.ring } }
    let t := { t with copying := false, src := (s.regions i).foldl (fun m r => SMap.set (fun _ => 0) m r (p.entry + 1)) t.src }
    .next (((s.setStream i t).settle i).issue 3)
  | _, _ => .next s

/-! ### Marks and loops (R195 to R198) -/

/-- How many frames after frame `f` a part's frame lies, by the width of its version. -/
def Part.since (p : Part) (f : Nat) : Nat := (((p.frame : Int) - f) % (if p.v1 then 2 ^ 16 else 2 ^ 32)).toNat

/-- R197: the loop of a stream: its HELD frames from the marked one on, in frame order. -/
def Stream.loop (t : Stream) : List Part :=
  match t.mark with
  | none => []
  | some m =>
    (t.parts.filter fun p => decide (p.st = .held) && p.byMark).mergeSort fun a b => decide (a.since m.frame ≤ b.since m.frame)

/-- R197: the entry of each frame of a loop and how many ticks it is shown; the last one for one cadence. -/
def loopTicks (cadence : Nat) : List Part → List (Nat × Nat)
  | [] => []
  | [p] => [(p.entry, cadence)]
  | p :: q :: rest => (p.entry, max 1 (q.tick.getD 0 - p.tick.getD 0)) :: loopTicks cadence (q :: rest)

/-- R197: the loop of a stream as entries and ticks. -/
def Stream.loopPlan (t : Stream) : List (Nat × Nat) := loopTicks t.cadence t.loop

/-- R197: the entry of the loop that is shown at its tick `n`, counted from 0. -/
def loopAt : List (Nat × Nat) → Nat → Option Nat
  | [], _ => none
  | (e, d) :: rest, n => if n < d then some e else loopAt rest (n - d)

def loopLength (l : List (Nat × Nat)) : Nat := (l.map Prod.snd).foldl (· + ·) 0

/-- R198: the loop, as it stands, is played from tick `play` of it on; none when no play runs. -/
def Stream.setPlay (t : Stream) (play : Option Nat) : Stream :=
  { t with play := play, playLoop := if play.isNone then [] else if t.play.isSome then t.playLoop else t.loopPlan }

/-- R198: one tick of a play; after its last tick the stream returns to its current selection. -/
def Stream.playTick (t : Stream) : Stream :=
  match t.play with
  | some n => if n + 1 < loopLength t.playLoop then t.setPlay (some (n + 1)) else t.setPlay none
  | none => t

/-! ### Fresh entries and a cleared ring (R177, R553) -/

/-- R553: entry `i` starts afresh. FS_SKIPPED counts its frames that still waited to be chosen, the one in a back buffer
among them; a frame that was chosen has been used, and its release counts nothing (DESIGN CHOICE, log 129). -/
def State.startAfresh (s : State) (i : Nat) : State :=
  let s := s.loseMark i
  let t := s.stream i
  let n := (t.parts.filter Part.waits).length + (if t.backFrame.isSome then 1 else 0)
  let s := { s with ingress := { s.ingress with
      accums := s.ingress.accums.filter fun a => decide (a.stream ≠ i)
      deadGroups := s.ingress.deadGroups.filter fun g => decide (g.1 ≠ i) } }
  let s := { s with fs := { s.fs with holdSrc := s.fs.holdSrc.filter fun p => decide (p.1 ≠ i) } }
  (s.setStream i {}).countN Reg.FS_SKIPPED n

/-- R177: the ring is cleared: frames dropped, marks invalidated with MARK_LOST, every fetch source black. -/
def State.clearRing (s : State) : State :=
  let s := allStreams.foldl (fun s i => s.loseMark i) s
  let s := { s with fs := { s.fs with lastEntry := [], holdSrc := [] } }
  allStreams.foldl (fun s i => s.setStream i { s.stream i with parts := [], src := [], copying := false, target := none, parityFacts := [] }) s

/-! ### The emergency layer (R45, R208) -/

/-- R208: the layer is raised for the frame of tick T + 1 while EMERG_N is asserted or RAISE is set before tick T. -/
def State.emergencyTick (s : State) : State :=
  let up := s.fs.emergPin || s.fs.raiseCmd
  if up = s.fs.raised then s
  else
    let s := { s with fs := { s.fs with raised := up } }
    if up then (s.raise Ev.EMERG_RAISED).irq Irq.EMERG else (s.raise Ev.EMERG_LOWERED).irq Irq.EMERG

end Sys2Proof.Machine
end

