-- ==== Sys2Proof/Machine/OwnFrames.lean ====
section
/-! DEFINITION. The bytes of the device's own frames on the wire: Ethernet header and tag (R101, R106), the IPv4, IPv6 and
UDP headers with their checksums (R108), and the messages of ARP, neighbour discovery, ICMP, IGMP, MLD and DHCP that R125
and R126 name. The spec names those protocols and leaves their formats to their standards (log 121). -/

namespace Sys2Proof.Machine

/-- The one's complement sum of 16-bit words, as a number below 65,536. -/
def onesSum (bs : List Byte) : Nat :=
  let rec go : Nat → List Byte → Nat
    | 0, _ => 0
    | n + 1, p => field p 0 2 + go n (p.drop 2)
  let t := go ((bs.length + 1) / 2) bs
  if t = 0 then 0 else (if t % 65535 = 0 then 65535 else t % 65535)

/-- The checksum that makes the sum over `bs` all ones. -/
def onesChecksum (bs : List Byte) : Nat := 65535 - onesSum bs

/-- R108: a UDP checksum as it is sent: 0xFFFF in place of 0x0000. -/
def udpChecksum (bs : List Byte) : Nat := if onesChecksum bs = 0 then 65535 else onesChecksum bs

/-- The IPv4-mapped form of R401. -/
def mapped4 (ip : Nat) : List Byte := List.replicate 10 0 ++ [0xFF, 0xFF] ++ beBytes 4 ip

/-- Is a 16-byte address an IPv4 one? -/
def isMapped (a : List Byte) : Bool := decide (a.take 12 = List.replicate 10 0 ++ [0xFF, 0xFF])

/-- Put two bytes at an offset. -/
def put16 (bs : List Byte) (off n : Nat) : List Byte := bs.take off ++ beBytes 2 n ++ bs.drop (off + 2)

/-- The pseudo-header of a UDP or ICMPv6 checksum. -/
def pseudoHeader (src dst : List Byte) (proto len : Nat) : List Byte :=
  if isMapped dst then src.drop 12 ++ dst.drop 12 ++ [0] ++ beBytes 1 proto ++ beBytes 2 len
  else src ++ dst ++ beBytes 4 len ++ [0, 0, 0] ++ beBytes 1 proto

/-- R108: a UDP datagram with its checksum over the pseudo-header. -/
def udpDatagram (src dst : List Byte) (sport dport : Nat) (payload : List Byte) : List Byte :=
  let len := 8 + payload.length
  let head := beBytes 2 sport ++ beBytes 2 dport ++ beBytes 2 len
  head ++ beBytes 2 (udpChecksum (pseudoHeader src dst 17 len ++ head ++ [0, 0] ++ payload)) ++ payload

/-- An ICMP, ICMPv6 or IGMP message with its checksum at bytes 2 and 3; ICMPv6 sums the pseudo-header too. -/
def icmpMessage (src dst : List Byte) (body : List Byte) : List Byte :=
  if isMapped dst then put16 body 2 (onesChecksum body)
  else put16 body 2 (onesChecksum (pseudoHeader src dst 58 body.length ++ body))

/-- R108: an IPv4 packet with its header checksum. The spec gives no type of service, identification, flags and time to live:
`tos`, `ident`, `df` and `ttl`. -/
def ipv4Packet (src dst opts : List Byte) (proto tos ident df ttl : Nat) (body : List Byte) : List Byte :=
  let ihl := 5 + opts.length / 4
  let head := beBytes 1 (64 + ihl) ++ beBytes 1 tos ++ beBytes 2 (4 * ihl + body.length) ++ beBytes 2 ident ++
    beBytes 2 (df % 2 * 16384) ++ beBytes 1 ttl ++ beBytes 1 proto ++ [0, 0] ++ src.drop 12 ++ dst.drop 12 ++ opts
  put16 head 10 (onesChecksum head) ++ body

/-- An IPv6 packet; `ext` is a Hop-by-Hop header or nothing. -/
def ipv6Packet (src dst ext : List Byte) (proto cls label hops : Nat) (body : List Byte) : List Byte :=
  beBytes 4 (6 * 2 ^ 28 + cls % 256 * 2 ^ 20 + label % 2 ^ 20) ++ beBytes 2 (ext.length + body.length) ++
    beBytes 1 (if ext = [] then proto else 0) ++ beBytes 1 hops ++ src ++ dst ++
    (match ext with
     | [] => []
     | _ :: rest => beBytes 1 proto ++ rest) ++ body

/-! ### Addresses -/

def State.ipOf (s : State) : Port → IpState
  | .sv => s.ipSv
  | _ => s.ip

/-- R126: the link-local address formed from the port address, in the modified EUI-64 form (log 19). -/
def State.linkLocal (s : State) (p : Port) : List Byte :=
  match s.ownMac p with
  | [a, b, c, d, e, f] => [0xFE, 0x80, 0, 0, 0, 0, 0, 0, a ^^^ 2, b, c, 0xFF, 0xFE, d, e, f]
  | _ => []

def State.global6 (s : State) : Port → List Byte
  | .sv => s.paramBytes P.SV_IPV6_ADDR
  | _ => s.paramBytes P.IPV6_ADDR

/-- The device's own addresses on a port, in the 16-byte form. -/
def State.ownAddrs (s : State) (p : Port) : List (List Byte) :=
  (if (s.ipOf p).addr = 0 then [] else [mapped4 (s.ipOf p).addr.toNat]) ++
    (if beNat (s.global6 p) = 0 then [] else [s.global6 p]) ++ [s.linkLocal p]

/-- The source address of an own frame that the frame does not name: the port's address of the destination's family and scope
(log 121). -/
def State.sourceFor (s : State) (p : Port) (dst : List Byte) : List Byte :=
  if isMapped dst then mapped4 (s.ipOf p).addr.toNat
  else if beNat (s.global6 p) = 0 ∨ byteAt dst 0 = 0xFE ∨ byteAt dst 0 = 0xFF then s.linkLocal p
  else s.global6 p

/-- The destination MAC address for an IP destination: the standard mapping of multicast and broadcast ones; the next hop of a
unicast one is what ARP or neighbour discovery has told, a free value (log 121). -/
def macFor (dst : List Byte) : List Byte :=
  if isMapped dst then
    if byteAt dst 12 / 16 = 14 then [0x01, 0x00, 0x5E] ++ beBytes 1 (byteAt dst 13 % 128) ++ dst.drop 14
    else if field dst 12 4 = 0xFFFFFFFF then List.replicate 6 0xFF
    else beBytes 6 (Config.nextHop dst)
  else if byteAt dst 0 = 0xFF then [0x33, 0x33] ++ dst.drop 12
  else beBytes 6 (Config.nextHop dst)

/-! ### Frames -/

/-- R106, R108: the frame of an Ethernet payload: header, tag of the port, and padding to 60 bytes before the FCS. -/
def State.ethernet (s : State) (p : Port) (dst : List Byte) (etherType : Nat) (payload : List Byte) : List Byte :=
  let cfg := s.regN (Reg.VLAN_CFG p.index)
  let tag := if bits cfg 11 0 = 0 then [] else beBytes 2 0x8100 ++ beBytes 2 (bits cfg 14 12 * 2 ^ 13 + bits cfg 11 0)
  let f := dst ++ s.ownMac p ++ tag ++ beBytes 2 etherType ++ payload
  f ++ List.replicate (60 - f.length) 0

/-- The upper-layer protocol of an own frame, the hop limit that its standard fixes, and its message. -/
def OwnFrame.upper (f : OwnFrame) (src : List Byte) : Nat × Option Nat × List Byte :=
  let v4 := isMapped f.dst
  match f.kind with
  | .na => (58, some 255, icmpMessage src f.dst f.payload)
  | .echo => (if v4 then 1 else 58, none, icmpMessage src f.dst f.payload)
  | .report => (if v4 then 2 else 58, some 1, icmpMessage src f.dst f.payload)
  | _ => (17, if f.kind = .ptp then some 1 else none, udpDatagram src f.dst f.sport f.dport f.payload)

/-- The router alert that IGMP and MLD reports carry: an IPv4 option, or a Hop-by-Hop header. -/
def routerAlert (f : OwnFrame) : List Byte :=
  if f.kind = .report then (if isMapped f.dst then [0x94, 0x04, 0, 0] else [0, 0, 5, 2, 0, 0, 1, 0]) else []

/-- R101, R106, R108: an own frame as port `p` sends it, without the FCS, from the free values `u` of the header fields that
the spec does not give (log 121). -/
def State.wireBytes (s : State) (p : Port) (f : OwnFrame) (u : Nat → Nat) : List Byte :=
  match f.kind with
  | .arp => s.ethernet p (f.mac.getD (macFor f.dst)) 0x0806 f.payload
  | _ =>
    if f.dst = [] then s.ethernet p (f.mac.getD []) 0x88F7 f.payload
    else
      let src := f.src.getD (s.sourceFor p f.dst)
      let l := f.upper src
      let ttl := l.2.1.getD (u 3 % 256)
      if isMapped f.dst then
        s.ethernet p (f.mac.getD (macFor f.dst)) 0x0800
          (ipv4Packet src f.dst (routerAlert f) l.1 (u 0 % 256) (u 1 % 65536) (u 2) ttl l.2.2)
      else s.ethernet p (f.mac.getD (macFor f.dst)) 0x86DD (ipv6Packet src f.dst (routerAlert f) l.1 (u 0) (u 1) ttl l.2.2)

/-! ### The messages of R125 and R126 -/

/-- R126: an ARP answer to `mac` and `ip`: `target` is this port's. -/
def arpMessage (own mac : List Byte) (target ip : Word) : List Byte :=
  [0, 1, 8, 0, 6, 4, 0, 2] ++ own ++ beBytes 4 target.toNat ++ mac ++ beBytes 4 ip.toNat

/-- R126: a neighbour advertisement of `target` with the port's address; an asker without an address is answered by multicast
and without the solicited flag. -/
def naMessage (own target : List Byte) (solicited : Bool) : List Byte :=
  [136, 0, 0, 0, if solicited then 0x60 else 0x20, 0, 0, 0] ++ target ++ [2, 1] ++ own

/-- R126: an echo reply to the data after the checksum of the request. -/
def echoMessage (v4 : Bool) (data : List Byte) : List Byte := [if v4 then 0 else 129, 0, 0, 0] ++ data

/-- R125: a report of one group: its record type and sources, as IGMPv3 or MLDv2. -/
def reportMessage (g : List Byte) (type : Nat) (sources : List (List Byte)) : List Byte :=
  if isMapped g then
    [0x22, 0, 0, 0, 0, 0, 0, 1] ++ beBytes 1 type ++ [0] ++ beBytes 2 sources.length ++ g.drop 12 ++ sources.flatMap (·.drop 12)
  else [143, 0, 0, 0, 0, 0, 0, 1] ++ beBytes 1 type ++ [0] ++ beBytes 2 sources.length ++ g ++ sources.flatMap id

/-- R126: a DHCPv4 message of the client: type, transaction, own address in use, and the options after the message type. -/
def dhcpMessage (own : List Byte) (type xid : Nat) (ciaddr : Word) (opts : List Byte) : List Byte :=
  [1, 1, 6, 0] ++ beBytes 4 xid ++ [0, 0, 0, 0] ++ beBytes 4 ciaddr.toNat ++ List.replicate 12 0 ++ own ++
    List.replicate 202 0 ++ [0x63, 0x82, 0x53, 0x63, 53, 1] ++ beBytes 1 type ++ opts ++ [255]

end Sys2Proof.Machine
end

