-- ==== Sys2Proof/Machine/Queues.lean ====
section
/-! DEFINITION. The class queues between the MACs and the packet engines (05_frame_store.md, R170 to R175). -/

namespace Sys2Proof.Machine

/-- Queue set `n`. -/
def State.qset (s : State) (n : Nat) : QueueSet :=
  match n with
  | 0 => s.ingress.set0
  | 1 => s.ingress.set1
  | 2 => s.ingress.set2
  | _ => s.ingress.set3

def State.setQset (s : State) (n : Nat) (q : QueueSet) : State :=
  match n with
  | 0 => { s with ingress := { s.ingress with set0 := q } }
  | 1 => { s with ingress := { s.ingress with set1 := q } }
  | 2 => { s with ingress := { s.ingress with set2 := q } }
  | _ => { s with ingress := { s.ingress with set3 := q } }

/-- The queue of a class. -/
def QueueSet.q (t : QueueSet) (c : Nat) : ClassQueue :=
  match c with
  | 0 => t.q0
  | 1 => t.q1
  | 2 => t.q2
  | _ => t.q3

def QueueSet.setQ (t : QueueSet) (c : Nat) (q : ClassQueue) : QueueSet :=
  match c with
  | 0 => { t with q0 := q }
  | 1 => { t with q1 := q }
  | 2 => { t with q2 := q }
  | _ => { t with q3 := q }

/-- R171: the sizes of head, tail and spill ring, and the spill block. -/
def headBytes : Nat := 65536
def tailBytes : Nat := 65536
def spillBytes : Nat := 1048576
def spillBlock : Nat := 4096

/-- R171: bytes in the head, the spill ring and the tail. -/
def ClassQueue.headFill (q : ClassQueue) : Nat :=
  match q.frames with
  | f :: _ => q.hPos - f.pos
  | [] => 0
def ClassQueue.spillFill (q : ClassQueue) : Nat := q.sPos - q.hPos
def ClassQueue.tailFill (q : ClassQueue) : Nat := q.tPos - q.sPos

/-- The end of a frame among the bytes of its queue. -/
def QFrame.endPos (f : QFrame) : Nat := f.pos + f.len

/-- R174: where the head's SRAM begins to be free: a popped frame of the class stays there until its DONE. -/
def QueueSet.oldest (t : QueueSet) (c : Nat) : Nat :=
  let q := t.q c
  let ps := (t.popped.filter fun p => decide (p.1 = c)).map fun p => p.2.pos
  let first := match q.frames with
    | f :: _ => f.pos
    | [] => q.hPos
  ps.foldl min first

/-- R171: the end of the last of the frames that the head can take by `lim`, at least what it holds. -/
def ClassQueue.fits (q : ClassQueue) (lim : Nat) : Nat :=
  q.frames.foldl (fun h f => if f.endPos ≤ lim then max h f.endPos else h) q.hPos

/-- R171: while the spill ring is empty, frames pass from the tail to the head, whose SRAM is free up to `lim`. -/
def ClassQueue.pass (q : ClassQueue) (lim : Nat) : ClassQueue :=
  if q.spillFill = 0 then { q with hPos := q.fits lim, sPos := max q.sPos (q.fits lim) } else q

/-- R171: the blocks of 4 KB that the tail holds and the spill ring has room for. -/
def ClassQueue.blocks (q : ClassQueue) : Nat :=
  min (q.tailFill / spillBlock) ((spillBytes - q.spillFill) / spillBlock)

/-- R171: the tail writes its blocks to the spill ring. -/
def ClassQueue.spillOut (q : ClassQueue) : ClassQueue := { q with sPos := q.sPos + q.blocks * spillBlock }

/-- R171: the head refills from the spill ring by blocks while its SRAM has room. -/
def ClassQueue.refill (q : ClassQueue) (lim : Nat) : ClassQueue :=
  { q with hPos := q.hPos + min ((lim - q.hPos) / spillBlock * spillBlock) q.spillFill }

/-- R172: a frame of `len` bytes does not fit: no room in the tail while the spill ring has no room for a block. -/
def ClassQueue.full (q : ClassQueue) (len : Nat) : Bool :=
  decide (tailBytes < q.tailFill + len) && decide (spillBytes < q.spillFill + spillBlock)

/-- The head frame of a queue, once all of it is in the head. -/
def ClassQueue.first (q : ClassQueue) : Option QFrame :=
  match q.frames with
  | f :: _ => if f.endPos ≤ q.hPos then some f else none
  | [] => none

def State.qEnabled (s : State) (n c : Nat) : Bool := bit (s.regN (Reg.Q_CFG n c)) 0
def State.qPoll (s : State) (n c : Nat) : Bool := bit (s.regN (Reg.Q_CFG n c)) 1

/-- The moves that follow a change of queue `c` of set `n`: from the tail directly, or else to the spill ring, each block at
DRAM rank 5 (R171). QUEUE_SPILL is raised when the ring starts to fill. -/
def State.settleQueue (s : State) (n c : Nat) : State :=
  let t := s.qset n
  let q := (t.q c).pass (t.oldest c + headBytes)
  let starts := decide (q.spillFill = 0) && decide (0 < q.blocks)
  let s := s.setQset n (t.setQ c q.spillOut)
  let s := (List.range q.blocks).foldl (fun s _ => s.issue 5) s
  if starts then s.raiseAt Ev.QUEUE_SPILL (if n < 3 then n else 0) else s

/-- The class that R173 pops next: the lowest non-empty enabled one, but class 3 after 16 pops of the others while it
waited. -/
def State.popClass (s : State) (n : Nat) : Option Nat :=
  let t := s.qset n
  let ready := fun c => s.qEnabled n c && (t.q c).first.isSome
  if 16 ≤ t.lowRun ∧ ready 3 then some 3 else [0, 1, 2, 3].find? ready

/-- R173, Qs_POP: TAG, CLASS and LENGTH of a valid pop. -/
def popWord (c len : Nat) : Nat := 1 + c * 16 + len % 2 ^ 14 * 64

/-- R34, R174: the system address of a frame in the head of queue `c` of set `n`, a ring of 64 KB (log 18). -/
def queueAddr (n c pos : Nat) : Nat := 0x20400000 + (n * 4 + c) * 0x20000 + pos % headBytes

/-- The word that a read returns. -/
def State.readAnswer (s : State) (v : Nat) : State := { s with ctrl := { s.ctrl with regOut := BitVec.ofNat 32 v } }

/-- R173: take the head frame of class `c`: it is latched, remembered as popped, and the run of low classes counted. -/
def State.popFrom (s : State) (n c : Nat) : State :=
  let t := s.qset n
  let q := t.q c
  match q.frames with
  | f :: fs =>
    let waiting3 := s.qEnabled n 3 && t.q3.first.isSome
    let t := { t.setQ c { q with frames := fs } with
      popped := t.popped ++ [(c, f)], lowRun := if c = 3 then 0 else if waiting3 then t.lowRun + 1 else 0, stalled := false }
    (((s.setQset n t).setRegN (Reg.Q_POP_ADDR n) (queueAddr n c f.pos)).setReg (Reg.Q_POP_STAMP n) f.stamp).readAnswer (popWord c f.len)
  | [] => s

/-- R173: a read that stalls ends with NOT_VALID. -/
def State.notValid (s : State) (n : Nat) : State := (s.setQset n { s.qset n with stalled := false }).readAnswer 0

/-- R173, R174: a pop by the consumer. With nothing to take, or with 8 popped frames without DONE, it stalls on the main
path and returns NOT_VALID on the fallback or when the set is disabled. -/
def State.consumerPop (s : State) (n : Nat) : State :=
  let t := s.qset n
  match (if t.popped.length < 8 then s.popClass n else none) with
  | some c => s.popFrom n c
  | none =>
    let enabled := [0, 1, 2, 3].filter fun c => s.qEnabled n c
    if enabled = [] ∨ enabled.any (fun c => s.qPoll n c) then s.notValid n
    else s.setQset n { t with stalled := true }

/-- A stalled read completes when a frame can be taken. -/
def State.wakePop (s : State) (n : Nat) : State := if (s.qset n).stalled then s.consumerPop n else s

/-- R171: the MAC writes a whole frame into the tail of its class. -/
def State.enqueue (s : State) (n c : Nat) (bytes : List Byte) (stamp : Word) : State :=
  let t := s.qset n
  let q := t.q c
  let q := { q with frames := q.frames ++ [⟨q.tPos, bytes.length, stamp, bytes⟩], tPos := q.tPos + bytes.length }
  ((s.setQset n (t.setQ c q)).settleQueue n c).wakePop n

/-- R174: popped frames without DONE return to the heads of their queues in their original order. -/
def State.requeuePopped (s : State) (n : Nat) : State :=
  let t := s.qset n
  let back := fun c => (t.popped.filter fun p => decide (p.1 = c)).map Prod.snd
  let put := fun (q : ClassQueue) c => ({ q with frames := back c ++ q.frames } : ClassQueue)
  s.setQset n { t with q0 := put t.q0 0, q1 := put t.q1 1, q2 := put t.q2 2, q3 := put t.q3 3, popped := [] }

/-- R170, R335: the consumer of a queue set does not run: its engine restarts or is halted. -/
def State.consumerAway (s : State) (n : Nat) : Bool :=
  let g := s.engine (match n with
    | 0 => 2
    | 1 => 3
    | 2 => 2
    | _ => 1)
  g.restarting || g.halted

/-- R109, R431: the class of set 3 that mirror frames enter: no rule of R109 names them, so the last one applies. -/
def mirrorClass : Nat := 3

/-- R170, R174, R431: a mirror frame of `len` payload bytes enters queue set 3, from where the SC takes it at once and
releases it; the second part says that it did. Its bytes are the peer's, so they are free (log 133). -/
def State.mirrorArrives (s : State) (len : Nat) : State × Bool :=
  let n := 16 + len
  if ((s.qset 3).q mirrorClass).full n ∨ s.qEnabled 3 mirrorClass = false then (s, false)
  else
    let bytes := (List.range n).map fun i => BitVec.ofNat 8 (Config.freeNat (s.draws + i))
    (({ s with draws := s.draws + n } : State).enqueue 3 mirrorClass bytes s.short, !s.consumerAway 3)

/-- HEAD_REFILL: R171. -/
def execHeadRefill (n : Fin 4) (c : Fin 4) (s : State) : Host.Outcome State Fault Refusal :=
  let t := s.qset n
  .next (((s.setQset n (t.setQ c ((t.q c).refill (t.oldest c + headBytes)))).settleQueue n c).wakePop n)

/-- QS_POP: R173 to R175. A read through REG_READ returns NOT_VALID at once and never dequeues; a consumer that restarts
reads nothing. -/
def execQsPop (n : Fin 4) (byRegRead : Bool) (s : State) : Host.Outcome State Fault Refusal :=
  if byRegRead then .next (s.readAnswer 0) else if s.consumerAway n then .next s else .next (s.consumerPop n)

/-- R174: release the popped frame at `addr`; its SRAM is free for what waits. -/
def State.popDone (s : State) (n : Nat) (addr : Nat) : State :=
  let t := s.qset n
  let s := s.setQset n { t with popped := t.popped.filter fun p => decide (queueAddr n p.1 p.2.pos ≠ addr) }
  ([0, 1, 2, 3].foldl (fun s c => s.settleQueue n c) s).wakePop n

/-- R431: the SC takes what set 3 gives and releases it; the value of the last register read stays. -/
def State.mirrorTaken (s : State) : State :=
  let out := s.ctrl.regOut
  let s := match s.popClass 3 with
    | some c => s.popFrom 3 c
    | none => s
  let s := ((s.qset 3).popped.map fun p => queueAddr 3 p.1 p.2.pos).foldl (fun s a => s.popDone 3 a) s
  { s with ctrl := { s.ctrl with regOut := out } }

/-- R30, R431: what the SC does with a mirror frame of `len` payload bytes; while the SC is halted the frame waits in set 3. -/
def State.fromMirror (s : State) (len : Nat) (f : State → State) : State :=
  let r := s.mirrorArrives len
  if r.2 then f r.1.mirrorTaken else r.1

/-- QS_DONE: R174. -/
def execQsDone (n : Fin 4) (addr : Word) (s : State) : Host.Outcome State Fault Refusal := .next (s.popDone n addr.toNat)

end Sys2Proof.Machine
end

