-- ==== Sys2Proof/Machine/Ports.lean ====
section
/-! DEFINITION. The network ports: the receive path, forwarding, the transparent clock, the egress and the firmware's own
protocol answers (03_network_ports.md). -/

namespace Sys2Proof.Machine

/-! ### Frame fields -/

/-- The EtherType field at bytes 12 and 13. -/
def outerType (f : List Byte) : Nat := field f 12 2

/-- R101: one IEEE 802.1Q tag. -/
def tagged (f : List Byte) : Bool := decide (outerType f = 0x8100)

/-- Offset of the EtherType after at most one tag. -/
def typeOff (f : List Byte) : Nat := if tagged f then 16 else 12

def innerType (f : List Byte) : Nat := field f (typeOff f) 2

/-- The VID of a tagged frame. -/
def vidOf (f : List Byte) : Nat := field f 14 2 % 4096

def dstMac (f : List Byte) : Nat := field f 0 6
def srcMac (f : List Byte) : Nat := field f 6 6

def broadcastMac : Nat := 0xFFFFFFFFFFFF

/-- The bytes between the EtherType and the FCS. -/
def payloadOf (f : List Byte) : List Byte := ((f.take (f.length - 4)).drop (typeOff f + 2))

/-- R107: what the IP and UDP checks find in a frame. -/
inductive IpVerdict where
  | pass | hdrErr | frag | udpErr
  deriving DecidableEq, Repr

/-- R107: the pseudo-header sum and the UDP checks. `src` and `dst` are the addresses, `udp` the IP payload. -/
def udpVerdict (v6 : Bool) (addrs : List Byte) (udp : List Byte) : IpVerdict :=
  let len := field udp 4 2
  if udp.length < 8 ∨ len < 8 ∨ udp.length < len then .udpErr
  else
    let sum := field udp 6 2
    if sum = 0 then (if v6 then .udpErr else .pass)
    else if onesSum (addrs ++ beBytes 2 17 ++ beBytes 2 len ++ udp.take len) = 65535 then .pass
    else .udpErr

/-- R107: skip IPv6 extension headers, those that RFC 8200 and its companions define (log 121): the final next header, the
payload, and whether a Fragment header was met. -/
def ipv6Walk : Nat → Nat → List Byte → Nat × List Byte × Bool
  | 0, nh, p => (nh, p, false)
  | n + 1, nh, p =>
    if nh = 44 then (byteAt p 0, p.drop 8, true)
    else if nh = 51 then ipv6Walk n (byteAt p 0) (p.drop (4 * (byteAt p 1 + 2)))
    else if [0, 43, 60, 135, 139, 140].contains nh then ipv6Walk n (byteAt p 0) (p.drop (8 * (byteAt p 1 + 1)))
    else (nh, p, false)

/-- The walk over the IPv6 payload of a frame's payload `p`; each header takes bytes, so as many steps as bytes suffice. -/
def ipv6Upper (p : List Byte) : Nat × List Byte × Bool :=
  ipv6Walk (p.length + 1) (byteAt p 6) ((p.drop 40).take (field p 4 2))

/-- R107: the checks in order; other EtherTypes pass. -/
def ipVerdict (f : List Byte) : IpVerdict :=
  let p := payloadOf f
  if innerType f = 0x0800 then
    let ihl := byteAt p 0 % 16
    let total := field p 2 2
    if byteAt p 0 / 16 ≠ 4 ∨ ihl < 5 ∨ total < 4 * ihl ∨ p.length < total ∨ onesSum (p.take (4 * ihl)) ≠ 65535 then .hdrErr
    else if bit (byteAt p 6) 5 ∨ field p 6 2 % 8192 ≠ 0 then .frag
    else if byteAt p 9 = 17 then udpVerdict false ((p.drop 12).take 8) ((p.take total).drop (4 * ihl))
    else .pass
  else if innerType f = 0x86DD then
    let len := field p 4 2
    if byteAt p 0 / 16 ≠ 6 ∨ p.length < 40 ∨ p.length - 40 < len then .hdrErr
    else
      let w := ipv6Upper p
      if w.2.2 then .frag
      else if w.1 = 17 then udpVerdict true ((p.drop 8).take 32) w.2.1
      else .pass
  else .pass

/-- The UDP datagram of a frame: offset of the UDP header in the IP payload is resolved; none when the frame carries
none. -/
def udpOf (f : List Byte) : Option (List Byte) :=
  let p := payloadOf f
  if innerType f = 0x0800 ∧ byteAt p 9 = 17 then some ((p.take (field p 2 2)).drop (4 * (byteAt p 0 % 16)))
  else if innerType f = 0x86DD then
    let w := ipv6Upper p
    if w.1 = 17 then some w.2.1 else none
  else none

/-- R131: the UDP ports that carry HPT: HPT_UDP_PORT and those of the enabled streams. -/
def State.hptPorts (s : State) : List Nat :=
  s.param P.HPT_UDP_PORT :: ((List.range 64).filter fun i => s.streamEnabled i && decide (field (s.streamCfg i) 12 2 ≠ 0)).map
    fun i => field (s.streamCfg i) 12 2

/-- R109, R131: the class of a delivered frame; class 1 follows the HPT carriers. -/
def State.classOf (s : State) (f : List Byte) : Nat :=
  let t := innerType f
  let dp := (udpOf f).map fun u => field u 2 2
  if t = 0x88F7 ∨ dp = some 319 ∨ dp = some 320 ∨ dp = some 47811 ∨ dp = some 47813 then 0
  else if t = s.param P.HPT_ETHERTYPE ∨ dp.any (s.hptPorts.contains ·) = true then 1
  else if dp = some 5568 then 2
  else 3

/-! ### Filter (R104 to R106) -/

/-- R104: the fixed PTP recognisers. -/
def ptpMacs : List Nat := [0x011B19000000, 0x01005E000181, 0x333300000181]
def peerDelayMacs : List Nat := [0x0180C200000E, 0x01005E00006B, 0x33330000006B]

/-- R104: the ACTION of a valid filter entry of a port that matches. Where several match with different actions the spec names
none of them: the model takes the lowest-numbered one (DESIGN CHOICE, log 122). -/
def State.filterMatch (s : State) (p : Port) (dst : Nat) : Option Bool :=
  (List.range 8).findSome? fun n =>
    let hi := s.regN (Reg.FILT_HI p.index n)
    let addr := (hi % 65536) * 2 ^ 32 + s.regN (Reg.FILT_LO p.index n)
    if bit hi 16 ∧ (if bit hi 17 then dst / 65536 = addr / 65536 else dst = addr) then some (bit hi 18) else none

def State.macCtrl (s : State) (p : Port) : Nat := s.regN (Reg.MAC_CTRL p.index)
/-- R516: PORT_EN of the service port stays 0 when memory repair has removed its queue set. -/
def State.portEn (s : State) (p : Port) : Bool := bit (s.macCtrl p) 0 && !(decide (p = .sv) && s.sys.set2Lost)

/-- R105: (delivered, forwarded) by the destination, before the port conditions. -/
def State.r105 (s : State) (p : Port) (dst : Nat) : Bool × Bool :=
  match s.filterMatch p dst with
  | some fwd => (true, fwd)
  | none =>
    if ptpMacs.contains dst then (true, true)
    else if peerDelayMacs.contains dst then (true, false)
    else if dst / 16 = 0x0180C200000 then (false, false)
    else if dst = broadcastMac then (bit (s.macCtrl p) 6, true)
    else (false, true)

/-- R106: the tag rule. -/
def State.vlanOk (s : State) (p : Port) (f : List Byte) : Bool :=
  let vid := bits (s.regN (Reg.VLAN_CFG p.index)) 11 0
  if tagged f then decide (innerType f ≠ 0x8100) && decide (vidOf f = vid) else decide (vid = 0)

/-- R101: the length limit. -/
def State.maxLen (s : State) (p : Port) (f : List Byte) : Nat :=
  bits (s.regN (Reg.MAC_MAX_FRAME p.index)) 13 0 + (if tagged f then 4 else 0)

/-- R102 step 5: the source address is one of the device's own. -/
def State.ownSource (s : State) (f : List Byte) : Bool :=
  let b := s.nvm.macBase
  decide (srcMac f = b) || decide (srcMac f = b + 1) || decide (srcMac f = b + 2)

/-- The queue set of a port (R170). -/
def Port.qset : Port → Nat
  | .a => 0
  | .b => 1
  | .sv => 2

/-- R102: the outcome of the judging steps for a received frame. -/
inductive RxVerdict where
  | runt | giant | fcsErr | pause | ownSrc | filtered | ipHdr | ipFrag | udpErr | dropFifo | delivered (cls : Nat)
  deriving DecidableEq, Repr

/-- R110, R172: the class queue that a frame of `len` bytes would enter does not accept it. -/
def State.queueRefuses (s : State) (p : Port) (cls len : Nat) : Bool :=
  ((s.qset p.qset).q cls).full len || !s.qEnabled p.qset cls

/-- R110: the receive FIFO of a port is full: the queue that could not accept a frame still does not. -/
def State.rxFull (s : State) (p : Port) : Bool :=
  match (s.mac p).rxBlocked with
  | some (c, l) => ((s.qset p.qset).q c).full l
  | none => false

/-- R102: judge a frame, step by step. -/
def State.judgeFrame (s : State) (p : Port) (f : List Byte) (fcs : Fcs) : RxVerdict :=
  if f.length < 64 then .runt
  else if s.maxLen p f < f.length then .giant
  else if fcs ≠ .good then .fcsErr
  else if innerType f = 0x8808 then .pause
  else if s.ownSource f then .ownSrc
  else
    let cls := s.classOf f
    if !(s.r105 p (dstMac f)).1 ∨ !s.vlanOk p f ∨ (p = .sv ∧ !s.paramOn P.SV_PIXEL_EN ∧ (cls = 1 ∨ cls = 2)) then .filtered
    else
      match ipVerdict f with
      | .hdrErr => .ipHdr
      | .frag => .ipFrag
      | .udpErr => .udpErr
      | .pass => if s.rxFull p ∨ s.queueRefuses p cls f.length then .dropFifo else .delivered cls

/-- R130: the counters of a frame that passed steps 1 to 5. -/
def State.countRx (s : State) (p : Port) (f : List Byte) : State :=
  let i := p.index
  let s := (s.count (Reg.RX_FRAMES i)).countBytes (Reg.RX_BYTES_LO i) f.length
  if dstMac f = broadcastMac then s.count (Reg.RX_BCAST i)
  else if bit (byteAt f 0) 0 then s.count (Reg.RX_MCAST i)
  else s.count (Reg.RX_UCAST i)

/-- The source address of an IP frame, IPv4 as IPv4-mapped; empty for other frames. -/
def srcIp (f : List Byte) : List Byte :=
  let p := payloadOf f
  if innerType f = 0x0800 then List.replicate 10 0 ++ [0xFF, 0xFF] ++ (p.drop 12).take 4
  else if innerType f = 0x86DD then (p.drop 8).take 16
  else []

/-- R373: the port on which the device last received a frame from an address. -/
def State.noteStreamPort (s : State) (p : Port) (f : List Byte) : State :=
  if srcIp f = [] then s
  else { s with jnl := { s.jnl with heardOn := SMap.set (fun _ => Port.a) s.jnl.heardOn (beNat (srcIp f)) p } }

/-- R130: what the receiver found on the line: decode errors, at least the one that truncated a frame, and on ports A and B the
RS-FEC codewords corrected or not; an uncorrectable one raises FEC_UNCORR. -/
def State.countLine (s : State) (p : Port) (rx : Reception) : State :=
  let i := p.index
  let e := rx.line
  let n := if rx.fcs = .decodeErr then max 1 e.symbols else e.symbols
  let s := if n = 0 then s else s.countN (Reg.RX_SYMBOL_ERR i) n
  if p = .sv ∨ (s.mac p).fecActive = false then s
  else
    let s := if e.corrected = 0 then s else s.countN (Reg.FEC_CORRECTED i) e.corrected
    if e.uncorrected = 0 then s else (s.countN (Reg.FEC_UNCORRECTED i) e.uncorrected).raiseAt (Ev.FEC_UNCORR i) i

/-- R111: the short time at which the frame's first address bit crossed the receive ball: the MAC's own time less the PHY
latency RX_LAT, in units of 1/16 ns. -/
def State.rxStamp (s : State) (p : Port) : Word := s.short - BitVec.ofNat 32 (bits (s.regN (Reg.TS_LATENCY p.index)) 15 0 / 16)

/-- R111: full ns at which the first address bit of a frame that starts now crosses the transmit ball. -/
def State.txNs (s : State) (p : Port) : Nat := s.nowNs + bits (s.regN (Reg.TS_LATENCY p.index)) 31 16 / 16

/-- R110: remember which queue holds the receive FIFO up. -/
def State.blockRx (s : State) (p : Port) (cls len : Nat) : State :=
  if s.rxFull p then s else s.setMac p { s.mac p with rxBlocked := some (cls, len) }

/-- R102, R103, R110, R130: a frame is judged, counted, and delivered or dropped. -/
def State.receive (s : State) (p : Port) (f : List Byte) (fcs : Fcs) : State :=
  let i := p.index
  match s.judgeFrame p f fcs with
  | .runt => s.count (Reg.RX_RUNT i)
  | .giant => s.count (Reg.RX_GIANT i)
  | .fcsErr => s.count (Reg.RX_FCS_ERR i)
  | .pause => s.count (Reg.RX_PAUSE i)
  | .ownSrc => (s.count (Reg.RX_OWN_SRC i)).raiseAt (Ev.OWN_SRC_SEEN i) i
  | .filtered => (s.countRx p f).count (Reg.RX_FILTERED i)
  | .ipHdr => (s.countRx p f).count (Reg.RX_IP_HDR_ERR i)
  | .ipFrag => (s.countRx p f).count (Reg.RX_IP_FRAG i)
  | .udpErr => (s.countRx p f).count (Reg.RX_UDP_CSUM_ERR i)
  | .dropFifo => ((s.countRx p f).count (Reg.RX_DROP_FIFO i)).blockRx p (s.classOf f) f.length
  | .delivered cls => (((s.countRx p f).count (Reg.RX_DELIVERED i)).noteStreamPort p f).enqueue p.qset cls f (s.rxStamp p)

/-- RECEIVED_FRAME: R102, R103, R110, R111, R130. A port without link or with PORT_EN = 0 receives nothing. -/
def execReceivedFrame (p : Port) (f : List Byte) (rx : Reception) (s : State) : Host.Outcome State Fault Refusal :=
  if (s.mac p).up = false ∨ s.portEn p = false then .next s else .next ((s.countLine p rx).receive p f rx.fcs)

/-! ### Forwarding (R112 to R123) -/

/-- The other chain port. -/
def Port.other : Port → Option Port
  | .a => some .b
  | .b => some .a
  | .sv => none

/-- The PTP message of a frame: its offset in the frame, and the offset of the UDP header when it has one. -/
def ptpIn (f : List Byte) : Option (Nat × Option Nat) :=
  let base := typeOff f + 2
  if innerType f = 0x88F7 then some (base, none)
  else
    match udpOf f with
    | some u =>
      if field u 2 2 = 319 ∨ field u 2 2 = 320 then
        let p := payloadOf f
        let total := if innerType f = 0x0800 then field p 2 2 else 40 + field p 4 2
        let off := base + (total - u.length)
        some (off + 8, some off)
      else none
    | none => none

/-- R121: the type of a PTP message at an offset: Sync 0, Delay_Req 1, Pdelay 2, 3 and 0xA. -/
def ptpType (f : List Byte) (off : Nat) : Nat := byteAt f off % 16

/-- Replace the bytes at an offset. -/
def patch (f : List Byte) (off : Nat) (b : List Byte) : List Byte := f.take off ++ b ++ f.drop (off + b.length)

/-- R123: the last two payload bytes that keep the checksum correct; at an odd offset the bytes count swapped. -/
def fixupTail (old new : List Byte) (tail : Nat) (odd : Bool) : Nat :=
  let swap := fun n => n % 256 * 256 + n / 256
  let t := if odd then swap tail else tail
  let v := (t + onesSum old + (65535 - onesSum new)) % 65535
  if odd then swap v else v

/-- R121 to R123: the transparent clock on a copy: (bytes, corrected, no fix-up). -/
def transparent (f : List Byte) (residenceNs : Nat) : List Byte × Bool × Bool :=
  match ptpIn f with
  | none => (f, false, false)
  | some (off, udp) =>
    if 1 < ptpType f off then (f, false, false)
    else
      let old := (f.drop (off + 8)).take 8
      let new := beBytes 8 (beNat old + residenceNs * 65536)
      let g := patch f (off + 8) new
      match udp with
      | none => (g, true, false)
      | some u =>
        let udpLen := field f (u + 4) 2
        let msgLen := field f (off + 2) 2
        if msgLen + 2 ≤ udpLen - 8 then
          let last := u + udpLen - 2
          (patch g last (beBytes 2 (fixupTail old new (field f last 2) (decide ((udpLen - 2) % 2 = 1)))), true, false)
        else if innerType f = 0x0800 ∧ field f (u + 6) 2 = 0 then (g, true, false)
        else (f, false, true)

/-- R105, R112, R119, R121: is the frame forwarded out of `e`? -/
def State.forwards (s : State) (p e : Port) (f : List Byte) : Bool :=
  let ctrl := s.macCtrl e
  (s.mac p).up && (s.mac e).up && bit ctrl 4 && decide (64 ≤ f.length) && (s.r105 p (dstMac f)).2 &&
    decide (dstMac f / 16 ≠ 0x0180C200000) && decide (innerType f ≠ 0x8808) &&
    (!bit ctrl 5 || decide (srcMac f / 2 ^ 24 = s.nvm.macBase / 2 ^ 24)) &&
    (match ptpIn f with
     | some (off, _) => !([2, 3, 0xA].contains (ptpType f off))
     | none => true)

/-- Bytes in a forwarding FIFO. -/
def fifoLevel (m : Mac) : Nat := (m.fwd.map fun x => x.keep + 4).foldl (· + ·) 0

/-- FWD_STATUS.PEAK in units of 2 bytes (its register's high half is kept in the store). -/
def State.fifoPeak (s : State) (e : Port) : State :=
  let a := Reg.FWD_STATUS e.index
  let peak := fifoLevel (s.mac e) / 2
  if s.regN a / 65536 < peak then s.setRegN a (s.regN a % 65536 + peak * 65536) else s

/-- FORWARDING: R112, R114, R116. A copy enters the egress FIFO; it is stomped when the frame fails step 2, 3 or 5 of R102 or
the FIFO overflows, and not sent at all when less than 64 bytes are free. `sinceNs` is the time since the ingress stamp of
R111. -/
def execForwarding (p : Port) (f : List Byte) (fcs : Fcs) (sinceNs : Nat) (s : State) : Host.Outcome State Fault Refusal :=
  match p.other with
  | none => .next s
  | some e =>
    if s.forwards p e f = false then .next s
    else
      let m := s.mac e
      let i := e.index
      let free := 32768 - fifoLevel m
      if free < 64 then .next (s.count (Reg.FWD_DROP i))
      else
        let giant := decide (s.maxLen p f < f.length)
        let stomp := giant || decide (fcs ≠ .good) || s.ownSource f
        let keep := if giant then s.maxLen p f + 1 else f.length - 4
        let copy : FwdFrame := { bytes := f, keep := keep, stomp := stomp, ingressNs := s.nowNs - sinceNs }
        if free < keep + 4 then
          let s := s.setMac e { m with fwd := m.fwd ++ [{ copy with keep := free - 4, stomp := true, dropped := true }] }
          .next (((s.count (Reg.FWD_DROP i)).fifoPeak e).raiseAt (Ev.FWD_OVERFLOW i) i)
        else .next ((s.setMac e { m with fwd := m.fwd ++ [copy] }).fifoPeak e)

/-! ### Egress (R106, R108, R115) -/

/-- R111: a PTP event message: Sync, Delay_Req, Pdelay_Req and Pdelay_Resp. -/
def isPtpEvent (f : List Byte) : Bool :=
  match ptpIn f with
  | some (off, _) => decide (ptpType f off < 4)
  | none => false

/-- The first own frame that goes ahead of forwarded ones: class 0, or one that waited behind 8 forwarded frames. -/
def takeFirst (g : OwnFrame → Bool) : List OwnFrame → Option (OwnFrame × List OwnFrame)
  | [] => none
  | f :: fs => if g f then some (f, fs) else (takeFirst g fs).map fun r => (r.1, f :: r.2)

/-- R114, R130: the frame in transmission is complete: an own frame is counted TX_FRAMES, a forwarded copy FWD_FRAMES, and
FWD_STOMPED when its FCS was stomped; a copy that is counted FWD_DROP is in neither. -/
def State.txDone (s : State) (p : Port) : State :=
  let m := s.mac p
  let i := p.index
  match m.tx with
  | some (.own f) =>
    ((s.setMac p { m with tx := none, sent := f :: m.sent }).count (Reg.TX_FRAMES i)).countBytes (Reg.TX_BYTES_LO i)
      (f.wire.length + 4)
  | some (.fwd x) =>
    let s := s.setMac p { m with tx := none, sentFwd := x :: m.sentFwd }
    if x.dropped then s
    else
      let s := if x.stomp then s.count (Reg.FWD_STOMPED i) else s
      (s.count (Reg.FWD_FRAMES i)).countBytes (Reg.FWD_BYTES_LO i) (x.keep + 4)
  | none => s

/-- R106, R108, R111: an own frame starts: its bytes are formed, and a PTP event frame is stamped. -/
def State.startOwn (s : State) (p : Port) (f : OwnFrame) (rest : List OwnFrame) : State :=
  let f := { f with
    wire := s.wireBytes p f fun k => Config.freeNat (s.draws + k), stamp := if f.kind = .ptp then some (BitVec.ofNat 32 (s.txNs p)) else none }
  { s with draws := s.draws + 4 }.setMac p { s.mac p with own := rest, tx := some (.own f) }

/-- R111, R114, R121 to R123: a forwarded copy starts: the transparent clock of the egress port corrects it by its residence,
from the ingress stamp to the egress stamp, and every own frame that waits has waited behind one more. -/
def State.startFwd (s : State) (p : Port) (x : FwdFrame) (rest : List FwdFrame) : State :=
  let m := s.mac p
  let i := p.index
  let stamp := if isPtpEvent x.bytes then some (BitVec.ofNat 32 (s.txNs p)) else none
  let tc := if bit (s.macCtrl p) 7 then transparent x.bytes (s.txNs p - x.ingressNs) else (x.bytes, false, false)
  let s := s.setMac p { m with
    fwd := rest, tx := some (.fwd { x with bytes := tc.1.take x.keep, stamp := stamp })
    own := m.own.map fun f => { f with waited := f.waited + 1 } }
  let s := if tc.2.1 then s.count (Reg.TC_CORRECTED i) else s
  if tc.2.2 then s.count (Reg.TC_NO_FIXUP i) else s

/-- R115: start the first waiting item of the list. -/
def State.startNext (s : State) (p : Port) : State :=
  let m := s.mac p
  match takeFirst (fun f => f.cls0 || decide (8 ≤ f.waited)) m.own with
  | some (f, rest) => s.startOwn p f rest
  | none =>
    match m.fwd with
    | x :: rest => s.startFwd p x rest
    | [] =>
      match m.own with
      | f :: rest => s.startOwn p f rest
      | [] => s

/-- FRAME_BOUNDARY: R115: at a frame boundary the frame in transmission has ended, and the egress MAC starts the first waiting
item of the list; it never pre-empts a frame. -/
def execFrameBoundary (p : Port) (s : State) : Host.Outcome State Fault Refusal :=
  if (s.mac p).up = false then .next s else .next ((s.txDone p).startNext p)

/-! ### Links: the receiver's conditions and the search (R97 to R99) -/

/-- R97, R493: the transmitter is at electrical idle: in reset, before the port's training and with PORT_EN = 0. -/
def State.txIdle (s : State) (p : Port) : Bool := s.sys.inReset || !(s.mac p).trained || !s.portEn p

/-- MAC_CTRL.SPEED_SEL. -/
def State.speedSel (s : State) (p : Port) : Nat := bits (s.macCtrl p) 2 1

/-- R97: the MAC_STATUS.SPEED code at which a port seeks link (1 10G, 2 25G, 3 1G): in AUTO the search window says. -/
def State.seekSpeed (s : State) (p : Port) : Nat :=
  if p = .sv then 3
  else
    match s.speedSel p with
    | 0 => if (s.mac p).win25 then 2 else 1
    | 1 => 2
    | 2 => 1
    | _ => 0

/-- R98: RS-FEC is in use at the speed at which a port seeks link. -/
def State.fecRuns (s : State) (p : Port) : Bool := decide (p ≠ .sv) && decide (s.seekSpeed p = 2) && bit (s.macCtrl p) 3

/-- R98, R99: the lock conditions of a port: block lock without high BER, and codeword alignment where RS-FEC runs; on the
service port code-group synchronisation with its auto-negotiation complete, or the PHY's report of link-up. -/
def State.lockHolds (s : State) (p : Port) : Bool :=
  let m := s.mac p
  m.blockLock && !m.hiBer && ((decide (p ≠ .sv) && !s.fecRuns p) || m.aligned)

/-- R99: a change of the receiver's conditions; where they begin to hold, the 10 ms begin. -/
def State.setLine (s : State) (p : Port) (m : Mac) : State :=
  let t := s.setMac p m
  if t.lockHolds p ∧ s.lockHolds p = false then t.setMac p { m with lockUp := s.up } else t

/-- R97: the duration of a search window, ns. -/
def windowNs (win25 : Bool) : Nat := if win25 then 400000000 else 600000000

/-- SEARCH_WINDOW: R97: under AUTO a port without link alternates between a 25G window of 400 ms and a 10G window of 600 ms. -/
def execSearchWindow (p : Port) (s : State) : Host.Outcome State Fault Refusal :=
  let m := s.mac p
  if p = .sv ∨ m.up ∨ m.trained = false ∨ s.portEn p = false ∨ s.speedSel p ≠ 0 then .next s
  else
    let s := s.reach (m.winUp + windowNs m.win25)
    .next (s.setMac p { m with win25 := !m.win25, winUp := s.up, blockLock := false, aligned := false })

/-- The port of a link, none for the mirror link. -/
def Link.port : Link → Option Port
  | .a => some .a
  | .b => some .b
  | .sv => some .sv
  | .mirror => none

/-- BLOCK_LOCK: R99: the receiver gains block lock, with codeword alignment when FEC is in use; the service port gains
code-group synchronisation, with its second condition. -/
def execBlockLock (l : Link) (aligned : Bool) (s : State) : Host.Outcome State Fault Refusal :=
  match l.port with
  | some p =>
    let m := s.mac p
    if m.trained ∧ s.portEn p then .next (s.setLine p { m with blockLock := true, aligned := aligned }) else .next s
  | none =>
    .next { s with red := { s.red with mirrorLock := true, mirrorLockUp := if s.red.mirrorLock then s.red.mirrorLockUp else s.up } }

/-- HI_BER: R99: the high-BER condition of a receiver, and since when it stands. -/
def execHiBer (l : Link) (present : Bool) (s : State) : Host.Outcome State Fault Refusal :=
  match l.port with
  | some p =>
    let m := s.mac p
    .next (s.setLine p { m with hiBer := present, hiBerUp := if present ∧ m.hiBer = false then s.up else m.hiBerUp })
  | none =>
    let r := s.red
    .next { s with red := { r with
      mirrorHiBer := present, mirrorHiBerUp := if present ∧ r.mirrorHiBer = false then s.up else r.mirrorHiBerUp
      mirrorLockUp := if present = false ∧ r.mirrorHiBer then s.up else r.mirrorLockUp } }

/-! ### Own addresses and the answers of the firmware (R125, R126) -/

/-- An answer of the firmware, in class 3. -/
def ownAnswer (kind : OwnKind) (dst payload : List Byte) (mac src : Option (List Byte)) : OwnFrame :=
  { kind := kind, cls0 := false, dst := dst, sport := 0, dport := 0, payload := payload, mac := mac, src := src }

/-- The firmware serves the network: not in reset, not in BOOT. -/
def State.firmwareUp (s : State) : Bool := !s.sys.inReset && decide (s.mode ≠ .boot)

/-- ARP_REQUEST: R126. -/
def execArpRequest (p : Port) (target : Word) (srcMac : List Byte) (srcIp : Word) (s : State) : Host.Outcome State Fault Refusal :=
  if s.firmwareUp ∧ target ≠ 0 ∧ (s.ipOf p).addr = target then
    .next (s.sendOwn p (ownAnswer .arp (mapped4 srcIp.toNat) (arpMessage (s.ownMac p) srcMac target srcIp) (some srcMac) none))
  else .next s

/-- The answer to a neighbour solicitation of `target` by `src`, all zeros when the asker has no address. -/
def State.naAnswer (s : State) (p : Port) (target src : List Byte) : OwnFrame :=
  let dst := if beNat src = 0 then [0xFF, 0x02] ++ List.replicate 13 0 ++ [0x01] else src
  ownAnswer .na dst (naMessage (s.ownMac p) target (decide (beNat src ≠ 0))) none (some target)

/-- NEIGHBOUR_SOLICITATION: R126. -/
def execNeighbourSolicitation (p : Port) (target src : List Byte) (s : State) : Host.Outcome State Fault Refusal :=
  if s.firmwareUp ∧ (target = s.linkLocal p ∨ (target = s.global6 p ∧ beNat target ≠ 0)) then
    .next (s.sendOwn p (s.naAnswer p target src))
  else .next s

/-- ECHO_REQUEST: R126. `data` follows the checksum of the request. -/
def execEchoRequest (p : Port) (dst src data : List Byte) (s : State) : Host.Outcome State Fault Refusal :=
  if s.firmwareUp ∧ dst ∈ s.ownAddrs p then
    .next (s.sendOwn p (ownAnswer .echo src (echoMessage (isMapped dst) data) none (some dst)))
  else .next s

/-- The ports that carry membership reports (R125). -/
def State.reportPorts (s : State) : List Port := if s.paramOn P.SV_PIXEL_EN then [.a, .b, .sv] else [.a, .b]

/-- R125: the streams that name a group. -/
def State.groupStreams (s : State) (g : List Byte) : List Nat :=
  (List.range 64).filter fun i => s.streamEnabled i && decide ((s.streamCfg i).drop 16 |>.take 16 |> (· = g))

/-- R167: the group of universe `u`. -/
def sacnGroup (u : Nat) : List Byte := mapped4 (0xEFFF0000 + u)

/-- R165: the universes of a map; none while its KIND is OFF. -/
def mapUniverses (c : List Byte) : List Nat :=
  if byteAt c 4 = 0 then [] else (List.range (field c 2 2)).map fun i => field c 0 2 + i

/-- R165: the universes that the maps name. -/
def State.mappedUniverses (s : State) : List Nat := (List.range 32).flatMap fun m => mapUniverses (s.mapCfg m)

/-- R125: the sources of a group's INCLUDE join; none for EXCLUDE. A stream names its SOURCE where that is not zero and SRC_MAC
is 0; a universe names none. Where several name one group, the join covers every one of them: the sources of all when each
names one, EXCLUDE as soon as one names none (DESIGN CHOICE, log 123). -/
def State.joinSources (s : State) (g : List Byte) : Option (List (List Byte)) :=
  let named := (s.groupStreams g).map fun i =>
    let c := s.streamCfg i
    let src := (c.drop 32).take 16
    if beNat src ≠ 0 ∧ !bit (byteAt c 2) 2 then some src else none
  if named.isEmpty ∨ named.contains none ∨ g ∈ s.mappedUniverses.map sacnGroup then none else some (named.filterMap id).eraseDups

/-- R125: the group record types of IGMPv3 and MLDv2 that a report carries: for a query the present mode, else the change. -/
def State.reportOf (s : State) (g : List Byte) (query : Bool) : List Byte :=
  if g ∈ s.groups then
    match s.joinSources g with
    | some srcs => reportMessage g (if query then 1 else 3) srcs
    | none => reportMessage g (if query then 2 else 4) []
  else reportMessage g 3 []

/-- R125: the address to which reports go: all IGMPv3 or MLDv2 routers. -/
def reportDst (g : List Byte) : List Byte :=
  if isMapped g then mapped4 0xE0000016 else [0xFF, 0x02] ++ List.replicate 13 0 ++ [0x16]

/-- R125: one report frame of a group. -/
def State.reportFrame (s : State) (g : List Byte) (query : Bool) : OwnFrame :=
  ownAnswer .report (reportDst g) (s.reportOf g query) none none

/-- R125: a report of a change, on every port that carries reports. -/
def State.sendReport (s : State) (g : List Byte) : State :=
  s.reportPorts.foldl (fun t p => t.sendOwn p (s.reportFrame g false)) s

/-- MEMBERSHIP_REPORT: R125: the second report of a join or leave, 1 s after the first. -/
def execMembershipReport (g : List Byte) (s : State) : Host.Outcome State Fault Refusal :=
  match s.reports.find? fun r => decide (r.1 = g) with
  | some r =>
    if s.firmwareUp then
      let t := s.reach r.2
      .next ({ t with reports := t.reports.erase r }.sendReport g)
    else .next s
  | none => .next s

/-- MULTICAST_QUERY: R125: joined groups are reported on the port, at once, which is within any maximum response time (DESIGN
CHOICE, log 124). -/
def execMulticastQuery (p : Port) (group : Option (List Byte)) (_maxMs : Nat) (s : State) : Host.Outcome State Fault Refusal :=
  if s.firmwareUp ∧ p ∈ s.reportPorts then
    let gs := match group with
      | some g => s.groups.filter fun x => decide (x = g)
      | none => s.groups
    .next (gs.foldl (fun t g => t.sendOwn p (s.reportFrame g true)) s)
  else .next s

def State.setIp (s : State) (p : Port) (i : IpState) : State :=
  match p with
  | .sv => { s with ipSv := i }
  | _ => { s with ip := i }

/-- DHCP is the IPv4 source of the port's address. -/
def State.dhcpOn (s : State) (p : Port) : Bool :=
  if p = .sv then s.paramOn P.SV_IP_MODE else s.paramOn P.IP_MODE

/-- A DHCPv4 message of the client, from its address when it renews. -/
def State.dhcpSend (s : State) (p : Port) (type : Nat) (ciaddr : Word) (opts : List Byte) : State :=
  s.sendOwn p { (ownAnswer .dhcp (mapped4 0xFFFFFFFF) (dhcpMessage (s.ownMac p) type (s.ipOf p).xid ciaddr opts) none
    (some (mapped4 ciaddr.toNat))) with sport := 68, dport := 67 }

/-- A new transaction of the DHCPv4 client; its number is a free value (log 11). -/
def State.dhcpBegin (s : State) (p : Port) (i : IpState) : State :=
  { s with draws := s.draws + 1 }.setIp p { i with xid := Config.freeNat s.draws % 2 ^ 32 }

/-- DHCPV4: R126: an offer is requested, an acknowledgement gives the address and its lease, a refusal or an expired lease
takes the address away, and the timer asks or renews. -/
def execDhcpv4 (p : Port) (e : DhcpEvent) (s : State) : Host.Outcome State Fault Refusal :=
  if s.firmwareUp = false ∨ s.dhcpOn p = false then .next s
  else
    let i := s.ipOf p
    match e with
    | .offer ip _ _ server =>
      .next ((s.setIp p { i with requested := true }).dhcpSend p 3 0 ([50, 4] ++ beBytes 4 ip.toNat ++ [54, 4] ++ beBytes 4 server.toNat))
    | .ack ip mask gw leaseS =>
      if i.requested ∨ i.addr ≠ 0 then
        .next (s.setIp p { i with addr := ip, mask := mask, gw := gw, leaseUntil := s.up + leaseS * 1000000000, requested := false })
      else .next s
    | .nak => .next (s.setIp p { i with addr := 0, requested := false })
    | .timer =>
      if i.addr = 0 ∨ i.leaseUntil ≤ s.up then
        .next ((s.dhcpBegin p { i with addr := 0, requested := false }).dhcpSend p 1 0 [])
      else .next ((s.dhcpBegin p { i with requested := true }).dhcpSend p 3 i.addr [])

end Sys2Proof.Machine
end

