-- ==== Sys2Proof/Machine/Hpt.lean ====
section
/-! DEFINITION. Helvais Pixel Transport: how a packet engine judges a packet, places its pixels and rebuilds lost ones
(04_pixel_transport.md, R131 to R161, R168). -/

namespace Sys2Proof.Machine

/-- R134 to R136: the header of a packet, its fields where its version puts them. -/
structure Hpt where
  version : Nat
  type : Nat
  sid : Nat
  flags : Nat
  frame : Nat
  pt : Nat
  x : Nat
  y : Nat
  count : Nat
  format : Nat
  slotLayer : Nat
  seq : Nat
  group : Nat
  deriving DecidableEq, Repr

/-- R133: header lengths. -/
def hptHeaderLen (v : Nat) : Nat := if v = 1 then 16 else if v = 2 then 28 else 32

def parseHpt (d : List Byte) : Hpt :=
  let v := byteAt d 2
  if v = 1 then
    { version := 1, type := byteAt d 3, sid := field d 4 2, flags := 0, frame := field d 6 2, pt := 0
      x := field d 8 2, y := field d 10 2, count := field d 12 2, format := byteAt d 14, slotLayer := 0, seq := 0, group := 0 }
  else
    { version := v, type := byteAt d 3, sid := field d 4 2, flags := if v = 2 then 0 else field d 6 2, frame := field d 8 4
      pt := field d 12 4, x := field d 16 2, y := field d 18 2, count := field d 20 2, format := byteAt d 22
      slotLayer := if v = 2 then 0 else byteAt d 23, seq := field d 24 4, group := if v = 2 then 0 else field d 28 2 }

/-- R137: the packet belongs to a parity group. -/
def Hpt.inGroup (h : Hpt) : Bool := decide (h.version = 3) && bit h.flags 0
def Hpt.n (h : Hpt) : Nat := h.group / 256
def Hpt.index (h : Hpt) : Nat := h.group % 256
def Hpt.parity (h : Hpt) : Bool := decide (h.version = 3) && decide (h.type = 2)

/-- R154: FLAGS and GROUP allowed by step 5. -/
def Hpt.groupOk (h : Hpt) : Bool :=
  if bit h.flags 0 then
    decide (2 ≤ h.n) && decide (h.n ≤ 16) && (if h.type = 2 then decide (h.index = 0xFF) else decide (h.index < h.n))
  else decide (h.type ≠ 2)

/-- R148, steps 1 to 5: the counter of the drop, none when the packet passes. -/
def hptEarly (d : List Byte) : Option Nat :=
  let v := byteAt d 2
  if d.length < 3 then some Reg.HPT_BAD_LENGTH
  else if field d 0 2 ≠ 0x4858 then some Reg.HPT_BAD_MAGIC
  else if v = 0 ∨ 3 < v then some Reg.HPT_BAD_VERSION
  else if d.length < hptHeaderLen v then some Reg.HPT_BAD_LENGTH
  else if v = 3 ∧ (crc16 (d.take 30)).toNat ≠ field d 30 2 then some Reg.HPT_BAD_CRC
  else
    let h := parseHpt d
    if h.type = 1 ∨ (v = 3 ∧ h.type = 2) then (if v = 3 ∧ h.groupOk = false then some Reg.HPT_BAD_TYPE else none)
    else some Reg.HPT_BAD_TYPE

/-- R131: UDP_PORT 0 counts as HPT_UDP_PORT. -/
def State.streamPort (s : State) (i : Nat) : Nat :=
  let p := field (s.streamCfg i) 12 2
  if p = 0 then s.param P.HPT_UDP_PORT else p

/-- R148 step 6, R131: the enabled entry of this STREAM_ID on this carrier. -/
def State.hptStream (s : State) (c : Carrier) (sid : Nat) : Option Nat :=
  let port := match c with
    | .udp _ p => p
    | .raw => s.param P.HPT_UDP_PORT
  (List.range 64).find? fun i =>
    s.streamEnabled i && decide (field (s.streamCfg i) 0 2 = sid) && decide (s.streamPort i = port)

/-- R142: the identity of a source: its IP address, or its MAC address for raw Ethernet. -/
def sourceOf (c : Carrier) (srcMac : List Byte) : List Byte :=
  match c with
  | .udp ip _ => if ip.length = 4 then mapped4 (beNat ip) else ip
  | .raw => srcMac

/-- R142: does SRC_FILTER refuse the source? -/
def State.srcRefused (s : State) (i : Nat) (c : Carrier) (srcMac : List Byte) : Bool :=
  let cfg := s.streamCfg i
  let want := (cfg.drop 32).take 16
  if bit (byteAt cfg 2) 1 = false ∨ beNat want = 0 then false
  else if bit (byteAt cfg 2) 2 then decide (beNat srcMac ≠ field want 10 6)
  else
    match c with
    | .udp _ _ => decide (sourceOf c srcMac ≠ want)
    | .raw => true

/-- R142: a source takes over a stream whose owner fell silent: its first frame opens, whatever the former owner's frames
hold, and the sequence window restarts from its packet. -/
def State.ownerTakes (s : State) (i : Nat) (src : List Byte) : State :=
  let t := s.stream i
  (s.setStream i { t with
    owner := some src, ownerReleased := false, high := none, seen := [], lastPresented := none, parityFacts := []
    parts := t.parts.map fun q => { q with former := true }
    backFrame := t.backFrame.map fun q => { q with former := true } }).raiseAt Ev.SOURCE_CHANGE i

/-- R143: a v1 packet of the owner on port `p`: a packet on the bound port ends its silence, one on the other port is
foreign while the bound port has link. Which packets count as carried by the bound port is not stated: the v1 packets
of the owner that pass step 7 (DESIGN CHOICE, log 128). -/
def State.boundPass (s : State) (i : Nat) (p : Port) : State × Bool :=
  let t := s.stream i
  match t.bound with
  | none => (s, true)
  | some bp =>
    if bp = p then (s.setStream i { t with boundSilent := 0 }, true)
    else if (s.mac bp).up then (s, false)
    else (s.setStream i { t with bound := none, boundSilent := 0 }, true)

/-- R142, R143: step 7 on the stream: the state, and whether the packet passes. Ownership is judged first, so a source that
takes over stays the owner when R143 then drops its packet (DEDUCED, log 128). -/
def State.hptSource (s : State) (i : Nat) (p : Port) (src : List Byte) (v1 : Bool) : State × Bool :=
  match (s.stream i).owner with
  | none => (s, true)
  | some o =>
    if o ≠ src ∧ !(s.stream i).ownerReleased then (s, false)
    else
      let s := if o = src then s else s.ownerTakes i src
      if v1 then s.boundPass i p else (s, true)

/-- R150, R151: step 9. -/
inductive SeqVerdict where
  | pass | dup | old | newSpace
  deriving DecidableEq, Repr

def Stream.judgeSeq (t : Stream) (q : Nat) : SeqVerdict :=
  match t.high with
  | none => .pass
  | some h =>
    let d := signed32 ((q : Int) - h)
    if 65536 < d then .newSpace
    else if 0 < d then .pass
    else if d < -4096 then .old
    else if q ∈ t.seen then .dup
    else .pass

/-- R150: an accepted SEQ is seen. Values that leave the record unseen, from the first one of the space on, are counted in
HPT_LOST and in the stream's share of it. -/
def State.seeSeq (s : State) (i q : Nat) : State :=
  let t := s.stream i
  match t.high with
  | none => s.setStream i { t with high := some q, first := q, seen := [q] }
  | some h =>
    let d := signed32 ((q : Int) - h)
    if d ≤ 0 then s.setStream i { t with seen := q :: t.seen }
    else
      let leaving := (List.range d.toNat).map fun (k : Nat) => (BitVec.ofInt 32 ((h : Int) - 4096 + (k : Int))).toNat
      let lost := (leaving.filter fun (v : Nat) => decide (0 ≤ signed32 ((v : Int) - t.first)) && !t.seen.contains v).length
      let first := if signed32 ((t.first : Int) - q) < -4096 then (BitVec.ofInt 32 ((q : Int) - 4096)).toNat else t.first
      let seen := q :: t.seen.filter fun (v : Nat) => decide (-4096 ≤ signed32 ((v : Int) - q))
      ((s.setStream i { t with high := some q, seen := seen, first := first }).countN Reg.HPT_LOST lost).countN (Reg.STRM_LOST i) lost

/-! ### Formats (R144 to R146) -/

/-- The fields of FORMAT. -/
def fmtLayout (f : Nat) : Nat := f / 16
def fmtTransfer (f : Nat) : Nat := bits f 3 2
def fmtColour (f : Nat) : Nat := bits f 1 1
def fmtNarrow (f : Nat) : Bool := bit f 0

/-- R144: the first version of a layout. -/
def layoutFrom (l : Nat) : Nat := if l ≤ 1 then 1 else if l ≤ 5 then 2 else 3

/-- R145: the combination is valid in a version. -/
def formatOk (v f : Nat) : Bool :=
  decide (fmtLayout f ≤ 8) && decide (layoutFrom (fmtLayout f) ≤ v) &&
    (decide (v = 3) || ((decide (fmtTransfer f = 0) || decide (fmtTransfer f = 3)) && decide (fmtColour f = 0))) &&
    (decide (2 ≤ v) || !fmtNarrow f)

/-- R144: the constraint of a layout. -/
def constraintOk (f x count width : Nat) : Bool :=
  match fmtLayout f with
  | 5 => decide (count % 2 = 0)
  | 7 => decide (x % 2 = 0) && decide (count % 2 = 0) && decide (width % 2 = 0)
  | _ => true

/-- R144: the bytes of `count` pixels. -/
def pixelBytes (layout count : Nat) : Nat :=
  match layout with
  | 0 => 3 * count
  | 1 => 6 * count
  | 2 => 4 * count
  | 3 => 8 * count
  | 4 => 4 * count
  | 5 => 9 * count / 2
  | 6 => 4 * count
  | 7 => 5 * count / 2
  | _ => 5 * count

/-- R146: an n-bit sample as 16 bits. -/
def expand (n v : Nat) : Nat := if n = 16 then v else v * 2 ^ (16 - n) + v / 2 ^ (2 * n - 16)

/-- R146: one unit of a layout, one pixel or a pair, as pixels of four 16-bit words. -/
def unpackUnit (layout : Nat) (u : List Byte) : List Nat :=
  let n := beNat u
  let e8 := fun k => expand 8 (byteAt u k)
  let f16 := fun k => field u (2 * k) 2
  match layout with
  | 0 => [mkPixel (e8 0) (e8 1) (e8 2) 0]
  | 1 => [mkPixel (f16 0) (f16 1) (f16 2) 0]
  | 2 => [mkPixel (e8 0) (e8 1) (e8 2) (e8 3)]
  | 3 => [mkPixel (f16 0) (f16 1) (f16 2) (f16 3)]
  | 5 =>
    let s := fun k => expand 12 (bits n (71 - 12 * k) (60 - 12 * k))
    [mkPixel (s 0) (s 1) (s 2) 0, mkPixel (s 3) (s 4) (s 5) 0]
  | 7 =>
    let s := fun k => expand 10 (bits n (39 - 10 * k) (30 - 10 * k))
    [mkPixel (s 1) (s 0) (s 2) 0, mkPixel (s 3) (s 0) (s 2) 0]
  | 8 =>
    let s := fun k => expand 10 (bits n (39 - 10 * k) (30 - 10 * k))
    [mkPixel (s 0) (s 1) (s 2) (s 3)]
  | _ =>
    let s := fun k => expand 10 (bits n (29 - 10 * k) (20 - 10 * k))
    [mkPixel (s 0) (s 1) (s 2) 0]

/-- R146: the first `count` units of the payload. -/
def unpackUnits (layout size : Nat) : Nat → List Byte → List Nat
  | 0, _ => []
  | k + 1, p => unpackUnit layout (p.take size) ++ unpackUnits layout size k (p.drop size)

/-- R146: the pixels of a packet. -/
def unpack (layout count : Nat) (p : List Byte) : List Nat :=
  match layout with
  | 5 => unpackUnits 5 9 (count / 2) p
  | 7 => unpackUnits 7 5 (count / 2) p
  | l => unpackUnits l (pixelBytes l 1) count p

/-! ### Steps 10 to 16 (R148) -/

/-- R147: FORMAT and PT that the first accepted packet of a frame has set. -/
def State.frameFacts (s : State) (i frame : Nat) (known : Option Part) : Option (Nat × Nat) :=
  match known with
  | some p => some (p.format, p.pt.toNat)
  | none => ((s.stream i).parityFacts.find? fun f => decide (f.1 = frame)).map Prod.snd

/-- R147: a PARITY packet that is the first accepted one of its frame sets the frame's FORMAT and PT. -/
def State.noteParity (s : State) (i : Nat) (h : Hpt) (known : Option Part) : State :=
  if (s.frameFacts i h.frame known).isSome then s
  else
    let t := s.stream i
    s.setStream i { t with parityFacts := (h.frame, h.format, h.pt) :: t.parityFacts }

/-- R147: what the stream already holds of a frame. -/
def State.knownFrame (s : State) (i frame : Nat) : Option Part :=
  let t := s.stream i
  if s.layerOf i = 0 then t.frameOf frame
  else
    match t.backFrame with
    | some p => if p.frame = frame ∧ !p.former then some p else none
    | none => none

/-- The tick by which a packet's frame is judged: that of the frame it belongs to, or of its PT; in a retime's gap the
tick on the new grid (R85). -/
def State.frameTick (s : State) (h : Hpt) (known : Option Part) : Option Nat :=
  match known with
  | some p => if s.hearth.gap = 1 ∧ !p.v1 then some (s.designate p.pt) else if s.hearth.gap = 1 then none else p.tick
  | none => if h.version = 1 then none else some (s.designate (BitVec.ofNat 32 h.pt))

/-- R148 step 14, R22, R149, R182. -/
def State.isLate (s : State) (i : Nat) (h : Hpt) (known : Option Part) : Bool :=
  let t := s.stream i
  let v1 := decide (h.version = 1)
  (match known with
   | some p => p.chosen
   | none => false) ||
  (match s.frameTick h known with
   | some k => decide (k ≤ s.renderFor)
   | none => false) ||
  (match t.lastPresented with
   | some l => !laterFrame v1 h.frame l
   | none => false) ||
  (v1 && ((t.parts.any fun p => p.v1 && !p.former && decide (p.st = .open_) && laterFrame true p.frame h.frame) ||
    (match t.backFrame with
     | some p => p.v1 && !p.former && decide (p.st = .open_) && laterFrame true p.frame h.frame
     | none => false)))

/-- The open accumulator of a group. -/
def State.accum? (s : State) (i base : Nat) : Option Accum :=
  s.ingress.accums.find? fun a => decide (a.stream = i) && decide (a.base = base)

/-- R156: the base of a packet's group. -/
def Hpt.base (h : Hpt) : Nat := (BitVec.ofInt 32 ((h.seq : Int) - (if h.parity then h.n else h.index))).toNat

/-- R148, steps 10 to 15: the counter of the drop, none when the packet passes. -/
def State.hptTail (s : State) (i : Nat) (h : Hpt) (payload : List Byte) : Option Nat :=
  let w := s.rectW i
  let known := s.knownFrame i h.frame
  let facts := s.frameFacts i h.frame known
  let need := pixelBytes (fmtLayout h.format) h.count + (if h.parity then 20 else 0)
  let misplaced := if h.parity then
      (match s.accum? i h.base with
       | some a => decide (a.frame ≠ h.frame)
       | none => false)
    else !(decide (h.x < w) && decide (h.y < s.rectH i) && decide (h.y * w + h.x + h.count ≤ w * s.rectH i))
  if !formatOk h.version h.format ∨ !constraintOk h.format (if h.parity then 0 else h.x) h.count w ∨
      facts.any (fun p => decide (p.1 ≠ h.format)) = true then some Reg.HPT_BAD_FORMAT
  else if h.count = 0 ∨ payload.length < need then some Reg.HPT_BAD_LENGTH
  else if misplaced then some Reg.HPT_OUT_OF_RECT
  else if h.version ≠ 1 ∧ facts.any (fun p => decide (p.2 ≠ h.pt)) = true then some Reg.HPT_PT_MISMATCH
  else if s.isLate i h known then some Reg.LATE
  else
    match s.frameTick h known with
    | some k =>
      if s.nowNs + s.param P.PT_WINDOW * 1000 < s.hearth.timing.tickNs k then some Reg.HPT_OUT_OF_WINDOW else none
    | none => none

/-- R148 step 16: write the pixels of a DATA packet, opening its frame when it is new: the state, and the counter of the
drop. -/
def State.hptWrite (s : State) (i : Nat) (h : Hpt) (payload : List Byte) : State × Option Nat :=
  let ws := unpack (fmtLayout h.format) h.count payload
  let q := h.y * s.rectW i + h.x
  let fresh : Part := { entry := 0, st := .open_, frame := h.frame, v1 := decide (h.version = 1), pt := BitVec.ofNat 32 h.pt,
                        tick := if h.version = 1 then none else some (s.designate (BitVec.ofNat 32 h.pt)), format := h.format,
                        counts := [], chosen := false, byMark := false, former := false }
  if s.layerOf i = 0 then
    match (s.stream i).frameOf h.frame with
    | some p => (s.placePixels i p q ws, none)
    | none =>
      match s.openFrame i fresh with
      | (s1, some c) => (s1, some c)
      | (s1, none) =>
        match (s1.stream i).frameOf h.frame with
        | some p => (s1.placePixels i p q ws, none)
        | none => (s1, none)
  else
    match s.backRefuses i fresh with
    | some c => (s, some c)
    | none => (s.placeBack i fresh q ws, none)

/-- What acceptance does to the stream: owner, bound port, UP (R142, R143, R168). -/
def State.hptAccepted (s : State) (i : Nat) (p : Port) (src : List Byte) (version : Nat) : State :=
  let t := s.stream i
  let t' := { t with
    version := version, port := p.index + 1, up := true, silentTicks := 0, hadOwner := true
    owner := some (t.owner.getD src), ownerReleased := false
    bound := if version = 1 then some (t.bound.getD p) else t.bound
    boundSilent := if version = 1 ∧ t.bound.isNone then 0 else t.boundSilent }
  let s := s.setStream i t'
  if t.up then s else s.raiseAt Ev.STREAM_UP i

/-! ### Parity (R154 to R158) -/

/-- The byte-wise XOR of two blocks, the shorter padded with zeros. -/
def xorBlocks : List Byte → List Byte → List Byte
  | [], b => b
  | a, [] => a
  | a :: as, b :: bs => (a ^^^ b) :: xorBlocks as bs

/-- R158: the accumulator whose frame has the earliest presentation time. -/
def State.earliestAccum (s : State) : Option Accum :=
  s.ingress.accums.foldl (fun b a =>
    match b with
    | none => some a
    | some c => if signed32 ((a.pt : Int) - s.nowNs) < signed32 ((c.pt : Int) - s.nowNs) then some a else b) none

/-- Release an accumulator; its group is not opened again for this frame. -/
def State.dropAccum (s : State) (a : Accum) : State :=
  { s with ingress := { s.ingress with
      accums := s.ingress.accums.filter fun b => decide (b.stream ≠ a.stream) || decide (b.base ≠ a.base)
      deadGroups := (a.stream, a.base, a.pt) :: s.ingress.deadGroups } }

/-- R158: make room for a new accumulator. -/
def State.roomForAccum (s : State) : State :=
  if s.ingress.accums.length < 32 then s
  else
    match s.earliestAccum with
    | some a => ((s.dropAccum a).count Reg.HPT_PARITY_EVICT).raiseAt Ev.PARITY_EVICT a.stream
    | none => s

/-- R157: take a block of the group into its accumulator: the state, and the accumulator when it now holds the missing
packet. -/
def State.accumulate (s : State) (i : Nat) (h : Hpt) (block : List Byte) : State × Option Accum :=
  if s.ingress.deadGroups.any (fun g => decide (g.1 = i) && decide (g.2.1 = h.base)) = true then (s, none)
  else
    let fresh : Accum := { stream := i, base := h.base, n := h.n, frame := h.frame, pt := h.pt, got := [], parity := none, block := [] }
    let opens := (s.accum? i h.base).isNone
    let a := (s.accum? i h.base).getD fresh
    let s := if opens then s.roomForAccum else s
    let a := { a with block := xorBlocks a.block block }
    let a := if h.parity then { a with parity := some (h.sid, h.flags) }
      else { a with got := if a.got.contains h.index then a.got else h.index :: a.got }
    let others := s.ingress.accums.filter fun b => decide (b.stream ≠ i) || decide (b.base ≠ h.base)
    let s := { s with ingress := { s.ingress with accums := others ++ [a] } }
    if a.n ≤ a.got.length then (s.dropAccum a, none)
    else if a.parity.isSome ∧ a.got.length + 1 = a.n then (s.dropAccum a, some a)
    else (s, none)

/-- R157: the missing packet of a full accumulator, and its pixel payload. -/
def Accum.rebuilt (a : Accum) : Hpt × List Byte :=
  let b := padTo (max 20 a.block.length) a.block
  let p := a.parity.getD (0, 0)
  let miss := ((List.range a.n).find? fun k => !a.got.contains k).getD 0
  ({ version := 3, type := 1, sid := p.1, flags := p.2, frame := field b 0 4, pt := field b 4 4, x := field b 8 2
     y := field b 10 2, count := field b 12 2, format := byteAt b 14, slotLayer := byteAt b 15, seq := field b 16 4
     group := a.n * 256 + miss }, b.drop 20)

/-- R157: the rebuilt packet is judged from step 10. -/
def State.recover (s : State) (i : Nat) (p : Port) (src : List Byte) (a : Accum) : State :=
  let r := a.rebuilt
  match s.hptTail i r.1 r.2 with
  | some c => s.count c
  | none =>
    match s.hptWrite i r.1 r.2 with
    | (s, some c) => s.count c
    | (s, none) => ((s.count Reg.HPT_RECOVERED).seeSeq i r.1.seq).hptAccepted i p src 3

/-- Take a block into the group's accumulator and rebuild what it then allows. -/
def State.parityStep (s : State) (i : Nat) (p : Port) (src : List Byte) (h : Hpt) (block : List Byte) : State :=
  match s.accumulate i h block with
  | (s, some a) => s.recover i p src a
  | (s, none) => s

/-- R148, from step 10 on, for a received packet. -/
def State.hptFinish (s : State) (i : Nat) (p : Port) (src : List Byte) (h : Hpt) (d : List Byte) : State :=
  let payload := d.drop (hptHeaderLen h.version)
  match s.hptTail i h payload with
  | some c => s.count c
  | none =>
    if h.parity then
      let s := (((s.noteParity i h (s.knownFrame i h.frame)).count Reg.HPT_PARITY_RX).seeSeq i h.seq).hptAccepted i p src 3
      s.parityStep i p src h (payload.take (20 + pixelBytes (fmtLayout h.format) h.count))
    else
      match s.hptWrite i h payload with
      | (s, some c) => s.count c
      | (s, none) =>
        let s := s.count Reg.HPT_ACCEPTED
        let s := if h.version = 1 then s else s.seeSeq i h.seq
        let s := s.hptAccepted i p src h.version
        if h.inGroup then
          s.parityStep i p src h ((d.drop 8).take 20 ++ payload.take (pixelBytes (fmtLayout h.format) h.count))
        else s

/-- R148, steps 6 to 9. -/
def State.hptJudge (s : State) (p : Port) (c : Carrier) (srcMac d : List Byte) : State :=
  let h := parseHpt d
  match s.hptStream c h.sid with
  | none => s.count Reg.HPT_NO_STREAM
  | some i =>
    let src := sourceOf c srcMac
    if s.srcRefused i c srcMac then s.count Reg.HPT_FOREIGN
    else
      match s.hptSource i p src (decide (h.version = 1)) with
      | (s, false) => s.count Reg.HPT_FOREIGN
      | (s, true) =>
        if h.version = 3 ∧ h.slotLayer ≠ s.slotLayer i then s.count Reg.HPT_BAD_BINDING
        else if h.version = 1 then s.hptFinish i p src h d
        else
          match (s.stream i).judgeSeq h.seq with
          | .dup => s.count Reg.HPT_DUP
          | .old => s.count Reg.HPT_SEQ_OLD
          | .newSpace =>
            let t := s.stream i
            let s := ((s.setStream i { t with high := none, seen := [] }).count Reg.HPT_SEQ_RESET).raiseAt Ev.SEQ_RESET i
            s.hptFinish i p src h d
          | .pass => s.hptFinish i p src h d

/-- R41: ingress receives outside reset and BOOT; on the service port only with SV_PIXEL_EN. The packet engine of the
port's queue set parses (R30, R170): while it restarts, its frames wait in the queues and nothing is judged. -/
def State.ingressOn (s : State) (p : Port) : Bool :=
  s.firmwareUp && (decide (p ≠ .sv) || s.paramOn P.SV_PIXEL_EN) && !s.consumerAway p.qset

/-- HPT_PACKET: R131 to R158. -/
def execHptPacket (p : Port) (c : Carrier) (srcMac d : List Byte) (s : State) : Host.Outcome State Fault Refusal :=
  if s.ingressOn p = false then .next s
  else if bit (s.regN Reg.ING_CTRL) 0 = false then .next (s.count Reg.HPT_DISABLED)
  else
    match hptEarly d with
    | some k => .next (s.count k)
    | none => .next (s.hptJudge p c srcMac d)

/-- SOURCE_FAILOVER: R142, R143: after SOURCE_FAILOVER ticks without an accepted packet the owner is replaced by the next
source; a bound port that carried no packet of the stream as long is given up. -/
def execSourceFailover (i : Fin 64) (s : State) : Host.Outcome State Fault Refusal :=
  let t := s.stream i
  let n := s.param P.SOURCE_FAILOVER
  let t := if t.owner.isSome ∧ n ≤ t.silentTicks then { t with ownerReleased := true } else t
  let t := if t.bound.isSome ∧ n ≤ t.boundSilent then { t with bound := none, boundSilent := 0 } else t
  .next (s.setStream i t)

/-- STREAM_DOWN: R168: STREAM_TIMEOUT ticks without an accepted packet. -/
def execStreamDown (i : Fin 64) (s : State) : Host.Outcome State Fault Refusal :=
  let t := s.stream i
  if t.up ∧ s.param P.STREAM_TIMEOUT ≤ t.silentTicks then
    .next ((s.setStream i { t with up := false }).raiseAt Ev.STREAM_DOWN i)
  else .next s

/-- A tick passes for the silence counts of the streams. -/
def State.silenceTick (s : State) : State :=
  allStreams.foldl (fun s i =>
    if s.enabled i ∧ i < 64 then
      let t := s.stream i
      s.setStream i { t with
        silentTicks := if t.owner.isSome then min 255 (t.silentTicks + 1) else t.silentTicks
        boundSilent := if t.bound.isSome then min 255 (t.boundSilent + 1) else t.boundSilent }
    else s) s

end Sys2Proof.Machine
end

