-- ==== Sys2Proof/Machine/Sacn.lean ====
section
/-! DEFINITION. sACN (ANSI E1.31): universes, sources, the merge, and where the merged values go (R162 to R167). -/

namespace Sys2Proof.Machine

/-- R165: the fields of a map. -/
def mapFirst (c : List Byte) : Nat := field c 0 2
def mapCount (c : List Byte) : Nat := field c 2 2
def mapKind (c : List Byte) : Nat := byteAt c 4
def mapFormat (c : List Byte) : Nat := byteAt c 5
def mapPixPerUniv (c : List Byte) : Nat := field c 16 2
def mapDmxPort (c : List Byte) : Nat := byteAt c 18

/-- Does the map name universe `u`? -/
def mapNames (c : List Byte) (u : Nat) : Bool :=
  decide (mapKind c ≠ 0) && decide (mapFirst c ≤ u) && decide (u < mapFirst c + mapCount c)

/-- R165: the map of a universe. -/
def State.mapOf (s : State) (u : Nat) : Option (List Byte) :=
  ((List.range 32).map s.mapCfg).find? fun c => mapNames c u

def State.universe? (s : State) (u : Nat) : Option Universe := s.ingress.universes.find? fun v => decide (v.num = u)

def State.sources (s : State) (u : Nat) : List SacnSource :=
  match s.universe? u with
  | some v => v.sources
  | none => []

/-- Keep a universe while it tracks a source. -/
def State.setSources (s : State) (u : Nat) (l : List SacnSource) : State :=
  let rest := s.ingress.universes.filter fun v => decide (v.num ≠ u)
  { s with ingress := { s.ingress with universes := if l.isEmpty then rest else rest ++ [⟨u, l⟩] } }

/-- R162: a data packet by its vectors and addressing. -/
def sacnIsData (m : SacnMsg) : Bool :=
  decide (m.rootVector = 4) && decide (m.framingVector = 2) && decide (m.dmpVector = 2) && decide (m.addrType = 0xA1) &&
    decide (m.firstAddr = 0) && decide (m.incr = 1)

/-- R162: a synchronization or universe discovery packet: the extended root vector of E1.31, 8, with framing vector 1 or 2
(PRESUMED, log 21). -/
def sacnIsOther (m : SacnMsg) : Bool :=
  m.wellFormed && decide (m.rootVector = 8) && (decide (m.framingVector = 1) || decide (m.framingVector = 2))

/-- R163: a sequence number that lies up to 19 behind or equals the last one. -/
def sacnOutOfOrder (q last : Nat) : Bool :=
  let d := (BitVec.ofInt 8 ((q : Int) - last)).toInt
  decide (-20 < d) && decide (d ≤ 0)

/-- R164: the sources with the highest priority. -/
def topSources (l : List SacnSource) : List SacnSource :=
  let p := (l.map (·.priority)).foldl max 0
  l.filter fun x => decide (x.priority = p)

/-- R164: the source that reached its priority earliest. -/
def earliestSource : List SacnSource → Option SacnSource
  | [] => none
  | x :: xs =>
    match earliestSource xs with
    | some y => if y.rankSince < x.rankSince then some y else some x
    | none => some x

/-- R164: the merged value of the channel of `size` bytes at slot offset `off`. -/
def State.merged (s : State) (u off size : Nat) : Nat :=
  let l := topSources (s.sources u)
  if s.param P.SACN_MERGE = 1 then
    match earliestSource l with
    | some x => field x.slots off size
    | none => 0
  else (l.map fun x => field x.slots off size).foldl max 0

/-- R167: the merged 512 slots of a universe. -/
def State.mergedDmx (s : State) (u : Nat) : List Byte := (List.range 512).map fun k => BitVec.ofNat 8 (s.merged u k 1)

/-- R167: hand the merged slots of universe `u` to its DMX port when they change; without a source the last ones stay. -/
def State.handDmx (s : State) (u : Nat) : State :=
  match s.mapOf u with
  | some c =>
    if mapKind c = 2 ∧ (s.sources u).isEmpty = false then
      let p := mapDmxPort c + (u - mapFirst c)
      { s with ingress := { s.ingress with
          dmx := (s.ingress.dmx.filter fun d => decide (d.1 ≠ p)) ++ [(p, s.mergedDmx u)] } }
    else s
  | none => s

/-- R167: the DMX port to which universe `u` goes. -/
def State.dmxPortOf (s : State) (u : Nat) : Option Nat :=
  match s.mapOf u with
  | some c => if mapKind c = 2 then some (mapDmxPort c + (u - mapFirst c)) else none
  | none => none

/-- R167: a commit changed the merge or the maps: a port that no universe feeds any longer, or another one than before, has
nothing to send, and every universe with a source hands its merged slots on. -/
def State.rehandDmx (s old : State) : State :=
  let us := (s.ingress.universes ++ old.ingress.universes).map (·.num)
  let same := fun (p : Nat) => us.all fun u => decide (old.dmxPortOf u ≠ some p) || decide (s.dmxPortOf u = some p)
  let s : State := { s with ingress := { s.ingress with dmx := s.ingress.dmx.filter (same ·.1) } }
  s.ingress.universes.foldl (fun s u => s.handDmx u.num) s

/-- R163: a source is dropped from a universe. -/
def State.dropSource (s : State) (u cid : Nat) : State :=
  let l := (s.sources u).filter fun x => decide (x.cid ≠ cid)
  (((s.setSources u l).count Reg.SACN_SRC_LOST).raise Ev.SACN_SRC_LOST).handDmx u

/-- R163, R164: merge a packet of a source that the universe tracks or can take. -/
def State.mergePacket (s : State) (m : SacnMsg) (old : Option SacnSource) : State :=
  let since := match old with
    | some x => if x.priority = m.priority then x.rankSince else s.ingress.sacnOrder
    | none => s.ingress.sacnOrder
  let x : SacnSource := ⟨m.cid, m.seq, m.priority, since, m.slots, s.up⟩
  let l := s.sources m.univ
  let l := if old.isSome then l.map fun y => if y.cid = m.cid then x else y else l ++ [x]
  let s := { s with ingress := { s.ingress with sacnOrder := s.ingress.sacnOrder + 1 } }
  ((s.setSources m.univ l).count Reg.SACN_RX).handDmx m.univ

/-- R163: the sources of a universe with `x` heard now: its silence begins anew. -/
def State.hearSource (s : State) (u cid : Nat) : State :=
  s.setSources u ((s.sources u).map fun (y : SacnSource) => if y.cid = cid then { y with lastUp := s.up } else y)

/-- R162, R163: judge a packet. Of several causes the first of the body counts it, in the order synchronization or discovery,
malformed, preview, START code, unmapped, then the rules of the source; any data packet of a tracked source ends its
silence; and a Stream_Terminated packet of a source that is not tracked changes nothing and is counted nowhere while
there is room for its source (DEDUCED, log 21). -/
def State.sacnJudge (s : State) (m : SacnMsg) : State :=
  if sacnIsOther m then s.count Reg.SACN_OTHER
  else if !m.wellFormed ∨ !sacnIsData m ∨ m.univ = 0 ∨ 63999 < m.univ ∨ 200 < m.priority then s.count Reg.SACN_BAD
  else if m.preview then (s.hearSource m.univ m.cid).count Reg.SACN_PREVIEW
  else if m.startCode ≠ 0 then (s.hearSource m.univ m.cid).count Reg.SACN_ALT_START
  else if (s.mapOf m.univ).isNone then s.count Reg.SACN_UNMAPPED
  else
    let old := (s.sources m.univ).find? fun (x : SacnSource) => decide (x.cid = m.cid)
    match old with
    | some x =>
      if sacnOutOfOrder m.seq x.seq then (s.hearSource m.univ m.cid).count Reg.SACN_OUT_OF_ORDER
      else if m.terminated then s.dropSource m.univ m.cid
      else s.mergePacket m old
    | none =>
      if 8 ≤ (s.sources m.univ).length then (s.count Reg.SACN_SRC_OVERFLOW).raise Ev.SACN_SRC_OVERFLOW
      else if m.terminated then s
      else s.mergePacket m old

/-- SACN_PACKET: R162 to R167. -/
def execSacnPacket (p : Port) (m : SacnMsg) (s : State) : Host.Outcome State Fault Refusal :=
  if s.ingressOn p = false ∨ s.paramOn P.SACN_ENABLE = false then .next s else .next (s.sacnJudge m)

/-- SACN_SRC_LOST: R163: a source that sent nothing for SACN_TIMEOUT is dropped; time passes to that instant. -/
def execSacnSrcLost (u cid : Nat) (s : State) : Host.Outcome State Fault Refusal :=
  match (s.sources u).find? fun (x : SacnSource) => decide (x.cid = cid) with
  | some x => .next ((s.reach (x.lastUp + s.param P.SACN_TIMEOUT * 1000000)).dropSource u cid)
  | none => .next s

/-! ### CANVAS maps (R166) -/

/-- R166: pixel `q` of a CANVAS map, converted by R146. A pixel of the rectangle beyond COUNT × PIX_PER_UNIV, which no
universe fills, is 0 in each frame, as one of a universe without a source (DESIGN CHOICE, log 130). -/
def State.canvasPixel (s : State) (c : List Byte) (q : Nat) : Nat :=
  let layout := fmtLayout (mapFormat c)
  let per := mapPixPerUniv c
  let wide := decide (layout = 1) || decide (layout = 3)
  let size := if wide then 2 else 1
  let i := q / per
  if per = 0 ∨ mapCount c ≤ i then 0
  else
    let off := q % per * pixelBytes layout 1
    let ch := fun k =>
      let v := s.merged (mapFirst c + i) (off + size * k) size
      if wide then v else expand 8 v
    let w := if layout = 2 ∨ layout = 3 then ch 3 else 0
    mkPixel (ch 0) (ch 1) (ch 2) w

/-- R166: at render start the merged values of map `m` form one complete frame for tick `next`. -/
def State.canvasFrame (s : State) (next m : Nat) : State :=
  let i := 64 + m
  let c := s.mapCfg m
  let ws := (List.range (s.rectW i * s.rectH i)).map (s.canvasPixel c)
  let fresh : Part := { entry := 0, st := .open_, frame := next % 2 ^ 32, v1 := false, pt := 0, tick := some next, format := mapFormat c,
                        counts := [], chosen := false, byMark := false, former := false }
  if s.layerOf i = 0 then
    match s.openFrame i fresh with
    | (s, some k) => s.count k
    | (s, none) =>
      match (s.stream i).frameOf fresh.frame with
      | some p => s.placePixels i p 0 ws
      | none => s
  else
    match s.backRefuses i fresh with
    | some k => s.count k
    | none => s.placeBack i fresh 0 ws

/-- The frames of every CANVAS map. -/
def State.canvasFrames (s : State) (next : Nat) : State :=
  (List.range 32).foldl (fun s m => if s.enabled (64 + m) then s.canvasFrame next m else s) s

end Sys2Proof.Machine
end

