-- ==== Sys2Proof/Machine/Anvil.lean ====
section
/-! DEFINITION. Anvil, the pixel pipeline: maps, the nine stages to the bit, and the rendering of a line
(06_anvil_pixel_pipeline.md, R212 to R240, R252). -/

namespace Sys2Proof.Machine

/-! ### Maps (R218 to R223) -/

/-- A strand without a map. -/
def emptyMap : PixMap := ⟨0, 0, 3, 0, false, 1, []⟩

def State.map (s : State) (n : Nat) : PixMap := SMap.get (fun _ => emptyMap) s.anvil.maps n

/-- R219, R220: canvas position of strand pixel `i`, and whether its run is DARK. -/
def runPixel : List Run → Nat → Option (Nat × Nat × Bool)
  | [], _ => none
  | r :: rs, i =>
    if i < r.count then
      match r.dir with
      | 0 => some (r.x + i, r.y, r.dark)
      | 1 => some (r.x - i, r.y, r.dark)
      | 2 => some (r.x, r.y + i, r.dark)
      | _ => some (r.x, r.y - i, r.dark)
    else runPixel rs (i - r.count)

/-- R218, R220: the emitter types of a pixel in wire order. -/
def wireOrder (m : PixMap) : List Nat :=
  let rgb := match m.order with
    | 0 => [0, 1, 2]
    | 1 => [0, 2, 1]
    | 2 => [1, 0, 2]
    | 3 => [1, 2, 0]
    | 4 => [2, 0, 1]
    | _ => [2, 1, 0]
  if m.emitters = 4 then (if m.wFirst then 3 :: rgb else rgb ++ [3]) else rgb

/-- Lines that carry pixels (R249). -/
def PixMap.lines (m : PixMap) : Nat := ceilDiv m.pixels m.pixPerLine

/-- R223: the first record, and the map index of the first pixel, of strand `n`. -/
def State.recordBase (s : State) (n : Nat) : Nat := ((List.range n).map fun k => (s.map k).pixels).foldl (· + ·) 0

/-- All mapped pixels of the running maps. -/
def State.mappedPixels (s : State) : Nat := s.recordBase 128

/-! ### Light (R224) -/

/-- L24: 24 bits of light. -/
def maxL24 : Nat := 2 ^ 24 - 1

/-- Saturate to L24. -/
def clamp24 (x : Int) : Nat := (clampInt 0 maxL24 x).toNat

/-- Three components. -/
abbrev Light := Nat × Nat × Nat

def Light.map (f : Nat → Nat) (l : Light) : Light := (f l.1, f l.2.1, f l.2.2)

/-! ### Stage 2: decode (R226 to R230) -/

/-- R229, table 0: 2^20 × n^2.4, rounded to nearest. -/
def bt1886Entry (i : Nat) : Nat := (root 5 22 (2 ^ 105 * i ^ 12 / 4095 ^ 12) + 1) / 2

/-- ST 2084: the EOTF's inner value max(N^(1/m2) − c1, 0) / (c2 − c3 N^(1/m2)) for N = i / 4,095, in units of 2^-96, with
m2 = 2,523 / 32, c1 = 3,424 / 4,096, c2 = 2,413 × 32 / 4,096 and c3 = 2,392 × 32 / 4,096 (PRESUMED, log 7). -/
def pqInner (i : Nat) : Nat :=
  let one := 2 ^ 96
  let u := root 2523 97 (one ^ 2523 * i ^ 32 / 4095 ^ 32)
  one * (4096 * u - 3424 * one) / (2413 * 32 * one - 2392 * 32 * u)

/-- R229, table 1: 2^20 × Y(n) / PQ_WHITE, rounded to nearest, where Y is 10,000 cd/m² times the inner value to the power
8,192 / 1,305 (ST 2084, log 7). -/
def pqEntry (white i : Nat) : Nat :=
  (root 1305 26 ((2 ^ 21 * 10000) ^ 1305 * pqInner i ^ 8192 / (white ^ 1305 * 2 ^ (96 * 8192))) + 1) / 2

/-- e to the power `y` for a `y` in units of 2^-128, in the same units: `n` terms of its series from the `k`-th on, whose
value is `t`. -/
def expFrom (y : Int) : Nat → Nat → Int → Int
  | 0, _, _ => 0
  | n + 1, k, t => t + expFrom y n (k + 1) (floorDiv (t * y) ((k + 1) * 2 ^ 128))

/-- BT.2100: the HLG inverse OETF of i / 4,095 in units of 2^-128, with a = 0.17883277, b = 0.28466892 and c = 0.55991073
(PRESUMED, log 7). -/
def hlgInner (i : Nat) : Nat :=
  if 2 * i ≤ 4095 then 2 ^ 128 * i ^ 2 / (3 * 4095 ^ 2)
  else
    let y := floorDiv (((i : Int) * 100000000 - 55991073 * 4095) * 2 ^ 128) (17883277 * 4095)
    ((expFrom y 60 0 (2 ^ 128)).toNat + 28466892 * 2 ^ 128 / 100000000) / 12

/-- R229, table 2: 2^20 × E(n)^(HLG_GAMMA / 100), rounded to nearest. -/
def hlgEntry (gamma i : Nat) : Nat := (root 100 22 (2 ^ 2100 * hlgInner i ^ gamma / 2 ^ (128 * gamma)) + 1) / 2

/-- R229: the value of an entry before any table was loaded. -/
def State.tableBase (s : State) (t i : Nat) : Nat :=
  match t with
  | 0 => bt1886Entry i
  | 1 => min maxL24 (pqEntry s.anvil.pqWhite i)
  | 2 => min maxL24 (hlgEntry s.anvil.hlgGamma i)
  | 3 => roundDiv (2 ^ 20 * i) 4095
  | _ => i * 16384

def State.tableMap (s : State) (t : Nat) : SMap Nat :=
  match t with
  | 0 => s.anvil.table0
  | 1 => s.anvil.table1
  | 2 => s.anvil.table2
  | 3 => s.anvil.table3
  | _ => s.anvil.tone

def State.setTableMap (s : State) (t : Nat) (m : SMap Nat) : State :=
  let a := s.anvil
  { s with anvil := match t with
    | 0 => { a with table0 := m }
    | 1 => { a with table1 := m }
    | 2 => { a with table2 := m }
    | 3 => { a with table3 := m }
    | _ => { a with tone := m } }

/-- Entry `i` of active table `t`: 0 to 3 by R229, 4 the tone table. -/
def State.tableEntry (s : State) (t i : Nat) : Nat := SMap.get (s.tableBase t) (s.tableMap t) i

/-- R228: decode a component word through a transfer table. -/
def State.transfer (s : State) (t w : Nat) : Nat :=
  let p := w * 4368 / 4369
  let i := p / 16
  let f := p % 16
  let a := s.tableEntry t i
  if f = 0 then a else clamp24 (a + floorDiv (((s.tableEntry t (i + 1) : Int) - a) * f + 8) 16)

/-- R226: narrow range of R, G, B, W and Y. -/
def narrowLuma (w : Nat) : Nat := (clampInt 0 65535 (floorDiv (((w : Int) - 4096) * 76607) 65536)).toNat

/-- R226: narrow range of Cb and Cr, around 32,768. -/
def narrowChroma (w : Nat) : Nat :=
  (clampInt (-32768) 32767 (floorDiv (((w : Int) - 32768) * 74898) 65536) + 32768).toNat

/-- R227: Y, Cb, Cr to non-linear R, G, B. -/
def yccToRgb (bt2020 : Bool) (y cb cr : Nat) : Light :=
  let kr : Int := if bt2020 then 24160 else 25802
  let kgr : Int := if bt2020 then 9361 else 7670
  let kgb : Int := if bt2020 then 2696 else 3069
  let kb : Int := if bt2020 then 30825 else 30402
  let b : Int := (cb : Int) - 32768
  let r : Int := (cr : Int) - 32768
  let c := fun (x : Int) => (clampInt 0 65535 x).toNat
  (c (y + floorDiv (kr * r + 8192) 16384), c (y - floorDiv (kgr * r + kgb * b + 8192) 16384),
    c (y + floorDiv (kb * b + 8192) 16384))

/-- R230: BT.709 to BT.2020. -/
def toBt2020 (l : Light) : Light :=
  let row := fun (a b c : Nat) => min maxL24 ((a * l.1 + b * l.2.1 + c * l.2.2 + 8192) / 16384)
  (row 10279 5395 710, row 1132 15065 187, row 269 1442 14673)

/-- R226 to R230: decode the words of a pixel by a format code. -/
def State.decodePixel (s : State) (fmt pix : Nat) : Light :=
  let layout := fmtLayout fmt
  let ycc := decide (layout = 6) || decide (layout = 7)
  let nar := fmtNarrow fmt
  let luma := fun i => if nar then narrowLuma (pixWord pix i) else pixWord pix i
  let chroma := fun i => if nar then narrowChroma (pixWord pix i) else pixWord pix i
  let rgb : Light := if ycc then yccToRgb (decide (fmtColour fmt = 1)) (luma 0) (chroma 1) (chroma 2) else (luma 0, luma 1, luma 2)
  let lin := rgb.map (s.transfer (fmtTransfer fmt))
  let lin := if fmtColour fmt = 0 then toBt2020 lin else lin
  if layout = 2 ∨ layout = 3 ∨ layout = 8 then
    let w := s.transfer (fmtTransfer fmt) (luma 3)
    lin.map fun c => min maxL24 (c + w)
  else lin

/-! ### Stage 1: fetch (R225), the test pattern generator (R252) and what HOLD shows (R192, R197) -/

/-- R252: the generator's words for a pixel. -/
def State.tpgPixel (s : State) (n i line x y : Nat) : Nat :=
  let c := s.paramBytes P.TPG_COLOUR
  let col := fun k => field c (2 * k) 2
  let p := s.param P.TPG_PERIOD
  let all := mkPixel (col 0) (col 1) (col 2) (col 3)
  let scaled := fun a => let f := fun k => col k * a / (p - 1); mkPixel (f 0) (f 1) (f 2) (f 3)
  let lit := fun (r g b : Bool) (d : Nat) => mkPixel (if r then col 0 / d else 0) (if g then col 1 / d else 0) (if b then col 2 / d else 0) 0
  match s.param P.TPG_PATTERN with
  | 1 => all
  | 2 => scaled (x % p)
  | 3 => scaled (y % p)
  | 4 => if x % p = 0 ∨ y % p = 0 then all else 0
  | 5 => if (x / p + y / p) % 2 = 0 then all else 0
  | 6 =>
    match n % 8 with
    | 0 => lit true false false 1
    | 1 => lit false true false 1
    | 2 => lit false false true 1
    | 3 => lit true true false 1
    | 4 => lit false true true 1
    | 5 => lit true false true 1
    | 6 => lit true true true 1
    | _ => lit true true true 2
  | 7 => if line % 2 = 0 then all else 0
  | 8 => if i = s.anvil.renderTick / p % (s.map n).pixels then all else 0
  | _ => 0

/-- The mode whose image is rendered: a shadow renders what its last record shows (R217). -/
def State.imageMode (s : State) : Mode :=
  if s.mode = .shadow then
    match s.red.lastRecord with
    | some r => r.mode
    | none => .idle
  else s.mode

/-- The entry from which region `r` of stream `i` is shown: the fetch table, its HOLD snapshot, or a loop. -/
def State.shownEntry (s : State) (i r : Nat) : Option Nat :=
  let t := s.stream i
  let loop := t.loopPlan
  let ofSrc := fun (m : SMap Nat) =>
    match SMap.get (fun _ => 0) m r with
    | 0 => none
    | e + 1 => some e
  if s.imageMode = .hold then
    if s.param P.HOLD_POLICY = 1 ∧ t.mark.isSome ∧ loopLength loop ≠ 0 then
      loopAt loop (s.fs.holdTicks % loopLength loop)
    else
      match s.fs.holdSrc.find? fun p => decide (p.1 = i) with
      | some p => ofSrc p.2
      | none => none
  else
    match t.play with
    | some n => if t.playLoop = [] then ofSrc t.src else loopAt t.playLoop n
    | none => ofSrc t.src

/-- R176: the canvas position lies in the window. -/
def State.inWindow (s : State) (x y : Nat) : Bool :=
  decide (s.param P.FS_WINDOW_X ≤ x) && decide (x < s.param P.FS_WINDOW_X + s.param P.FS_WINDOW_W) &&
    decide (s.param P.FS_WINDOW_Y ≤ y) && decide (y < s.param P.FS_WINDOW_Y + s.param P.FS_WINDOW_H)

/-- The layer-0 stream of a slot that covers a canvas position. -/
def State.streamAt (s : State) (slot x y : Nat) : Option Nat :=
  s.layer0Streams.find? fun i => decide (s.slotOf i = slot) && decide (s.rectX i ≤ x) && decide (x < s.rectX i + s.rectW i) &&
    decide (s.rectY i ≤ y) && decide (y < s.rectY i + s.rectH i)

/-- A 4-byte image pixel as four 16-bit words. -/
def wordPixel (w : Nat) : Nat :=
  mkPixel (expand 8 (bits w 31 24)) (expand 8 (bits w 23 16)) (expand 8 (bits w 15 8)) (expand 8 (bits w 7 0))

/-- R206: the safe image's pixel, black where nothing was written. -/
def State.safePixel (s : State) (idx : Nat) : Nat := SMap.get (fun _ => 0) s.fs.safeImage idx

/-- R206: what the emergency image reads as where nothing was written. -/
def State.emergBase (s : State) : Nat := if s.fs.emergOk then 0 else 0x404040FF

def State.emergPixel (s : State) (idx : Nat) : Nat := SMap.get (fun _ => s.emergBase) s.fs.emergImage idx

/-- R225: layer 0 of a pixel, decoded. In IDLE and SERVICE the emergency layer is rendered over black (R45). -/
def State.layer0 (s : State) (n i line slot x y idx : Nat) : Light :=
  if s.tpgOn then s.decodePixel 0x0E (s.tpgPixel n i line x y)
  else if s.imageMode.presenting = false then (0, 0, 0)
  else if s.imageMode = .hold ∧ s.param P.HOLD_POLICY = 2 then s.decodePixel 0 (wordPixel (s.safePixel idx))
  else if s.inWindow x y then
    match s.streamAt slot x y with
    | some st =>
      match s.shownEntry st (regionOf x y) with
      | some e => s.decodePixel (((s.stream st).partAt e).elim 0 (·.format)) (s.ringAt e x y)
      | none => (0, 0, 0)
    | none => (0, 0, 0)
  else (0, 0, 0)

/-- R201: pixel `q` of a buffer as four 16-bit words. -/
def Buffer.pixel (b : Buffer) (q : Nat) : Nat :=
  let z := fun _ => 0
  if b.rgba16 then SMap.get z b.data (2 * q) * 2 ^ 32 + SMap.get z b.data (2 * q + 1) else wordPixel (SMap.get z b.data q)

/-- R225: the overlay pixel of layer 1 or 2, decoded, with its alpha word; none where it does not apply. -/
def State.overlay (s : State) (n slot x y : Nat) : Option (Light × Nat) :=
  let l := s.layer n
  if l.enable = false ∨ bit l.slotMask slot = false ∨ x < l.x ∨ y < l.y then none
  else
    match s.buffer? l.front with
    | some b =>
      let dx := x - l.x
      let dy := y - l.y
      if dx < b.width ∧ dy < b.height then
        let w := b.pixel (dy * b.width + dx)
        let fmt := if b.rgba16 then s.param (if n = 1 then P.OVL_A_FORMAT else P.OVL_B_FORMAT) % 16 else 0
        some (s.decodePixel fmt w, pixWord w 3)
      else none
    | none => none

/-! ### Stages 3 and 4 (R231 to R234) -/

/-- R231: the weight of a layer. -/
def layerWeight (alpha layerAlpha : Nat) : Nat :=
  let a := alpha * (layerAlpha + 1) / 65536
  a + a / 32768

/-- R231: one blend. -/
def blend (w : Nat) (top under : Light) : Light :=
  let f := fun (t u : Nat) => (t * w + u * (65536 - w) + 32768) / 65536
  (f top.1 under.1, f top.2.1 under.2.1, f top.2.2 under.2.2)

def blendOver (o : Option (Light × Nat)) (layerAlpha : Nat) (under : Light) : Light :=
  match o with
  | some (top, a) => blend (layerWeight a layerAlpha) top under
  | none => under

/-- R193: the numerator of the fade of the image being rendered; none outside FADE_DARK. -/
def State.fade (s : State) : Option Nat :=
  if s.imageMode = .hold ∧ s.param P.HOLD_POLICY = 3 then
    let n := s.param P.HOLD_FADE_TICKS
    some (65535 * (n - (s.fs.holdTicks + 1)) / n)
  else none

/-- R232: the scale of brightness and fade. -/
def State.scale (s : State) : Nat :=
  let b := s.anvil.bright + s.anvil.bright / 32768
  let f := match s.fade with
    | some v => v + v / 32768
    | none => 65536
  (b * f + 32768) / 65536

/-- R234: the tone curve. -/
def State.toneCurve (s : State) (v : Nat) : Nat :=
  let i := v / 16384
  let f := v % 16384
  let a := s.tableEntry 4 i
  if 1023 ≤ i then s.tableEntry 4 1023 else clamp24 (a + floorDiv (((s.tableEntry 4 (i + 1) : Int) - a) * f + 8192) 16384)

/-- R254: a bypass bit. -/
def State.bypass (s : State) (b : Nat) : Bool := bit (s.param P.ANVIL_BYPASS) b

/-- Stages 1 to 4 for strand pixel `i` in a line of a slot. -/
def State.composite (s : State) (n i line slot x y : Nat) : Light :=
  let idx := s.recordBase n + i
  let base := s.layer0 n i line slot x y idx
  let shows := s.imageMode.presenting || decide (s.imageMode = .service)
  let c := if s.fs.raised ∨ shows = false then base
    else blendOver (s.overlay 2 slot x y) s.fs.layer2.alpha (blendOver (s.overlay 1 slot x y) s.fs.layer1.alpha base)
  let g := s.scale
  let c := c.map fun v => (v * g + 32768) / 65536
  let c := if s.fs.raised then
      let w := wordPixel (s.emergPixel idx)
      blend (layerWeight (pixWord w 3) s.fs.alpha3) (s.decodePixel 0 w) c
    else c
  if s.paramOn P.TONE_ENABLE ∧ s.bypass 2 = false then c.map s.toneCurve else c

/-! ### Stages 5 to 9 (R235 to R240) -/

/-- R235: the identity record. -/
def identityRecord : Nat := 0x80400000000040000000004000000000

/-- R241: record `k` of a plane. -/
def Plane.record (p : Plane) (b : Bool) (k : Nat) : Nat :=
  SMap.get (fun k => if p.defined then identityRecord else Config.undefinedRecord (b2n b) k) p.recs k

def State.plane (s : State) (b : Bool) : Plane := if b then s.anvil.planeB else s.anvil.planeA

/-- R236: one emitter: the value and whether it was clamped from a negative one. -/
def calibrate (rec e : Nat) (v : Light) : Nat × Bool :=
  let c := fun j => signedOf 10 (bits rec (119 - 30 * e - 10 * j) (110 - 30 * e - 10 * j))
  let sum := c 0 * v.1 + c 1 * v.2.1 + c 2 * v.2.2
  let x := floorDiv (sum * (128 + (bits rec 127 120 : Int)) + 32768) 65536
  (clamp24 x, decide (x < 0))

/-- R324, R237: the zone gain of an emitter for a line. -/
def State.lineGain (s : State) (n line e : Nat) : Nat :=
  match lineOwner line 0 (s.strand n).drivers with
  | some (h, _, _) =>
    match (s.lamp.zones.find? fun p => decide (p.1 = zoneKey n h)) with
    | some (_, z) =>
      match e with
      | 0 => z.g0
      | 1 => z.g1
      | 2 => z.g2
      | _ => z.g3
    | none => 0x8000
  | none => 0x8000

/-- R238: the coding of a line. -/
inductive Coding where
  | dual15 | code16 | code8
  deriving DecidableEq, Repr

def State.lineCoding (s : State) (n line : Nat) : Coding :=
  if s.coder n = Coder.LEGACY8 then .code8
  else if s.coder n = Coder.LEGACY16 then .code16
  else
    match lineOwner line 0 (s.strand n).drivers with
    | some (_, d, _) => if d.v2 && d.lowRange then .dual15 else .code16
    | none => .code16

/-- R239: reverse the low `d` bits. -/
def bitrev : Nat → Nat → Nat
  | 0, _ => 0
  | d + 1, m => m % 2 * 2 ^ d + bitrev d (m / 2)

/-- R239: the dithered code of a value, and whether it reaches the code maximum. -/
def State.ditherCode (s : State) (f d top v i e slot : Nat) : Nat × Bool :=
  let k := s.anvil.renderTick * s.hearth.timing.slots + slot
  let h := (13 * i + 7 * e) % 32
  let m := (k + h) % 2 ^ d
  let t := if s.paramOn P.DITHER_ENABLE then
      (if d < f then bitrev d m * 2 ^ (f - d) + 2 ^ (f - d - 1) else bitrev d m)
    else 2 ^ (f - 1)
  let c := (v + t) / 2 ^ f
  (min top c, decide (top ≤ c))

/-- What a channel adds to the counters of R256. -/
structure ChanOut where
  word : Half
  clipHigh : Bool
  clipNeg : Bool
  masked : Bool
  low : Bool
  deriving DecidableEq, Repr

/-- R238, R239: the word of a value. -/
def State.codeWord (s : State) (c : Coding) (v i e slot : Nat) : ChanOut :=
  match c with
  | .dual15 =>
    if v < s.param P.SPLIT_THRESHOLD then ⟨BitVec.ofNat 16 (0x8000 + v), false, false, false, true⟩
    else
      let r := s.ditherCode 5 5 32767 v i e slot
      ⟨BitVec.ofNat 16 r.1, r.2, false, false, false⟩
  | .code16 =>
    let r := s.ditherCode 4 4 65535 v i e slot
    ⟨BitVec.ofNat 16 r.1, r.2, false, false, false⟩
  | .code8 =>
    let r := s.ditherCode 12 5 255 v i e slot
    ⟨BitVec.ofNat 16 r.1, r.2, false, false, false⟩

/-- R319: where the fault map holds channel `c` of driver `h` of strand `n`. -/
def faultKey (n h c : Nat) : Nat := zoneKey n h * 128 + c

def State.fault (s : State) (k : Nat) : Byte := SMap.get (fun _ => 0) s.lamp.faultMap k

/-- R240, R319: is the channel of word `w` in a line masked? -/
def State.maskedAt (s : State) (n line w : Nat) : Bool :=
  match lineOwner line 0 (s.strand n).drivers with
  | some (h, d, u) => decide (w < d.channels) && bit (s.fault (faultKey n h (u * d.channels + w))).toNat 7
  | none => false

/-- R220, R225 to R239: what the channel of word `w` in a line carries before the fault map masks it. -/
def State.unmasked (s : State) (n line slot w : Nat) : ChanOut :=
  let m := s.map n
  let i := line * m.pixPerLine + w / m.emitters
  let zero : ChanOut := ⟨0, false, false, false, false⟩
  if m.emitters * m.pixPerLine ≤ w ∨ m.pixels ≤ i then zero
  else
    match runPixel m.runs i with
    | none => zero
    | some (x, y, dark) =>
      let e := (wireOrder m).getD (w % m.emitters) 0
      let v := if dark then (0, 0, 0) else s.composite n i line slot x y
      let crec := if s.bypass 0 then identityRecord else (s.plane s.anvil.activeB).record s.anvil.activeB (s.recordBase n + i)
      let cal := calibrate crec e v
      let g := if s.bypass 1 then 0x8000 else s.lineGain n line e
      let lit := min maxL24 ((cal.1 * g + 16384) / 32768)
      { s.codeWord (s.lineCoding n line) lit i e slot with clipNeg := cal.2 }

/-- R240: the channel of word `w` in a line; a masked one carries 0x0000, whatever stages 5 and 8 have counted of it, and is
not sent in the low range. -/
def State.channel (s : State) (n line slot w : Nat) : ChanOut :=
  let out := s.unmasked n line slot w
  if s.maskedAt n line w then { out with word := 0, masked := true, low := false } else out

/-- R266: the header of a line. -/
def lineHeader (type len bank : Nat) : Half := BitVec.ofNat 16 (type * 4096 + len % 128 * 32 + bank % 4 * 8)

/-- R266: the bank of a DATA line's header, 0 unless its driver is NSP v2. -/
def State.headerBank (s : State) (n line bank : Nat) : Nat :=
  match lineOwner line 0 (s.strand n).drivers with
  | some (_, d, _) => if d.v2 then bank else 0
  | none => 0

/-- A rendered line: header, channel words and what they add to the counters. -/
def State.renderLine (s : State) (n line slot : Nat) : List Half × List ChanOut :=
  let ch := (List.range (s.hActive n)).map (s.channel n line slot)
  let bank := s.headerBank n line (((s.strand n).banks[slot]?).getD 0)
  (lineHeader 0xA (s.hActive n) bank :: ch.map (·.word), ch)

/-! ### Rendering (R212 to R216) -/

/-- Lines that Anvil renders for a strand: none without a map (R218). -/
def State.renderLines (s : State) (n : Nat) : Nat :=
  if (s.strand n).kind = .render ∧ (s.map n).pixels ≠ 0 then s.frameLines n else 0

/-- R265, R269, R312, R313: where SOF of train `j` starts when the strand is free from bit `pos` on: behind V_BP − 10, and
not before the last swap of its bank has acted. -/
def State.sofStart (s : State) (n j pos : Nat) : Nat :=
  let free := s.bankFreeBit n (((s.strand n).banks[j]?).getD 0)
  placeSymbol 10 (s.fixedBits n) (max pos (max (s.vBp n - 10) (free - 10)))

/-- R264, R265, R313: start and end of the line of `words` payload words that follows bit `pos`. -/
def State.linePlace (s : State) (n words pos : Nat) : Nat × Nat :=
  placeLine (s.synOf n) (s.lineBits n words) (s.swapsOf n) pos

/-- R213, R312: the bit at which the serialiser needs a word of a line that `k` lines precede: line `i` comes next, from bit
`pos` on. -/
def State.needBit (s : State) (n : Nat) : Nat → Nat → Nat → Nat
  | k, i, pos =>
    let pos := if i % s.vActive n = 0 ∧ (s.strand n).sofs ≤ i / s.vActive n then s.sofStart n (i / s.vActive n) pos + 10 else pos
    let p := s.linePlace n (s.hActive n) pos
    match k with
    | 0 => p.1
    | k + 1 => State.needBit s n k (i + 1) p.2

/-- R292: the bit at which the frame of a legacy strand starts: it must lie whole in the line buffer by then. -/
def State.legacyStart (s : State) (n : Nat) : Nat :=
  let bits := s.vActive n * s.hActive n * (if s.coder n = Coder.LEGACY8 then 8 else 16)
  (s.nextTickNs - s.hearth.lastTickNs - s.param P.LEG_LATCH * 1000) * s.strandBps n / 1000000000 - bits

/-- R213: the bit of the interval at which the line buffer of strand `n` runs out: at render start its SOF, afterwards the
start of the next line to render. -/
def State.runOutBit (s : State) (n : Nat) : Nat :=
  let t := s.strand n
  if s.isLegacy n then s.legacyStart n
  else if t.rendered = 0 then s.sofStart n 0 t.pos
  else s.needBit n (t.rendered - t.sentLines) t.sentLines t.pos

/-- R213: the bit-times until the line buffer runs out. -/
def State.deadline (s : State) (n : Nat) : Int :=
  (s.runOutBit n : Int) - ((s.time.units - s.hearth.lastTickNs * 2 ^ 32) * s.strandBps n / (1000000000 * 2 ^ 32) : Nat)

/-- R289: the size of a line buffer, and the bytes of a line in it. -/
def bufferBytes : Nat := 32768
def State.lineBytes (s : State) (n : Nat) : Nat := 2 * (1 + s.hActive n)

/-- R213, R289: may Anvil render the next line of the strand? -/
def State.eligible (s : State) (n : Nat) : Bool :=
  let t := s.strand n
  decide (t.rendered < s.renderLines n) && !t.underrun && decide (t.fill ≤ s.lbHigh n) &&
    decide (t.fill + s.lineBytes n ≤ bufferBytes)

/-- R213: the most urgent eligible strand; ties go to the lower number. -/
def State.mostUrgent (s : State) : Option Nat :=
  allStrands.foldl (fun b n =>
    if s.eligible n then
      match b with
      | none => some n
      | some m => if s.deadline n < s.deadline m then some n else b
    else b) none

/-- Is every line of the render written? -/
def State.renderDone (s : State) : Bool :=
  allStrands.all fun n => decide (s.renderLines n ≤ (s.strand n).rendered) || (s.strand n).underrun

/-- R256: count a flag over the channels of a line. -/
def countFlag (f : ChanOut → Bool) (l : List ChanOut) : Nat := (l.filter f).length

/-- The last line is written: the end of the render in ns after its start (ANVIL_END). -/
def State.endRender (s : State) : State :=
  if s.anvil.rendering ∧ s.renderDone = true then
    let ns := s.up - s.anvil.renderUp
    let s := { s with anvil := { s.anvil with rendering := false } }
    (s.setRegN Reg.ANVIL_END ns).maxReg Reg.ANVIL_END_MAX ns
  else s

/-- R218, R251: the line carries pixels, so its runs and its zone gains are read. -/
def State.lineHasPixels (s : State) (n line : Nat) : Bool := decide (line * (s.map n).pixPerLine < (s.map n).pixels)

/-- R251: pixel words are read for a line of the slot: layer 0 unless the generator makes it, calibration unless bypassed,
and overlays. -/
def State.pixelReads (s : State) (slot : Nat) : Bool :=
  !s.tpgOn || !s.bypass 0 || s.fs.raised || [1, 2].any fun l => (s.layer l).enable && bit (s.layer l).slotMask slot

/-- R356: the class of the map, calibration and zone gain reads of strand `n`. -/
def State.mapClass (s : State) (n : Nat) : Nat := if (s.strand n).bellows then 0 else 2

/-- R251, R356: the DRAM requests of a line: its pixels, and the map and zone gains unless they were read ahead (R359). -/
def State.lineRequests (s : State) (n line slot : Nat) : State :=
  if s.lineHasPixels n line = false then s
  else
    let s := if s.pixelReads slot then s.issue (if (s.strand n).bellows then 0 else 1) else s
    if s.anvil.readAhead then { s with anvil := { s.anvil with readAhead := false } } else s.issue (s.mapClass n)

/-- LINE_RENDER: R213: a free lane takes the next line of the most urgent eligible strand. -/
def execLineRender (_lane : Fin 2) (s : State) : Host.Outcome State Fault Refusal :=
  if s.anvil.rendering = false then .next s
  else
    match s.mostUrgent with
    | none => .next s
    | some n =>
      let t := s.strand n
      let slot := t.rendered / s.vActive n
      let line := t.rendered % s.vActive n
      let out := s.renderLine n line slot
      let s := (s.setStrand n { t with buf := t.buf ++ [(slot, out.1)], rendered := t.rendered + 1 }).lineRequests n line slot
      let s := (s.countN Reg.CLIP_HIGH (countFlag (·.clipHigh) out.2)).countN Reg.CLIP_NEG (countFlag (·.clipNeg) out.2)
      let s := (s.countN Reg.MASKED_CH (countFlag (·.masked) out.2)).countN Reg.LOW_RANGE_CH (countFlag (·.low) out.2)
      .next ((s.bellows n).endRender)

end Sys2Proof.Machine
end

