-- ==== Sys2Proof/Machine/Arbiter.lean ====
section
/-! DEFINITION. The DRAM arbiter and the journal (09_engines_scheduling_journal.md, R355 to R360, R363 to R375). -/

namespace Sys2Proof.Machine

/-! ### Arbitration (R355 to R360) -/

/-- The rank of class `k`. -/
def rankOf (ranks k : Nat) : Nat := bits ranks (3 * k + 2) (3 * k)

def ArbChannel.waits (a : ArbChannel) (k : Nat) : Bool := a.waiting.any fun w => decide (w.1 = k)

/-- R357: the lowest rank among the waiting classes. -/
def ArbChannel.lowestRank (a : ArbChannel) : Nat := a.waiting.foldl (fun m w => min m (rankOf a.ranks w.1)) 8

/-- R357: the class granted next: of the lowest rank, the first in rotation after the class last granted at that rank. -/
def ArbChannel.nextClass (a : ArbChannel) : Option Nat :=
  let r := a.lowestRank
  let last := SMap.get (fun _ => 7) a.lastAtRank r
  ((List.range 8).map fun i => (last + 1 + i) % 8).find? fun k => a.waits k && decide (rankOf a.ranks k = r)

/-- The oldest request of a class and the others. -/
def takeRequest (k : Nat) : List (Nat × Nat) → Option (Nat × List (Nat × Nat))
  | [] => none
  | w :: ws => if w.1 = k then some (w.2, ws) else (takeRequest k ws).map fun p => (p.1, w :: p.2)

/-- R357: class `j` wins against class `k`: by its rank, or at equal rank by its place in the rotation. -/
def ArbChannel.wins (a : ArbChannel) (j k : Nat) : Bool :=
  let r := rankOf a.ranks k
  let place := fun c => (c + 7 - SMap.get (fun _ => 7) a.lastAtRank r) % 8
  decide (rankOf a.ranks j < r) || (decide (rankOf a.ranks j = r) && decide (place j < place k))

/-- R359: the turn forecast of a waiting request of class `k` after a decision: the bursts waiting in classes that would
win against it and the burst in progress. -/
def ArbChannel.forecast (a : ArbChannel) (k : Nat) : Nat :=
  min 1023 ((a.waiting.filter fun w => a.wins w.1 k).length + 1)

/-- R359: requesters of classes 5 to 7 with a forecast above 256 withdraw. -/
def ArbChannel.withdraw (a : ArbChannel) : ArbChannel :=
  let goes := fun (w : Nat × Nat) => decide (5 ≤ w.1) && decide (256 < a.forecast w.1)
  { a with
    waiting := a.waiting.filter fun w => !goes w
    withdrawn := a.withdrawn ++ (a.waiting.filter goes).map fun w => (w.1, a.cycle + a.forecast w.1 - 32) }

/-- R360, R366: the wait of class `k` has crossed its threshold at cycle `now`: STARVE_WARN, once per class, channel and tick. -/
def State.starve (s : State) (c k now since : Nat) : State :=
  let a := s.channelArb c
  let s := s.setChannelArb c { a with cycle := max a.cycle now, warned := a.warned ++ [k] }
  s.raiseWith Ev.STARVE_WARN c (k * 2 ^ 53 + min (2 ^ 24 - 1) (now - since) * 2 ^ 29)

/-- R360: the threshold of class `k`. -/
def State.starveLimit (s : State) (c k : Nat) : Nat := bits (s.regN (Reg.ARB_THRESH c k)) 23 0

/-- R360: the sentinel at the present cycle: class `k`, by its oldest request. -/
def State.sentinel (c : Nat) (s : State) (k : Nat) : State :=
  let a := s.channelArb c
  match a.waiting.find? fun w => decide (w.1 = k) with
  | none => s
  | some w =>
    if a.warned.contains k ∨ s.arbCycle a < w.2 + s.starveLimit c k then s else s.starve c k (s.arbCycle a) w.2

/-- R359: an Anvil request that loses with a forecast above 64 has its lane issue the map and calibration reads of the next
line ahead. -/
def State.readAhead (s : State) (c : Nat) : State :=
  let a := s.channelArb c
  if s.anvil.readAhead ∨ s.anvil.rendering = false ∨ (a.waiting.any fun w => decide (w.1 ≤ 2) && decide (64 < a.forecast w.1)) = false
  then s
  else
    match s.mostUrgent with
    | none => s
    | some n => { s with anvil := { s.anvil with readAhead := true } }.issue (s.mapClass n)

/-- R359: what the requesters that lost a decision do with their forecasts. -/
def State.settleArb (s : State) (c : Nat) : State :=
  let s := s.setChannelArb c (s.channelArb c).withdraw
  s.readAhead c

/-- BURST_GRANT: R355 to R360: one decision of a channel's arbiter. -/
def execBurstGrant (c : Fin 2) (s : State) : Host.Outcome State Fault Refusal :=
  if s.channelPopulated c = false then .next s
  else
    let s := (List.range 8).foldl (State.sentinel c) s
    let a := s.channelArb c
    match a.nextClass with
    | none => .next s
    | some k =>
      match takeRequest k a.waiting with
      | none => .next s
      | some (since, rest) =>
        let now := s.arbCycle a
        let a1 : ArbChannel := { a with
          waiting := rest, owner := k, cycle := now + 1, lastAtRank := SMap.set (fun _ => 7) a.lastAtRank (rankOf a.ranks k) k }
        .next (((s.setChannelArb c a1).settleArb c).maxReg (Reg.ARB_WAIT_MAX c k) (min (2 ^ 24 - 1) (now - since)))

/-- TURN_FORECAST_REISSUE: R359: a withdrawn request is issued again, at its cycle. -/
def execTurnForecastReissue (c : Fin 2) (k : Fin 8) (s : State) : Host.Outcome State Fault Refusal :=
  let a := s.channelArb c
  match takeRequest k a.withdrawn with
  | none => .next s
  | some (due, rest) =>
    let now := max due (s.arbCycle a)
    .next (s.setChannelArb c { a with cycle := now, withdrawn := rest, waiting := a.waiting ++ [(k.val, now)] })

/-- STARVE_WARN: R360: a wait of the class crosses its threshold. -/
def execStarveWarn (c : Fin 2) (k : Fin 8) (s : State) : Host.Outcome State Fault Refusal :=
  let a := s.channelArb c
  match a.waiting.find? fun w => decide (w.1 = k.val) with
  | none => .next s
  | some w =>
    if a.warned.contains k.val then .next s
    else .next (s.starve c k (max (s.arbCycle a) (w.2 + s.starveLimit c k)) w.2)

/-- ARB_RANK: R358: the ranks apply from the next decision; waiting requests keep their place. -/
def State.writeArbRank (s : State) (c : Nat) (v : Nat) : State :=
  s.setChannelArb c { s.channelArb c with ranks := v % 2 ^ 24 }

def execArbRank (c : Fin 2) (v : Word) (s : State) : Host.Outcome State Fault Refusal := .next (s.writeArbRank c v.toNat)

/-! ### The journal (R363 to R375) -/

/-- R368: put an entry that goes ahead of every other behind those already there. -/
def putUrgent (e : JEntry) : List JEntry → List JEntry
  | [] => [e]
  | x :: xs => if x.urgent then x :: putUrgent e xs else e :: x :: xs

/-- R368: an entry arrives at its source's buffer of 4. -/
def State.jArrive (s : State) (e : JEntry) : State :=
  if s.jnl.started = false ∨ s.jnl.frozen = true then s
  else
    let b := s.jSource e.source
    if e.urgent then s.setJSource e.source { b with wait := putUrgent e b.wait }
    else if 4 ≤ (b.wait.filter fun x => !x.urgent && decide (x.kind ≠ Kind.LOSS)).length then
      (s.setJSource e.source { b with dropped := b.dropped + 1 }).count Reg.JNL_SRC_DROPPED
    else
      let loss : List JEntry := if b.dropped = 0 then [] else [⟨e.short, e.source, Kind.LOSS, 0, b.dropped % 2 ^ 32 * 2 ^ 32⟩]
      s.setJSource e.source { wait := b.wait ++ loss ++ [e], dropped := 0 }

/-- JOURNAL_ENTRY: R363, R368. -/
def execJournalEntry (source : Fin 48) (kind : Fin 6) (code : BitVec 16) (payload : BitVec 64) (s : State) :
    Host.Outcome State Fault Refusal :=
  .next (s.jArrive ⟨s.short, source, kind, code.toNat, payload.toNat⟩)

/-- The first entry number in the on-chip ring. -/
def State.jRingFirst (s : State) : Nat := s.jnl.next - s.jnl.ring.length

/-- R371: the oldest entry retained. -/
def State.jOldest (s : State) : Nat :=
  match s.jnl.dram with
  | p :: _ => min p.1 s.jRingFirst
  | [] => s.jRingFirst

/-- Entry number `n`, while it is retained. -/
def State.jAt (s : State) (n : Nat) : Option JEntry :=
  if s.jRingFirst ≤ n ∧ n < s.jnl.next then s.jnl.ring[n - s.jRingFirst]?
  else (s.jnl.dram.find? fun p => decide (p.1 = n)).map Prod.snd

/-- R368: the entries that the DRAM ring of 1,048,576 keeps. -/
def dramRing : Nat := 1048576

/-- JOURNAL_SPILL: R368, R369: a block of 256 entries moves to the DRAM ring. -/
def execJournalSpill (s : State) : Host.Outcome State Fault Refusal :=
  let j := s.jnl
  if j.frozen ∨ j.unspilled < 256 then .next s
  else
    let first := j.next - j.unspilled
    let block := (List.range 256).filterMap fun i => (s.jAt (first + i)).map fun e => (first + i, e)
    let dram := block.foldl (fun (m : SMap JEntry) p => SMap.insert m p.1 p.2) j.dram
    let gone := dram.filter fun p => decide (p.1 + dramRing < first + 256)
    let dram := dram.filter fun p => decide (first + 256 ≤ p.1 + dramRing)
    let s := gone.foldl (fun s p => s.streamLoses p.1 (some p.2)) s
    .next ({ s with jnl := { s.jnl with dram := dram, unspilled := j.unspilled - 256 } }.issue 6)

/-- R373: is the destination IPv4-mapped? -/
def mappedAddr (a : List Byte) : Bool := decide (a.take 12 = List.replicate 10 0 ++ [0xFF, 0xFF])

/-- R373: entries in a full datagram. -/
def State.dgramMax (s : State) : Nat := if mappedAddr (s.paramBytes P.JNL_STREAM_DEST) then 90 else 89

/-- R373: the entries waiting, with their numbers. -/
def State.streamWaiting (s : State) : List (Nat × JEntry) :=
  ((List.range (s.jnl.next - s.jnl.streamNext)).filterMap fun i =>
    (s.jAt (s.jnl.streamNext + i)).map fun e => (s.jnl.streamNext + i, e)).filter fun p => s.streamTakes p.2

/-- R373: the port on which the device last received a frame from the destination, or port A. -/
def State.streamEgress (s : State) : Port := SMap.get (fun _ => Port.a) s.jnl.heardOn (s.param P.JNL_STREAM_DEST)

/-- JOURNAL_DATAGRAM: R373: at once when a datagram is full, else JNL_STREAM_PERIOD after its first entry. -/
def execJournalDatagram (s : State) : Host.Outcome State Fault Refusal :=
  if s.streamOn = false ∨ s.sys.inReset then .next s
  else
    let w := s.streamWaiting.take s.dgramMax
    match w, w.getLast? with
    | first :: _, some last =>
      let age := (s.nowNs + 2 ^ 32 - first.2.short.toNat) % 2 ^ 32
      let lost := s.jnl.skipped % 2 ^ 32
      let s := if w.length = s.dgramMax then s else s.reach (s.up + s.param P.JNL_STREAM_PERIOD * 1000000 - age)
      let payload := beBytes 2 0x4A4C ++ [1] ++ beBytes 1 w.length ++ beBytes 4 lost ++ beBytes 8 s.nvm.serial ++ beBytes 8 first.1 ++
        w.flatMap fun p => p.2.bytes
      let s := s.sendOwn s.streamEgress
        { kind := .udp, cls0 := false, dst := s.paramBytes P.JNL_STREAM_DEST, sport := 47812, dport := s.param P.JNL_STREAM_PORT
          payload := payload }
      let s := s.count Reg.JNL_STREAM_DGRAMS
      .next { s with jnl := { s.jnl with streamNext := last.1 + 1, skipped := 0 } }
    | _, _ => .next s

/-- JNL_MARK: R367: HOST_MARK, from the journal block. -/
def State.journalMark (s : State) (v : Nat) : State := s.emit 0x0A Kind.CONFIG Code.HOST_MARK (v * 2 ^ 32)

def execJnlMark (v : Word) (s : State) : Host.Outcome State Fault Refusal := .next (s.journalMark v.toNat)

/-- JNL_NEXT_HI: the next entry number, latching its low word. -/
def State.readJnlNextHi (s : State) : State × Word :=
  ({ s with jnl := { s.jnl with latchNext := s.jnl.next % 2 ^ 32 } }, BitVec.ofNat 32 (s.jnl.next / 2 ^ 32))

def execJnlNextHi (s : State) : Host.Outcome State Fault Refusal :=
  let r := s.readJnlNextHi
  .next { r.1 with ctrl := { r.1.ctrl with regOut := r.2 } }

/-- JNL_OLDEST_HI: the oldest retained entry number, latching its low word. -/
def State.readJnlOldestHi (s : State) : State × Word :=
  ({ s with jnl := { s.jnl with latchOldest := s.jOldest % 2 ^ 32 } }, BitVec.ofNat 32 (s.jOldest / 2 ^ 32))

def execJnlOldestHi (s : State) : Host.Outcome State Fault Refusal :=
  let r := s.readJnlOldestHi
  .next { r.1 with ctrl := { r.1.ctrl with regOut := r.2 } }

end Sys2Proof.Machine
end

