-- ==== Sys2Proof/Machine/Lamp.lean ====
section
/-! DEFINITION. Lamp control: the segment plan, driver writes, sense results and the fault map, temperatures, colour
tracking and Quench (08_lamp_control.md). -/

namespace Sys2Proof.Machine

/-! ### Queued lines (R268, R270, R328) -/

/-- R328: queue a line behind those of its class and of the classes before it. -/
def queueLine (l : CfgLine) : List CfgLine → List CfgLine
  | [] => [l]
  | x :: xs => if l.cls < x.cls then l :: x :: xs else x :: queueLine l xs

def State.queueCfg (s : State) (n : Nat) (l : CfgLine) : State :=
  let t := s.strand n
  s.setStrand n { t with cfg := queueLine l t.cfg }

/-- A CONFIG line: register and value pairs for one driver. -/
def configLine (cls driver : Nat) (pairs : List (Nat × Nat)) : CfgLine :=
  { cls := cls, raw := false, driver := driver, words := pairs.flatMap fun p => [BitVec.ofNat 16 p.1, BitVec.ofNat 16 p.2] }

/-- Change the drivers of a strand, each with its index. -/
def mapDrivers (f : Nat → Driver → Driver) : Nat → List Driver → List Driver
  | _, [] => []
  | h, d :: ds => f h d :: mapDrivers f (h + 1) ds

/-- Go over the drivers of strand `n`, each with its index. -/
def State.overDrivers (s : State) (n : Nat) (f : State → Nat → Driver → State) : State :=
  ((s.strand n).drivers.foldl (fun (a : State × Nat) d => (f a.1 a.2 d, a.2 + 1)) (s, 0)).1

/-- Every NSP strand. -/
def State.overNsp (s : State) (f : State → Nat → State) : State :=
  allStrands.foldl (fun s n => if s.isNsp n then f s n else s) s

/-! ### The segment plan (R300, R301, R307) -/

/-- The smallest power of two not below `n`, looking up to 2^k. -/
def pow2Above (n : Nat) : Nat := ((List.range 33).find? fun k => decide (n ≤ 2 ^ k)).elim n (2 ^ ·)

/-- The largest power of two not above `n`. -/
def pow2Below (n : Nat) : Nat := 2 ^ Nat.log2 n

/-- R300: the segment count of a slot of weight `w`. -/
def planCount (t : Timing) (refreshMin : Nat) (camera : Bool) (w : Nat) : Nat :=
  let b := max 1 (ceilDiv (refreshMin * t.m * w) (t.n * 1000))
  let c := 64 * w / 1000
  if camera then min (pow2Above b) (pow2Below c) else min b c

/-- R300: the slot falls short of REFRESH_MIN. -/
def planShort (t : Timing) (refreshMin w n : Nat) : Bool := decide (n * t.n * 1000 < refreshMin * t.m * w)

/-- R300, R301: the pitch of slot `j` of the plan in force, in units of 2^-k ns, rounded to nearest. -/
def State.pitch (s : State) (k j : Nat) : Nat :=
  let t := s.lamp.planTiming
  let n := s.segments j
  if n = 0 then 0 else roundDiv (t.m * t.weight j * 1000000 * 2 ^ k) (t.n * n)

/-- R307, R311: the slot that a bank serves. -/
def bankSlot (slots b : Nat) : Nat :=
  match slots with
  | 1 => 0
  | 2 => b % 2
  | 3 => if b = 3 then 0 else b
  | _ => b

/-- R307: the PITCH registers of a v2 driver. -/
def State.pitchLine (s : State) (h : Nat) : CfgLine :=
  configLine 4 h ((List.range 4).flatMap fun b =>
    let p := s.pitch 4 (bankSlot s.lamp.planTiming.slots b)
    [(8 + 2 * b, p / 65536 % 65536), (9 + 2 * b, p % 65536)])

/-- R300, R301, R307: compute the plan; a change queues the pitch writes, a shortfall raises REFRESH_SHORT. -/
def State.setPlan (s : State) : State :=
  let t := s.hearth.timing
  let count := fun j => if j < t.slots then planCount t (s.param P.REFRESH_MIN) (s.paramOn P.CAMERA_MODE) (t.weight j) else 0
  let short := (List.range t.slots).any fun j => planShort t (s.param P.REFRESH_MIN) (t.weight j) (count j)
  let old := (List.range 4).map (s.pitch 4)
  let s := { s with lamp := { s.lamp with
      n0 := count 0, n1 := count 1, n2 := count 2, n3 := count 3, planTiming := t, refreshShort := short } }
  let s := if short then s.raise Ev.REFRESH_SHORT else s
  if old = (List.range 4).map (s.pitch 4) then s
  else s.overNsp fun s n => s.overDrivers n fun s h d => if d.v2 then s.queueCfg n (s.pitchLine h) else s

/-! ### Hop compensation (R308, R309) and the writes of R284 -/

/-- R308: 64,000 − 40 T − λ, before the cap. -/
def State.compDelay (s : State) (n lambda : Nat) : Int := 64000 - (40000000000 / s.strandBps n : Nat) - lambda

/-- R308: a delay that would be negative raises PHASE_RANGE with the driver and the shortfall. -/
def State.phaseRange (s : State) (n h lambda : Nat) : State :=
  let c := s.compDelay n lambda
  if c < 0 then s.raiseWith Ev.PHASE_RANGE n (h * 2 ^ 46 + (-c).toNat * 2 ^ 14) else s

/-- R308: queue the COMP_DELAY write of driver `h` for latency λ. -/
def State.queueComp (s : State) (n h lambda : Nat) : State :=
  let s := s.phaseRange n h lambda
  let t := s.strand n
  let s := s.setStrand n { t with drivers := mapDrivers (fun k d => if k = h then { d with written := lambda } else d) 0 t.drivers }
  s.queueCfg n (configLine 2 h [(6, (s.compDelay n lambda).toNat)])

/-- R308: after a change of the strand's rate, every v2 driver gets its COMP_DELAY. -/
def State.queueComps (s : State) (n : Nat) : State :=
  s.overDrivers n fun s h d => if d.v2 then s.queueComp n h d.lambda else s

/-- R284, R308: the registers that the device writes after enumeration, in one line: WDT_MS, WDT_ACTION, HBP and, on a v2
driver, COMP_DELAY for latency λ. -/
def State.driverLine (s : State) (n h : Nat) (d : Driver) (lambda : Nat) : CfgLine :=
  configLine 5 h ([(7, s.hBp n), (4, s.param P.DRV_WDT_MS), (5, s.param P.DRV_WDT_ACTION)] ++
    (if d.v2 then [(6, (s.compDelay n lambda).toNat)] else []))

/-- R309: the latency with which each driver's COMP_DELAY was last written is its present one. -/
def State.noteWritten (s : State) (n : Nat) : State :=
  let t := s.strand n
  s.setStrand n { t with drivers := t.drivers.map fun d => { d with written := d.lambda } }

/-- R284: these writes for every driver of a strand. -/
def State.queueWdt (s : State) (n : Nat) : State :=
  (s.overDrivers n fun s h d => s.queueCfg n (s.driverLine n h d d.lambda)).noteWritten n

/-- R306: ANCHOR_MODE of every v2 driver of a strand. -/
def State.queueAnchor (s : State) (n : Nat) : State :=
  let mode := b2n (s.strand n).hasV1
  s.overDrivers n fun s h d => if d.v2 then s.queueCfg n (configLine 4 h [(0x10, mode)]) else s

/-- R309: a latency sample of driver `h`. -/
def State.latencySample (s : State) (n h sample : Nat) : State :=
  let t := s.strand n
  match t.driver? h with
  | none => s
  | some d =>
    let diff : Int := (sample : Int) - d.lambda
    if 80 < diff.natAbs then s.count Reg.PHASE_OUTLIER
    else
      let l := ((d.lambda : Int) + diff.tdiv 8).toNat
      let s := s.setStrand n (t.setDriver h { d with lambda := l, sampledMs := s.upMs })
      if d.v2 ∧ 4 * s.param P.PHASE_RETRIM < ((l : Int) - d.written).natAbs then
        (s.queueComp n h l).count Reg.PHASE_RETRIM_WRITE
      else s

/-! ### Sense (R317 to R320) -/

/-- R317: the smallest step not below `from_` that has no common divisor with `n`. -/
def coprimeStep (n : Nat) : Nat → Nat → Nat
  | 0, d => d
  | k + 1, d => if Nat.gcd d n = 1 then d else coprimeStep n k (d + 1)

/-- R317: the drivers that a strand polls in a frame, in ascending index. -/
def State.polled (s : State) (n : Nat) : List Nat :=
  let ds := (s.strand n).drivers.length
  let k := min (s.param P.SENSE_PER_TICK) ds
  if k = 0 then []
  else
    let step := coprimeStep ds (ds + 1) (ceilDiv ds k)
    let picks := (List.range k).map fun i => (s.lamp.sensePos + i * step) % ds
    (List.range ds).filter fun h => picks.contains h

/-- R317: the return slots of the polls. -/
def State.pollSlots (s : State) (n : Nat) : List RetSlot :=
  (s.polled n).filterMap fun h => ((s.strand n).driver? h).map fun d => { driver := h, sense := d.v2, forCommand := false }

/-- R319: the fields of a fault map byte. -/
def faultState (b : Byte) : Nat := bits b.toNat 1 0
def faultKind (b : Byte) : Nat := bits b.toNat 3 2
def faultRun (b : Byte) : Nat := bits b.toNat 6 4
def faultByte (st kind run : Nat) : Byte := BitVec.ofNat 8 (st + kind * 4 + run * 16 + (if st = 2 then 128 else 0))

/-- R318: the record after one result, with the OK results counted since the fault was confirmed. -/
def senseStep (confirm clear : Nat) (latch : Bool) (b : Byte) (oks result : Nat) : Byte × Nat :=
  let st := faultState b
  match result with
  | 0 =>
    if st = 0 then (faultByte 0 (faultKind b) 0, 0)
    else if st = 2 ∧ latch then (faultByte st (faultKind b) 0, oks)
    else if clear ≤ oks + 1 then (faultByte 0 (faultKind b) 0, 0)
    else (faultByte st (faultKind b) 0, oks + 1)
  | 3 => (b, oks)
  | r =>
    let run := if faultRun b ≠ 0 ∧ faultKind b = r then faultRun b + 1 else 1
    if confirm ≤ run then (faultByte r r 0, 0) else (faultByte st r run, 0)

/-- What the fault map will hold for a channel, with the results not yet applied. -/
def State.faultSoon (s : State) (k : Nat) : Byte :=
  match (s.lamp.faultReady ++ s.lamp.faultNext).reverse.find? fun p => decide (p.1 = k) with
  | some p => p.2
  | none => s.fault k

/-- R318, R320: one sense result of channel `c` of driver `h`. -/
def State.senseResult (s : State) (n h c result : Nat) : State :=
  let k := faultKey n h c
  let old := s.faultSoon k
  let oks := SMap.get (fun _ => 0) s.lamp.clearRun k
  let new := senseStep (s.param P.SENSE_CONFIRM) (s.param P.FAULT_CLEAR_COUNT) (s.paramOn P.SHORT_LATCH) old oks result
  let s := if result = 3 then s.count Reg.SENSE_UNKNOWN else s
  let s := { s with lamp := { s.lamp with
      clearRun := SMap.set (fun _ => 0) s.lamp.clearRun k new.2
      faultNext := if new.1 = old then s.lamp.faultNext else s.lamp.faultNext ++ [(k, new.1)] } }
  let st := faultState new.1
  let detail := h * 2 ^ 46 + c * 2 ^ 39 + st * 2 ^ 37
  if st = faultState old then s
  else if st = 0 then (s.count Reg.FAULT_CLEARS).raiseWith Ev.FAULT_CLEARED n detail
  else (s.count Reg.FAULT_CONFIRMS).raiseWith Ev.FAULT_CONFIRMED n detail

/-- R276: the result of channel `c` in the sense words of a reply. -/
def senseOf (words : List Half) (c : Nat) : Nat :=
  bits ((words.getD (c / 8) 0).toNat) (15 - 2 * (c % 8)) (14 - 2 * (c % 8))

/-- R318: the sense words of a reply of driver `h`. -/
def State.senseWords (s : State) (n h : Nat) (d : Driver) (words : List Half) : State :=
  (List.range (d.units * d.channels)).foldl (fun s c => s.senseResult n h c (senseOf words c)) s

/-- R27, R320: the results that a record point has taken enter the fault map. -/
def State.applyFaults (s : State) : State :=
  let m := s.lamp.faultReady.foldl (fun m p => SMap.set (fun _ => 0) m p.1 p.2) s.lamp.faultMap
  { s with lamp := { s.lamp with faultMap := m, faultReady := [] } }

/-- FAULT_CLEAR: R320: reset the records of a strand, or of every strand; the write is accepted in IDLE and SERVICE only. No
sense result changes a state here, so R318 raises nothing (DEDUCED, log 131). -/
def State.clearFaults (s : State) (v : Word) : State :=
  if s.mode ≠ .idle ∧ s.mode ≠ .service then s else
  let hit := fun (k : Nat) => bit v.toNat 7 || decide (k / 128 / 512 = bits v.toNat 6 0)
  { s with lamp := { s.lamp with
      faultMap := s.lamp.faultMap.filter fun p => !hit p.1
      faultNext := s.lamp.faultNext.filter fun p => !hit p.1
      faultReady := s.lamp.faultReady.filter fun p => !hit p.1
      clearRun := s.lamp.clearRun.filter fun p => !hit p.1 } }

/-! ### Temperatures, colour tracking and Quench (R321 to R327) -/

/-- A zone before its first temperature. -/
def freshZone (ms : Nat) : Zone :=
  { temp := -32768, source := 0, te := none, q := 4096, g0 := 0x8000, g1 := 0x8000, g2 := 0x8000, g3 := 0x8000
    lastSourceMs := ms, lost := false, overtempLeft := 0, c0 := 4095, c1 := 4095, c2 := 4095, c3 := 4095 }

def State.zone (s : State) (n h : Nat) : Zone :=
  match s.lamp.zones.find? fun p => decide (p.1 = zoneKey n h) with
  | some p => p.2
  | none => freshZone s.upMs

def State.putZone (s : State) (n h : Nat) (z : Zone) : State :=
  { s with lamp := { s.lamp with zones := SMap.insert s.lamp.zones (zoneKey n h) z } }

def State.strandLamp (s : State) (n : Nat) : List Byte := s.paramBytes (P.STRAND_LAMP n)

/-- R322: a diode's temperature when it is not faulty. -/
def State.diode (s : State) (k : Nat) : Option Int :=
  match k with
  | 0 => if s.lamp.diodeFault0 then none else s.lamp.diode0
  | 1 => if s.lamp.diodeFault1 then none else s.lamp.diode1
  | 2 => if s.lamp.diodeFault2 then none else s.lamp.diode2
  | 3 => if s.lamp.diodeFault3 then none else s.lamp.diode3
  | _ => none

/-- R321: the zone's temperature from its first available source, with the source's number. -/
def State.zoneSource (s : State) (n h : Nat) (d : Driver) : Option (Int × Nat) :=
  let age := s.param P.TEMP_MAX_AGE
  if d.temp ≠ 0x8000 ∧ s.upMs ≤ d.tempMs + age then some (d.temp.toInt, 0)
  else
    match s.diode (byteAt (s.strandLamp n) 9) with
    | some t => some (t, 1)
    | none =>
      let v := SMap.get (fun _ => 0) s.lamp.hostTemp (zoneKey n h)
      if v ≠ 0 ∧ s.upMs ≤ s.lamp.hostTempMs + age then some ((v : Int) - 0x8000, 2) else none

/-- R321: the highest temperature among the zones. -/
def State.hottest (s : State) : Int :=
  s.lamp.zones.foldl (fun m p => if p.2.te.isSome then max m p.2.temp else m) (-32768)

/-- R324: the gain of emitter type `e` at temperature `t` by a tracking set. -/
def trackGain (set : Nat → Nat) (t : Int) (e : Nat) : Nat :=
  let x := t + 5120
  if x ≤ 0 then set e
  else if 19200 ≤ x then set (60 + e)
  else
    let i := (x / 1280).toNat
    let f := x % 1280
    ((set (4 * i + e) : Int) + floorDiv (((set (4 * (i + 1) + e) : Int) - set (4 * i + e)) * f + 640) 1280).toNat

/-- R323: entry `k` of tracking set `t`. -/
def State.trackEntry (s : State) (t k : Nat) : Nat := SMap.get (fun _ => 0x8000) s.lamp.track (t * 64 + k)

/-- R324: the zone gain of an emitter. -/
def State.zoneGain (s : State) (n e : Nat) (t : Int) : Nat :=
  let set := byteAt (s.strandLamp n) 8
  if s.paramOn P.TRACK_ENABLE = false ∨ set = 0xFF then 0x8000 else trackGain (s.trackEntry set) t e

/-- R325: the effective temperature. -/
def effectiveTemp (hyst : Nat) (te : Option Int) (t : Int) : Int :=
  match te with
  | none => t
  | some te => if te ≤ t then t else if t < te - 128 * hyst then t + 128 * hyst else te

def State.quenchFloor (s : State) : Nat := 4096 * s.param P.QUENCH_FLOOR / 100

/-- R325: the Quench factor. -/
def State.quenchFactor (s : State) (te : Int) : Nat :=
  if s.paramOn P.QUENCH_ENABLE then
    let d := (te - 128 * (s.param P.QUENCH_KNEE : Int)).toNat
    max s.quenchFloor (4096 - d * s.param P.QUENCH_SLOPE * 4096 / 128000)
  else 4096

/-- R326: the current code of an emitter. -/
def State.currentCode (s : State) (n e q : Nat) : Nat := max 1 ((field (s.strandLamp n) (2 * e) 2 * q + 2048) / 4096)

/-- R321 to R327: the zone of driver `h` at a record point. -/
def State.zoneStep (s : State) (n h : Nat) (d : Driver) : Zone :=
  let z := s.zone n h
  let z := match s.zoneSource n h d with
    | some (t, src) => { z with temp := t, source := src, lastSourceMs := s.upMs, lost := false, te := some (effectiveTemp (s.param P.QUENCH_HYST) z.te t) }
    | none =>
      let z := { z with source := 3 }
      if z.lost ∧ -32768 < s.hottest then { z with temp := s.hottest, te := some (effectiveTemp (s.param P.QUENCH_HYST) z.te s.hottest) } else z
  match z.te with
  | none => { z with q := if 0 < z.overtempLeft then s.quenchFloor else 4096 }
  | some te =>
    { z with
      q := if 0 < z.overtempLeft then s.quenchFloor else s.quenchFactor te
      g0 := s.zoneGain n 0 z.temp, g1 := s.zoneGain n 1 z.temp, g2 := s.zoneGain n 2 z.temp, g3 := s.zoneGain n 3 z.temp }

/-- R27, R325: at the record point every zone's next values are computed. -/
def State.quenchStep (s : State) : State :=
  let s := { s with lamp := { s.lamp with zonesNext := [], faultReady := s.lamp.faultReady ++ s.lamp.faultNext, faultNext := [] } }
  let s := s.overNsp fun s n => s.overDrivers n fun s h d =>
    { s with lamp := { s.lamp with zonesNext := s.lamp.zonesNext ++ [(zoneKey n h, s.zoneStep n h d)] } }
  { s with lamp := { s.lamp with anyLost := s.lamp.zonesNext.any fun p => p.2.lost } }

/-- R326: a zone's current codes that changed are queued for its driver. -/
def State.applyCurrents (s : State) (key : Nat) (z : Zone) : State × Zone :=
  let n := key / 512
  let c := fun e => s.currentCode n e z.q
  if c 0 = z.c0 ∧ c 1 = z.c1 ∧ c 2 = z.c2 ∧ c 3 = z.c3 then (s, z)
  else
    ((s.queueCfg n (configLine 3 (key % 512) [(0, c 0), (1, c 1), (2, c 2), (3, c 3)])).count Reg.CUR_WRITE,
      { z with c0 := c 0, c1 := c 1, c2 := c 2, c3 := c 3 })

/-- R27, R321: the values of the last record point come into force at the tick, at which the zones in fallback are
counted. -/
def State.applyZones (s : State) : State :=
  let s1 := s.lamp.zonesNext.foldl (fun s p =>
    let left := (s.zone (p.1 / 512) (p.1 % 512)).overtempLeft
    let r := s.applyCurrents p.1 { p.2 with overtempLeft := left, q := if 0 < left then s.quenchFloor else p.2.q }
    let s := { r.1 with lamp := { r.1.lamp with zones := SMap.insert r.1.lamp.zones p.1 r.2 } }
    if r.2.lost then s.count Reg.TEMP_FALLBACK else s) s
  { s1 with lamp := { s1.lamp with zonesNext := [] } }

/-- R326, R327: OVERTEMP in a STATUS reply sets the zone to the floor at once, and its current write is queued. -/
def State.overtemp (s : State) (n h : Nat) (status : Half) : State :=
  let z := s.zone n h
  if bit status.toNat 5 then
    let r := s.applyCurrents (zoneKey n h) { z with overtempLeft := 3, q := s.quenchFloor }
    r.1.putZone n h r.2
  else s.putZone n h { z with overtempLeft := z.overtempLeft - 1 }

/-! ### Measurements (R321, R322) -/

/-- DIODE_MEASUREMENT: R322; the readings hold during a TEMP test (R507). -/
def execDiodeMeasurement (k : Fin 4) (r : DiodeReading) (s : State) : Host.Outcome State Fault Refusal :=
  let set := fun (l : Lamp) (v : Option Int) (f : Bool) =>
    match k.val with
    | 0 => { l with diode0 := v, diodeFault0 := f }
    | 1 => { l with diode1 := v, diodeFault1 := f }
    | 2 => { l with diode2 := v, diodeFault2 := f }
    | _ => { l with diode3 := v, diodeFault3 := f }
  let was := match k.val with
    | 0 => s.lamp.diodeFault0
    | 1 => s.lamp.diodeFault1
    | 2 => s.lamp.diodeFault2
    | _ => s.lamp.diodeFault3
  if s.firmwareUp = false ∨ s.testing 2 0 then .next s
  else
    match r with
    | .temp t => .next { s with lamp := set s.lamp (some (t + s.paramI (P.DIODE_OFFSET k))) false }
    | _ =>
      let old := match k.val with
        | 0 => s.lamp.diode0
        | 1 => s.lamp.diode1
        | 2 => s.lamp.diode2
        | _ => s.lamp.diode3
      let s1 := { s with lamp := set s.lamp old true }
      if was then .next s1 else .next (s1.raiseAt Ev.DIODE_FAULT k)

/-- R321: the zone of driver `h` of strand `n` is in fallback, also in the values that wait for the next tick. -/
def State.zoneLost (s : State) (n h : Nat) : State :=
  let s := s.putZone n h { s.zone n h with lost := true }
  { s with lamp := { s.lamp with
      anyLost := true
      zonesNext := s.lamp.zonesNext.map fun p => if p.1 = zoneKey n h then (p.1, { p.2 with lost := true }) else p } }

/-- ZONE_TEMP_LOST: R321: a zone without a source for TEMP_LOST_TIME goes into fallback; time passes to that instant. -/
def execZoneTempLost (n : Fin 128) (h : Nat) (s : State) : Host.Outcome State Fault Refusal :=
  match (s.strand n).driver? h with
  | none => .next s
  | some d =>
    let z := s.zone n h
    if s.mode = .shadow ∨ z.lost ∨ (s.zoneSource n h d).isSome = true then .next s
    else
      .next (((s.reach ((z.lastSourceMs + s.param P.TEMP_LOST_TIME * 1000) * 1000000)).zoneLost n h).raiseAt Ev.ZONE_TEMP_LOST n)

end Sys2Proof.Machine
end

