-- ==== Sys2Proof/Machine/Content.lean ====
section
/-! DEFINITION. The maps, tables and planes as the bytes over which the spec takes their CRC-32C, and the configuration
digest (R218, R219, R235, R246, R247, R436, R460). -/

namespace Sys2Proof.Machine

/-- R219: a run as its 8 bytes. -/
def Run.bytes (r : Run) : List Byte :=
  beBytes 2 r.x ++ beBytes 2 r.y ++ beBytes 2 r.count ++ beBytes 1 (r.dir + 4 * b2n r.dark) ++ [0]

/-- R218, R219: a map as its header and runs. -/
def PixMap.bytes (m : PixMap) : List Byte :=
  beBytes 2 m.pixels ++ beBytes 2 m.runCount ++ beBytes 1 m.emitters ++ beBytes 1 (m.order + 8 * b2n m.wFirst) ++
    beBytes 1 m.pixPerLine ++ List.replicate 9 0 ++ m.runs.flatMap Run.bytes

/-- R246: the entries of a transfer table and of the tone table. -/
def tableSize (t : Nat) : Nat := if t = 4 then 1024 else 4096

/-- R247: the CRC-32C of entries, each as its 4-byte word, in index order. -/
def entriesCrc (n : Nat) (entry : Nat → Nat) : Nat := crc32c ((List.range n).flatMap fun i => beBytes 4 (entry i))

/-- The CRC-32C of active table `t`. -/
def State.tableCrc (s : State) (t : Nat) : Nat := entriesCrc (tableSize t) (s.tableEntry t)

/-- The records of a plane for the mapped pixels, as bytes. -/
def State.planeBytes (s : State) (b : Bool) : List Byte :=
  (List.range s.mappedPixels).flatMap fun k => beBytes 16 ((s.plane b).record b k)

/-- The CRC-32C of a plane. -/
def State.planeCrc (s : State) (b : Bool) : Nat := crc32c (s.planeBytes b)

/-- R323: the CRC-32C of tracking set `t`. -/
def State.trackCrc (s : State) (t : Nat) : Nat := entriesCrc 64 (s.trackEntry t)

/-- R436: CONFIG_DIGEST of the configuration as it stands (log 8). -/
def State.ownDigest (s : State) : List Byte :=
  Config.configDigest s.ctrl.live
    (((List.range 128).map fun n => crc32c (s.map n).bytes) ++ ((List.range 5).map s.tableCrc) ++
      ((List.range 16).map s.trackCrc) ++ [s.planeCrc s.anvil.activeB])

end Sys2Proof.Machine
end

