-- ==== Sys2Proof/Machine/Wire.lean ====
section
/-! DEFINITION. What a strand item is on the wire: the bits of NSP, their pulses, the control codes and their arguments, the
pulses of a legacy chain and the levels of a DMX512-A packet (R262 to R268, R291, R294). -/

namespace Sys2Proof.Machine

/-- R262: what one position of an NSP strand carries: a D0, a D1, a K, or one bit-time of idle. -/
inductive WireBit where
  | d0 | d1 | k | idle
  deriving DecidableEq, Repr

/-- R262: the high time, at the start, and the low time after it, in quarters of a bit-time. -/
def WireBit.quarters : WireBit → Nat × Nat
  | .d0 => (1, 3)
  | .d1 => (3, 1)
  | .k => (4, 4)
  | .idle => (0, 4)

/-- R262: its bit-times. -/
def WireBit.times (b : WireBit) : Nat := (b.quarters.1 + b.quarters.2) / 4

/-- R262: the low `w` bits of `n`, msb first. -/
def wireBits : Nat → Nat → List WireBit
  | 0, _ => []
  | w + 1, n => (if bit n w then .d1 else .d0) :: wireBits w n

/-- R263: the code of SWP0 to SWP3. -/
def swapCode : Nat → Nat
  | 0 => 0x47
  | 1 => 0x5A
  | 2 => 0x6C
  | _ => 0x71

/-- R263: a control symbol: a K and its 8-bit code. -/
def controlBits (code : Nat) : List WireBit := .k :: wireBits 8 code

/-- R263: the argument of RTS: DRIVER, SENSE and RELAY. -/
def rtsArgument (driver : Nat) (sense : Bool) (relay : Nat) : Nat := driver % 2 ^ 10 + b2n sense * 2 ^ 10 + relay % 2 ^ 5 * 2 ^ 11

/-- The words of a line as bits. -/
def wordBits (l : List Half) : List WireBit := l.flatMap fun w => wireBits 16 w.toNat

/-- R262, R263, R266 to R268: an item of an NSP strand on the wire: a line is its header, the filler of D0 bits, its payload
words, its CRC and its idle. -/
def StrandItem.wire : StrandItem → List WireBit
  | .sof => controlBits 0x1D
  | .syn => controlBits 0x2B
  | .nsw => controlBits 0x36
  | .swp b => controlBits (swapCode b)
  | .rts d s r => controlBits 0x8E ++ wireBits 16 (rtsArgument d s r)
  | .eof => controlBits 0x93
  | .brk => controlBits 0xA5
  | .enm hop => controlBits 0xB8 ++ wireBits 16 (hop % 2 ^ 10)
  | .line _ _ hBp hFp words crc =>
    wordBits (words.take 1) ++ List.replicate hBp .d0 ++ wordBits (words.drop 1) ++ wireBits 16 crc.toNat ++ List.replicate hFp .idle
  | .legacy _ _ | .dmx _ _ _ | .rdm _ => []

/-- Its bit-times. -/
def StrandItem.times (i : StrandItem) : Nat := (i.wire.map WireBit.times).foldl (· + ·) 0

/-- R291: how a legacy chain is sent: bits of a channel, and the high time of a 0 and of a 1 and the length of a bit in ns. -/
def LegacyForm.pulse (f : LegacyForm) (one : Bool) : Nat × Nat :=
  let high := if one then f.highOne else f.highZero
  (high, f.bitNs - high)

/-- R291: the pulses of a legacy frame, high and low time in ns, msb first (R262). -/
def LegacyForm.pulses (f : LegacyForm) (codes : List Half) : List (Nat × Nat) :=
  codes.flatMap fun c => (wireBits f.width c.toNat).map fun b => f.pulse (decide (b = .d1))

/-- R294: the levels of one DMX slot, 4 µs each: a start bit, 8 data bits from the least significant on, and two stop bits. -/
def dmxSlotLevels (b : Byte) : List Bool := false :: (List.range 8).map (fun i => b.getLsbD i) ++ [true, true]

/-- R294: the levels of a DMX packet with their µs: break, mark-after-break and slots. -/
def dmxLevels (breakUs mabUs : Nat) (bytes : List Byte) : List (Bool × Nat) :=
  (false, breakUs) :: (true, mabUs) :: (bytes.flatMap dmxSlotLevels).map fun l => (l, 4)

end Sys2Proof.Machine
end

