-- ==== Sys2Proof/Machine/Strands.lean ====
section
/-! DEFINITION. The strand ports: lines, SYN, returns, enumeration, legacy chains, DMX512-A and RDM
(07_strand_ports_and_nsp.md, R257 to R299). -/

namespace Sys2Proof.Machine

/-- R353: a fatal fault stands. -/
def State.dead (s : State) : Bool := s.sched.fatal

/-- R257, R524: the bank of strand `n` is not in FAULT. -/
def State.bankSupplied (s : State) (n : Nat) : Bool := decide ((s.bank (n / 16)).vclass ≠ 0)

/-- R257, R516, R524: strand `n` can be used: its bank is supplied and memory repair has not removed it. -/
def State.bankOk (s : State) (n : Nat) : Bool := s.bankSupplied n && !s.sys.lost.contains n

/-- R518: EXTEST, CLAMP, HIGHZ, EXTEST_PULSE or EXTEST_TRAIN is in effect. -/
def Tap.holdsPins (t : Tap) : Bool := [0x00, 0x03, 0x04, 0x05, 0x06].contains t.ir

/-- R260: what a strand pin shows between symbols: high-Z with the pull-down, a level, or what the boundary register holds. -/
inductive Pin where
  | highZ | low | high | boundary
  deriving DecidableEq, Repr

def pinLevel (up : Bool) : Pin := if up then .high else .low

def State.isDmx (s : State) (n : Nat) : Bool := decide (s.coder n = Coder.DMX)

/-- R260, R295: a DMX port receives an RDM response: its request has left and the response is awaited. -/
def State.rdmReceiving (s : State) (n : Nat) : Bool := (s.strand n).rdmNow.isSome && decide ((s.strand n).rdmSentUp ≤ s.up)

/-- R260: the state of the pin of strand `n`. The direction strand of a DMX port is the one after its data strand (R293), at
the level that DMX_DIR_POL names while the port transmits. -/
def State.pin (s : State) (n : Nat) : Pin :=
  if s.tap.holdsPins then .boundary
  else if s.sys.inReset ∨ s.mode = Mode.boot ∨ s.bankOk n = false ∨ s.mode = Mode.shadow then .highZ
  else if n % 2 = 1 ∧ s.isDmx (n - 1) then pinLevel (s.paramOn P.DMX_DIR_POL != s.rdmReceiving (n - 1))
  else if s.isDmx n then (if s.rdmReceiving n then .highZ else .high)
  else if (s.isNsp n ∨ s.isLegacy n) ∧ (s.strand n).driving ∧ (s.strand n).released = false then .low
  else .highZ

/-- Send items on the wire, when the device drives the strand. -/
def State.wire (s : State) (n : Nat) (l : List StrandItem) : State :=
  let t := s.strand n
  if t.driving then s.setStrand n (t.send l) else s

/-- A line on the wire: header, filler, payload words, the CRC of header and payload, and idle (R266, R267). -/
def State.lineItem (s : State) (n type bank : Nat) (words : List Half) : StrandItem :=
  .line type bank (s.hBp n) (s.hFp n) words (crc16Words words)

/-! ### The frame (R268 to R273) -/

/-- R269, R312: SOF of the next train. -/
def State.sendSof (s : State) (n : Nat) : State :=
  let t := s.strand n
  (s.setStrand n { t with pos := s.sofStart n t.sofs t.pos + 10, sofs := t.sofs + 1 }).wire n [.sof]

/-- SOF of the next `k` trains. -/
def State.sendSofs (n : Nat) : Nat → State → State
  | 0, s => s
  | k + 1, s => State.sendSofs n k (s.sendSof n)

/-- R269: the SOFs of the first `k` trains have been sent. -/
def State.openTrains (s : State) (n k : Nat) : State := State.sendSofs n (k - (s.strand n).sofs) s

/-- R269: a frame whose trains have no DATA line consists of their SOFs. -/
def State.emptyTrains (s : State) (n : Nat) : State := if s.vActive n = 0 then s.openTrains n (s.strand n).banks.length else s

/-- R290: the return slots of the frame have ended. -/
def State.slotsEnd (s : State) (n : Nat) : State :=
  if (s.strand n).ret.isEmpty then (s.toBit n (s.strand n).pos).raiseAt (Ev.FRAME_DONE n) n else s

/-- R269: DATA lines of the frame are left to send, or CONFIG and RAW lines that it still takes (R270). -/
def Strand.sending (t : Strand) : Bool :=
  (decide (t.sentLines < t.lines) && !t.underrun) || (!t.cfg.isEmpty && decide (t.cfgSent < 32))

/-- R269, R278, R290: when nothing is left to send but the return slots, EOF follows. -/
def State.finishFrame (s : State) (n : Nat) : State :=
  let t := s.strand n
  if t.kind = .none ∨ t.eof ∨ t.sending = true then s
  else
    let s := s.emptyTrains n
    let t := s.strand n
    let eof := placeSymbol 10 (s.fixedBits n) t.pos
    let s := ((s.toBit n eof).setStrand n { t with eof := true, eofAt := eof, pos := eof + 10 }).wire n [.eof]
    ((s.countN (Reg.CFG_DEFERRED n) t.cfg.length).raiseAt (Ev.START_OF_BLANK n) n).slotsEnd n

/-- R273, R218: the words of a DATA line that Anvil does not write: its header and zeros. -/
def State.darkLine (s : State) (n i : Nat) : List Half :=
  let j := i / s.vActive n
  lineHeader 0xA (s.hActive n) (s.headerBank n (i % s.vActive n) (((s.strand n).banks[j]?).getD 0)) ::
    List.replicate (s.hActive n) 0

/-- The words of the next DATA line; none when Anvil has not written it. -/
def State.nextLine (s : State) (n : Nat) : Option (List Half) :=
  let t := s.strand n
  if t.kind = .render ∧ (s.map n).pixels ≠ 0 then t.buf.head?.map Prod.snd else some (s.darkLine n t.sentLines)

/-- LB_LEVEL.MIN: the lowest fill during DATA lines, kept in the high half. -/
def State.lbMin (s : State) (n : Nat) : State :=
  let f := (s.strand n).fill
  let a := Reg.LB_LEVEL n
  if f < s.regN a / 65536 then s.setRegN a (f * 65536) else s

/-- R290: line `i` of the frame ends its H_FP at bit `e`. -/
def State.lineMatched (s : State) (n i e : Nat) : State :=
  if i = s.lineMatch n ∧ i < s.vActive n then (s.toBit n e).raiseAt (Ev.LINE_MATCH n) n else s

/-- Send a DATA line. -/
def State.sendData (s : State) (n : Nat) (words : List Half) : State :=
  let i := (s.strand n).sentLines
  let s := s.openTrains n (i / s.vActive n + 1)
  let t := s.strand n
  let place := s.linePlace n (s.hActive n) t.pos
  let s := s.toBit n place.1
  let s := s.setStrand n { t with pos := place.2, sentLines := i + 1, buf := t.buf.drop 1 }
  let s := (s.wire n [s.lineItem n 0xA (((s.strand n).banks[i / s.vActive n]?).getD 0) words]).lbMin n
  ((s.lineMatched n i place.2).bellows n).finishFrame n

/-- R278, R317: a DRIVER_COMMAND slot stands behind deferred slots and earlier commands, before the polls. -/
def insertCommand (r : RetSlot) : List RetSlot → List RetSlot
  | [] => [r]
  | x :: xs => if x.late ∨ x.forCommand then x :: insertCommand r xs else r :: x :: xs

/-- R268, R314: send a CONFIG or RAW line, after the last sub-tick swap of the interval. -/
def State.sendCfg (s : State) (n : Nat) (l : CfgLine) (rest : List CfgLine) : State :=
  let s := s.emptyTrains n
  let t := s.strand n
  let words := BitVec.ofNat 16 l.driver :: l.words
  let type := if l.raw then 0xC else 0x5
  let swapEnd := (s.swapsOf n).foldl (fun m w => max m (w + 10)) 0
  let place := s.linePlace n words.length (max t.pos swapEnd)
  let s := s.toBit n place.1
  let sense := match t.driver? l.driver with
    | some d => l.sense && d.v2
    | none => false
  let ret := if l.cls = 1 then insertCommand { driver := l.driver, sense := sense, forCommand := true, raw := l.raw, id := l.id } t.ret else t.ret
  let s := s.setStrand n { t with pos := place.2, cfg := rest, cfgSent := t.cfgSent + 1, ret := ret }
  (s.wire n [s.lineItem n type 0 (lineHeader type words.length 0 :: words)]).count (Reg.CFG_SENT n)

/-- DATA_LINE_SEND: R269: the serialiser sends the next DATA, CONFIG or RAW line of the frame; a frame that has none left
ends. -/
def execDataLineSend (n : Fin 128) (s : State) : Host.Outcome State Fault Refusal :=
  let t := s.strand n
  if s.isNsp n = false ∨ t.kind = .none ∨ t.eof ∨ t.enumerating then .next s
  else if t.sentLines < t.lines ∧ t.underrun = false then
    match s.nextLine n with
    | some words => .next (s.sendData n words)
    | none => .next s
  else
    match t.cfg with
    | l :: rest => if t.cfgSent < 32 then .next ((s.sendCfg n l rest).finishFrame n) else .next (s.finishFrame n)
    | [] => .next (s.finishFrame n)

/-- R265, R272, R313: the strand underruns: SOF of a train that has not begun leaves as always; where the serialiser needs the
word, BRK follows in place of the line. -/
def State.breakLine (s : State) (n : Nat) : State :=
  let s := s.openTrains n ((s.strand n).sentLines / s.vActive n + 1)
  let t := s.strand n
  let b := placeSymbol 10 (s.fixedBits n) t.pos
  ((s.toBit n b).setStrand n { t with underrun := true, pos := b + 10 }).wire n [.brk]

/-- UNDERRUN: R272, R216: the serialiser needs a line that Anvil has not written. -/
def execUnderrun (n : Fin 128) (s : State) : Host.Outcome State Fault Refusal :=
  let t := s.strand n
  if s.isNsp n = false ∨ t.kind ≠ .render ∨ t.eof ∨ t.underrun ∨ t.lines ≤ t.sentLines ∨ (s.nextLine n).isSome = true then .next s
  else
    let skipped := s.renderLines n - t.rendered
    let s := ((s.breakLine n).countN Reg.LINES_SKIPPED skipped).count (Reg.UNDERRUNS n)
    let s := s.raiseWith (Ev.UNDERRUN n) n (t.sentLines * 2 ^ 45)
    .next (((s.bellows n).finishFrame n).endRender)

/-- SYN: R305, R306: the strand sends its next anchor at its instant. -/
def execSyn (n : Fin 128) (s : State) : Host.Outcome State Fault Refusal :=
  let t := s.strand n
  if s.isNsp n = false ∨ (t.kind ≠ .render ∧ t.kind ≠ .dark) ∨ t.engineDown ∨ s.dead then .next s
  else
    match (s.synBits n)[t.synDone]? with
    | some b => .next (((s.toBit n b).setStrand n { t with synDone := t.synDone + 1 }).wire n [.syn])
    | none => .next s

/-- R270: send the queued lines of a command frame, at most 32. -/
def State.sendCfgs (n : Nat) : Nat → State → State
  | 0, s => s
  | k + 1, s =>
    match (s.strand n).cfg with
    | l :: rest => State.sendCfgs n k (s.sendCfg n l rest)
    | [] => s

/-- R83, R260, R270: strand `n` may send a command frame: it drives, sends no other frame, has a line queued, and is not in the
gap of a retime, where the strands stay idle low. -/
def State.commandFrameOk (s : State) (n : Nat) : Bool :=
  let t := s.strand n
  s.isNsp n && t.driving && decide (t.kind = .none) && !t.cfg.isEmpty && !t.enumerating && !t.engineDown && !s.dead &&
    decide (s.hearth.gap ≠ 1)

/-- COMMAND_FRAME: R270, R317: SOF ending at V_BP, the queued lines, EOF and the return slots, polls among them. -/
def execCommandFrame (n : Fin 128) (s : State) : Host.Outcome State Fault Refusal :=
  let t := s.strand n
  if s.commandFrameOk n = false then .next s
  else
    let s := s.setStrand n { t with
      kind := .command, lines := 0, banks := [], pos := max t.pos (s.vBp n), cfgSent := 0, eof := false, ret := t.ret ++ s.pollSlots n }
    .next ((State.sendCfgs n 32 (s.wire n [.sof])).finishFrame n)

/-- R297: the DRIVER_COMMAND of this number on strand `n` ends. -/
def State.completeDriver (s : State) (n id status : Nat) (payload : List Byte) : State :=
  s.completeWaiting fun w =>
    match w.why with
    | .driver st k => if st = n ∧ k = id then some (status, payload) else none
    | _ => none

/-- The DRIVER_COMMANDs in progress on strand `n` end with `status`, their lines and slots removed (R45, R524). -/
def State.dropCommands (s : State) (n status : Nat) : State :=
  let t := s.strand n
  let keep := fun (r : RetSlot) => !r.forCommand
  let s := s.setStrand n { t with
    cfg := t.cfg.filter fun l => decide (l.cls ≠ 1), ret := t.ret.filter keep, retLate := t.retLate.filter keep
    awaiting := t.awaiting.filter keep }
  s.completeWaiting fun w =>
    match w.why with
    | .driver st _ => if st = n then some (status, []) else none
    | _ => none

/-- R277, R297: return slots that will not run: the DRIVER_COMMANDs that wait for them fail. -/
def State.dropSlots (s : State) (n : Nat) (l : List RetSlot) : State :=
  l.foldl (fun s r => if r.forCommand then s.completeDriver n r.id Status.TIMEOUT [] else s) s

/-- R353, R426, R335: the sequencer of strand `n` stops: the line in flight ends with BRK, nothing follows until the NSW of
the next tick. -/
def State.haltStrand (s : State) (n : Nat) : State :=
  let t := s.strand n
  let s := if t.kind ≠ .none ∧ t.eof = false ∧ 0 < t.sentLines ∧ t.sentLines < t.lines ∧ s.isNsp n then s.wire n [.brk] else s
  (s.setStrand n { s.strand n with
    eof := true, ret := [], retLate := [], awaiting := none, released := false, nswNext := true }).dropSlots n
    (t.ret ++ t.retLate ++ t.awaiting.toList)

/-! ### Returns (R274 to R278) -/

/-- R277: payload words of the reply that a slot expects. -/
def RetSlot.replyWords (r : RetSlot) (d : Driver) : Nat :=
  if r.raw then 17 else 2 + (if r.sense then ceilDiv (d.units * d.channels) 8 else 0)

/-- R277: the length of the return slot of driver `d`. -/
def State.slotBits (s : State) (n : Nat) (r : RetSlot) (d : Driver) : Nat :=
  let bps := s.strandBps n
  26 + 2 * ceilDiv (d.lambda * bps) 4000000000 + ceilDiv (400 * bps) 1000000000 + 4 + 2 * (16 * (r.replyWords d + 2)) + 16

/-- R263, R277: RELAY of a slot, at most 31. -/
def relayOf (bits : Nat) : Nat := min 31 (ceilDiv bits 256)

/-- R278: where a slot starts, when it ends within V_FP of EOF. -/
def State.slotStart (s : State) (n : Nat) (r : RetSlot) (d : Driver) : Option Nat :=
  let t := s.strand n
  let len := relayOf (s.slotBits n r d) * 256
  let b := placeSymbol len (s.fixedBits n) t.pos
  if b + len ≤ t.eofAt + s.vFp n then some b else none

/-- R278: start the first queued slot that fits; those before it move to the next frame's queue. -/
def State.startSlot (n : Nat) : List RetSlot → State → State
  | [], s => (s.setStrand n { s.strand n with ret := [] }).slotsEnd n
  | r :: rest, s =>
    let t := s.strand n
    match t.driver? r.driver with
    | none => State.startSlot n rest (s.dropSlots n [r])
    | some d =>
      match s.slotStart n r d with
      | none =>
        State.startSlot n rest
          ((s.setStrand n { t with retLate := t.retLate ++ [{ r with late := true }] }).count (Reg.RET_DEFERRED n))
      | some b =>
        let s := s.toBit n b
        let s := s.setStrand n { t with ret := rest, awaiting := some r, slotsRun := t.slotsRun + 1, pos := b + 26, released := true }
        let s := s.wire n [.rts r.driver r.sense (relayOf (s.slotBits n r d))]
        if r.sense then s.count Reg.SENSE_POLLS else s

/-- RTS in the return slots of a frame: R278. A frame that has nothing left to send reaches its EOF first. -/
def State.nextSlot (s : State) (n : Nat) : State :=
  let s := s.finishFrame n
  let t := s.strand n
  if t.driving = false ∨ t.eof = false ∨ t.awaiting.isSome = true ∨ t.ret.isEmpty then s else State.startSlot n t.ret s

/-- R277: the slot of driver `h` failed. -/
def State.slotFailed (s : State) (n : Nat) (r : RetSlot) : State :=
  let t := s.strand n
  let t := { t with awaiting := none, released := false }
  match t.driver? r.driver with
  | none => s.setStrand n t
  | some d =>
    let lost := decide (3 ≤ d.failed + 1)
    let s := s.setStrand n (t.setDriver r.driver { d with failed := d.failed + 1, lost := d.lost || lost })
    let s := if d.failed + 1 = 3 then s.raiseAt (Ev.DRIVER_LOST n) n else s
    if r.forCommand then s.completeDriver n r.id Status.TIMEOUT [] else s

/-- R296: the response of a DRIVER_COMMAND: the reply from HEAD to its last payload word. -/
def driverReply (r : ReplyIn) : List Byte :=
  let ws := r.head :: r.words
  beBytes 2 ws.length ++ beBytes 2 0 ++ ws.flatMap fun w => beBytes 2 w.toNat

/-- R275, R276, R309, R318, R327: apply a STATUS reply of driver `h`. -/
def State.applyStatus (s : State) (n : Nat) (slot : RetSlot) (r : ReplyIn) : State :=
  let t := s.strand n
  match t.driver? slot.driver, r.words with
  | some d, status :: temp :: sense =>
    let s := s.setStrand n (t.setDriver slot.driver { d with
      status := status, temp := temp, tempMs := if temp = 0x8000 then d.tempMs else s.upMs })
    let s := (s.overtemp n slot.driver status).latencySample n slot.driver r.sample
    if slot.sense then s.senseWords n slot.driver d sense else s
  | _, _ => s

/-- R274 to R277: a reply in the return slots of a frame. -/
def State.slotReply (s : State) (n : Nat) (slot : RetSlot) (r : ReplyIn) : State :=
  let t := s.strand n
  let head := r.head.toNat
  let len := match t.driver? slot.driver with
    | some d => s.slotBits n slot d - 26
    | none => 0
  if crc16Words (r.head :: r.words) ≠ r.crc ∨ bits head 15 6 ≠ slot.driver then
    let s := s.setStrand n { t with pos := t.pos + len }
    ((s.count (Reg.RET_CRC_ERR n)).slotFailed n slot).slotsEnd n
  else
    let t := { t with awaiting := none, released := false, pos := t.pos + len }
    let t := match t.driver? slot.driver with
      | some d => t.setDriver slot.driver { d with failed := 0, lost := false }
      | none => t
    let s := (s.setStrand n t).count (Reg.RET_REPLIES n)
    let s := if bits head 5 3 = 0 then s.applyStatus n slot r else s
    let s := if slot.forCommand then s.completeDriver n slot.id Status.OK (driverReply r) else s
    s.slotsEnd n

/-- R277: the reply of a return slot has not begun within 64 bit-times after its due time; nothing starts before the relay
window has ended. -/
def State.slotTimeout (s : State) (n : Nat) (slot : RetSlot) : State :=
  let t := s.strand n
  let len := match t.driver? slot.driver with
    | some d => relayOf (s.slotBits n slot d) * 256
    | none => 0
  let due := match t.driver? slot.driver with
    | some d => 2 * ceilDiv (d.lambda * s.strandBps n) 4000000000 + ceilDiv (400 * s.strandBps n) 1000000000 + 64
    | none => 0
  let s := (s.toBit n (t.pos + due)).setStrand n { t with pos := t.pos + len }
  ((s.count (Reg.RET_TIMEOUT n)).slotFailed n slot).slotsEnd n

/-- BUS_SENSE: R261, R422: the receiver sees a rising edge; it runs in every mode except BOOT. -/
def execBusSense (n : Fin 128) (inSwapWindow : Bool) (s : State) : Host.Outcome State Fault Refusal :=
  if s.firmwareUp then
    let t := s.strand n
    .next (s.setStrand n { t with edgeNow := true, edgeUp := s.up, edgeJudged := t.edgeJudged || !inSwapWindow })
  else .next s

/-! ### Sub-ticks (R311, R313, R315, R316) -/

/-- What a strand sends at sub-tick `j`. -/
def State.subSwap (s : State) (j n : Nat) : State :=
  let t := s.strand n
  if s.isNsp n = false ∨ t.swapped = false then s
  else
    match t.swapBanks[j]? with
    | some b => s.wire n [.swp b]
    | none => s.wire n [.nsw]

/-- SUB_TICK: R313: at sub-tick `j` each strand that sent a swap symbol at the tick sends SWP naming the slot's bank, or
NSW. -/
def execSubTick (j : Fin 4) (s : State) : Host.Outcome State Fault Refusal :=
  let h := s.hearth
  if s.firmwareUp = false ∨ h.gap = 1 ∨ j.val ≤ h.subTick ∨ h.timing.slots ≤ j.val then .next s
  else
    let s := s.advanceTo (h.timing.subUnits h.k j)
    let s := { s with hearth := { s.hearth with subTick := j } }
    .next (allStrands.foldl (fun s n => s.subSwap j n) s)

/-! ### Legacy chains (R291, R292) -/

/-- R291: the form of a legacy strand's bits: LEG_T0H and LEG_T1H, doubled at 400 kbit/s. -/
def State.legacyForm (s : State) (n : Nat) : LegacyForm :=
  let k := if s.rateCode n = 7 then 2 else 1
  { width := if s.coder n = Coder.LEGACY8 then 8 else 16, highZero := s.param P.LEG_T0H * k, highOne := s.param P.LEG_T1H * k
    bitNs := 1000000000 / s.strandBps n }

/-- R291, R292: the duration of a legacy frame in ns. -/
def State.legacyNs (s : State) (n : Nat) : Nat :=
  let bits := if s.coder n = Coder.LEGACY8 then 8 else 16
  ceilDiv (s.vActive n * s.hActive n * bits * 1000000000) (s.strandBps n)

/-- LEGACY_FRAME: R291, R292: the frame starts so that it ends LEG_LATCH before the tick, or the tick is skipped. -/
def execLegacyFrame (n : Fin 128) (s : State) : Host.Outcome State Fault Refusal :=
  let t := s.strand n
  if s.isLegacy n = false ∨ t.kind ≠ .render ∨ t.eof then .next s
  else
    let s := s.advanceNs (s.nextTickNs - s.param P.LEG_LATCH * 1000 - s.legacyNs n)
    if t.lines ≠ 0 ∧ t.buf.length = t.lines then
      let codes := t.buf.flatMap fun l => l.2.drop 1
      .next ((s.setStrand n { t with buf := [], sentLines := t.lines, eof := true }).wire n [.legacy (s.legacyForm n) codes])
    else .next ((s.setStrand n { t with eof := true }).count (Reg.LEG_SKIP n))

/-! ### DMX512-A and RDM (R293 to R295) -/

/-- R294: the duration of a DMX frame in ns. -/
def State.dmxNs (s : State) : Nat :=
  (s.param P.DMX_BREAK + s.param P.DMX_MAB + (s.param P.DMX_SLOTS + 1) * 44) * 1000

/-- R167: the last merged slots of a port, zeros without a map. -/
def State.dmxSlots (s : State) (p : Nat) : List Byte :=
  let l := match s.ingress.dmx.find? fun d => decide (d.1 = p) with
    | some d => d.2
    | none => []
  padTo (s.param P.DMX_SLOTS) l

/-- DMX output runs: the port's strand is DMX, its bank is up, and the device is neither in BOOT, in SHADOW nor stopped. -/
def State.dmxOn (s : State) (p : Nat) : Bool :=
  s.firmwareUp && decide (s.mode ≠ .shadow) && !s.dead && s.isDmx (2 * p) && s.bankOk (2 * p)

/-- DMX_FRAME: R294: the frame starts at the last tick, when that lies far enough behind the previous start and nothing is
in progress. -/
def execDmxFrame (p : Fin 64) (s : State) : Host.Outcome State Fault Refusal :=
  let n := 2 * p.val
  let t := s.strand n
  let tick := s.hearth.lastTickUp
  let free := max (t.dmxStartUp + s.param P.DMX_MIN_PERIOD * 1000) t.dmxEndUp
  if s.dmxOn p = false ∨ t.rdmNow.isSome = true ∨ tick < t.rdmEndUp ∨ (t.dmxFrame.isEmpty = false ∧ tick < free) then .next s
  else
    let frame := 0 :: s.dmxSlots p
    let s := s.setStrand n { t with
      dmxStartUp := tick, dmxEndUp := tick + s.dmxNs, dmxFrame := frame
      tx := t.tx ++ [.dmx (s.param P.DMX_BREAK) (s.param P.DMX_MAB) frame] }
    .next (s.count (Reg.DMX_FRAMES n))

/-- R295: the RDM packet of a request, with its length, transaction number and checksum (ANSI E1.20). -/
def State.rdmPacket (s : State) (r : RdmReq) (tn : Nat) : List Byte :=
  let body := [0xCC, 0x01] ++ beBytes 1 (24 + r.data.length) ++ r.dst ++ (s.paramBytes P.RDM_SRC_UID).drop 2 ++ beBytes 1 tn ++
    [0x01, 0x00] ++ beBytes 2 r.sub ++ beBytes 1 r.cc ++ beBytes 2 r.pid ++ beBytes 1 r.data.length ++ r.data
  body ++ beBytes 2 ((body.map (·.toNat)).foldl (· + ·) 0)

/-- R295: the duration of a request of `len` bytes, in ns, with the break and the mark-after-break of R294 (PRESUMED, log 137). -/
def State.rdmNs (s : State) (len : Nat) : Nat := (s.param P.DMX_BREAK + s.param P.DMX_MAB + len * 44) * 1000

/-- RDM_TRANSACTION: R295: between DMX frames the device sends the port's oldest queued request. -/
def execRdmTransaction (p : Fin 64) (s : State) : Host.Outcome State Fault Refusal :=
  let n := 2 * p.val
  let t := s.strand n
  match t.rdm with
  | r :: rest =>
    if s.dmxOn p = false ∨ t.rdmNow.isSome = true then .next s
    else
      let s := if t.dmxFrame.isEmpty then s else s.reach t.dmxEndUp
      let packet := s.rdmPacket r t.rdmTn
      .next (s.setStrand n { t with
        rdm := rest, rdmNow := some r, rdmTn := (t.rdmTn + 1) % 256, rdmSentUp := s.up + s.rdmNs packet.length
        tx := t.tx ++ [.rdm packet] })
  | [] => .next s

/-- ANSI E1.20: the sum of the bytes before the checksum, modulo 2^16 (PRESUMED, log 137). -/
def rdmSum (l : List Byte) : Nat := (l.map (·.toNat)).foldl (· + ·) 0 % 2 ^ 16

/-- ANSI E1.20: the bytes form an RDM packet: start code and sub-start code, and the length that it states, with the checksum
behind it (PRESUMED, log 137). -/
def rdmFormOk (l : List Byte) : Bool :=
  decide (byteAt l 0 = 0xCC) && decide (byteAt l 1 = 1) && decide (24 ≤ byteAt l 2) && decide (l.length = byteAt l 2 + 2)

/-- R295, R296: RESULT: nothing received, slots that collided, and else a response: raw when a discovery response comes without
a break, and otherwise an RDM packet with its checksum (PRESUMED, log 137). -/
def rdmResult (discovery brk : Bool) (r : RdmIn) : Nat :=
  if r.bytes.isEmpty then 1
  else if r.framing then 2
  else if discovery ∧ brk = false then 0
  else if brk = false ∨ rdmFormOk r.bytes = false then 4
  else if rdmSum (r.bytes.take (byteAt r.bytes 2)) ≠ field r.bytes (byteAt r.bytes 2) 2 then 3
  else 0

/-- RDM_RESPONSE: R295, R296: the response, or its absence, completes the RDM_REQUEST; `brk`: a break preceded it. -/
def execRdmResponse (p : Fin 64) (brk : Bool) (m : RdmIn) (s : State) : Host.Outcome State Fault Refusal :=
  let n := 2 * p.val
  let t := s.strand n
  match t.rdmNow with
  | none => .next s
  | some r =>
    let got := m.bytes.take 257
    let result := rdmResult r.discovery brk m
    let s := s.setStrand n { t with rdmNow := none, rdmEndUp := s.up }
    let s := if result = 1 then s.count (Reg.RDM_NO_RESPONSE n) else s
    .next (s.completeWaiting fun w =>
      if w.chan = r.chan ∧ w.ep = r.from_ ∧ w.seq = r.seq ∧ w.why = .rdm p then
        some (Status.OK, beBytes 1 result ++ [0] ++ beBytes 2 got.length ++ got)
      else none)

/-! ### The tick (R261, R269 to R273, R417) -/

/-- R41, R45, R253: Anvil renders in this mode; from the first DRAM test until the reload has ended it renders nothing
(R514). -/
def State.renders (s : State) : Bool :=
  !s.bist.dramTested &&
  match s.mode with
  | .live => true
  | .hold => true
  | .idle => s.fs.raised
  | .service => s.fs.raised || s.tpgOn
  | .shadow => decide (s.red.flavour = .hot) || (match s.red.switchX with
    | some x => decide (x ≤ s.hearth.k + 2)
    | none => false)
  | .boot => false

/-- R413, R448: the device is one of a pair. -/
def State.pair (s : State) : Bool := s.red.pairEn

/-- R269 to R273, R417: the frame that strand `n` sends from this tick. -/
def State.frameKind (s : State) (n : Nat) : FrameKind :=
  let t := s.strand n
  if s.dead ∨ s.hearth.gap = 1 ∨ t.enumerating ∨ t.engineDown ∨ s.bankOk n = false then .none
  else if s.isNsp n = false ∧ s.isLegacy n = false then .none
  else if s.renders then .render
  else if s.mode = .idle ∧ s.isNsp n ∧ s.param P.IDLE_OUTPUT = 0 ∧ (s.pair = false ∨ s.red.role = .active) then .dark
  else .none

/-- R260, R417: the device wants to drive strand `n` from this tick. -/
def State.wantsDrive (s : State) (n : Nat) : Bool :=
  (s.isNsp n || s.isLegacy n) && s.bankOk n && s.firmwareUp && decide (s.mode ≠ .shadow) && !(s.dead && s.pair) &&
    (!s.pair || decide (s.red.role = .active) || decide (s.frameKind n ≠ .none) || (s.strand n).enumerating ||
      (decide (s.mode = .service) && !(s.strand n).cfg.isEmpty))

/-- R417: the silence rule fails where the device would start to drive. -/
def State.driveConflict (s : State) : Bool :=
  s.pair && allStrands.any fun n => s.wantsDrive n && !(s.strand n).driving && !(s.strand n).silent

/-- R271: the tick swap of the frame of the last interval. A strand that a fault, an abort or its sequencer's restart has
stopped sends NSW even when it sent no frame (R330, R513). -/
def State.tickSwap (s : State) (n : Nat) : State :=
  let t := s.strand n
  let old := decide (t.kind = .render) || decide (t.kind = .dark)
  let gapNsw := decide (s.hearth.gap = 2) && decide (s.frameKind n ≠ .none)
  if s.isNsp n = false ∨ t.driving = false ∨ (old = false ∧ gapNsw = false ∧ t.nswNext = false) then
    s.setStrand n { t with swapBanks := [], swapped := false, lastSwp := false }
  else
    let whole := old && !gapNsw && decide (t.sentLines = t.lines) && !t.underrun && !t.nswNext && !t.engineDown && !s.dead
    if whole then
      ((s.setStrand n { t with swapBanks := t.banks, swapped := true, lastSwp := true }).wire n
        [.swp ((t.banks[0]?).getD 0)]).count (Reg.FRAMES_SWP n)
    else
      ((s.setStrand n { t with swapBanks := [], swapped := true, lastSwp := false }).wire n [.nsw]).count (Reg.FRAMES_NSW n)

/-- R261, R422: close the interval's bus sense. -/
def State.senseTick (s : State) (n : Nat) : State :=
  let t := s.strand n
  s.setStrand n { t with
    busActive := t.edgeNow, silent := if s.isLegacy n then !t.edgeNow else if s.isNsp n then !t.edgeJudged else true
    edgeNow := false, edgeJudged := false }

/-- R215: lines of the last render that were not written. -/
def State.skippedLines (s : State) : Nat :=
  (allStrands.map fun n => if (s.strand n).underrun then 0 else s.renderLines n - (s.strand n).rendered).foldl (· + ·) 0

/-- R215: at the tick the unwritten lines are dropped. -/
def State.overrunTick (s : State) : State :=
  if s.anvil.rendering = false then s
  else
    let n := s.skippedLines
    let s := { s with anvil := { s.anvil with rendering := false } }
    if n = 0 then s
    else ((s.countN Reg.LINES_SKIPPED n).count Reg.RENDER_OVERRUNS).raise Ev.RENDER_OVERRUN

/-- R277, R278: what the return window of the last interval leaves: a reply that has not come has failed, and slots that
were not started move to the head of the next frame's queue. -/
def State.closeSlots (s : State) (n : Nat) : State :=
  let s := match (s.strand n).awaiting with
    | some slot => (s.count (Reg.RET_TIMEOUT n)).slotFailed n slot
    | none => s
  let t := s.strand n
  if t.ret.isEmpty then s
  else
    (s.setStrand n { t with ret := [], retLate := t.retLate ++ t.ret.map fun (r : RetSlot) => { r with late := true } }).countN
      (Reg.RET_DEFERRED n) (if t.kind = .none then 0 else t.ret.length)

/-- R269: a frame that has nothing to send, or nothing left, has reached its EOF before the next tick. -/
def State.closeFrame (s : State) (n : Nat) : State := if s.isNsp n then s.finishFrame n else s

/-- R269: open the frame of strand `n` for the image of tick `next`. -/
def State.openFrameOn (s : State) (n next : Nat) : State :=
  let s := s.closeSlots n
  let t := s.strand n
  let k := s.frameKind n
  let trains := match k with
    | .render => s.trains n
    | .dark => 1
    | _ => 0
  let banks := (List.range trains).map fun j => if k = .dark then next % 2 else trainBank s.hearth.timing.slots next j
  let polls := if (k = .render ∨ k = .dark) ∧ s.isNsp n ∧ s.mode ≠ .shadow then s.pollSlots n else []
  let s := s.setRegN (Reg.RET_STATUS n) (t.slotsRun % 256 + t.retLate.length % 256 * 256)
  let s := s.setStrand n { t with
    buf := [], rendered := 0, sentLines := 0, kind := k, lines := trains * s.vActive n, banks := banks, pos := 0, eofAt := 0
    synDone := 0, underrun := false, eof := false, cfgSent := 0, ret := t.retLate ++ polls, retLate := [], awaiting := none
    slotsRun := 0, nswNext := false, tx := t.tx, driving := s.wantsDrive n, sofs := 0, released := t.enumerating && t.released }
  s.bellows n

/-- R212: render start for tick `next`. -/
def State.startRender (s : State) (next : Nat) : State :=
  if s.renders ∧ s.dead = false ∧ s.hearth.gap ≠ 1 then
    ({ s with anvil := { s.anvil with rendering := true, renderTick := next, renderUp := s.up, overrunRaised := false } }).endRender
  else { s with anvil := { s.anvil with rendering := false } }

end Sys2Proof.Machine
end

