-- ==== Sys2Proof/Machine/Pair.lean ====
section
/-! DEFINITION. The redundant pair: what a device sends to its peer, its role, staleness and health, and the commands by
which the peer is heard (11_redundancy_and_boards.md, R413 to R434). -/

namespace Sys2Proof.Machine

/-! ### Sending (R420, R426, R432 to R434) -/

/-- R434: where heartbeats go: PEER_IP, or the port A address of the peer's last LINK_HELLO. -/
def State.peerIp (s : State) : List Byte :=
  if s.param P.PEER_IP = 0 then s.red.peerAddr else s.paramBytes P.PEER_IP

/-- R420: the payload of a heartbeat. -/
def State.heartbeat (s : State) (type tick reason : Nat) : List Byte :=
  beBytes 2 0x4842 ++ [1] ++ beBytes 1 type ++ beBytes 8 s.nvm.serial ++ beBytes 4 s.red.hbSeq ++ beBytes 8 tick ++
    beBytes 1 s.red.role.code ++ beBytes 1 reason ++ List.replicate 6 0

/-- One heartbeat datagram out of port `p`, counted HB_SENT. -/
def State.sendHeartbeat (s : State) (type tick reason : Nat) (p : Port) : State :=
  if (s.mac p).up ∧ s.peerIp ≠ [] then
    let s := s.sendOwn p { kind := .udp, cls0 := true, dst := s.peerIp, sport := 47813, dport := 47813,
                           payload := s.heartbeat type tick reason }
    { s with red := { s.red with hbSeq := (s.red.hbSeq + 1) % 2 ^ 32 } }.count Reg.HB_SENT
  else s

/-- R419: one heartbeat out of port A and one out of port B. -/
def State.sendHeartbeats (s : State) (type tick reason : Nat) : State :=
  (s.sendHeartbeat type tick reason .a).sendHeartbeat type tick reason .b

/-- R426, R433: RELEASE on the mirror link, with bytes 16 to 25 of its heartbeat, and as heartbeats. -/
def State.sendRelease (s : State) (reason : Nat) : State :=
  (s.sendMirror 3 (.bytes (((s.heartbeat 1 s.red.lastSwapTick reason).drop 16).take 10))).sendHeartbeats 1 s.red.lastSwapTick reason

/-- R461, R434: the MIRROR_VERSION of the running image. -/
def State.mirrorVersion (s : State) : Nat :=
  match s.work.running with
  | some m => m.mirrorVersion
  | none => 0

/-- R433: the payload of LINK_HELLO. The IPv6 address of port A is its configured one, else its link-local one (DEDUCED,
log 132). -/
def State.helloBytes (s : State) : List Byte :=
  beBytes 8 s.nvm.serial ++ beBytes 1 s.red.role.code ++ beBytes 1 (b2n s.red.roleStrap) ++ beBytes 1 s.mirrorVersion ++
    beBytes 1 (b2n (decide (s.red.flavour = .warm))) ++ beBytes 4 s.sys.fwVersion ++
    (if beNat (s.global6 .a) = 0 then s.linkLocal .a else s.global6 .a) ++ s.ownDigest

/-! ### Role, staleness, health (R413 to R417, R423, R428, R441) -/

/-- R429: let go of OWN_IL; the line rises unless the peer pulls it. -/
def State.releaseOwnIl (s : State) : State :=
  if s.red.ownIlOut then { s with red := { s.red with ownIlOut := false, ownIlCheck := false, ownIlIn := true } } else s

/-- The role changes: ROLE_CHANGE, and an active that stops being one releases OWN_IL (R429). -/
def State.becomeRole (s : State) (r : Role) : State :=
  if s.red.role = r then s
  else
    let s := { s with red := { s.red with role := r, takeoverDue := false } }
    let s := s.raise Ev.ROLE_CHANGE
    if r = .active then s else s.releaseOwnIl

/-- R441: STALE is set and raised, and RESYNC_REQ sent, once until the copy arrives. -/
def State.setStale (s : State) : State :=
  let s := if s.red.stale then s else { s with red := { s.red with stale := true } }.raise Ev.STALE
  if s.red.resyncWanted ∨ !s.red.mirrorUp then s
  else { s with red := { s.red with resyncWanted := true } }.sendMirror 7 (.bytes [])

/-- R417: every strand stays undriven; BUS_CONFLICT; the device becomes STANDBY with STALE set. An active tells its peer
(reason 3 of R420). -/
def State.busConflict (s : State) : State :=
  let s := s.raise Ev.BUS_CONFLICT
  let s := if s.red.role = .active then s.sendRelease 3 else s
  (s.becomeRole .standby).setStale

/-- R422: the silence rule holds for every judged strand. -/
def State.allSilent (s : State) : Bool := allStrands.all fun n => (s.strand n).silent

/-- R423: no engine is restarting, no fatal fault stands, every bank that a configured strand uses is supplied, and the
servo is LOCKED or in HOLDOVER. STALE counts unless TAKEOVER_WHEN_STALE. -/
def State.healthOk (s : State) : Bool :=
  !s.sched.fatal && !(s.sched.engines.any fun p => p.2.restarting) &&
    (allStrands.all fun n => decide (s.coder n = Coder.OFF) || s.bankSupplied n) &&
    (decide (s.hearth.servo = .locked) || decide (s.hearth.servo = .holdover)) &&
    (!s.red.stale || s.paramOn P.TAKEOVER_WHEN_STALE)

/-- R428: the arbitration of the last record applied, else REDUND_ARB. -/
def State.arbMode (s : State) : Nat := s.param P.REDUND_ARB

/-- R421, R423, R428: condition 1 at tick `x`. -/
def State.leaseGone (s : State) (x : Nat) : Bool :=
  let lease := decide (s.red.expiry ≤ x) || s.red.releaseRx
  match s.arbMode with
  | 0 => lease
  | 1 => s.red.ownIlHighLast
  | _ => lease && s.red.ownIlHighLast

/-! ### Hearing the peer (R414, R421, R423, R434) -/

/-- R414, cases 1 and 2: an electing device that has heard its peer leaves the election. -/
def State.electWith (s : State) (peerRole : Role) (peerStrap : Bool) : State :=
  if s.red.role ≠ .electing then s
  else
    match peerRole with
    | .active => s.becomeRole .standby
    | .electing =>
      let wins := if s.red.roleStrap = peerStrap then decide (s.nvm.serial < s.red.peerSerial) else s.red.roleStrap
      if wins then s.becomeRole .active else s.becomeRole .standby
    | _ => s

/-- LINK_HELLO_SEND: R414: an electing device sends LINK_HELLO 10 ms after the last one. -/
def execLinkHelloSend (s : State) : Host.Outcome State Fault Refusal :=
  if s.red.role = .electing ∧ s.firmwareUp then
    let s := s.reach (s.red.helloUp + 10000000)
    .next ({ s with red := { s.red with helloUp := s.up } }.sendMirror 1 (.bytes s.helloBytes))
  else .next s

/-- R414, R434: a LINK_HELLO is heard; a peer with another MIRROR_VERSION counts as unheard. -/
def State.hearHello (s : State) (h : HelloFrame) : State :=
  if h.mirrorVersion ≠ s.mirrorVersion then
    { s with red := { s.red with versionOk := false, peerHeard := false } }.raise Ev.MIRROR_VERSION_MISMATCH
  else
    { s with red := { s.red with
        versionOk := true, peerHeard := true, peerRole := h.role, peerSerial := h.serial, peerAddr := h.portA
        peerDigest := h.digest } }.electWith h.role h.roleStrap

/-- LINK_HELLO: R414, R431, R434. -/
def execLinkHello (h : HelloFrame) (s : State) : Host.Outcome State Fault Refusal :=
  if s.firmwareUp = false ∨ s.red.mirrorUp = false then .next s else .next (s.fromMirror 64 (·.hearHello h))

/-- ELECT_WAIT: R414, cases 3 and 4, with R417 and R429: nobody was heard. -/
def execElectWait (s : State) : Host.Outcome State Fault Refusal :=
  if s.red.role ≠ .electing ∨ s.red.peerHeard ∨ s.firmwareUp = false then .next s
  else
    let wait := s.param P.ELECT_WAIT * 1000000
    if s.red.roleStrap then .next ((s.reach (s.red.electStartUp + wait)).becomeRole .active)
    else
      let s := s.reach (s.red.electStartUp + 2 * wait)
      let ownIl := decide (s.arbMode = 0) || s.red.ownIlHigh && s.red.ownIlHighLast
      if s.allSilent && ownIl then .next (s.becomeRole .active) else .next s.busConflict

/-- R421: a heartbeat whose SERIAL is not the paired peer's. -/
def State.foreign (s : State) (byHeartbeat : Bool) (serial : Nat) : Bool :=
  byHeartbeat && s.red.peerHeard && decide (s.red.peerSerial ≠ serial)

/-- R421, R449: a heartbeat of the peer. -/
def State.hearBeat (s : State) : State := { s with red := { s.red with hbSeen := true } }.count Reg.HB_RX

/-- R421, R423: a renewal is received: the lease moves. `serial` is that of a heartbeat. -/
def State.renewed (s : State) (serial : Option Nat) (expiry : Nat) : State :=
  { s with red := { s.red with
      peerHeard := true, peerRole := .active, peerSerial := serial.getD s.red.peerSerial
      expiry := expiry, releaseRx := false, lostPeer := false, unheard := false } }.electWith .active false

/-- RENEW: R421, R414, R431: a renewal moves the lease; an electing device has heard an active peer. -/
def execRenew (byHeartbeat : Bool) (serial expiry : Nat) (s : State) : Host.Outcome State Fault Refusal :=
  if s.firmwareUp = false ∨ (byHeartbeat = false ∧ s.red.mirrorUp = false) then .next s
  else if s.foreign byHeartbeat serial then .next (s.count Reg.HB_FOREIGN)
  else if byHeartbeat then .next (s.hearBeat.renewed (some serial) expiry)
  else .next (s.fromMirror 8 (·.renewed none expiry))

/-- R423, R443: a RELEASE is received: condition 1 of a takeover holds; an active whose standby resets or fails has lost it. -/
def State.released (s : State) (reason : Nat) : State :=
  let s := { s with red := { s.red with releaseRx := true } }.raise Ev.RELEASE_RX
  if s.red.role = .active ∧ reason < 2 ∧ s.red.peerHeard ∧ s.red.peerRole = .standby then
    { s with red := { s.red with peerHeard := false } }.raise Ev.PEER_LOST
  else s

/-- RELEASE: R423, R431, R443. -/
def execRelease (byHeartbeat : Bool) (serial _lastTick : Nat) (reason : Fin 4) (s : State) : Host.Outcome State Fault Refusal :=
  if s.firmwareUp = false ∨ (byHeartbeat = false ∧ s.red.mirrorUp = false) then .next s
  else if s.foreign byHeartbeat serial then .next (s.count Reg.HB_FOREIGN)
  else if byHeartbeat then .next (s.hearBeat.released reason)
  else .next (s.fromMirror 10 (·.released reason))

/-! ### The OWN_IL line (R428, R429) -/

/-- R422: the swap window after a tick, in ns: the longest among the NSP strands. -/
def State.swapWindowNs (s : State) : Nat :=
  allStrands.foldl (fun m n =>
    if s.isNsp n then max m (ceilDiv ((s.vSync n + 10) * 1000000000) (s.strandBps n) + 1000) else m) 1000

/-- R429: the line was seen low while the peer is thought ACTIVE: release it and become STANDBY. -/
def State.ownIlConflict (s : State) : State :=
  let s := (s.releaseOwnIl.sendRelease 3).raise Ev.OWN_IL_CONFLICT
  s.becomeRole .standby

/-- R429: an active pulls OWN_IL from the first tick at which it drives; the first pull is checked. After the last NSW of a
fatal fault it lets go. -/
def State.pullOwnIl (s : State) : State :=
  if s.dead then s.releaseOwnIl
  else if s.arbMode = 0 ∨ s.red.role ≠ .active ∨ s.red.ownIlOut ∨ !(allStrands.any fun n => (s.strand n).driving) then s
  else
    let low := !s.red.ownIlIn
    let first := !s.red.ownIlPulled
    let s := { s with red := { s.red with
        ownIlOut := true, ownIlPulled := true, ownIlPullUp := s.up, ownIlCheck := first, ownIlIn := false, ownIlHigh := false } }
    if low && first && decide (s.red.peerRole = .active) && s.red.peerHeard then s.ownIlConflict else s

/-- OWN_IL: R428, R429: the peer pulls the line or lets go of it. -/
def execOwnIl (level : Bool) (s : State) : Host.Outcome State Fault Refusal :=
  let inWindow := decide (s.up ≤ s.hearth.lastTickUp + s.swapWindowNs)
  let r : Red := { s.red with
    ownIlIn := level && !s.red.ownIlOut, ownIlHigh := if level then s.red.ownIlHigh || inWindow else false }
  let s := { s with red := r }
  if level = false ∧ r.ownIlOut ∧ r.ownIlCheck ∧ s.up ≤ r.ownIlPullUp + 1000 ∧ r.peerHeard ∧ r.peerRole = .active then
    .next s.ownIlConflict
  else .next s

end Sys2Proof.Machine
end

