-- ==== Sys2Proof/Machine/Links.lean ====
section
/-! DEFINITION. Link-up, link-down and retraining (03_network_ports.md, R97 to R99, R117; R60, R143, R431, R441). -/

namespace Sys2Proof.Machine

/-- R97: may the port come up at MAC_STATUS.SPEED code `speed` (1 10G, 2 25G), on the service port at SGMII speed `speed`? -/
def State.speedOk (s : State) (p : Port) (speed : Nat) : Bool :=
  if p = .sv then decide (speed ≤ 2) else decide (speed = s.seekSpeed p)

/-- R99: how long the lock conditions of a link hold before link-up, and how long high BER stands before link-down, ns. -/
def lockHoldNs : Nat := 10000000
def hiBerHoldNs : Nat := 1000000

/-! ### Class 1 calibration (R503, R506) -/

/-- R506: a figure below its minimum raises MARGIN_LOW with its target, by TRIM_RUN's numbering. -/
def State.marginLow (s : State) (target value floor : Nat) : State :=
  if value < floor then { s with trim := { s.trim with marginLow := true } }.raiseAt Ev.MARGIN_LOW target else s

/-- R503: class 1 calibration of link `i`: the spec states no eye width that it finds: a free value (log 11). -/
def State.class1 (s : State) (i : Nat) : State :=
  let eye := Config.freeNat s.draws % 1024
  let s := { s with draws := s.draws + 1, trim := { s.trim with eye := s.trim.eye.set i eye } }
  s.marginLow i eye (s.param P.TRIM_EYE_MIN)

/-- R99, R507: a port that is not under self-test declares link-up once its lock conditions have held for 10 ms. On the service
port `speed` is the SGMII speed; the PHY latencies are a free value (log 11). -/
def State.portUp (s : State) (p : Port) (speed : Nat) : State :=
  let m := s.mac p
  if m.up ∨ s.testing 0 p.index ∨ m.trained = false ∨ s.portEn p = false ∨ s.speedOk p speed = false ∨ s.lockHolds p = false then s
  else
    let auto := decide (p ≠ .sv) && decide (s.speedSel p = 0) && decide (speed = 1)
    let m := { m with
      up := true, speed := s.seekSpeed p, fecActive := s.fecRuns p
      sgmii := if p = .sv ∧ s.speedSel p = 1 then speed else if p = .sv then 2 else 0 }
    let s := s.reach (m.lockUp + lockHoldNs)
    let s := ({ s with draws := s.draws + 1 }.setMac p m).setRegN (Reg.TS_LATENCY p.index) (Config.freeNat s.draws % 2 ^ 32)
    let s := (s.class1 p.index).raiseAt (Ev.LINK_UP p.index) p.index
    if auto then s.raiseAt (Ev.SPEED_FALLBACK p.index) p.index else s

/-- R60: a domain on AUTO leaves a port that lost its link for the other one, when that carries the same grandmaster. -/
def State.domainLeaves (s : State) (p : Port) (second : Bool) : State :=
  if (s.dom second).port = some p then
    match s.otherPort second with
    | some q => s.moveDomain second q
    | none => s
  else s

/-- R143: the v1 streams bound to a port that lost its link are free to bind anew. -/
def State.unbindPort (s : State) (p : Port) : State :=
  { s with fs := { s.fs with streams := s.fs.streams.map fun q => if q.2.bound = some p then (q.1, { q.2 with bound := none, boundSilent := 0 }) else q } }

/-- R117: copies that are discarded and not yet counted FWD_DROP: those of the FIFO and the one in transmission. -/
def Mac.discarded (m : Mac) : Nat :=
  (m.fwd.filter fun x => !x.dropped).length +
    (match m.tx with
     | some (.fwd x) => b2n !x.dropped
     | _ => 0)

/-- R97, R99, R117: a port's link ends: forwarded copies in its FIFO and in transmission are discarded and counted FWD_DROP,
and a new search begins in the 25G window. The spec states the fate of forwarded copies only; the own frames that wait, and one
in transmission, are discarded and counted nowhere (DESIGN CHOICE, log 125). -/
def State.portDown (s : State) (p : Port) : State :=
  let m := s.mac p
  let idle := { m with
    up := false, speed := 0, fecActive := false, blockLock := false, aligned := false, win25 := true, winUp := s.up
    rxBlocked := none, own := [], fwd := [], tx := none }
  if m.up = false then s.setMac p idle
  else
    let s := (s.setMac p idle).countN (Reg.FWD_DROP p.index) m.discarded
    let s := (s.raiseAt (Ev.LINK_DOWN p.index) p.index).count (Reg.LINK_DOWN_COUNT p.index)
    ((s.unbindPort p).domainLeaves p false).domainLeaves p true

/-- The mirror link is up, and its class 1 calibration runs (R503). -/
def State.mirrorIsUp (s : State) : State := { s with red := { s.red with mirrorUp := true } }.class1 3

/-- R441: a standby asks for a full-state copy. -/
def State.askResync (s : State) : State := { s with red := { s.red with resyncWanted := true } }.sendMirror 7 (.bytes [])

/-- R99, R431, R441: the mirror link comes up once its lock has held for 10 ms; a stale standby asks for a full-state copy. No
register and no index of R366 names a LINK_UP or LINK_DOWN event of this link, so it raises MIRROR_DOWN only (log 126). -/
def State.mirrorLinkUp (s : State) : State :=
  if s.red.mirrorUp ∨ s.red.mirrorLock = false ∨ s.red.mirrorHiBer ∨ s.sys.set3Lost ∨ s.testing 0 3 ∨ s.firmwareUp = false then s
  else
    let s := (s.reach (s.red.mirrorLockUp + lockHoldNs)).mirrorIsUp
    if s.red.role = .standby ∧ s.red.stale then s.askResync else s

/-- R439: the tick record on its way is cut short unless its last chunk has left. -/
def State.breakRecord (s : State) : State :=
  { s with red := { s.red with sending := s.red.sending.map fun x => { x with broken := x.broken || decide (s.up < x.endUp) } } }

/-- R441: the mirror link goes down: MIRROR_DOWN, and STALE on a standby; a copy on its way ends (R439, R441). -/
def State.mirrorLinkDown (s : State) : State :=
  if s.red.mirrorUp = false then s
  else
    let s := s.breakRecord
    let s := { s with red := { s.red with
        mirrorUp := false, mirrorLock := false, resyncWanted := false, copy := none } }.raise Ev.MIRROR_DOWN
    if s.red.role = .standby then s.setStale else s

/-- LINK_UP: R97, R99. -/
def execLinkUp (l : Link) (speed : Nat) (s : State) : Host.Outcome State Fault Refusal :=
  match Link.port l with
  | some p => .next (s.portUp p speed)
  | none => .next s.mirrorLinkUp

/-- LINK_DOWN: R97, R99, R117: lock, alignment or synchronisation is lost; where high BER stands, it has stood for 1 ms. -/
def execLinkDown (l : Link) (s : State) : Host.Outcome State Fault Refusal :=
  match Link.port l with
  | some p =>
    let m := s.mac p
    if m.up then .next ((if m.hiBer then s.reach (m.hiBerUp + hiBerHoldNs) else s).portDown p) else .next s
  | none => .next (if s.red.mirrorHiBer then s.reach (s.red.mirrorHiBerUp + hiBerHoldNs) else s).mirrorLinkDown

/-- R97: a commit or a register write that enables a port or sets AUTO starts a search in the 25G window. -/
def State.restartSearch (s : State) (p : Port) : State :=
  if (s.mac p).up then s else s.setMac p { s.mac p with win25 := true, winUp := s.up, blockLock := false, aligned := false }

end Sys2Proof.Machine
end

