-- ==== Sys2Proof/Machine/Operands.lean ====
section
/-! DEFINITION. The operand forms of the mailbox commands: the catalogue of R407 with its opcodes, modes and scopes, and
the payload length of each (R392 step 3, and the payload tables of R79, R159, R209, R221, R243, R247, R296, R371, R408,
R444, R457, R465, R466, R475, R482 to R485 and R519). -/

namespace Sys2Proof.Machine

/-! R407: the opcodes. -/

namespace Op
def HELLO : Nat := 0x0001
def SESSION_OPEN : Nat := 0x0002
def SESSION_CLOSE : Nat := 0x0003
def KEEPALIVE : Nat := 0x0004
def RESPONSE_ACK : Nat := 0x0005
def PARAM_GET : Nat := 0x0100
def PARAM_SET : Nat := 0x0101
def PARAM_COMMIT : Nat := 0x0102
def STORE : Nat := 0x0103
def FACTORY_RESET : Nat := 0x0104
def MODE_GET : Nat := 0x0200
def MODE_SET : Nat := 0x0201
def TIME_GET : Nat := 0x0300
def TIMING_SET : Nat := 0x0301
def DOMAIN_SELECT : Nat := 0x0302
def STRAND_ENUMERATE : Nat := 0x0400
def STRAND_STATUS : Nat := 0x0401
def DRIVER_COMMAND : Nat := 0x0402
def RDM_REQUEST : Nat := 0x0403
def MAP_WRITE : Nat := 0x0404
def BUFFER_ALLOC : Nat := 0x0500
def BUFFER_WRITE : Nat := 0x0501
def BUFFER_FREE : Nat := 0x0502
def LAYER_SET : Nat := 0x0503
def MARK_SET : Nat := 0x0504
def REWIND : Nat := 0x0505
def CAL_BEGIN : Nat := 0x0600
def CAL_WRITE : Nat := 0x0601
def CAL_COMMIT : Nat := 0x0602
def CAL_STORE : Nat := 0x0603
def COLOUR_TABLE_WRITE : Nat := 0x0604
def UPD_OPEN : Nat := 0x0700
def UPD_BLOCK : Nat := 0x0701
def UPD_FINISH : Nat := 0x0702
def UPD_ACTIVATE : Nat := 0x0703
def UPD_CONFIRM : Nat := 0x0704
def UPD_STATUS : Nat := 0x0705
def BIST_RUN : Nat := 0x0800
def BIST_RESULT : Nat := 0x0801
def COUNTERS_READ : Nat := 0x0802
def JOURNAL_READ : Nat := 0x0803
def EVENTS_READ : Nat := 0x0804
def TRIM_RUN : Nat := 0x0805
def TRIM_REPORT : Nat := 0x0806
def ROLE_GET : Nat := 0x0900
def ROLE_SET : Nat := 0x0901
def SWITCHOVER : Nat := 0x0902
def UNLOCK_CHALLENGE : Nat := 0x0A00
def UNLOCK_RESPONSE : Nat := 0x0A01
def UNLOCK_PASSWORD : Nat := 0x0A02
def RELOCK : Nat := 0x0A03
def OWNER_KEY_SET : Nat := 0x0A04
def REG_READ : Nat := 0x0B00
def REG_WRITE : Nat := 0x0B01
end Op

/-! R393: the scopes, by value. -/

namespace Scope
def CAL : Nat := 0
def UPDATE : Nat := 1
def STRANDS : Nat := 2
def LAYERS : Nat := 3
def ACCESS : Nat := 4
end Scope

/-- R407: one row of the catalogue. Bit m of `modes`: the mode with code m serves it. -/
structure CmdRow where
  op : Nat
  modes : Nat
  scope : Option Nat
  deriving DecidableEq, Repr

/-! The mode columns of R407: All; IDLE, LIVE, HOLD and SERVICE; IDLE and SERVICE. -/
def modesAll : Nat := 0x3E
def modesRun : Nat := 0x2E
def modesRest : Nat := 0x22

/-- R407: the catalogue. -/
def catalogue : List CmdRow := [
  ⟨Op.HELLO, modesAll, none⟩, ⟨Op.SESSION_OPEN, modesAll, none⟩, ⟨Op.SESSION_CLOSE, modesAll, none⟩,
  ⟨Op.KEEPALIVE, modesAll, none⟩, ⟨Op.RESPONSE_ACK, modesAll, none⟩, ⟨Op.PARAM_GET, modesAll, none⟩,
  ⟨Op.PARAM_SET, modesRun, none⟩, ⟨Op.PARAM_COMMIT, modesRun, none⟩, ⟨Op.STORE, modesRun, none⟩,
  ⟨Op.FACTORY_RESET, modesRest, none⟩, ⟨Op.MODE_GET, modesAll, none⟩, ⟨Op.MODE_SET, modesRun, none⟩,
  ⟨Op.TIME_GET, modesAll, none⟩, ⟨Op.TIMING_SET, modesRun, none⟩, ⟨Op.DOMAIN_SELECT, modesAll, none⟩,
  ⟨Op.STRAND_ENUMERATE, modesRest, some Scope.STRANDS⟩, ⟨Op.STRAND_STATUS, modesAll, none⟩,
  ⟨Op.DRIVER_COMMAND, 0x20, some Scope.STRANDS⟩, ⟨Op.RDM_REQUEST, modesRun, none⟩,
  ⟨Op.MAP_WRITE, modesRun, some Scope.STRANDS⟩, ⟨Op.BUFFER_ALLOC, modesRun, some Scope.LAYERS⟩,
  ⟨Op.BUFFER_WRITE, modesRun, some Scope.LAYERS⟩, ⟨Op.BUFFER_FREE, modesRun, some Scope.LAYERS⟩,
  ⟨Op.LAYER_SET, modesRun, some Scope.LAYERS⟩, ⟨Op.MARK_SET, modesRun, some Scope.LAYERS⟩,
  ⟨Op.REWIND, 0x04, some Scope.LAYERS⟩, ⟨Op.CAL_BEGIN, modesRun, some Scope.CAL⟩,
  ⟨Op.CAL_WRITE, modesRun, some Scope.CAL⟩, ⟨Op.CAL_COMMIT, modesRun, some Scope.CAL⟩,
  ⟨Op.CAL_STORE, modesRun, some Scope.CAL⟩, ⟨Op.COLOUR_TABLE_WRITE, modesRun, some Scope.CAL⟩,
  ⟨Op.UPD_OPEN, modesAll, some Scope.UPDATE⟩, ⟨Op.UPD_BLOCK, modesAll, some Scope.UPDATE⟩,
  ⟨Op.UPD_FINISH, modesAll, some Scope.UPDATE⟩, ⟨Op.UPD_ACTIVATE, 0x20, some Scope.UPDATE⟩,
  ⟨Op.UPD_CONFIRM, modesAll, some Scope.UPDATE⟩, ⟨Op.UPD_STATUS, modesAll, some Scope.UPDATE⟩,
  ⟨Op.BIST_RUN, modesAll, none⟩, ⟨Op.BIST_RESULT, modesAll, none⟩, ⟨Op.COUNTERS_READ, modesAll, none⟩,
  ⟨Op.JOURNAL_READ, modesAll, none⟩, ⟨Op.EVENTS_READ, modesAll, none⟩, ⟨Op.TRIM_RUN, modesRest, none⟩,
  ⟨Op.TRIM_REPORT, modesAll, none⟩, ⟨Op.ROLE_GET, modesAll, none⟩, ⟨Op.ROLE_SET, 0x1E, none⟩,
  ⟨Op.SWITCHOVER, 0x1C, none⟩, ⟨Op.UNLOCK_CHALLENGE, modesAll, some Scope.ACCESS⟩,
  ⟨Op.UNLOCK_RESPONSE, modesAll, some Scope.ACCESS⟩, ⟨Op.UNLOCK_PASSWORD, modesAll, some Scope.ACCESS⟩,
  ⟨Op.RELOCK, modesAll, some Scope.ACCESS⟩, ⟨Op.OWNER_KEY_SET, modesRest, some Scope.ACCESS⟩,
  ⟨Op.REG_READ, modesRest, none⟩, ⟨Op.REG_WRITE, modesRest, none⟩]

/-- The row of an opcode. -/
def cmdRow (op : Nat) : Option CmdRow := catalogue.find? fun c => decide (c.op = op)

/-- R392 step 3: is `len` a payload length that the opcode allows? Where the payload holds a count, the length follows
from it; the count's own range is judged at step 9. -/
def lenOk (op len : Nat) (p : List Byte) : Bool :=
  let count := field p 4 2
  let fixed := fun n => decide (len = n)
  match op with
  | 0x0001 => fixed 16
  | 0x0002 => fixed 4
  | 0x0100 => fixed (4 + 2 * field p 2 2)
  | 0x0101 => (parseRecords (len / 4 + 1) (p.take len)).isSome
  | 0x0102 => fixed 4
  | 0x0104 => fixed 4
  | 0x0201 => fixed 4
  | 0x0301 => fixed 28
  | 0x0302 => fixed 4
  | 0x0400 => fixed 16
  | 0x0401 => fixed 4
  | 0x0402 => fixed (8 + 2 * count)
  | 0x0403 => fixed (16 + byteAt p 15)
  | 0x0404 => fixed (8 + 16 * (byteAt p 1 % 2) + 8 * count)
  | 0x0500 => fixed 8
  | 0x0501 => decide (8 ≤ len) && decide (len ≤ 1008) && decide (len % 4 = 0)
  | 0x0502 => fixed 2
  | 0x0503 => fixed 16
  | 0x0504 => fixed 8
  | 0x0505 => fixed 4
  | 0x0600 => fixed 4
  | 0x0601 => fixed (8 + 16 * count)
  | 0x0603 => fixed 8
  | 0x0604 => fixed (12 + 4 * count)
  | 0x0700 => fixed 260
  | 0x0701 => decide (5 ≤ len) && decide (len ≤ 1008)
  | 0x0800 => fixed 8
  | 0x0801 => fixed 2
  | 0x0802 => fixed 4
  | 0x0803 => fixed 16
  | 0x0804 => fixed 16
  | 0x0805 => fixed 4
  | 0x0901 => fixed 4
  | 0x0902 => fixed 8
  | 0x0A01 => fixed 36
  | 0x0A02 => fixed (8 + byteAt p 4)
  | 0x0A03 => fixed 4
  | 0x0A04 => fixed (4 + field p 2 2)
  | 0x0B00 => fixed 8
  | 0x0B01 => fixed (8 + 4 * count)
  | _ => fixed 0

end Sys2Proof.Machine
end

