-- ==== Sys2Proof/Machine/Mailbox.lean ====
section
/-! DEFINITION. How a mailbox request is received, judged and executed: endpoints, slots, sessions, access and blocks
under self-test (10_control_and_mailbox.md, R381 to R397). -/

namespace Sys2Proof.Machine

/-- What a command answers: a final status with its payload, or a response that completes later. -/
inductive Reply where
  | done (status : Nat) (payload : List Byte)
  | wait (why : Wait)
  deriving DecidableEq, Repr

/-- A final status without a payload. -/
def Reply.plain (status : Nat) : Reply := .done status []

/-- The rules of one command (R392 step 9). -/
abbrev Body := State → Request → State × Reply

/-! ### Sessions (R393 to R397) -/

/-- The open session of a scope. -/
def State.sessionOf (s : State) (scope : Nat) : Option Session := s.ctrl.sessions.find? fun x => decide (x.scope = scope)

/-- The open session with handle `h` of a channel or endpoint. -/
def State.session (s : State) (ch : Chan) (ep : Endpoint) (h : Nat) : Option Session :=
  s.ctrl.sessions.find? fun x => decide (x.handle = h) && decide (x.chan = ch) && decide (x.ep = ep)

/-- R366: the endpoint's index on channels 1 and 2. -/
def State.endpointIndex (s : State) (ch : Chan) (ep : Endpoint) : Nat :=
  match ch with
  | .c1 => s.ctrl.ch1.findIdx fun c => decide (c.ep = ep)
  | .c2 => s.ctrl.ch2.findIdx fun c => decide (c.ep = ep)
  | _ => 0

/-- R399, R474: OWNER_INFO of scope UPDATE: the RELEASE of the accepted manifest. -/
def State.ownerInfo (s : State) (scope : Nat) : Nat :=
  if scope = Scope.UPDATE then
    match s.work.manifest with
    | some m => m.release
    | none => 0
  else 0

/-- R399: the detail of DENIED_LOCK. -/
def State.lockDetail (s : State) (scope : Nat) : List Byte :=
  match s.sessionOf scope with
  | some x =>
    beBytes 1 x.chan.index ++ beBytes 1 (s.endpointIndex x.chan x.ep) ++ beBytes 2 x.handle ++ [0, 0, 0, 0] ++
      beBytes 8 (s.ownerInfo scope)
  | none => [0xFF, 0, 0, 0, 0, 0, 0, 0] ++ beBytes 8 0

/-- R245: the inactive plane's content is undefined. -/
def State.forgetInactive (s : State) : State :=
  if s.anvil.activeB then { s with anvil := { s.anvil with planeA := {} } } else { s with anvil := { s.anvil with planeB := {} } }

/-- R393, R397: the staged work of a scope is discarded; what a command has accepted for a tick stays. -/
def State.discardStaged (s : State) (scope : Nat) : State :=
  match scope with
  | 0 =>
    let s := if s.anvil.staging && !s.anvil.calPending then
        { s with anvil := { s.anvil with staging := false, calMoved := false, copying := false } }.forgetInactive
      else s
    { s with anvil := { s.anvil with stagedTables := s.anvil.stagedTables.filter fun t => decide (0x20 ≤ t.1) } }
  | 1 =>
    if s.work.upd = .receiving ∨ s.work.upd = .verifying then
      { s with work := { s.work with upd := .suspended, partial_ := [], manifest := none } }
    else s
  | 2 => { s with anvil := { s.anvil with stagedMaps := [] } }
  | 4 => { s with work := { s.work with nonce := none } }
  | _ => s

/-- R396, R397: a session ends: its staged work is discarded and its lock released. -/
def State.closeSession (s : State) (x : Session) : State :=
  let s := s.discardStaged x.scope
  let s := if x.scope = Scope.UPDATE then { s with work := { s.work with manifest := none } } else s
  let s := s.setLock (40 + x.scope) { s.lock (40 + x.scope) with owner := none }
  { s with ctrl := { s.ctrl with sessions := s.ctrl.sessions.filter fun y => decide (y.handle ≠ x.handle) } }

/-- R396: a command of the session executes. -/
def State.sessionBusy (s : State) (h : Nat) : Bool := s.ctrl.waiting.any fun w => decide (w.client = h) && decide (h ≠ 0)

/-! ### Grants (R480, R485) -/

/-- The channel or endpoint holds right `b`. -/
def State.hasRight (s : State) (r : Request) (b : Nat) : Bool := bit (s.client r.chan r.from_).rights b

/-- R485: a grant ends; a grant of SERVICE that ends in SERVICE returns the device to IDLE at the next tick, with
UNLOCK_EXPIRED. -/
def State.serviceGone (s : State) (rights : Nat) : State :=
  if bit rights 2 ∧ s.mode = .service then { s with ctrl := { s.ctrl with serviceEnds := true } }.raise Ev.UNLOCK_EXPIRED
  else s

/-! ### Endpoints (R385) -/

def State.endpoints (s : State) : Chan → List Client
  | .c1 => s.ctrl.ch1
  | .c2 => s.ctrl.ch2
  | _ => []

def State.setEndpoints (s : State) (ch : Chan) (l : List Client) : State :=
  match ch with
  | .c1 => { s with ctrl := { s.ctrl with ch1 := l } }
  | .c2 => { s with ctrl := { s.ctrl with ch2 := l } }
  | _ => s

/-- R385: the least recently used endpoint that has no request in flight and no open session. -/
def State.evictable (s : State) (ch : Chan) : Option Client :=
  ((s.endpoints ch).filter fun c => decide (c.inFlight = 0) && !(s.ctrl.sessions.any fun x => decide (x.chan = ch) && decide (x.ep = c.ep))).foldl
    (fun b c =>
      match b with
      | none => some c
      | some d => if c.lastUse < d.lastUse then some c else b) none

/-- R385: make sure that the requester has a record: the state, and whether the request is served. -/
def State.admits (s : State) (r : Request) : State × Bool :=
  match r.chan with
  | .c0 => (s, true)
  | .c3 => (s, true)
  | ch =>
    let l := s.endpoints ch
    let s := { s with ctrl := { s.ctrl with uses := s.ctrl.uses + 1 } }
    let fresh : Client := { ep := r.from_, lastUse := s.ctrl.uses, port := r.port }
    match l.find? fun c => decide (c.ep = r.from_) with
    | some c => (s.setClient ch r.from_ { c with lastUse := s.ctrl.uses, port := r.port }, true)
    | none =>
      if l.length < 8 then (s.setEndpoints ch (l ++ [fresh]), true)
      else
        match s.evictable ch with
        | some c =>
          let s := s.setEndpoints ch (replaceClient c.ep fresh l)
          ((s.serviceGone c.rights).raise Ev.ENDPOINT_EVICTED, true)
        | none => (s.count Reg.MBX_DROPPED, false)

/-! ### Judging (R392, R407, R480, R482, R483) -/

/-- R435: what a standby takes on channel 3. -/
def forwarded : List Nat :=
  [Op.MAP_WRITE, Op.CAL_BEGIN, Op.CAL_WRITE, Op.COLOUR_TABLE_WRITE, Op.BUFFER_ALLOC, Op.BUFFER_WRITE, Op.BUFFER_FREE, Op.STORE]

/-- R407, R435: is the opcode in the channel's catalogue? -/
def opServed (ch : Chan) (op : Nat) : Bool :=
  (cmdRow op).isSome &&
    (decide (ch ≠ .c3) || (forwarded ++ [Op.SWITCHOVER, Op.HELLO, Op.KEEPALIVE, Op.ROLE_GET]).contains op)

/-- R354: what the CP serves under a fatal fault. -/
def servedFatal : List Nat := [Op.MODE_GET, Op.COUNTERS_READ, Op.JOURNAL_READ]

/-- R480, R482, R483: the access level suffices. -/
def State.accessOk (s : State) (op : Nat) (r : Request) : Bool :=
  let sealed_ := decide (s.nvm.level = 2)
  let b0 := byteAt r.payload 0
  let near := decide (r.chan = .c0) || decide (r.chan = .c2)
  if op = Op.OWNER_KEY_SET then
    (decide (1 < b0) || near) && (!sealed_ || s.hasRight r (if b0 = 5 then 4 else 3))
  else if op = Op.UNLOCK_PASSWORD then near
  else if op = Op.FACTORY_RESET then !sealed_ || s.hasRight r 3
  else if op = Op.MODE_SET then !(sealed_ && decide (b0 = 5)) || s.hasRight r 2
  else if op = Op.REG_WRITE then !sealed_ || s.hasRight r 1
  else true

/-- R393: the scope that a request needs. -/
def scopeOf (op : Nat) (r : Request) : Option Nat :=
  if op = Op.COLOUR_TABLE_WRITE ∧ 0x20 ≤ byteAt r.payload 0 then none else (cmdRow op).bind (·.scope)

/-- R392, steps 1 to 3: the header. -/
def judgeHeader (op : Nat) (r : Request) : Option Nat :=
  let len := r.len.toNat
  if 1008 < len ∨ r.payload.length < len then some Status.BAD_LENGTH
  else if opServed r.chan op = false then some Status.BAD_OPCODE
  else if lenOk op len (r.payload.take len) = false then some Status.BAD_LENGTH
  else none

/-- R392, steps 1 to 7: the first that fails, with its detail. Channel 3 ends after step 3 (R435). -/
def State.judge (s : State) (op : Nat) (r : Request) : Option (Nat × List Byte) :=
  match judgeHeader op r with
  | some st => some (st, [])
  | none =>
    if r.chan = .c3 then none
    else if s.sched.fatal ∧ servedFatal.contains op = false then some (Status.DENIED_MODE, [])
    else if bit (((cmdRow op).map (·.modes)).getD 0) s.mode.code = false then some (Status.DENIED_MODE, [])
    else if s.accessOk op r = false then some (Status.DENIED_ACCESS, [])
    else
      match scopeOf op r with
      | none => none
      | some sc =>
        match s.session r.chan r.from_ r.client.toNat with
        | some x => if x.scope = sc then none else some (Status.DENIED_LOCK, s.lockDetail sc)
        | none => some (Status.DENIED_LOCK, s.lockDetail sc)

/-! ### Blocks under self-test (R507, R512) -/

/-- R507: the maximum duration of a test in µs. -/
def testMaxUs (target : Nat) : Nat :=
  match target with
  | 0 => 40000
  | 1 => 10000
  | 2 => 5000
  | 3 => 12000
  | 4 => 6000
  | 5 => 6000
  | _ => 35000

/-- R512: the strand banks whose registers lie among `count` words from `a`, as the test's index. -/
def addrBank (a : Nat) : Option Nat :=
  if 0x40060000 ≤ a ∧ a < 0x40068000 then some (a / 0x1000 % 8)
  else if 0x40068000 ≤ a ∧ a < 0x40068020 then some (a % 0x20 / 4)
  else none

/-- R512: does an access to register `a` need the block under test `t`? -/
def addrNeeds (t : Test) (a : Nat) : Bool :=
  match t.target with
  | 0 => decide (0x40020000 + t.index * 0x1000 ≤ a) && decide (a < 0x40021000 + t.index * 0x1000) && decide (t.index < 3)
  | 1 => decide (addrBank a = some t.index)
  | 4 => decide (addrBank a = some t.index)
  | 2 => decide (a = Reg.DIE_TEMP) || (decide (Reg.DIODE_TEMP 0 ≤ a) && decide (a ≤ Reg.DIODE_TEMP 3))
  | 5 => decide (0x40031000 + t.index * 0x100 ≤ a) && decide (a < 0x40031100 + t.index * 0x100)
  | 6 => decide (0x40090000 + t.index * 0x100 ≤ a) && decide (a < 0x40090100 + t.index * 0x100)
  | _ => false

/-- R512: does parameter `id` belong to the block under test? -/
def paramNeeds (t : Test) (id : Nat) : Bool :=
  match t.target with
  | 0 => decide (id = 0x0200 + t.index) || decide (id = 0x0202 + t.index)
  | 1 => decide (id = P.BANK_CFG t.index) || (decide (P.STRAND_CFG 0 ≤ id) && decide (id ≤ P.STRAND_CFG 127) && decide ((id - P.STRAND_CFG 0) / 16 = t.index))
  | 4 => decide (P.STRAND_CFG 0 ≤ id) && decide (id ≤ P.STRAND_CFG 127) && decide ((id - P.STRAND_CFG 0) / 16 = t.index)
  | 2 => decide (P.DIODE_OFFSET 0 ≤ id) && decide (id ≤ P.DIODE_OFFSET 3)
  | _ => false

/-- R512: commands that write the DRAM of the maps, planes, tables and buffers. -/
def dramOps : List Nat :=
  [Op.MAP_WRITE, Op.BUFFER_WRITE, Op.BUFFER_ALLOC, Op.CAL_BEGIN, Op.CAL_WRITE, Op.CAL_COMMIT, Op.CAL_STORE, Op.COLOUR_TABLE_WRITE]

/-- R512: does the request need the block under test `t`? -/
def State.needs (s : State) (op : Nat) (r : Request) (t : Test) : Bool :=
  let p := r.payload
  let isBank := decide (t.target = 1) || decide (t.target = 4)
  let bank := fun n => isBank && decide (n / 16 = t.index)
  if op = Op.STRAND_STATUS ∨ op = Op.DRIVER_COMMAND then bank (byteAt p 0)
  else if op = Op.RDM_REQUEST then bank (2 * byteAt p 0)
  else if op = Op.STRAND_ENUMERATE then isBank && (allStrands.any fun n => bit (field p 0 16) n && decide (n / 16 = t.index))
  else if op = Op.COUNTERS_READ then
    (decide (byteAt p 0 = 6) && bank (byteAt p 1)) || (decide (byteAt p 0 = 2) && decide (t.target = 0) && decide (byteAt p 1 = t.index))
  else if op = Op.REG_READ ∨ op = Op.REG_WRITE then
    (List.range (field p 4 2)).any fun i => addrNeeds t (field p 0 4 + 4 * i)
  else if op = Op.PARAM_COMMIT then (s.client r.chan r.from_).staging.any fun q => paramNeeds t q.1
  else if op = Op.MODE_SET then decide (t.target = 6)
  else if op = Op.TRIM_RUN then
    (decide (t.target = 0) && bit (field p 0 2) t.index) || (decide (t.target = 6) && bit (field p 0 2) (4 + t.index)) ||
      (isBank && decide (bits (field p 0 2) 7 6 ≠ 0))
  else if dramOps.contains op then decide (t.target = 6)
  else false

/-- R392 step 8: a running test of a block that the request needs. -/
def State.blockTest (s : State) (op : Nat) (r : Request) : Option Test :=
  s.bist.tests.find? fun t => t.running && s.needs op r t

/-- R399: the time that a test has left at most, in µs. -/
def State.testLeft (s : State) (t : Test) : Nat := (t.startUp + testMaxUs t.target * 1000 - s.up) / 1000

/-! ### Receipt and execution (R388 to R392) -/

/-- R387: a header without a slot: BUSY of R388. -/
def State.sendBusy (s : State) (op : Nat) (r : Request) : State :=
  let c := s.client r.chan r.from_
  s.sendMessage r.chan r.from_ (beBytes 2 Status.BUSY ++ beBytes 2 op ++ beBytes 4 r.seq.toNat ++
    beBytes 2 (2 * b2n (!c.queue.isEmpty)) ++ beBytes 2 0 ++ beBytes 4 s.short.toNat)

/-- A command answers. -/
def State.answer (s : State) (op : Nat) (r : Request) (rep : Reply) : State :=
  match rep with
  | .done st p => (s.complete r.chan r.from_ r.seq st p).restartLease r.client.toNat
  | .wait w =>
    { s with ctrl := { s.ctrl with
        waiting := s.ctrl.waiting ++ [({ chan := r.chan, ep := r.from_, seq := r.seq, opcode := op, client := r.client.toNat, why := w } : Waiting)] } }.restartLease
      r.client.toNat

/-- R392, step 8 with DEFER: DEFERRED is posted, and the request waits for the end of the test. -/
def State.defer (s : State) (op : Nat) (r : Request) : State :=
  let c := s.client r.chan r.from_
  let s := match c.holds r.seq with
    | some t => s.setClient r.chan r.from_ (c.setSlot r.seq (some { t with deferred := true, doneTime := s.short }))
    | none => s
  let s := if r.chan = .c0 then s.irq Irq.MBX_DONE else s.sendSlot r.chan r.from_ r.seq
  s.answer op r (.wait (.selfTest op r))

/-- R352: the next request of a session whose staged work a CP restart discarded. -/
def State.takeAborted (s : State) (r : Request) : State × Bool :=
  match s.session r.chan r.from_ r.client.toNat with
  | some x =>
    if x.aborted then
      ({ s with ctrl := { s.ctrl with sessions := s.ctrl.sessions.map fun y =>
          if y.handle = x.handle then { y with aborted := false } else y } }, true)
    else (s, false)
  | none => (s, false)

/-- The reply accepts the request. -/
def Reply.accepts : Reply → Bool
  | .done st _ => decide (st = Status.OK)
  | .wait _ => true

/-- R201, R435: the payload that is forwarded: a BUFFER_ALLOC carries the handle that the active returned, in its reserved
bytes 6 and 7 (log 37). -/
def forwardPayload (op : Nat) (r : Request) (rep : Reply) : List Byte :=
  match rep with
  | .done _ p => if op = Op.BUFFER_ALLOC then r.payload.take 6 ++ p.take 2 ++ r.payload.drop 8 else r.payload
  | .wait _ => r.payload

/-- R386, R433, R435: a request to the peer on channel 3, under the next SEQ of that channel. -/
def State.sendRequest (s : State) (op : Nat) (flags : BitVec 16) (payload : List Byte) : State :=
  let q := (s.red.forwardSeq + 1) % 2 ^ 32
  let header := beBytes 2 op ++ beBytes 2 flags.toNat ++ beBytes 4 q ++ beBytes 4 payload.length ++ [0, 0, 0, 0]
  { s with red := { s.red with forwardSeq := q } }.sendMirror 5 (.bytes (header ++ payload))

/-- R435, R441: an active forwards what it accepts to its standby; what fails there makes the standby stale. -/
def State.forward (s : State) (op : Nat) (r : Request) (rep : Reply) : State :=
  if r.chan = .c3 then (if forwarded.contains op && !rep.accepts then s.setStale else s)
  else if forwarded.contains op && rep.accepts && decide (s.red.role = .active) && s.red.peerHeard &&
      decide (s.red.peerRole = .standby) then s.sendRequest op r.flags (forwardPayload op r rep)
  else s

/-- R392: judge a request that has its slot, and run its command. -/
def State.execute (s : State) (op : Nat) (r : Request) (body : Body) : State :=
  match s.judge op r with
  | some (st, p) => (s.forward op r (.done st p)).answer op r (.done st p)
  | none =>
    match (if r.chan = .c3 then none else s.blockTest op r) with
    | some t =>
      if r.flags.getLsbD 0 then s.defer op r
      else s.answer op r (.done Status.BUSY_SELFTEST (beBytes 4 (s.testLeft t)))
    | none =>
      let a := s.takeAborted r
      if a.2 then a.1.answer op r (.done Status.ABORTED [])
      else
        let out := body a.1 r
        (out.1.forward op r out.2).answer op r out.2

/-- R381, R354, R404: the channel is served: the CP runs outside BOOT, and a network channel is enabled. -/
def State.served (s : State) : Bool := s.firmwareUp && !s.ctrl.cpRestarting && !(s.engine 0).halted

def State.channelOn (s : State) (ch : Chan) : Bool :=
  match ch with
  | .c1 => s.paramOn P.CTRL_CH1_ENABLE
  | .c2 => s.paramOn P.CTRL_CH2_ENABLE
  | .c3 => s.red.mirrorUp
  | .c0 => true

/-- R382: a request of channel 0 is the oldest one submitted, when that has its opcode and SEQ. -/
def State.popSubmitted (s : State) (op : Nat) (r : Request) : State :=
  match r.chan, s.ctrl.submitted with
  | .c0, q :: rest =>
    if field q 0 2 = op ∧ field q 4 4 = r.seq.toNat then { s with ctrl := { s.ctrl with submitted := rest } } else s
  | _, _ => s

/-- An empty slot for a request about to be executed. -/
def newSlot (op : Nat) (seq : Word) : Slot :=
  { seq := seq, opcode := op, status := Status.PENDING, done := false, acked := false, deferred := false, seen := false
    payload := [], doneTime := 0 }

/-- R388: the request takes its slot and raises H. -/
def State.fillSlot (s : State) (op : Nat) (r : Request) : State :=
  let c := s.client r.chan r.from_
  let high := match c.high with
    | some h => if 0 < signed32 ((r.seq.toNat : Int) - h.toNat) then r.seq else h
    | none => r.seq
  s.setClient r.chan r.from_ { c.setSlot r.seq (some (newSlot op r.seq)) with high := some high }

/-- R388: a request that takes its slot to be executed counts in MBX_REQUESTS. -/
def State.takeSlot (s : State) (op : Nat) (r : Request) : State := (s.fillSlot op r).count Reg.MBX_REQUESTS

/-- R388: HELLO clears the slots and sets H before it is judged. -/
def State.helloSlots (s : State) (r : Request) : State :=
  let c := s.client r.chan r.from_
  s.setClient r.chan r.from_ { c with s0 := none, s1 := none, s2 := none, s3 := none, high := some r.seq }

/-- R388: SEQ `q` lies 4 or more below H. -/
def Client.staleSeq (c : Client) (q : Word) : Bool :=
  match c.high with
  | some h => decide (signed32 ((q.toNat : Int) - h.toNat) ≤ -4)
  | none => false

/-- R388: the slot that serves `q` holds a request that is not complete. -/
def Client.slotBusy (c : Client) (q : Word) : Bool :=
  match c.slot q with
  | some t => !t.done
  | none => false

/-- R388: a request that has reached the CP. -/
def State.sequence (s : State) (op : Nat) (r : Request) (body : Body) : State :=
  let c := s.client r.chan r.from_
  match c.holds r.seq with
  | some t =>
    if t.acked then s.count Reg.MBX_STALE
    else (s.count Reg.MBX_DUPLICATES).sendSlot r.chan r.from_ r.seq
  | none =>
    if c.staleSeq r.seq then (s.count Reg.MBX_STALE).raise Ev.MBX_STALE
    else if c.slotBusy r.seq then (s.count Reg.MBX_BUSY).sendBusy op r
    else (s.takeSlot op r).execute op r body

/-- R382, R386: a request of channel 0 as the CP copied it. -/
def submittedRequest (q : List Byte) : Request :=
  { chan := .c0, from_ := ⟨[], 0⟩, port := .a, flags := BitVec.ofNat 16 (field q 2 2), seq := BitVec.ofNat 32 (field q 4 4)
    len := BitVec.ofNat 32 (field q 8 4), client := BitVec.ofNat 16 (field q 12 2), payload := q.drop 16 }

/-- A copied request that no row of the table stands for: its opcode, or the OP of its CAL_STORE or OWNER_KEY_SET, is in
no catalogue. -/
def rowless (q : List Byte) : Bool :=
  let op := field q 0 2
  (cmdRow op).isNone || (decide (op = Op.CAL_STORE) && decide (4 < byteAt q 16)) ||
    (decide (op = Op.OWNER_KEY_SET) && decide (5 < byteAt q 16))

/-- R392, R475, R482: such a request fails at one of the steps, at the last one with BAD_PARAM. -/
def bodyRowless : Body := fun s _ => (s, .plain Status.BAD_PARAM)

/-- R391: the requests without a row that have become the oldest ones of channel 0 are answered. -/
def State.drainRowless (s : State) (fuel : Nat) : State :=
  match fuel with
  | 0 => s
  | n + 1 =>
    match s.ctrl.submitted with
    | q :: rest =>
      if rowless q then
        (({ s with ctrl := { s.ctrl with submitted := rest } } : State).sequence (field q 0 2) (submittedRequest q)
          bodyRowless).drainRowless n
      else s
    | [] => s

/-- R391: after a request of channel 0, the next ones. -/
def State.afterRequest (s : State) (ch : Chan) : State := if ch = .c0 then s.drainRowless 4 else s

/-- A mailbox command: R381 to R392. -/
def State.mailbox (s : State) (op : Nat) (r : Request) (body : Body) : State :=
  if s.served = false then s
  else if s.channelOn r.chan = false then (if r.chan = .c3 then s else s.count Reg.MBX_DROPPED)
  else
    let a := (s.popSubmitted op r).admits r
    if a.2 = false then a.1
    else
      let s := if op = Op.HELLO then a.1.helloSlots r else a.1
      (s.sequence op r body).afterRequest r.chan

/-- R389: the named slot's response is discarded and the slot marked acked. -/
def State.ackSlot (s : State) (r : Request) : State :=
  let c := s.client r.chan r.from_
  match c.holds r.seq with
  | some t =>
    if t.done then s.setClient r.chan r.from_ (c.setSlot r.seq (some { t with acked := true, payload := [] })) else s
  | none => s

/-- RESPONSE_ACK: R389: it is judged as every request (R392), without a response, and restarts its session's lease (R396). -/
def execResponseAck (r : Request) (s : State) : Host.Outcome State Fault Refusal :=
  if s.served = false then .next s
  else if s.channelOn r.chan = false then .next (s.count Reg.MBX_DROPPED)
  else
    let a := (s.popSubmitted Op.RESPONSE_ACK r).admits r
    if a.2 = false ∨ r.chan = .c3 then .next a.1
    else
      let s := if (a.1.judge Op.RESPONSE_ACK r).isNone then a.1.ackSlot r else a.1
      .next ((s.restartLease r.client.toNat).afterRequest r.chan)

/-! ### Requests that end before they start (R352, R396) -/

/-- A submitted request of channel 0 is not executed any more: one that R388 turns away is turned away, RESPONSE_ACK has no
response (R389), and any other is answered with `st` in its slot. -/
def State.abandonSubmitted (s : State) (st : Nat) (q : List Byte) : State :=
  let op := field q 0 2
  let r := submittedRequest q
  let c := s.client r.chan r.from_
  if op = Op.RESPONSE_ACK then s
  else if (c.holds r.seq).isSome ∨ c.staleSeq r.seq ∨ c.slotBusy r.seq then s.sequence op r bodyRowless
  else (s.fillSlot op r).complete r.chan r.from_ r.seq st []

/-- R396: the requests of an expired session that have not started complete with CANCELLED. -/
def State.cancelSubmitted (s : State) (handle : Nat) : State :=
  let mine := fun (q : List Byte) => decide ((submittedRequest q).client.toNat = handle)
  let l := s.ctrl.submitted.filter mine
  l.foldl (fun s q => s.abandonSubmitted Status.CANCELLED q)
    ({ s with ctrl := { s.ctrl with submitted := s.ctrl.submitted.filter fun q => !mine q } } : State)

/-- R352: after a CP restart every request in flight is answered INTERNAL, staged values and the staged work of the open
sessions are discarded, and the next request of each session returns ABORTED. -/
def State.cpRestarted (s : State) : State :=
  let q := s.ctrl.submitted
  let clear := fun (c : Client) => { c with staging := [] }
  let s := { s with ctrl := { s.ctrl with
      cpRestarting := false, submitted := [], ch0 := clear s.ctrl.ch0, ch1 := s.ctrl.ch1.map clear, ch2 := s.ctrl.ch2.map clear
      ch3 := clear s.ctrl.ch3 } }
  let s := s.completeWaiting fun _ => some (Status.INTERNAL, [])
  let s := q.foldl (fun s q => s.abandonSubmitted Status.INTERNAL q) s
  let s := s.ctrl.sessions.foldl (fun s x => s.discardStaged x.scope) s
  let marked : List Session := s.ctrl.sessions.map fun (x : Session) => { x with aborted := true }
  { s with ctrl := { s.ctrl with reqFree := true, sessions := marked } }.irq Irq.REQ_FREE

end Sys2Proof.Machine
end

