-- ==== Sys2Proof/Machine/Sched.lean ====
section
/-! DEFINITION. Engines, the task scheduler, locks and engine faults (09_engines_scheduling_journal.md, R335 to R354). -/

namespace Sys2Proof.Machine

/-! ### Fatal faults (R353, R369, R496, R513) -/

/-- R353: a fatal fault: FAULT_N, RELEASE, the fault's entry, the frozen journal, FATAL_FAULT, and the output stops at the
next tick; tests end without a result (R513) and a request held behind one is judged by R354. During BOOT the start-up
fails (R496). -/
def State.fatalFault (s : State) (src code payload : Nat) : State :=
  if s.sched.fatal then s
  else if s.mode = .boot then { s with sys := { s.sys with phase := 7, faultN := true } }
  else
    let s := ({ s with sys := { s.sys with faultN := true } }.sendRelease 1).emit src Kind.FAULT code payload
    let s := ({ s with jnl := { s.jnl with frozen := true } }.setEv Ev.FATAL_FAULT).irq Irq.FATAL
    let s := { s with
      sched := { s.sched with fatal := true }
      anvil := { s.anvil with rendering := false }
      bist := { s.bist with tests := [] } }
    let s := s.completeWaiting fun w =>
      match w.why with
      | .selfTest _ _ => some (Status.DENIED_MODE, [])
      | _ => none
    allStrands.foldl State.haltStrand s

/-! ### Engines (R335, R336) -/

/-- R335: the yield interval in ns. -/
def yieldNs (e : Nat) : Nat := if e ≤ 1 then 20000 else if e ≤ 3 then 5000 else 2000

/-- R335: the restart time in ns. -/
def restartNs (e : Nat) : Nat := if e = 0 then 50000000 else if e ≤ 3 then 2000000 else 1000000

/-- R364: the journal source of an engine. -/
def engineSource (e : Nat) : Nat := if e ≤ 3 then 0x10 + e else 0x20 + (e - 4)

/-- The engine runs: outside reset, neither restarting nor halted. -/
def State.engineRuns (s : State) (e : Nat) : Bool :=
  !s.sys.inReset && !(s.engine e).restarting && !(s.engine e).halted

/-- The strands of a sequencer. -/
def sqStrands (e : Nat) : List Nat := if 4 ≤ e ∧ e < 20 then (List.range 8).map fun j => 8 * (e - 4) + j else []

/-! ### The task scheduler (R337 to R344) -/

def Task.inService (t : Task) : Bool := decide (t.st = .dispatched) || decide (t.st = .suspended)

/-- The next stamp of submission and of readiness. -/
def State.nextOrder (s : State) : State := { s with sched := { s.sched with order := s.sched.order + 1 } }

/-- R337: the first free slot for a submission. -/
def State.freeSlot (s : State) : Option Nat :=
  ((List.range 448).map (· + 64)).find? fun n => decide ((s.task n).st = .free)

/-- A task becomes READY (R338). -/
def State.makeReady (s : State) (n : Nat) : State :=
  (s.setTask n { s.task n with st := .ready, readyOrder := s.sched.order }).nextOrder

/-- R338, R341: the completion record of a task: 0 normal, 1 CANCELLED, 2 FAULTED. -/
def State.endTask (s : State) (n result : Nat) : State := s.setTask n { s.task n with st := .done, result := result, cancelReq := false }

/-- TASK_SUBMIT: R337, R338. -/
def execTaskSubmit (e : Fin 20) (prio : Fin 8) (targets : List (Fin 21)) (flow : Option (Fin 256)) (wait : TaskWait) (s : State) :
    Host.Outcome State Fault Refusal :=
  if s.engineRuns e = false then .next s
  else
    match s.freeSlot with
    | none =>
      if s.sched.refusing then .next s
      else .next ({ s with sched := { s.sched with refusing := true } }.raise Ev.TASK_SLOTS_FULL)
    | some n =>
      let t : Task := { st := .waiting, prio := prio, targets := targets.map (·.val), flow := flow.map (·.val), wait := wait, order := s.sched.order }
      let s := { s with sched := { s.sched with refusing := false } }
      let s := (s.setTask n t).nextOrder
      .next (if wait = .now then s.makeReady n else s)

/-- TASK_READY: R338: a WAITING task becomes READY at its short time, or on its event. -/
def execTaskReady (n : Fin 512) (s : State) : Host.Outcome State Fault Refusal :=
  let t := s.task n
  if t.st ≠ .waiting ∨ s.sys.inReset then .next s
  else
    match t.wait with
    | .atShort u => .next ((s.pass (signed32 ((u.toNat : Int) - s.nowNs)).toNat).makeReady n)
    | _ => .next (s.makeReady n)

/-- R339: the task may be dispatched: no item of its flow is in service, and none not in service is older. -/
def State.eligibleTask (s : State) (n : Nat) : Bool :=
  let t := s.task n
  decide (t.st = .ready) &&
    (match t.flow with
    | none => true
    | some f => !(s.sched.tasks.any fun p => decide (p.2.flow = some f) &&
        (p.2.inService || ((decide (p.2.st = .ready) || decide (p.2.st = .waiting)) && decide (p.2.order < t.order)))))

/-- R340: higher priority first, then the task that became READY first. -/
def Task.before (a b : Task) : Bool := decide (a.prio < b.prio) || (decide (a.prio = b.prio) && decide (a.readyOrder < b.readyOrder))

/-- R340: the task that engine `e` is given; ties go to the lower slot. -/
def State.bestTask (s : State) (e : Nat) : Option Nat :=
  s.sched.tasks.foldl (fun b p =>
    if s.eligibleTask p.1 && p.2.targets.contains e then
      match b with
      | none => some p.1
      | some m => if p.2.before (s.task m) then some p.1 else b
    else b) none

/-- The suspended task of highest priority on engine `e`. -/
def State.suspendedTask (s : State) (e : Nat) : Option Nat :=
  s.sched.tasks.foldl (fun b p =>
    if decide (p.2.st = .suspended) && decide (p.2.engine = e) then
      match b with
      | none => some p.1
      | some m => if p.2.prio < (s.task m).prio then some p.1 else b
    else b) none

/-- A task goes into service on an engine. -/
def State.dispatch (s : State) (e n : Nat) : State :=
  (s.setTask n { s.task n with st := .dispatched, engine := e }).setEngine e { s.engine e with task := some n }

/-- R340: what an idle engine is given: a suspended task of its own resumes unless a READY one has strictly higher
priority. -/
def State.giveTask (s : State) (e : Nat) : State :=
  match s.suspendedTask e, s.bestTask e with
  | some m, some n => if (s.task n).prio < (s.task m).prio then s.dispatch e n else s.dispatch e m
  | some m, none => s.dispatch e m
  | none, some n => s.dispatch e n
  | none, none => s

/-- The engine is idle. -/
def State.idleEngine (s : State) (e : Nat) : State := s.setEngine e { s.engine e with task := none }

/-- TASK_DISPATCH: R336, R340, R342: an engine is idle or at a yield point. -/
def execTaskDispatch (e : Fin 21) (s : State) : Host.Outcome State Fault Refusal :=
  if s.engineRuns e = false ∨ (e.val = 20 ∧ s.dead = true) then .next s
  else
    let s := s.setEngine e { s.engine e with yieldUp := s.up }
    match (s.engine e).task with
    | none => .next (s.giveTask e)
    | some n =>
      if (s.task n).cancelReq then .next (((s.endTask n 1).idleEngine e).giveTask e)
      else
        match s.bestTask e with
        | some m =>
          if (s.task m).prio < (s.task n).prio then
            .next ((s.setTask n { s.task n with st := .suspended }).dispatch e m)
          else .next s
        | none => .next s

/-- TASK_DONE: R338: the task in service ends with its normal result. -/
def execTaskDone (e : Fin 21) (s : State) : Host.Outcome State Fault Refusal :=
  match (s.engine e).task with
  | some n => if s.engineRuns e then .next ((s.endTask n 0).idleEngine e) else .next s
  | none => .next s

/-- TASK_CANCEL: R341, R342. -/
def State.cancelTask (s : State) (n : Nat) : State :=
  let t := s.task n
  match t.st with
  | .waiting => s.endTask n 1
  | .ready => s.endTask n 1
  | .dispatched => s.setTask n { t with cancelReq := true }
  | .suspended => s.setTask n { t with cancelReq := true }
  | _ => s

def execTaskCancel (v : Word) (s : State) : Host.Outcome State Fault Refusal := .next (s.cancelTask (v.toNat % 512))

/-- COMPLETION_RECORD_READ: R338: the slot of a DONE task becomes FREE. -/
def execCompletionRecordRead (n : Fin 512) (s : State) : Host.Outcome State Fault Refusal :=
  .next (if (s.task n).st = .done then s.setTask n {} else s)

/-! ### The tick tasks (R344) -/

/-- R344: the tick tasks: slot, target and flow. Slot 0 is the render, 1 to 16 the strand frames, 17 to 19 the sense,
Quench and colour-tracking steps, 20 the Tongs renewal, 21 the tick record (log 24). -/
def tickTaskList : List (Nat × Nat × Nat) :=
  [(0, 20, 196)] ++ ((List.range 16).map fun q => (1 + q, 4 + q, 64 + 8 * q)) ++
    [(17, 1, 199), (18, 1, 199), (19, 1, 199), (20, 1, 197), (21, 1, 197)]

/-- R344: one tick task becomes READY; behind a predecessor still in service it waits, and TICK_TASK_LATE is raised. Its
slot is the lower of its two while that is unused (log 24). -/
def State.tickTask (s : State) (k : Nat × Nat × Nat) : State :=
  let idle := fun n => decide ((s.task n).st = .free) || decide ((s.task n).st = .done)
  let n := if idle k.1 then k.1 else k.1 + 32
  let late := s.sched.tasks.any fun p => decide (p.2.flow = some k.2.2) && p.2.inService
  let s := if idle n then
      s.setTask n { st := .ready, prio := 0, targets := [k.2.1], flow := some k.2.2, order := s.sched.order, readyOrder := s.sched.order }
    else s
  if late then s.raiseWith Ev.TICK_TASK_LATE 0 (n * 2 ^ 47) else s

/-- R344: at a tick every tick task becomes READY, together. -/
def State.tickTasks (s : State) : State := (tickTaskList.foldl State.tickTask s).nextOrder

/-! ### Locks (R345 to R347) -/

/-- R347: TRY_ONLY. -/
def tryOnlyLock (n : Nat) : Bool := decide (40 ≤ n) && decide (n ≤ 44)

/-- R347: SHADOW. -/
def shadowLock (n : Nat) : Bool := decide (n < 16) || (decide (32 ≤ n) && decide (n ≤ 39))

/-- R345: every lock that engine `e` holds, TRY_ONLY ones apart, ranks below `n`. -/
def State.lockOrderOk (s : State) (e n : Nat) : Bool :=
  s.sched.locks.all fun p => decide (p.2.owner ≠ some e) || tryOnlyLock p.1 || decide (p.1 < n)

/-- The engine waits for a lock. -/
def State.lockBlocked (s : State) (e : Nat) : Bool := s.sched.locks.any fun p => p.2.waiters.contains e

/-- R350: the structures that SHADOW locks protect, as they stand. -/
def State.shadowCopy (s : State) : Shadow where
  live := s.ctrl.live
  ch0 := s.ctrl.ch0.staging
  ch1 := s.ctrl.ch1.map fun c => (c.ep, c.staging)
  ch2 := s.ctrl.ch2.map fun c => (c.ep, c.staging)
  ch3 := s.ctrl.ch3.staging
  streams := s.fs.streams
  lamp := s.lamp

/-- R350: the shadow copy that the holder of lock `n` finds: the one made at the lock's last release (log 138). -/
def State.keepShadow (s : State) (n : Nat) (c : Option Shadow) : State :=
  if shadowLock n then { s with shadows := SMap.set (fun _ => none) s.shadows n c } else s

/-- R350: the staged values of a client in a shadow copy. -/
def restoreStaging (old : List (Endpoint × List (Nat × List Byte))) (c : Client) : Client :=
  match old.find? fun p => decide (p.1 = c.ep) with
  | some p => { c with staging := p.2 }
  | none => { c with staging := [] }

/-- R347, R350: the structure of lock `n` from its shadow copy: parameters, the stream table and sACN maps, frame store parts
and marks, or lamp control. -/
def State.restoreStructure (s : State) (n : Nat) (o : Shadow) : State :=
  if n < 4 then
    let c := s.ctrl
    { s with ctrl := { c with
        live := o.live, ch0 := { c.ch0 with staging := o.ch0 }, ch3 := { c.ch3 with staging := o.ch3 }
        ch1 := c.ch1.map (restoreStaging o.ch1), ch2 := c.ch2.map (restoreStaging o.ch2) } }
  else if n < 8 then
    ((List.range 64).map P.STREAM ++ (List.range 32).map P.SACN_MAP).foldl
      (fun s id => s.setParam id (SMap.get paramDefault o.live id)) s
  else if n < 16 then
    (List.range 64).foldl (fun s i =>
      let t := SMap.get (fun _ => {}) o.streams i
      s.setStream i { s.stream i with parts := t.parts, mark := t.mark, src := t.src }) s
  else
    let l := o.lamp
    { s with lamp := { s.lamp with
        faultMap := l.faultMap, faultNext := l.faultNext, faultReady := l.faultReady, clearRun := l.clearRun, zones := l.zones
        zonesNext := l.zonesNext, track := l.track, hostTemp := l.hostTemp } }

/-- R350 step 2: a lock that a fault releases has its structure restored. -/
def State.restoreShadow (s : State) (n : Nat) : State :=
  match SMap.get (fun _ => none) s.shadows n with
  | some o => s.restoreStructure n o
  | none => s

/-- A lock goes to engine `e`, which finds the structures as the last release left them. -/
def State.grantLock (s : State) (n e : Nat) (ws : List Nat) : State :=
  (s.setLock n { owner := some e, waiters := ws, sinceUp := s.up }).keepShadow n (some s.shadowCopy)

/-- R346: a lock that is let go goes to its first waiter. -/
def State.passLock (s : State) (n : Nat) : State :=
  match (s.lock n).waiters with
  | w :: ws => s.grantLock n w ws
  | [] => (s.setLock n {}).keepShadow n none

/-! ### Engine faults (R349 to R352) -/

/-- R367: the code of a cause. -/
def faultCode : FaultCause → Nat
  | .lockOrder => 1
  | .lockHold => 2
  | .taskWdt => 3
  | .memUncorr => 4
  | .busErr => 5
  | .illegalOp => 6

/-- R350 step 2: the locks of engine `e` are released in descending rank; its own waits end. Session locks stay, because
open sessions do (R352; log 25). -/
def State.releaseLocks (s : State) (e : Nat) : State :=
  let held := ((s.sched.locks.filter fun p => decide (p.2.owner = some e) && !tryOnlyLock p.1).map Prod.fst).reverse
  let s := { s with sched := { s.sched with
      locks := s.sched.locks.map fun p => (p.1, { p.2 with waiters := p.2.waiters.filter fun w => decide (w ≠ e) }) } }
  held.foldl (fun s n => (s.restoreShadow n).passLock n) s

/-- R350 step 3, R351: one task of the faulted engine. -/
def State.returnTask (s : State) (n : Nat) (faulted : Bool) : State :=
  let t := s.task n
  if t.cancelReq then s.endTask n 1
  else if faulted ∧ 1 ≤ t.faults then s.endTask n 2
  else (s.setTask n { t with faults := t.faults + b2n faulted }).makeReady n

/-- R350 step 3: the faulted task, then the engine's suspended tasks. -/
def State.returnTasks (s : State) (e : Nat) : State :=
  let s := match (s.engine e).task with
    | some n => s.returnTask n true
    | none => s
  let rest := (s.sched.tasks.filter fun p => decide (p.2.st = .suspended) && decide (p.2.engine = e)).map Prod.fst
  rest.foldl (fun s n => s.returnTask n false) s

/-- R350 step 3, R174: popped frames return to their queues. -/
def State.returnFrames (s : State) (e : Nat) : State :=
  match e with
  | 1 => s.requeuePopped 3
  | 2 => (s.requeuePopped 0).requeuePopped 2
  | 3 => s.requeuePopped 1
  | _ => s

/-- ENGe_STATUS.FAULTS, saturating at 255. -/
def State.countFault (s : State) (e : Nat) : State :=
  let n := bits (s.regN (Reg.ENG_STATUS e)) 15 8
  s.setRegN (Reg.ENG_STATUS e) (min 255 (n + 1) * 256)

/-- R335: what the engine's absence means while it restarts. -/
def State.engineAway (s : State) (e : Nat) : State :=
  if e = 0 then { s with ctrl := { s.ctrl with cpRestarting := true } }
  else
    (sqStrands e).foldl (fun s n =>
      let s := s.haltStrand n
      s.setStrand n { s.strand n with engineDown := true }) s

/-- R349 to R353: engine `e` faults. -/
def State.engineFault (s : State) (e : Nat) (cause : FaultCause) (pc lock : Nat) : State :=
  if s.engineRuns e = false then s
  else
    let g := s.engine e
    let payload := pc * 2 ^ 32 + e * 2 ^ 27 + (g.task.getD 0) * 2 ^ 18 + lock * 2 ^ 12
    let again : Bool := match g.lastFaultUp with
      | some u => decide (s.up < u + s.param P.FAULT_WINDOW * 1000000)
      | none => false
    let s := ((s.emit (engineSource e) Kind.FAULT (faultCode cause) payload).raise Ev.ENGINE_FAULT).countFault e
    let s := { s with work := { s.work with engineFaulted := true } }
    let s : State := (((s.releaseLocks e).returnTasks e).returnFrames e).setEngine e { g with task := none, lastFaultUp := some s.up, restarting := true }
    if e = 1 ∨ again ∨ s.mode = .boot then
      let s := s.setEngine e { s.engine e with restarting := false, halted := true }
      s.fatalFault (engineSource e) (if e = 1 then 0x101 else 0x100) payload
    else s.engineAway e

/-- A program counter that no command states: a free value (log 11). -/
def State.freePc (s : State) : State × Nat := ({ s with draws := s.draws + 1 }, Config.freeNat s.draws % 2 ^ 32)

/-- ENGINE_FAULT: R349, R350. -/
def execEngineFault (e : Fin 20) (cause : FaultCause) (pc : Word) (s : State) : Host.Outcome State Fault Refusal :=
  .next (s.engineFault e cause pc.toNat 0)

/-- TASK_WDT: R336: a task runs for 5 yield intervals without a yield point. -/
def execTaskWdt (e : Fin 20) (s : State) : Host.Outcome State Fault Refusal :=
  if (s.engine e).task.isSome = true ∧ s.engineRuns e = true then
    let s := (s.reach ((s.engine e).yieldUp + 5 * yieldNs e)).freePc
    .next (s.1.engineFault e .taskWdt s.2 0)
  else .next s

/-- ENGINE_RESTARTED: R350 step 4, R335, R352. -/
def execEngineRestarted (e : Fin 20) (s : State) : Host.Outcome State Fault Refusal :=
  let g := s.engine e
  if g.restarting = false then .next s
  else
    let s := s.reach ((g.lastFaultUp.getD 0) + restartNs e)
    let s := (s.setEngine e { g with restarting := false, yieldUp := s.up }).raise Ev.ENGINE_RESTARTED
    if e.val = 0 then .next s.cpRestarted
    else .next ((sqStrands e).foldl (fun s n => s.setStrand n { s.strand n with engineDown := false }) s)

/-- LOCK_ACQUIRE: R345, R346. After a try acquisition `regOut` holds the owner's engine ID. -/
def execLockAcquire (e : Fin 20) (n : Fin 64) (tryOnly : Bool) (s : State) : Host.Outcome State Fault Refusal :=
  if s.engineRuns e = false ∨ s.lockBlocked e = true ∨ (tryOnlyLock n = true ∧ tryOnly = false) then .next s
  else if tryOnlyLock n = false ∧ s.lockOrderOk e n = false then
    .next (s.freePc.1.engineFault e .lockOrder s.freePc.2 n)
  else
    let l := s.lock n
    match l.owner with
    | none =>
      let s := s.grantLock n e []
      .next (if tryOnly then { s with ctrl := { s.ctrl with regOut := BitVec.ofNat 32 e } } else s)
    | some o =>
      if tryOnly then .next { s with ctrl := { s.ctrl with regOut := BitVec.ofNat 32 o } }
      else .next (s.setLock n { l with waiters := l.waiters ++ [e.val] })

/-- LOCK_RELEASE: R346. -/
def execLockRelease (e : Fin 20) (n : Fin 64) (s : State) : Host.Outcome State Fault Refusal :=
  if (s.lock n).owner = some e.val ∧ s.engineRuns e = true then .next (s.passLock n) else .next s

/-- LOCK_HOLD: R346: an engine has held a lock for more than 20 µs. -/
def execLockHold (n : Fin 64) (s : State) : Host.Outcome State Fault Refusal :=
  match (s.lock n).owner with
  | some e =>
    if tryOnlyLock n ∨ s.engineRuns e = false then .next s
    else
      let s := (s.reach ((s.lock n).sinceUp + 20001)).freePc
      .next (s.1.engineFault e .lockHold s.2 n)
  | none => .next s

/-! ### Sessions (R396) -/

/-- SESSION_EXPIRED: R396, R366: the lease ran out while no command of the session executed; its requests that wait on
channel 0 are cancelled. -/
def execSessionExpired (scope : Fin 5) (s : State) : Host.Outcome State Fault Refusal :=
  match s.sessionOf scope with
  | none => .next s
  | some x =>
    if s.sessionBusy x.handle ∨ s.firmwareUp = false then .next s
    else
      let s := s.reach x.until_
      let t := if x.chan = .c0 then ((s.closeSession x).cancelSubmitted x.handle).afterRequest .c0 else s.closeSession x
      .next (t.raiseWith Ev.SESSION_EXPIRED x.chan.index
        (x.scope * 2 ^ 48 + s.endpointIndex x.chan x.ep * 2 ^ 40 + x.handle * 2 ^ 24))

end Sys2Proof.Machine
end

