-- ==== Sys2Proof/Machine/Apply.lean ====
section
/-! DEFINITION. What a staged change does at the tick at which it applies (R27): parameter commits, maps, tables,
calibration planes, layers, marks and plays. -/

namespace Sys2Proof.Machine

/-! ### Registers that carry parameters (R410) -/

/-- Put `v` into bits `hi` to `lo` of the register at `a`. -/
def State.setField (s : State) (a hi lo v : Nat) : State :=
  let n := s.regN a
  s.setRegN a (n - bits n hi lo * 2 ^ lo + v % 2 ^ (hi + 1 - lo) * 2 ^ lo)

/-- The same in a register of ports A and B, or of all three ports. -/
def State.setPortField (s : State) (a : Nat → Nat) (sv : Bool) (hi lo v : Nat) : State :=
  let s := (s.setField (a 0) hi lo v).setField (a 1) hi lo v
  if sv then s.setField (a 2) hi lo v else s

/-- R410: load the value of parameter `id` into the register that carries it. TICK_OD_TOLERANCE is in ns and its field in units of
10 ns: a value between two units is rounded down (DESIGN CHOICE, log 120). -/
def State.loadParamReg (s : State) (id : Nat) : State :=
  let v := s.param id
  match id with
  | 0x0200 => s.setField (Reg.MAC_CTRL 0) 2 1 v
  | 0x0201 => s.setField (Reg.MAC_CTRL 1) 2 1 v
  | 0x0202 => s.setField (Reg.MAC_CTRL 0) 3 3 v
  | 0x0203 => s.setField (Reg.MAC_CTRL 1) 3 3 v
  | 0x0204 => s.setField (Reg.MAC_CTRL 2) 2 1 v
  | 0x0205 => s.setPortField Reg.MAC_MAX_FRAME true 13 0 v
  | 0x0206 => s.setPortField Reg.MAC_CTRL false 4 4 v
  | 0x0207 => s.setField (Reg.MAC_CTRL 0) 5 5 v
  | 0x0208 => s.setField (Reg.MAC_CTRL 1) 5 5 v
  | 0x0209 => s.setPortField Reg.MAC_CTRL true 6 6 v
  | 0x020A => s.setPortField Reg.MAC_CTRL false 7 7 v
  | 0x0210 => s.setPortField Reg.VLAN_CFG true 11 0 v
  | 0x0211 => s.setPortField Reg.VLAN_CFG true 14 12 v
  | 0x0300 => s.setField (Reg.DOM_CFG 0) 7 0 v
  | 0x0301 => if v = 255 then s.setField (Reg.DOM_CFG 1) 15 15 0 else (s.setField (Reg.DOM_CFG 1) 7 0 v).setField (Reg.DOM_CFG 1) 15 15 1
  | 0x0302 => (s.setField (Reg.DOM_CFG 0) 9 8 v).setField (Reg.DOM_CFG 1) 9 8 v
  | 0x0303 => (s.setField (Reg.DOM_CFG 0) 11 11 v).setField (Reg.DOM_CFG 1) 11 11 v
  | 0x0304 => (s.setField (Reg.DOM_CFG 0) 10 10 v).setField (Reg.DOM_CFG 1) 10 10 v
  | 0x030E => s.setField Reg.SLEW_LIMIT 8 0 v
  | 0x0313 => s.setField Reg.TICK_OD_CTRL 15 8 (v / 10)
  | 0x0314 => s.setField Reg.PPS_CTRL 1 0 v
  | 0x0315 => s.setField Reg.PPS_CTRL 26 8 v
  | 0x0316 => s.setField Reg.PPS_CTRL 3 2 v
  | 0x0317 => s.setField Reg.SERVO_GAIN 15 0 v
  | 0x0318 => s.setField Reg.SERVO_GAIN 31 16 v
  | 0x0805 => (s.writeArbRank 0 v).writeArbRank 1 v
  | _ => s

/-- The parameters that a register carries. -/
def regParams : List Nat :=
  [0x0200, 0x0201, 0x0202, 0x0203, 0x0204, 0x0205, 0x0206, 0x0207, 0x0208, 0x0209, 0x020A, 0x0210, 0x0211, 0x0300, 0x0301,
   0x0302, 0x0303, 0x0304, 0x030E, 0x0313, 0x0314, 0x0315, 0x0316, 0x0317, 0x0318, 0x0805]

/-- BOOT loads every one of them. -/
def State.loadParamRegs (s : State) : State := regParams.foldl State.loadParamReg s

/-! ### Groups (R104, R125, R167) -/

/-- The destination address of an IP group's frames. -/
def groupMac (g : List Byte) : Nat :=
  if mappedAddr g then 0x01005E000000 + field g 12 4 % 2 ^ 23 else 0x333300000000 + field g 12 4

/-- R125: the groups that the enabled streams name. -/
def State.streamGroups (s : State) : List (List Byte) :=
  ((List.range 64).filterMap fun i =>
    let g := ((s.streamCfg i).drop 16).take 16
    if s.streamEnabled i ∧ beNat g ≠ 0 then some g else none).eraseDups

/-- R125, R167: the groups to join. -/
def State.wantedGroups (s : State) : List (List Byte) :=
  (s.streamGroups ++ s.mappedUniverses.map sacnGroup).eraseDups

/-- R125, R167: the filter entries that the joins take, as address, PREFIX: one PREFIX entry for all sACN groups and the
groups that share its bytes, one entry for each other group. -/
def State.groupEntries (s : State) : List (Nat × Bool) :=
  let sacn := !s.mappedUniverses.isEmpty
  let macs := (s.streamGroups.map groupMac).filter fun m => !(sacn && decide (m / 65536 = 0x01005E7F))
  (if sacn then [(0x01005E7F0000, true)] else []) ++ macs.map fun m => (m, false)

/-- R125: write filter entries 1 to 7 of a port. -/
def State.loadFilters (s : State) (p : Port) (l : List (Nat × Bool)) : State :=
  (List.range 7).foldl (fun s i =>
    match l[i]? with
    | some e =>
      (s.setRegN (Reg.FILT_HI p.index (i + 1)) (e.1 / 2 ^ 32 + 2 ^ 16 + b2n e.2 * 2 ^ 17 + 2 ^ 18)).setRegN
        (Reg.FILT_LO p.index (i + 1)) (e.1 % 2 ^ 32)
    | none => (s.setRegN (Reg.FILT_HI p.index (i + 1)) 0).setRegN (Reg.FILT_LO p.index (i + 1)) 0) s

/-- R125: the groups whose membership a commit changes: joined, left, or joined with other sources. -/
def State.changedGroups (s old : State) : List (List Byte) :=
  let want := s.wantedGroups
  (want.filter fun g => !old.groups.contains g || decide (s.joinSources g ≠ old.joinSources g)) ++
    old.groups.filter fun g => !want.contains g

/-- R125: remember the second report of each change, due 1 s from now. -/
def State.reportTwice (s : State) (changed : List (List Byte)) : State :=
  { s with reports := s.reports.filter (fun r => !changed.contains r.1) ++ changed.map fun g => (g, s.up + 1000000000) }

/-- R125: join and leave groups: each change is reported now and once more 1 s later. -/
def State.syncGroups (s old : State) : State :=
  let l := s.groupEntries
  let changed := s.changedGroups old
  let s := ({ s with groups := s.wantedGroups } : State).reportTwice changed
  let s := ((s.loadFilters .a l).loadFilters .b l).loadFilters .sv (if s.paramOn P.SV_PIXEL_EN then l else [])
  changed.foldl State.sendReport s

/-! ### Commits (R403) -/

/-- R95, R301: a commit of one of these parameters starts a retime when it changes the value. -/
def retimeIds : List Nat :=
  [P.TICK_RATE_N, P.TICK_RATE_M, P.SLOT_COUNT, P.SLOT_WEIGHT 0, P.SLOT_WEIGHT 1, P.SLOT_WEIGHT 2, P.SLOT_WEIGHT 3]

/-- The timing that a commit names: the live timing with the committed values. -/
def State.timingWith (s : State) (recs : List (Nat × List Byte)) : Timing :=
  let v := fun (id : Nat) => match recs.find? fun q => decide (q.1 = id) with
    | some q => beNat q.2
    | none => s.param id
  ⟨v P.TICK_RATE_N, v P.TICK_RATE_M, v P.SLOT_COUNT, v (P.SLOT_WEIGHT 0), v (P.SLOT_WEIGHT 1), v (P.SLOT_WEIGHT 2), v (P.SLOT_WEIGHT 3)⟩

/-- Does the commit change the live value of `id`? -/
def changes (old : State) (recs : List (Nat × List Byte)) (id : Nat) : Bool :=
  recs.any fun q => decide (q.1 = id) && decide (q.2 ≠ old.paramBytes id)

/-- The first and last ID of an array are `lo` and `hi`: does the commit change one of them? -/
def changesIn (old : State) (recs : List (Nat × List Byte)) (lo hi : Nat) : Bool :=
  recs.any fun q => decide (lo ≤ q.1) && decide (q.1 ≤ hi) && decide (q.2 ≠ old.paramBytes q.1)

/-- R81, R403: the values that a commit changes, or leaves, when it starts a retime: a pending retime, which it replaces,
counts as in force (log 104). -/
def State.timingBase (s : State) : State :=
  match s.hearth.retime with
  | some r => s.setTimingParams r.timing
  | none => s

/-- R82, R95, R301: does the commit start a retime? -/
def State.startsRetime (s : State) (recs : List (Nat × List Byte)) : Bool :=
  [P.REFRESH_MIN, P.CAMERA_MODE].any (changes s recs) || retimeIds.any (changes s.timingBase recs)

/-- R126: the static address of a port group. -/
def State.staticIp (s : State) (sv : Bool) : IpState :=
  let g := if sv then 0x0101 else 0x020C
  { addr := BitVec.ofNat 32 (s.param g), mask := BitVec.ofNat 32 (s.param (g + 1)), gw := BitVec.ofNat 32 (s.param (g + 2)) }

/-- R126, R404: the IPv4 source or the static address changed. -/
def State.reloadIp (s : State) (sv : Bool) : State :=
  let p := if sv then Port.sv else Port.a
  s.setIp p (if s.dhcpOn p then {} else s.staticIp sv)

/-- R97: a change of speed, FEC or service mode retrains the port; AUTO starts a search. -/
def State.retrain (s : State) (p : Port) : State := (if (s.mac p).up then s.portDown p else s).restartSearch p

/-- R95: the number of a domain changed: the device leaves the domain for the other one when that is LOCKED, or acquires
anew; a lock that PPS_IN holds stays (R56). -/
def State.renumber (s : State) (second : Bool) : State :=
  if s.hearth.secondActive = second then
    if (s.dom (!second)).st = .locked then (s.switchDomain (!second) 4).setDom second {}
    else if s.hearth.sourcePps then s.setDom second {}
    else (s.setDom second {}).servoUnlock.holdBase
  else s.setDom second {}

/-- R404: a channel that is switched off closes its sessions. -/
def State.closeChannel (s : State) (ch : Chan) : State :=
  (s.ctrl.sessions.filter fun x => decide (x.chan = ch)).foldl State.closeSession s

/-- R553: the entries that a commit starts afresh: those that it enables, and the enabled ones of which it changes a field
other than GROUP_ADDR, CTRL among them. -/
def freshStreams (old new : State) : List Nat :=
  (List.range 64).filter fun i =>
    let a := old.streamCfg i
    let b := new.streamCfg i
    if old.streamEnabled i then decide (a.take 16 ≠ b.take 16) || decide (a.drop 32 ≠ b.drop 32) else new.streamEnabled i

/-- R553: the CANVAS maps that a commit starts afresh, as streams 64 + m (log 20). -/
def freshMaps (old new : State) : List Nat :=
  ((List.range 32).filter fun m =>
    (old.enabled (64 + m) || new.enabled (64 + m)) && decide (old.mapCfg m ≠ new.mapCfg m)).map (64 + ·)

/-- The universes that no map names any longer are no longer tracked. -/
def State.dropUniverses (s : State) : State :=
  { s with ingress := { s.ingress with universes := s.ingress.universes.filter fun u => s.mappedUniverses.contains u.num } }

/-- R232: a change of MASTER_BRIGHTNESS steps or starts a ramp from the value in use. -/
def State.brighten (s : State) : State :=
  let n := s.param P.BRIGHT_RAMP_TICKS
  let v := s.param P.MASTER_BRIGHTNESS
  { s with anvil := { s.anvil with
      brightFrom := s.anvil.bright, brightTo := v, rampN := n, rampK := 0, bright := if n = 0 then v else s.anvil.bright } }

/-- R308: the writes that a change of a strand's rate queues. -/
def State.strandChanged (old s : State) (n : Nat) : State :=
  if old.rateCode n ≠ s.rateCode n ∧ s.isNsp n then s.queueComps n else s

/-- R284: a commit changed the H_BP of an NSP strand. -/
def hBpChanged (old s : State) : Bool := allStrands.any fun n => s.isNsp n && decide (old.hBp n ≠ s.hBp n)

/-- A table over base `d` as the entries by which it differs from base `e`: its content stays. -/
def rebase (d e : Nat → Nat) (m : SMap Nat) : SMap Nat := (List.range 4096).foldl (fun t i => SMap.set e t i (SMap.get d m i)) []

/-- R247: the staging and accepted copies of table `t` keep their entries while its base changes from that of `old`. -/
def State.rebaseCopies (s old : State) (t : Nat) : State :=
  let f := fun (q : Nat × SMap Nat) => if q.1 = t then (t, rebase (old.tableBase t) (s.tableBase t) q.2) else q
  { s with anvil := { s.anvil with stagedTables := s.anvil.stagedTables.map f, acceptedTables := s.anvil.acceptedTables.map f } }

/-- The parameters from which tables 1 and 2 are generated. -/
def State.tableParams (s : State) : State :=
  { s with anvil := { s.anvil with pqWhite := s.param P.PQ_WHITE, hlgGamma := s.param P.HLG_GAMMA } }

/-- R248: table 1 or 2 is generated anew and replaces what was loaded. -/
def State.regenerate (s : State) (t : Nat) : State :=
  ((s.tableParams.rebaseCopies s t).setTableMap t []).raise Ev.TABLE_SWITCH

/-- The effects of a commit beside the values themselves; `old` is the state before it. -/
def State.commitEffects (s old : State) (recs : List (Nat × List Byte)) : State :=
  let ch := changes old recs
  let s := recs.foldl (fun s q => s.loadParamReg q.1) s
  let s := if ch P.PORT_A_SPEED ∨ ch P.FEC_A then s.retrain .a else s
  let s := if ch P.PORT_B_SPEED ∨ ch P.FEC_B then s.retrain .b else s
  let s := if ch P.SV_MODE then s.retrain .sv else s
  let s := if changesIn old recs P.IP_MODE P.IPV4_GW then s.reloadIp false else s
  let s := if changesIn old recs P.SV_IP_MODE P.SV_IPV4_GW then s.reloadIp true else s
  let s := if ch P.PPS_IN_MODE then s.releasePps else s
  let s := if ch P.DOMAIN_PRIMARY then s.renumber false else s
  let s := if ch P.DOMAIN_SECONDARY then s.renumber true else s
  let s := if ch P.CTRL_CH1_ENABLE ∧ !s.paramOn P.CTRL_CH1_ENABLE then s.closeChannel .c1 else s
  let s := if ch P.CTRL_CH2_ENABLE ∧ !s.paramOn P.CTRL_CH2_ENABLE then s.closeChannel .c2 else s
  let s := (freshStreams old s ++ freshMaps old s).foldl State.startAfresh s
  let s := if changesIn old recs (P.SACN_MAP 0) (P.SACN_MAP 31) then s.dropUniverses.rehandDmx old else s
  let s := if ch P.SACN_MERGE then s.rehandDmx s else s
  let s := if changesIn old recs (P.STREAM 0) (P.SACN_MAP 31) ∨ ch P.SV_PIXEL_EN then s.syncGroups old else s
  let s := if changesIn old recs P.FS_DEPTH P.FS_WINDOW_H then s.clearRing else s
  let s := if ch P.MASTER_BRIGHTNESS then s.brighten else s
  let s := if ch P.PQ_WHITE then s.regenerate 1 else s
  let s := if ch P.HLG_GAMMA then s.regenerate 2 else s
  let s := allStrands.foldl (fun s n => if ch (P.STRAND_CFG n) then State.strandChanged old s n else s) s
  let s := if ch P.DRV_WDT_MS ∨ ch P.DRV_WDT_ACTION ∨ hBpChanged old s then s.overNsp State.queueWdt else s
  let s := if s.streamOn ∧ old.streamOn = false then { s with jnl := { s.jnl with streamNext := s.jnl.next, skipped := 0 } } else s
  if ch P.SHADOW_FLAVOUR then { s with red := { s.red with flavour := if s.paramOn P.SHADOW_FLAVOUR then .warm else .hot } } else s

/-- R254: ANVIL_BYPASS is 0 outside SERVICE, also when a commit that SERVICE accepted applies at or after the tick that leaves
it. -/
def State.bypassRests (s : State) : State := if s.mode = .service then s else s.setParamN P.ANVIL_BYPASS 0

/-- R403, R367: the values of a commit become the live ones, with their effects; those of a timing wait for tick T
(R551), which R82 counts from this tick. -/
def State.applyCommit (s : State) (recs : List (Nat × List Byte)) : State :=
  let old := s
  let now := recs.filter fun q => !retimeIds.contains q.1
  let s := (now.foldl (fun s q => s.setParam q.1 q.2) s).bypassRests
  let s := s.commitEffects old now
  if old.startsRetime recs then
    { s with hearth := { s.hearth with retime := some (s.retimeAt (old.timingBase.timingWith recs) (s.hearth.k + 3)) } }
  else s

/-! ### Maps (R222, R223) -/

/-- R223: the key to which a record of a plane moves when strand with base `b` goes from `p` to `q` pixels. -/
def movedKey (b p q k : Nat) : Option Nat :=
  if k < b + p then (if k < b + q then some k else none) else some (k - p + q)

/-- R223: move the records of a plane; new pixels get the identity record. -/
def Plane.move (pl : Plane) (isB : Bool) (b p q : Nat) : Plane :=
  let dflt := fun (k : Nat) => ({ pl with recs := [] } : Plane).record isB k
  let kept : SMap Nat := pl.recs.foldl (fun m r =>
    match movedKey b p q r.1 with
    | some k => SMap.set dflt m k r.2
    | none => m) []
  { pl with recs := (List.range (q - p)).foldl (fun m i => SMap.set dflt m (b + p + i) identityRecord) kept }

/-- R477: a store of the bank is given up: its response ends ABORTED. -/
def State.abortBankStore (s : State) : State :=
  if s.work.bankNew.isSome then
    { s with work := { s.work with bankNew := none } }.completeWaiting fun w =>
      if w.why = Wait.bankStore then some (Status.ABORTED, []) else none
  else s

/-- MAP_SWITCH: R222, R223: the accepted map of a strand becomes the running one. -/
def State.switchMap (s : State) (n : Nat) : State :=
  match s.anvil.acceptedMaps.find? fun q => decide (q.1 = n) with
  | none => s
  | some q =>
    let m := q.2
    let b := s.recordBase n
    let p := (s.map n).pixels
    let moves := decide (p ≠ m.pixels)
    let v := s.anvil
    let v := { v with
      maps := SMap.set (fun _ => emptyMap) v.maps n m
      acceptedMaps := v.acceptedMaps.eraseP fun q => decide (q.1 = n)
      calMoved := v.calMoved || moves
      planeA := if moves then v.planeA.move false b p m.pixels else v.planeA
      planeB := if moves then v.planeB.move true b p m.pixels else v.planeB }
    let s := { s with anvil := v }
    s.abortBankStore.raiseAt Ev.MAP_SWITCH n

/-! ### Tables and planes (R244, R247, R323, R332) -/

/-- What an entry of table `id` reads as that its store does not list. -/
def State.tableDefault (s : State) (id : Nat) : Nat → Nat :=
  if id < 0x10 then s.tableBase id else if id < 0x20 then fun _ => 0x8000 else fun _ => 0

/-- The active content of table `id`. -/
def State.activeTable (s : State) (id : Nat) : SMap Nat :=
  if id < 0x10 then s.tableMap id
  else if id < 0x20 then
    (s.lamp.track.filter fun q => decide (q.1 / 64 = id - 0x10)).map fun q => (q.1 % 64, q.2)
  else s.lamp.hostTemp

/-- Replace the active content of table `id`. -/
def State.putTable (s : State) (id : Nat) (m : SMap Nat) : State :=
  if id < 0x10 then s.setTableMap id m
  else if id < 0x20 then
    let t := id - 0x10
    let rest := s.lamp.track.filter fun q => decide (q.1 / 64 ≠ t)
    { s with lamp := { s.lamp with track := m.foldl (fun l q => SMap.set (fun _ => 0x8000) l (t * 64 + q.1) q.2) rest } }
  else { s with lamp := { s.lamp with hostTemp := m, hostTempMs := s.upMs } }

/-- TABLE_SWITCH: R247: the accepted table replaces the active one. -/
def State.switchTable (s : State) (id : Nat) : State :=
  match s.anvil.acceptedTables.find? fun q => decide (q.1 = id) with
  | none => s
  | some q =>
    let s := { s with anvil := { s.anvil with acceptedTables := s.anvil.acceptedTables.eraseP fun q => decide (q.1 = id) } }
    (s.putTable id q.2).raise Ev.TABLE_SWITCH

/-- CAL_SWITCH: R244, R442: the inactive plane becomes active; a standby whose plane differs from the record's becomes
stale. -/
def State.switchPlane (s : State) (crc : Nat) : State :=
  let differs := decide (s.mode = .shadow) && decide (s.planeCrc (!s.anvil.activeB) ≠ crc)
  let s := { s with anvil := { s.anvil with
      activeB := !s.anvil.activeB, staging := false, calPending := false, calMoved := false } }.raise Ev.CAL_SWITCH
  if differs then s.setStale else s

/-! ### Layers, marks, plays (R195 to R208) -/

/-- R202, R208: LAYER_SET takes effect. -/
def State.applyLayer (s : State) (r : LayerReq) : State :=
  if r.layer = 3 then { s with fs := { s.fs with alpha3 := r.alpha, raiseCmd := r.raise_ } }
  else
    s.setLayer r.layer { s.layer r.layer with
      enable := r.enable, alpha := r.alpha, slotMask := r.slotMask, x := r.x, y := r.y
      front := if r.flip then r.back else r.front, back := if r.flip then r.front else r.back }

/-- R195: MARK_SET takes effect: the old mark's parts are let go, and those chosen at or after the marked frame are
retained. -/
def State.applyMark (s : State) (r : MarkReq) : State :=
  let t := s.stream r.stream
  let t := if r.clear then { t with mark := none, parts := t.parts.map fun (p : Part) => { p with byMark := false } }
    else
      { t with
        mark := some { frame := r.frame, pin := r.pin, pinDropSeen := false }
        parts := t.parts.map fun (p : Part) => { p with byMark := p.chosen && !laterFrame p.v1 r.frame p.frame } }
  (s.setStream r.stream (t.setPlay none)).settle r.stream

/-- R198: a play of the loop begins, when the mark is still valid. -/
def State.applyRewind (s : State) (i : Nat) : State :=
  let t := s.stream i
  if t.mark.isSome then s.setStream i ((t.setPlay none).setPlay (some 0)) else s

/-- R27: a staged change takes effect. -/
def State.applyChange (s : State) (c : Change) : State :=
  match c with
  | .commit recs _ => s.applyCommit recs
  | .mapSwitch n => s.switchMap n
  | .tableSwitch id => s.switchTable id
  | .calSwitch crc => s.switchPlane crc
  | .layer r => s.applyLayer r
  | .mark r => s.applyMark r
  | .rewind i => s.applyRewind i

/-- The response payload of an applied change (R209, R408). -/
def State.changeReply (s : State) (c : Change) : List Byte :=
  match c with
  | .commit recs _ => beBytes 2 recs.length ++ List.replicate 6 0 ++ beBytes 8 s.hearth.lastTickNs
  | .mark r => beBytes 4 r.frame
  | _ => []

/-- R367: the COMMIT entry of an applied commit: how many values, and the channel that asked. -/
def State.journalCommit (s : State) (id : Nat) (c : Change) : State :=
  match c with
  | .commit recs _ =>
    let chan := match s.ctrl.waiting.find? fun w => decide (w.why = .change id) with
      | some w => w.chan.index
      | none => 0
    s.emit Src.CP Kind.CONFIG Code.COMMIT (recs.length % 65536 * 2 ^ 48 + chan * 2 ^ 40)
  | _ => s

/-- A staged change applies at this tick, and its response completes. -/
def State.applyStaged (s : State) (g : Staged) : State :=
  let s := (s.applyChange g.change).journalCommit g.id g.change
  let reply := s.changeReply g.change
  s.completeWaiting fun w => if w.why = .change g.id then some (Status.OK, reply) else none

/-- R81: a commit that starts a retime waits while tick T of a pending retime falls at this tick, and until its tick U+1. -/
def State.heldBack (s : State) (g : Staged) : Bool :=
  match g.change with
  | .commit recs _ =>
    s.startsRetime recs && (decide (s.hearth.gap ≠ 0) || (match s.hearth.retime with
      | some r => decide (r.tIndex ≤ s.hearth.k)
      | none => false))
  | _ => false

/-- R27: the recorded changes apply, in the order of their acceptance (R403). -/
def State.applyRecorded (s : State) : State :=
  let due := s.ctrl.staged.filter fun g => g.recorded && !s.heldBack g
  let s := { s with ctrl := { s.ctrl with staged := s.ctrl.staged.filter fun g => !(g.recorded && !s.heldBack g) } }
  due.foldl State.applyStaged s

/-- R205: a buffer is bound while a layer names it, or a LAYER_SET that waits for its tick. -/
def State.bound (s : State) (h : Nat) : Bool :=
  decide (s.fs.layer1.front = h) || decide (s.fs.layer1.back = h) || decide (s.fs.layer2.front = h) || decide (s.fs.layer2.back = h) ||
    s.ctrl.staged.any fun g =>
      match g.change with
      | .layer q => decide (q.layer ≠ 3) && (decide (q.front = h) || decide (q.back = h))
      | _ => false

/-- R205: buffers whose release was deferred and that no layer binds any longer are released. -/
def State.releaseBuffers (s : State) : State :=
  let out := s.fs.buffers.filter fun b => b.freeDeferred && !s.bound b.handle
  let s := { s with fs := { s.fs with buffers := s.fs.buffers.filter fun b => !(b.freeDeferred && !s.bound b.handle) } }
  out.foldl (fun s _ => s.raise Ev.BUFFER_RELEASED) s

end Sys2Proof.Machine
end

