-- ==== Sys2Proof/Machine/Store.lean ====
section
/-! DEFINITION. Settings, calibration banks, images and firmware updates: what is written to the NVM and the flash
(12_persistence_update_access.md, R450 to R478). -/

namespace Sys2Proof.Machine

/-! ### The NVM logs (R452, R453, R468) -/

/-- R452: a record as it stands in the NVM: SEQ, TYPE, LEN, the body, and the CRC-32C of the first 60 bytes. Body bytes that the
spec does not name are 0 (log 139). -/
def LogRecord.bytes (r : LogRecord) : List Byte :=
  let head := beBytes 4 r.seq ++ beBytes 2 r.type ++ beBytes 2 r.body.length ++ (r.body ++ List.replicate (52 - r.body.length) 0)
  head ++ beBytes 4 (crc32c head)

/-- R452, R453: what a record is in force for: its TYPE, and the KIND or ENTRY of an IMAGE or LIBRARY record (log 139). -/
def LogRecord.key (r : LogRecord) : Nat × Nat := (r.type, if r.type = 2 ∨ r.type = 3 then byteAt r.body 0 else 0)

/-- Records in a sector of 4 KB. -/
def logSlots : Nat := 64

/-- R452: the record in force for a key: the one with the highest SEQ, which is the last appended. -/
def NvmLog.inForce (l : NvmLog) (k : Nat × Nat) : Option LogRecord := (l.recs.filter fun r => decide (r.key = k)).getLast?

/-- R452: append a record to a log of `sectors` sectors. -/
def NvmLog.put (l : NvmLog) (sectors type : Nat) (body : List Byte) : NvmLog :=
  { recs := l.recs ++ [⟨l.next, (l.seq + 1) % 2 ^ 32, type, body⟩], next := (l.next + 1) % (logSlots * sectors)
    seq := (l.seq + 1) % 2 ^ 32 }

/-- R452: the next sector is erased for reuse; the records in force that it holds are first written anew. -/
def NvmLog.reuse (l : NvmLog) (sectors : Nat) : NvmLog :=
  let ahead := (l.next / logSlots + 1) % sectors
  let old := l.recs.filter fun r => decide (r.slot / logSlots = ahead)
  let kept := old.filter fun r => decide (l.inForce r.key = some r)
  let l := kept.foldl (fun l r => l.put sectors r.type r.body) l
  { l with recs := l.recs.filter fun r => !(old.contains r) }

/-- R452: append a record. The next sector is made ready for reuse while a quarter of the current one is still free (log 139). -/
def NvmLog.append (l : NvmLog) (sectors type : Nat) (body : List Byte) : NvmLog :=
  let l := l.put sectors type body
  if l.next % logSlots = 48 then l.reuse sectors else l

/-- A word of a log; none where no record stands. -/
def NvmLog.word (l : NvmLog) (o : Nat) : Option Nat :=
  (l.recs.find? fun r => decide (r.slot = o / 64)).map fun r => field r.bytes (o % 64 / 4 * 4) 4

/-- R453: append to the boot log. -/
def Nvm.logBootRecord (n : Nvm) (type : Nat) (body : List Byte) : Nvm := { n with bootLog := n.bootLog.append 8 type body }

/-- R453: the BOOT record of what is in force. -/
def Nvm.logBoot (n : Nvm) : Nvm :=
  n.logBootRecord 1 (beBytes 1 (b2n n.activeSlotB) ++ beBytes 1 n.trialState ++ beBytes 1 (b2n n.trialSlotB) ++
    beBytes 1 (b2n n.activeBankB) ++ beBytes 4 n.secFloor)

/-- R453: an IMAGE record. -/
def Nvm.logImage (n : Nvm) (kind : Nat) (f : FlashImage) : Nvm :=
  n.logBootRecord 2 (beBytes 1 kind ++ [0, 0, 0] ++ beBytes 4 f.length ++ beBytes 4 f.crc)

/-- R453: a LIBRARY record. -/
def Nvm.logLibrary (n : Nvm) (x : LibEntry) : Nvm :=
  n.logBootRecord 3 (beBytes 1 x.entry ++ beBytes 1 (b2n x.rgba16) ++ beBytes 2 x.width ++ beBytes 2 x.height ++ [0, 0] ++ beBytes 4 x.crc)

/-- R468: append to the checkpoint log. -/
def Nvm.logCkpt (n : Nvm) (type : Nat) (body : List Byte) : Nvm := { n with ckptLog := n.ckptLog.append 16 type body }

/-- R468: a CKPT_HEAD record. -/
def Nvm.logHead (n : Nvm) (id : Nat) (digest : List Byte) : Nvm := n.logCkpt 0x10 (beBytes 4 id ++ digest)

/-- R468: a CKPT_STATE record. -/
def Nvm.logState (n : Nvm) (c : Checkpoint) : Nvm :=
  n.logCkpt 0x11 (beBytes 4 c.id ++ beBytes 4 c.blocksDone ++ beBytes 4 c.nextOffset ++ beBytes 4 c.crc ++ c.tag)

/-- R468: a CAL_CKPT record of operation BANK: CONTENT_CRC, BYTES_DONE, and the CRC of the bytes written so far. -/
def Nvm.logCal (n : Nvm) (content done : Nat) (bytes : List Byte) : Nvm :=
  n.logCkpt 0x12 ([0, 0, 0, 0] ++ beBytes 4 content ++ beBytes 4 done ++ beBytes 4 (crc32c (bytes.take done)))

/-- R468, R476: the CAL_CKPT records of the 64 KB steps from `a` + 1 on, `k` of them. -/
def Nvm.logCals (n : Nvm) (content : Nat) (bytes : List Byte) (a k : Nat) : Nvm :=
  (List.range k).foldl (fun n i => n.logCal content ((a + i + 1) * 65536) bytes) n

/-- Complete the first waiting response for which `f` holds. -/
def State.completeFirst (s : State) (f : Wait → Bool) (status : Nat) (payload : List Byte) : State :=
  match s.ctrl.waiting.find? fun w => f w.why with
  | some x => s.completeWaiting fun w => if w = x then some (status, payload) else none
  | none => s

/-- R492: RESET_CAUSE of a reset that a command asked for. -/
def causeActivate : Nat := 2
def causeFactory : Nat := 3
def causeConfirm : Nat := 4
def causeScan : Nat := 5

/-- R457, R471: the device enters reset 100 ms after the response, or earlier when a reset is already due. -/
def State.dueReset (s : State) (cause : Nat) : State :=
  { s with work := { s.work with resetDue := some (s.work.resetDue.getD (cause, s.up + 100000000)) } }

/-! ### STORE and FACTORY_RESET (R454 to R457) -/

/-- The IDs of the parameters of a group that PARAM_SET may change. -/
def writableIds (group : Nat) : List Nat :=
  ((paramRowsOf group).filter fun r => decide (r.kind ≠ ParamKind.readOnly)).flatMap fun r =>
    (List.range r.count).map fun i => r.base + i

/-- R454: the record area of a settings copy: one record for each writable parameter, in ascending ID order. -/
def State.settingsRecords (s : State) : List (Nat × List Byte) :=
  ((List.range 10).flatMap fun g => (writableIds (g + 1)).mergeSort fun a b => decide (a ≤ b)).map fun id => (id, s.paramBytes id)

/-- R454: bytes of the record area. -/
def recordsLength (recs : List (Nat × List Byte)) : Nat :=
  (recs.map fun q => 4 + (q.2.length + 3) / 4 * 4).foldl (· + ·) 0

/-- R455: STORE writes the copy that is not valid, else the one with the lower SEQ; answers whether that is B, and the SEQ. -/
def Nvm.storeTarget (n : Nvm) : Bool × Nat :=
  match n.copyA, n.copyB with
  | none, none => (false, 1)
  | none, some b => (false, b.seq + 1)
  | some a, none => (true, a.seq + 1)
  | some a, some b => if a.seq < b.seq then (false, b.seq + 1) else (true, a.seq + 1)

/-- R455: STORE: the copy is erased, and what it will hold is taken. -/
def bodyStore : Body := fun s _ =>
  if s.work.storing.isSome ∨ s.work.resetDue.map Prod.fst = some causeFactory then (s, .plain Status.BUSY)
  else
    let t := s.nvm.storeTarget
    let n := if t.1 then { s.nvm with copyB := none } else { s.nvm with copyA := none }
    ({ s with nvm := n, work := { s.work with storing := some (t.1, ⟨t.2, s.sys.fwVersion, s.settingsRecords⟩) } }, .wait .store)

def execStore (r : Request) (s : State) : Host.Outcome State Fault Refusal := .next (s.mailbox Op.STORE r bodyStore)

/-- STORE_COMPLETE: R455: the header is written, and the response completes. -/
def execStoreComplete (s : State) : Host.Outcome State Fault Refusal :=
  match s.work.storing with
  | none => .next s
  | some (b, c) =>
    let n := if b then { s.nvm with copyB := some c } else { s.nvm with copyA := some c }
    let s := ({ s with nvm := n, work := { s.work with storing := none } } : State).count Reg.STORES
    .next (s.completeFirst (fun w => decide (w = Wait.store)) Status.OK
      (beBytes 4 c.seq ++ beBytes 1 (b2n b) ++ [0, 0, 0] ++ beBytes 4 (recordsLength c.records)))

/-- R457: FACTORY_RESET erases the settings headers, the access records, or both; the device resets 100 ms later. -/
def bodyFactoryReset : Body := fun s r =>
  let b := byteAt r.payload 0
  if b % 4 = 0 then (s, .plain Status.BAD_PARAM)
  else
    let n := if bit b 0 then { s.nvm with copyA := none, copyB := none } else s.nvm
    let n := if bit b 1 then { n with level := 0, key := none, pwSalt := [], pwDigest := none, pwRights := 0, permit := false } else n
    (({ s with nvm := n } : State).dueReset causeFactory, .plain Status.OK)

def execFactoryReset (r : Request) (s : State) : Host.Outcome State Fault Refusal :=
  .next (s.mailbox Op.FACTORY_RESET r bodyFactoryReset)

/-! ### Packages (R461 to R463) -/

/-- R461: the manifest in 256 bytes. -/
def parseManifest (p : List Byte) : Manifest :=
  { kind := byteAt p 5, mirrorVersion := byteAt p 6, release := field p 8 8, security := field p 16 4
    fwVersion := field p 20 4, blocks := field p 24 4, packageLength := field p 28 4, baseDigest := (p.drop 32).take 48
    baseBlocks := field p 80 4, imageDigest := (p.drop 84).take 48, bytes := p.take 256 }

/-- R462: the manifest verifies. -/
def Manifest.verifies (m : Manifest) : Bool :=
  decide (field m.bytes 0 4 = 0x4F5A4450) && decide (byteAt m.bytes 4 = 1) && decide (m.kind ≤ 1) &&
    Config.signatureOk (m.bytes.take 160) (m.bytes.drop 160)

/-- R459: the slot's image has the manifest's digest, and the manifest verifies. -/
def FwSlot.valid (f : FwSlot) : Bool := f.manifest.verifies && decide (sha384 f.blocks.flatten = f.manifest.imageDigest)

/-- R463: what the operations of a record append; none when one is malformed. -/
def runOps (base : List Byte) (delta : Bool) : Nat → List Byte → Option (List Byte)
  | _, [] => some []
  | 0, _ => none
  | fuel + 1, p =>
    let n := field p 2 2
    let opc := byteAt p 0
    if p.length < 4 ∨ n = 0 ∨ 4096 < n then none
    else if opc = 1 ∧ delta then
      let src := field p 4 4
      if p.length < 8 ∨ base.length < src + n then none
      else (runOps base delta fuel (p.drop 8)).map fun rest => (base.drop src).take n ++ rest
    else if opc = 2 then
      let len := 4 + (n + 3) / 4 * 4
      if p.length < len then none
      else (runOps base delta fuel (p.drop len)).map fun rest => (p.drop 4).take n ++ rest
    else none

/-- R463: the longest record: 4,096 ADD operations of one byte each. -/
def maxRecord : Nat := 12 + 4096 * 8

/-- R463: is the header of the record in progress well formed? -/
def recordHeadOk (m : Manifest) (done start : Nat) (p : List Byte) : Bool :=
  let len := field p 4 4
  decide (field p 0 4 = done) && decide (done < m.blocks) && decide (16 ≤ len) && decide (len ≤ maxRecord) &&
    decide (len % 4 = 0) && decide (start + len ≤ m.packageLength)

/-- The running image, from which COPY takes its bytes. -/
def State.baseBytes (s : State) (m : Manifest) : List Byte := s.work.runningBlocks.flatten.take (m.baseBlocks * 4096)

/-- R463, R466: the output block of a complete record, or the status that refuses it. -/
def State.buildBlock (s : State) (m : Manifest) (p : List Byte) : Except Nat (List Byte) :=
  match runOps (s.baseBytes m) (decide (m.kind = 1)) 4096 (p.drop 12) with
  | some out => if out.length ≠ 4096 then .error Status.BAD_PARAM
                else if crc32c out ≠ field p 8 4 then .error Status.CHECK_FAILED else .ok out
  | none => .error Status.BAD_PARAM

/-- R467: the SHA-384 chaining state over whole blocks, as 64 bytes. -/
def chainingState (p : List Byte) : List Byte :=
  ((shaBlocks 8 (p.length / 128) p).foldl (shaBlock sha512Rot sha512K) sha384H).flatMap fun w => beBytes 8 w.toNat

/-- R467: STATE_TAG. -/
def stateTag (image : List Byte) : List Byte := (sha384 (chainingState image)).take 32

/-- R467: the checkpoint of the blocks programmed so far. -/
def State.writeCheckpoint (s : State) (m : Manifest) : State :=
  let image := s.nvm.partBlocks.flatten
  let c : Checkpoint :=
    { id := s.nvm.lastCkptId, manifestDigest := sha384 m.bytes, blocksDone := s.nvm.partBlocks.length
      nextOffset := s.work.nextOffset, crc := crc32c image, tag := stateTag image }
  ({ s with nvm := { s.nvm with ckpt := some c }.logState c } : State).count Reg.CHECKPOINTS

/-- R467, R469: a CKPT_HEAD with CKPT_ID = 0. -/
def State.eraseCheckpoint (s : State) : State :=
  ({ s with nvm := { s.nvm with ckpt := none, ckptHead := none }.logHead 0 [] } : State).count Reg.CHECKPOINTS

/-! ### Updating (R464 to R474) -/

/-- The target slot is the one that is not ACTIVE_SLOT. -/
def Nvm.setTarget (n : Nvm) (f : Option FwSlot) : Nvm := if n.activeSlotB then { n with slotA := f } else { n with slotB := f }

/-- The response of UPD_OPEN and UPD_BLOCK. -/
def State.updReply (s : State) : List Byte := beBytes 4 s.work.nextOffset ++ beBytes 4 s.nvm.partBlocks.length

/-- R465: the first step that fails. -/
def State.judgeOpen (s : State) (m : Manifest) (resume : Bool) : Option Nat :=
  let run := s.work.running
  let release := (run.map (·.release)).getD 0
  let digest := run.map (·.imageDigest)
  if s.nvm.trialState ≠ 0 ∨ s.work.upd = .verifying then some Status.BUSY
  else if m.verifies = false then some Status.SIGNATURE_FAILED
  else if m.blocks = 0 ∨ 2047 < m.blocks ∨ m.packageLength < 256 + 20 * m.blocks ∨
      (m.kind = 1 ∧ run.map (·.blocks) ≠ some m.baseBlocks) then some Status.BAD_PARAM
  else if m.security < s.nvm.secFloor ∨ m.release < release then some Status.VERSION_LOWER
  else if m.release = release ∧ digest ≠ some m.imageDigest then some Status.VERSION_CONFLICT
  else if m.kind = 1 ∧ digest ≠ some m.baseDigest then some Status.CHECK_FAILED
  else if resume then
    match s.nvm.ckpt with
    | none => some Status.BAD_PARAM
    | some c =>
      let image := (s.nvm.partBlocks.take c.blocksDone).flatten
      if c.manifestDigest ≠ sha384 m.bytes then some Status.BAD_PARAM
      else if crc32c image ≠ c.crc ∨ stateTag image ≠ c.tag then some Status.CHECK_FAILED
      else none
  else none

/-- R465, R467, R470: UPD_OPEN. -/
def bodyUpdOpen : Body := fun s r =>
  let resume := bit (byteAt r.payload 0) 0
  let m := parseManifest ((r.payload.drop 4).take 256)
  match s.judgeOpen m resume with
  | some st => (s, .plain st)
  | none =>
    let s := { s with work := { s.work with upd := .receiving, manifest := some m, partial_ := [] } }
    let s : State := match resume, s.nvm.ckpt with
      | true, some c =>
        { s with
          nvm := { s.nvm with partBlocks := s.nvm.partBlocks.take c.blocksDone }
          work := { s.work with nextOffset := c.nextOffset } }
      | _, _ =>
        let s := s.eraseCheckpoint
        let id := s.nvm.lastCkptId % (2 ^ 32 - 1) + 1
        ({ s with
          nvm := { s.nvm.setTarget none with partBlocks := [], lastCkptId := id, ckptHead := some (sha384 m.bytes) }.logHead id
            (sha384 m.bytes)
          work := { s.work with nextOffset := 256 } } : State).count Reg.CHECKPOINTS
    (s, .done Status.OK s.updReply)

def execUpdOpen (r : Request) (s : State) : Host.Outcome State Fault Refusal := .next (s.mailbox Op.UPD_OPEN r bodyUpdOpen)

/-- R466: a record is discarded: NEXT_OFFSET returns to its first byte. -/
def State.dropRecord (s : State) (start : Nat) : State := { s with work := { s.work with nextOffset := start, partial_ := [] } }

/-- R466: take package bytes, record by record; answers the status of the first record that is refused. -/
def State.takeBytes (m : Manifest) : Nat → State → State × Nat
  | 0, s => (s, Status.OK)
  | fuel + 1, s =>
    let p := s.work.partial_
    let start := s.work.nextOffset - p.length
    if p.isEmpty then (s, Status.OK)
    else if 8 ≤ p.length ∧ recordHeadOk m s.nvm.partBlocks.length start p = false then (s.dropRecord start, Status.BAD_PARAM)
    else if m.blocks ≤ s.nvm.partBlocks.length then (s.dropRecord start, Status.BAD_PARAM)
    else if p.length < 12 ∨ p.length < field p 4 4 then (s, Status.OK)
    else
      match s.buildBlock m (p.take (field p 4 4)) with
      | .error st => (s.dropRecord start, st)
      | .ok out =>
        let rest := p.drop (field p 4 4)
        let whole := { s with
          nvm := { s.nvm with partBlocks := s.nvm.partBlocks ++ [out] }
          work := { s.work with partial_ := [], nextOffset := start + field p 4 4 } }
        let n := whole.nvm.partBlocks.length
        let t := if n % 16 = 0 ∨ n = m.blocks then whole.writeCheckpoint m else whole
        State.takeBytes m fuel { t with work := { t.work with partial_ := rest, nextOffset := s.work.nextOffset } }

/-- R466: UPD_BLOCK. Outside RECEIVING it is refused (log 27). -/
def bodyUpdBlock : Body := fun s r =>
  match s.work.upd, s.work.manifest with
  | .receiving, some m =>
    let off := field r.payload 0 4
    let data := (r.payload.take r.len.toNat).drop 4
    if s.work.nextOffset < off then (s, .plain Status.BAD_PARAM)
    else
      let fresh := data.drop (s.work.nextOffset - off)
      let s := { s with work := { s.work with
          partial_ := s.work.partial_ ++ fresh, nextOffset := s.work.nextOffset + fresh.length } }
      let out := State.takeBytes m 64 s
      if out.2 = Status.OK then (out.1, .done Status.OK out.1.updReply) else (out.1, .plain out.2)
  | _, _ => (s, .plain Status.DENIED_MODE)

def execUpdBlock (r : Request) (s : State) : Host.Outcome State Fault Refusal := .next (s.mailbox Op.UPD_BLOCK r bodyUpdBlock)

/-- R469: UPD_FINISH starts the read-back. -/
def bodyUpdFinish : Body := fun s _ =>
  match s.work.upd, s.work.manifest with
  | .receiving, some m =>
    if s.nvm.partBlocks.length ≠ m.blocks then (s, .plain Status.BAD_PARAM)
    else ({ s with work := { s.work with upd := .verifying } }, .wait .verify)
  | _, _ => (s, .plain Status.BAD_PARAM)

def execUpdFinish (r : Request) (s : State) : Host.Outcome State Fault Refusal := .next (s.mailbox Op.UPD_FINISH r bodyUpdFinish)

/-- VERIFY_COMPLETE: R469: the image is READY with its slot header written, or the update is given up. -/
def execVerifyComplete (s : State) : Host.Outcome State Fault Refusal :=
  match s.work.upd, s.work.manifest with
  | .verifying, some m =>
    if sha384 s.nvm.partBlocks.flatten = m.imageDigest then
      let s := { s with
        nvm := s.nvm.setTarget (some ⟨m, s.nvm.partBlocks⟩), work := { s.work with upd := .ready } }
      .next (s.completeFirst (fun w => decide (w = Wait.verify)) Status.OK [])
    else
      let s := ({ s with work := { s.work with upd := .none, manifest := none } } : State).eraseCheckpoint
      .next (s.completeFirst (fun w => decide (w = Wait.verify)) Status.CHECK_FAILED [])
  | _, _ => .next s

/-- R471: UPD_ACTIVATE arms the trial; the device resets 100 ms later. -/
def bodyUpdActivate : Body := fun s _ =>
  if s.work.upd ≠ .ready then (s, .plain Status.DENIED_MODE)
  else
    (({ s with nvm := { s.nvm with trialSlotB := !s.nvm.activeSlotB, trialState := 1 }.logBoot } : State).dueReset causeActivate, .plain Status.OK)

def execUpdActivate (r : Request) (s : State) : Host.Outcome State Fault Refusal :=
  .next (s.mailbox Op.UPD_ACTIVATE r bodyUpdActivate)

/-- R464, R473: the trial image is confirmed. The target slot is then the other one, with what it holds, and the state is
that of the checkpoint. -/
def State.confirm (s : State) : State :=
  let sec := (s.work.running.map (·.security)).getD 0
  let free : Option FwSlot := if s.nvm.trialSlotB then s.nvm.slotA else s.nvm.slotB
  ({ s with
    nvm := { s.nvm with
      activeSlotB := s.nvm.trialSlotB, secFloor := max s.nvm.secFloor sec, trialState := 0
      partBlocks := (free.map FwSlot.blocks).getD [] }.logBoot
    work := { s.work with upd := if s.nvm.ckptHead.isSome then .suspended else .none } } : State).raise Ev.CONFIRMED

/-- R473: UPD_CONFIRM. -/
def bodyUpdConfirm : Body := fun s _ =>
  if s.work.upd ≠ .trial then (s, .plain Status.DENIED_MODE) else (s.confirm, .plain Status.OK)

def execUpdConfirm (r : Request) (s : State) : Host.Outcome State Fault Refusal :=
  .next (s.mailbox Op.UPD_CONFIRM r bodyUpdConfirm)

/-- AUTO_CONFIRM: R473. -/
def execAutoConfirm (s : State) : Host.Outcome State Fault Refusal :=
  if s.work.upd = .trial ∧ s.firmwareUp ∧ s.paramOn P.AUTO_CONFIRM ∧ s.work.engineFaulted = false ∧ s.sched.fatal = false ∧
      s.sys.degraded = false ∧ s.sys.dramFail = false then
    .next (s.reach (s.work.idleUp + s.param P.AUTO_CONFIRM_DELAY * 1000000000)).confirm
  else .next s

/-- R464: the encoding of the update state. -/
def UpdState.code : UpdState → Nat
  | .none => 0
  | .receiving => 1
  | .verifying => 2
  | .ready => 3
  | .trial => 4
  | .suspended => 5

/-- R466: UPD_STATUS; a suspended update shows its checkpoint. -/
def bodyUpdStatus : Body := fun s _ =>
  let two := match s.work.upd, s.nvm.ckpt with
    | .suspended, some c => beBytes 4 c.nextOffset ++ beBytes 4 c.blocksDone
    | .suspended, none => beBytes 4 256 ++ beBytes 4 0
    | .none, _ => beBytes 8 0
    | .trial, _ => beBytes 8 0
    | _, _ => s.updReply
  (s, .done Status.OK (beBytes 1 s.work.upd.code ++ [0, 0, 0] ++ two))

def execUpdStatus (r : Request) (s : State) : Host.Outcome State Fault Refusal := .next (s.mailbox Op.UPD_STATUS r bodyUpdStatus)

/-! ### CAL_STORE (R475 to R478) -/

/-- R460: pixels mapped by a bank. -/
def FlashBank.pixels (b : FlashBank) : Nat := (b.maps.map fun p => p.2.pixels).foldl (· + ·) 0

/-- R460, R223: a calibration record of a bank. -/
def FlashBank.record (b : FlashBank) (k : Nat) : Nat := SMap.get (fun _ => identityRecord) b.plane k

/-- R460: the calibration section of a bank. -/
def FlashBank.records (b : FlashBank) : List Byte := (List.range b.pixels).flatMap fun k => beBytes 16 (b.record k)

/-- R460: the maps and tables section of a bank: the strands' maps, the transfer tables, the tone table and the tracking sets. -/
def FlashBank.rest (b : FlashBank) : List Byte :=
  (allStrands.flatMap fun n => (SMap.get (fun _ => emptyMap) b.maps n).bytes) ++
    b.tables.flatMap fun t => t.2.flatMap fun e => beBytes 4 e.2

/-- R476: the content that BANK writes. -/
def FlashBank.bytes (b : FlashBank) : List Byte := b.records ++ b.rest

/-- The bank other than ACTIVE_BANK. -/
def Nvm.otherBank (n : Nvm) : Option FlashBank := if n.activeBankB then n.bankA else n.bankB
def Nvm.setOtherBank (n : Nvm) (b : Option FlashBank) : Nvm := if n.activeBankB then { n with bankA := b } else { n with bankB := b }
def Nvm.activeBank (n : Nvm) : Option FlashBank := if n.activeBankB then n.bankB else n.bankA

/-- The entries of a table, in index order. -/
def wholeTable (n : Nat) (entry : Nat → Nat) : SMap Nat := (List.range n).map fun i => (i, entry i)

/-- R460: the active content as a bank. -/
def State.bankImage (s : State) : FlashBank :=
  let b := s.anvil.activeB
  { seq := (s.nvm.activeBank.map (·.seq)).getD 0 + 1, valid := true
    plane := (List.range s.mappedPixels).foldl (fun m k => SMap.set (fun _ => identityRecord) m k ((s.plane b).record b k)) []
    maps := s.anvil.maps
    tables := (List.range 5).map (fun t => (t, wholeTable (tableSize t) (s.tableEntry t))) ++
      (List.range 16).map fun t => (0x10 + t, wholeTable 64 (s.trackEntry t)) }

/-- The row's own OP stands in the request's first byte. -/
def Request.withOp (r : Request) (op : Nat) : Request := { r with payload := BitVec.ofNat 8 op :: r.payload.drop 1 }

/-- R476, R477: BANK starts: the target bank's header is erased. How far the writing has come when it ends early is a free
value (log 28), with the checkpoint records of the way there. -/
def bodyBank : Body := fun s r =>
  let bytes := s.bankImage.bytes
  let crc := crc32c bytes
  let resume := bit (byteAt r.payload 1) 0
  let match_ := match s.nvm.calCkpt with
    | some (c, n) => decide (c = crc) && decide (n ≠ 0)
    | none => false
  if s.work.bankNew.isSome then (s, .plain Status.BUSY)
  else if resume ∧ match_ = false then (s, .plain Status.CHECK_FAILED)
  else
    let start := if resume then (s.nvm.calCkpt.map (·.2)).getD 0 / 65536 else 0
    let k := Config.freeNat s.draws % (bytes.length / 65536 + 1 - start)
    let n := { s.nvm.setOtherBank none with calCkpt := some (crc, (start + k) * 65536) }
    (({ s with
      draws := s.draws + 1
      nvm := n.logCals crc bytes start k
      work := { s.work with bankNew := some s.bankImage } } : State).countN Reg.CHECKPOINTS k, .wait .bankStore)

def execBank (r : Request) (s : State) : Host.Outcome State Fault Refusal :=
  .next (s.mailbox Op.CAL_STORE (r.withOp 0) bodyBank)

/-- BANK_STORE_COMPLETE: R476: the bank is valid and active. -/
def execBankStoreComplete (s : State) : Host.Outcome State Fault Refusal :=
  match s.work.bankNew with
  | none => .next s
  | some b =>
    let bytes := b.bytes
    let crc := crc32c bytes
    let done := (s.nvm.calCkpt.map (·.2)).getD 0 / 65536
    let left := bytes.length / 65536 - done
    let n := { s.nvm.setOtherBank (some b) with activeBankB := !s.nvm.activeBankB, calCkpt := none }
    let n := ((n.logCals crc bytes done left).logBoot).logCal crc 0 bytes
    let s := ({ s with nvm := n, work := { s.work with bankNew := none } } : State).countN Reg.CHECKPOINTS (left + 1)
    .next (s.completeFirst (fun w => decide (w = Wait.bankStore)) Status.OK (beBytes 4 bytes.length ++ beBytes 4 crc))

/-- The bytes of an image or buffer of `n` words. -/
def wordBytes (d : Nat → Nat) (m : SMap Nat) (n : Nat) : List Byte := (List.range n).flatMap fun i => beBytes 4 (SMap.get d m i)

/-- R201: 4-byte words of a buffer. -/
def Buffer.words (b : Buffer) : Nat := b.width * b.height * (if b.rgba16 then 2 else 1)

/-- Flash words after an erase. -/
def erased (n : Nat) : SMap Nat := (List.range n).map fun i => (i, 0xFFFFFFFF)

/-- R478: an area that is being written fails its check until it is done. -/
def FlashImage.erase (f : FlashImage) : FlashImage := { f with data := erased (f.length / 4) }

/-- R207: an image of the mapped pixels as a buffer of one row. -/
def State.imageBuffer (s : State) (emergency : Bool) : Buffer :=
  { handle := if emergency then 0xFFFF else 0xFFFE, width := s.mappedPixels, height := 1, rgba16 := false
    data := (List.range s.mappedPixels).foldl (fun m i =>
      SMap.set (fun _ => 0) m i (if emergency then s.emergPixel i else s.safePixel i)) []
    freeDeferred := false }

/-- R475, R478: SAFE. -/
def bodySafe : Body := fun s _ =>
  ({ s with nvm := { s.nvm with safe := s.nvm.safe.map FlashImage.erase } }, .wait (.imageWrite 1 0 (s.imageBuffer false)))

/-- R475, R478: EMERGENCY. -/
def bodyEmergency : Body := fun s _ =>
  ({ s with nvm := { s.nvm with emerg := s.nvm.emerg.map FlashImage.erase } }, .wait (.imageWrite 2 0 (s.imageBuffer true)))

def execSafe (r : Request) (s : State) : Host.Outcome State Fault Refusal :=
  .next (s.mailbox Op.CAL_STORE (r.withOp 1) bodySafe)

def execEmergency (r : Request) (s : State) : Host.Outcome State Fault Refusal :=
  .next (s.mailbox Op.CAL_STORE (r.withOp 2) bodyEmergency)

/-- R475: LIB_SAVE. -/
def bodyLibSave : Body := fun s r =>
  let e := byteAt r.payload 4
  match s.buffer? (field r.payload 2 2) with
  | none => (s, .plain Status.BAD_PARAM)
  | some b =>
    if 7 < e ∨ 1048576 < b.words then (s, .plain Status.BAD_PARAM)
    else
      ({ s with nvm := { s.nvm with library := s.nvm.library.map fun x =>
          if x.entry = e then { x with data := erased (x.width * x.height * (if x.rgba16 then 2 else 1)) } else x } },
        .wait (.imageWrite 3 e b))

def execLibSave (r : Request) (s : State) : Host.Outcome State Fault Refusal :=
  .next (s.mailbox Op.CAL_STORE (r.withOp 3) bodyLibSave)

/-- R203 to R205: BUFFER_WRITE of an overlay buffer is refused: a front buffer, either buffer of a layer whose LAYER_SET
waits for its tick, a buffer of a layer that a stream feeds, or one whose release is deferred. -/
def State.bufferLocked (s : State) (b : Buffer) : Bool :=
  let bound := fun (n : Nat) => decide ((s.layer n).front = b.handle) || decide ((s.layer n).back = b.handle)
  let waiting := fun (n : Nat) => s.ctrl.staged.any fun g =>
    match g.change with
    | .layer q => decide (q.layer = n) && (bound n || decide (q.front = b.handle) || decide (q.back = b.handle))
    | _ => false
  let fed := fun (n : Nat) => bound n && allStreams.any fun i => s.enabled i && decide (s.layerOf i = n)
  b.freeDeferred || ([1, 2].any fun n => decide ((s.layer n).front = b.handle) || waiting n || fed n)

/-- R475, R478: LIB_LOAD. -/
def bodyLibLoad : Body := fun s r =>
  let e := byteAt r.payload 4
  match s.nvm.library.find? fun x => decide (x.entry = e) && decide (x.width ≠ 0), s.buffer? (field r.payload 2 2) with
  | some x, some b =>
    if x.width ≠ b.width ∨ x.height ≠ b.height ∨ x.rgba16 ≠ b.rgba16 then (s, .plain Status.BAD_PARAM)
    else if s.bufferLocked b then (s, .plain Status.BUFFER_IN_USE)
    else (s, .wait (.imageWrite 4 e b))
  | _, _ => (s, .plain Status.BAD_PARAM)

def execLibLoad (r : Request) (s : State) : Host.Outcome State Fault Refusal :=
  .next (s.mailbox Op.CAL_STORE (r.withOp 4) bodyLibLoad)

/-- R478: the library entry that LIB_SAVE leaves. -/
def Nvm.putLibrary (n : Nvm) (x : LibEntry) : Nvm :=
  { n with library := (n.library.filter fun y => decide (y.entry ≠ x.entry)) ++ [x] }

/-- R478: an image or library transfer ends: the new state, the status and the response. -/
def State.finishImage (s : State) (op e : Nat) (b : Buffer) : State × Nat × List Byte :=
  let bytes := wordBytes (fun _ => 0) b.data b.words
  let crc := crc32c bytes
  let reply := beBytes 4 bytes.length ++ beBytes 4 crc
  let img : FlashImage := { data := b.data, length := bytes.length, crc := crc }
  match op with
  | 1 => ({ s with nvm := { s.nvm with safe := some img }.logImage 0 img }, Status.OK, reply)
  | 2 => ({ s with nvm := { s.nvm with emerg := some img }.logImage 1 img }, Status.OK, reply)
  | 3 =>
    let x : LibEntry := { entry := e, rgba16 := b.rgba16, width := b.width, height := b.height, data := b.data, crc := crc }
    ({ s with nvm := (s.nvm.putLibrary x).logLibrary x }, Status.OK, reply)
  | _ =>
    match s.nvm.library.find? fun x => decide (x.entry = e), s.buffer? b.handle with
    | some x, some c =>
      let data := wordBytes (fun _ => 0) x.data b.words
      if crc32c data ≠ x.crc then (s, Status.CHECK_FAILED, [])
      else (s.putBuffer { c with data := x.data }, Status.OK, beBytes 4 data.length ++ beBytes 4 x.crc)
    | _, _ => (s, Status.ABORTED, [])

/-- IMAGE_WRITE_COMPLETE: R475, R478: the oldest image or library transfer ends. -/
def execImageWriteComplete (s : State) : Host.Outcome State Fault Refusal :=
  match s.ctrl.waiting.find? fun w => match w.why with
      | .imageWrite _ _ _ => true
      | _ => false with
  | none => .next s
  | some x =>
    match x.why with
    | .imageWrite op e b =>
      let r := s.finishImage op e b
      .next (r.1.completeWaiting fun w => if w = x then some r.2 else none)
    | _ => .next s

/-- CAL_COPY_DONE: R242: the copy of the active plane into the inactive one is done. -/
def execCalCopyDone (s : State) : Host.Outcome State Fault Refusal :=
  if s.anvil.copying = false then .next s
  else
    let v := s.anvil
    let v := if v.activeB then { v with planeA := v.planeB, copying := false } else { v with planeB := v.planeA, copying := false }
    .next (({ s with anvil := v } : State).completeFirst (fun w => decide (w = Wait.calCopy)) Status.OK (beBytes 1 (b2n (!v.activeB))))

end Sys2Proof.Machine
end

