-- ==== Sys2Proof/Machine/Access.lean ====
section
/-! DEFINITION. Field access: keys, passwords, unlocks and the lockout (12_persistence_update_access.md, R479 to R487). -/

namespace Sys2Proof.Machine

/-- `n` random bytes (R483, R484), a free value each (log 6). -/
def State.randomBytes (s : State) (n : Nat) : State × List Byte :=
  ({ s with work := { s.work with draws := s.work.draws + n } }, (List.range n).map fun i => Config.randomByte (s.work.draws + i))

/-! ### OWNER_KEY_SET (R482) -/

/-- R482: the DATA field. -/
def keyData (r : Request) : List Byte := (r.payload.take r.len.toNat).drop 4

/-- R482: the level changes. -/
def State.setLevel (s : State) (l : Nat) : State :=
  if s.nvm.level = l then s else ({ s with nvm := { s.nvm with level := l } } : State).raise Ev.LEVEL_CHANGE

/-- R482: SET_KEY. -/
def bodySetKey : Body := fun s r =>
  let k := keyData r
  if k.length ≠ 32 then (s, .plain Status.BAD_PARAM)
  else
    let s : State := { s with nvm := { s.nvm with key := some k } }
    (if s.nvm.level = 0 then s.setLevel 1 else s, .plain Status.OK)

/-- R483: D_10000 of a salt and a password. -/
def passwordDigest (salt pw : List Byte) : List Byte := sha256Iter 10000 (salt ++ pw)

/-- R482, R483: SET_PASSWORD with a fresh salt. -/
def bodySetPassword : Body := fun s r =>
  let d := keyData r
  let rights := byteAt r.payload 1
  if s.nvm.level = 0 then (s, .plain Status.DENIED_MODE)
  else if d.length < 8 ∨ 64 < d.length ∨ 7 < rights then (s, .plain Status.BAD_PARAM)
  else
    let a := s.randomBytes 16
    ({ a.1 with nvm := { a.1.nvm with pwSalt := a.2, pwDigest := some (passwordDigest a.2 d), pwRights := rights } }, .plain Status.OK)

/-- R482: the operations without DATA: allowed at the levels that `ok` names. -/
def bodyPlainKey (ok : Nat → Bool) (effect : State → State) : Body := fun s r =>
  if ok s.nvm.level = false then (s, .plain Status.DENIED_MODE)
  else if (keyData r).isEmpty = false then (s, .plain Status.BAD_PARAM)
  else (effect s, .plain Status.OK)

/-- R482: CLEAR_PASSWORD. -/
def bodyClearPassword : Body := bodyPlainKey (fun l => decide (1 ≤ l)) fun s =>
  { s with nvm := { s.nvm with pwSalt := [], pwDigest := none, pwRights := 0 } }

/-- R482: SEAL. -/
def bodySealLevel : Body := bodyPlainKey (fun l => decide (l = 1)) fun s => s.setLevel 2

/-- R482: UNSEAL. -/
def bodyUnsealLevel : Body := bodyPlainKey (fun l => decide (l = 2)) fun s => s.setLevel 1

/-- R482: PERMIT_DOWNLOAD. -/
def bodyPermitDownload : Body := bodyPlainKey (fun _ => true) fun s => { s with nvm := { s.nvm with permit := true } }

def execSetKey (r : Request) (s : State) : Host.Outcome State Fault Refusal :=
  .next (s.mailbox Op.OWNER_KEY_SET (r.withOp 0) bodySetKey)
def execSetPassword (r : Request) (s : State) : Host.Outcome State Fault Refusal :=
  .next (s.mailbox Op.OWNER_KEY_SET (r.withOp 1) bodySetPassword)
def execClearPassword (r : Request) (s : State) : Host.Outcome State Fault Refusal :=
  .next (s.mailbox Op.OWNER_KEY_SET (r.withOp 2) bodyClearPassword)
def execSealLevel (r : Request) (s : State) : Host.Outcome State Fault Refusal :=
  .next (s.mailbox Op.OWNER_KEY_SET (r.withOp 3) bodySealLevel)
def execUnsealLevel (r : Request) (s : State) : Host.Outcome State Fault Refusal :=
  .next (s.mailbox Op.OWNER_KEY_SET (r.withOp 4) bodyUnsealLevel)
def execPermitDownload (r : Request) (s : State) : Host.Outcome State Fault Refusal :=
  .next (s.mailbox Op.OWNER_KEY_SET (r.withOp 5) bodyPermitDownload)

/-! ### Unlocking (R483 to R486) -/

/-- R486: minutes of the lockout for `f` failures. -/
def lockoutMinutes (f : Nat) : Nat := min (2 ^ (f - 5)) 1440

/-- R486: the lockout for F starts, or starts again at its full length. -/
def State.startLockout (s : State) : State :=
  if s.nvm.failures < 5 then s
  else
    ({ s with work := { s.work with
        lockout := true, lockoutUntil := s.up + lockoutMinutes s.nvm.failures * 60000000000 } } : State).raise Ev.LOCKOUT_START

/-- R486: a wrong password or MAC. -/
def State.unlockFailed (s : State) : State :=
  let s := ({ s with nvm := { s.nvm with failures := s.nvm.failures + 1 } } : State).count Reg.UNLOCK_FAIL
  (s.raise Ev.UNLOCK_FAILED).startLockout

/-- The rights of a channel or endpoint change; a grant of SERVICE that thereby ends has R485's effect. -/
def State.setRights (s : State) (ch : Chan) (ep : Endpoint) (rights until_ : Nat) : State :=
  let c := s.client ch ep
  let s := s.setClient ch ep { c with rights := rights, rightsUntil := until_ }
  if bit rights 2 then s else s.serviceGone c.rights

/-- R485: RIGHTS and MINUTES of an unlock, in range. -/
def unlockRangeOk (r : Request) : Bool := decide (byteAt r.payload 0 ≤ 0x1F) && decide (field r.payload 2 2 ≤ 1440)

/-- R485, R486: a successful unlock. -/
def State.unlocks (s : State) (r : Request) : State × Reply :=
  let rights := byteAt r.payload 0
  let minutes := field r.payload 2 2
  let s := ({ s with nvm := { s.nvm with failures := 0 } } : State).count Reg.UNLOCK_OK
  let s := s.setRights r.chan r.from_ rights (if minutes = 0 then 0 else s.up + minutes * 60000000000)
  (s.raise Ev.UNLOCKED, .done Status.OK (beBytes 1 rights ++ [0] ++ beBytes 2 minutes))

/-- R486: refused during a lockout. -/
def State.unlockRefused (s : State) : State × Reply := (s.count Reg.UNLOCK_REFUSED, .plain Status.DENIED_ACCESS)

/-- R484: UNLOCK_CHALLENGE. Without an owner key it is refused (log 29). -/
def bodyUnlockChallenge : Body := fun s _ =>
  if s.work.lockout then s.unlockRefused
  else if s.nvm.key.isNone then (s, .plain Status.DENIED_MODE)
  else
    let a := s.randomBytes 32
    ({ a.1 with work := { a.1.work with nonce := some a.2, nonceUp := a.1.up } }, .done Status.OK (a.2 ++ beBytes 8 a.1.nvm.serial))

/-- R484: the nonce is valid for 60 s. -/
def State.validNonce (s : State) : Option (List Byte) := if s.up < s.work.nonceUp + 60000000000 then s.work.nonce else none

/-- R484: UNLOCK_RESPONSE. -/
def bodyUnlockResponse : Body := fun s r =>
  if s.work.lockout then s.unlockRefused
  else
    match s.validNonce with
    | none => (s, .plain Status.BAD_PARAM)
    | some n =>
      if unlockRangeOk r = false then (s, .plain Status.BAD_PARAM)
      else
        let s : State := { s with work := { s.work with nonce := none } }
        let mac := hmacSha256 (s.nvm.key.getD []) (n ++ beBytes 8 s.nvm.serial ++ r.payload.take 4)
        if s.nvm.key.isSome ∧ (r.payload.drop 4).take 32 = mac then s.unlocks r
        else (s.unlockFailed, .plain Status.CHECK_FAILED)

/-- R483: UNLOCK_PASSWORD. RIGHTS outside PW_RIGHTS with the right password are refused without a failure (log 29). -/
def bodyUnlockPassword : Body := fun s r =>
  let pw := (r.payload.drop 8).take (byteAt r.payload 4)
  let rights := byteAt r.payload 0
  if s.work.lockout then s.unlockRefused
  else if unlockRangeOk r = false then (s, .plain Status.BAD_PARAM)
  else if s.nvm.pwDigest = some (passwordDigest s.nvm.pwSalt pw) then
    if rights &&& s.nvm.pwRights = rights then s.unlocks r else (s, .plain Status.DENIED_ACCESS)
  else (s.unlockFailed, .plain Status.CHECK_FAILED)

/-- R485: every grant ends. -/
def State.relockAll (s : State) : State :=
  let s := s.setRights .c0 ⟨[], 0⟩ 0 0
  let s := s.ctrl.ch1.foldl (fun s c => s.setRights .c1 c.ep 0 0) s
  s.ctrl.ch2.foldl (fun s c => s.setRights .c2 c.ep 0 0) s

/-- R485: RELOCK. -/
def bodyRelock : Body := fun s r =>
  let s := if bit (byteAt r.payload 0) 0 then s.relockAll else s.setRights r.chan r.from_ 0 0
  (s.raise Ev.RELOCKED, .plain Status.OK)

def execUnlockChallenge (r : Request) (s : State) : Host.Outcome State Fault Refusal :=
  .next (s.mailbox Op.UNLOCK_CHALLENGE r bodyUnlockChallenge)
def execUnlockResponse (r : Request) (s : State) : Host.Outcome State Fault Refusal :=
  .next (s.mailbox Op.UNLOCK_RESPONSE r bodyUnlockResponse)
def execUnlockPassword (r : Request) (s : State) : Host.Outcome State Fault Refusal :=
  .next (s.mailbox Op.UNLOCK_PASSWORD r bodyUnlockPassword)
def execRelock (r : Request) (s : State) : Host.Outcome State Fault Refusal := .next (s.mailbox Op.RELOCK r bodyRelock)

/-- UNLOCK_EXPIRED: R485: a grant ends by time. -/
def execUnlockExpired (ch : Chan) (ep : Endpoint) (s : State) : Host.Outcome State Fault Refusal :=
  let c := s.client ch ep
  if s.firmwareUp = false ∨ c.rights = 0 ∨ c.rightsUntil = 0 then .next s
  else
    let s := s.reach c.rightsUntil
    let s := s.setClient ch ep { s.client ch ep with rights := 0, rightsUntil := 0 }
    let s := if bit c.rights 2 ∧ s.mode = .service then { s with ctrl := { s.ctrl with serviceEnds := true } } else s
    .next (s.raise Ev.UNLOCK_EXPIRED)

/-- LOCKOUT_END: R486. -/
def execLockoutEnd (s : State) : Host.Outcome State Fault Refusal :=
  if s.work.lockout then
    let s := s.reach s.work.lockoutUntil
    .next { s with work := { s.work with lockout := false } }
  else .next s

/-- NONCE_EXPIRY: R484. -/
def execNonceExpiry (s : State) : Host.Outcome State Fault Refusal :=
  if s.work.nonce.isSome then
    let s := s.reach (s.work.nonceUp + 60000000000)
    .next { s with work := { s.work with nonce := none } }
  else .next s

end Sys2Proof.Machine
end

