-- ==== Sys2Proof/Machine/Env.lean ====
section
/-! DEFINITION. What the board and the die show: die temperature, bank supplies, and the clearing of fault records
(08_lamp_control.md, R320, R329, R330; 14_electrical_and_package.md, R524; R504). -/

namespace Sys2Proof.Machine

/-- R329: DIE_WARN from 115 °C, until the die falls below 110 °C. -/
def State.dieWarnStep (s : State) (t : Int) : State :=
  if 115 * 128 ≤ t ∧ s.lamp.dieWarn = false then { s with lamp := { s.lamp with dieWarn := true } }.raise Ev.DIE_WARN
  else if t < 110 * 128 then { s with lamp := { s.lamp with dieWarn := false } }
  else s

/-- R504: class 2 calibration falls due when the die has moved by more than TRIM_DELTA since its last run. -/
def State.trimDue (s : State) (t : Int) : State :=
  if s.param P.TRIM_DELTA * 128 < (t - s.trim.lastTemp).natAbs then { s with trim := { s.trim with due := true } } else s

/-- DIE_TEMP: R329, R330, R504: the die is read every 1 ms; at 130 °C the device shuts down for good. While the sensors are
under self-test the readings hold (R507). -/
def execDieTemp (t : Int) (s : State) : Host.Outcome State Fault Refusal :=
  if s.sys.inReset ∨ s.testing 2 0 then .next s
  else
    let s := { s with lamp := { s.lamp with die := t, dieMax := max s.lamp.dieMax t } }
    let s := (s.dieWarnStep t).trimDue t
    if 130 * 128 ≤ t ∧ s.lamp.shutdown = false then
      .next (({ s with lamp := { s.lamp with shutdown := true } }.raise Ev.DIE_SHUTDOWN).fatalFault 0x07 Code.DIE_SHUTDOWN
        ((BitVec.ofInt 16 t).toNat * 2 ^ 48))
    else .next s

/-- R524: the class of a bank supply in mV: 0 FAULT, 1 1.8 V, 2 2.5 V, 3 3.3 V. -/
def vddioClass (mv : Nat) : Nat :=
  if 1620 ≤ mv ∧ mv ≤ 1980 then 1
  else if 2250 ≤ mv ∧ mv ≤ 2750 then 2
  else if 2970 ≤ mv ∧ mv ≤ 3630 then 3
  else 0

/-- R524, R260: the strands of a bank go high-Z and send nothing until reset. -/
def State.releaseBank (s : State) (b : Nat) : State :=
  allStrands.foldl (fun s n =>
    if n / 16 = b then
      let s := (s.haltStrand n).dropCommands n Status.TIMEOUT
      s.setStrand n { s.strand n with driving := false, kind := .none, lines := 0, cfg := [] }
    else s) s

/-- R524: a bank leaves its class. -/
def State.bankFault (s : State) (b mv : Nat) : State :=
  let k := s.bank b
  ((s.setBank b { k with vclass := 0, outRun := 2 }).releaseBank b).emit Src.SYS Kind.CONFIG Code.BANK_VDDIO_FAULT
    (b * 2 ^ 56 + mv % 2 ^ 16 * 2 ^ 40 + k.foundClass * 2 ^ 38)

/-- VDDIO_SAMPLE: R524: two consecutive samples outside the window of the class that BOOT found put the bank in FAULT. -/
def execVddioSample (bank : Fin 8) (mv : Nat) (s : State) : Host.Outcome State Fault Refusal :=
  let k := s.bank bank
  if s.sys.inReset ∨ k.foundClass = 0 ∨ k.vclass = 0 then .next s
  else if vddioClass mv = k.foundClass then .next (s.setBank bank { k with outRun := 0 })
  else if k.outRun = 0 then .next (s.setBank bank { k with outRun := 1 })
  else .next (s.bankFault bank mv)

/-- FAULT_CLEAR: R320. -/
def execFaultClear (v : Word) (s : State) : Host.Outcome State Fault Refusal := .next (s.clearFaults v)

end Sys2Proof.Machine
end

