-- ==== Sys2Proof/Machine/Redund.lean ====
section
/-! DEFINITION. Tick records, full-state copies and the conditions of a takeover (11_redundancy_and_boards.md, R419,
R423, R435 to R443). -/

namespace Sys2Proof.Machine

/-! ### The record point on the active (R419, R436 to R439) -/

/-- R438: the bytes that a staged change takes in STAGED: a commit its records, any other change 16 (log 26). -/
def Change.size : Change → Nat
  | .commit recs _ => (recs.map fun q => 4 + (q.2.length + 3) / 4 * 4).foldl (· + ·) 0
  | _ => 16

/-- R438: what STAGED holds at most. -/
def stagedLimit : Nat := 32768

/-- R438: mark the changes that the record point records, at most 32,768 bytes of them. -/
def recordStaged (room : Nat) : List Staged → List Staged
  | [] => []
  | g :: gs =>
    if g.recorded then g :: recordStaged room gs
    else if g.change.size ≤ room then { g with recorded := true } :: recordStaged (room - g.change.size) gs
    else g :: gs

/-- R437: the SELECTION item of stream `i`: what this interval's selection chose. -/
def State.selItem (s : State) (i : Nat) : SelItem :=
  let t := s.stream i
  { stream := i, chosen := t.chosenNow, cadence := t.cadence, mark := t.mark.map (·.frame)
    pin := (t.mark.map (·.pin)).getD false, play := t.play }

/-- R27, R437: the changes that this record point has recorded. -/
def State.recordedChanges (s : State) : List Change := (s.ctrl.staged.filter (·.recorded)).map (·.change)

/-- R436: CONFIG_DIGEST as it stands after the record's staged changes. -/
def State.digestAfter (s : State) : List Byte := (s.recordedChanges.foldl State.applyChange s).ownDigest

/-- R28, R437: what the delta sections tell: the zones, latencies and fault bytes as they are in force from the next tick. -/
def State.zonesSoon (s : State) : SMap Zone := s.lamp.zonesNext.foldl (fun m p => SMap.insert m p.1 p.2) s.lamp.zones

def State.faultsSoon (s : State) : SMap Byte :=
  s.lamp.faultReady.foldl (fun m p => SMap.set (fun _ => 0) m p.1 p.2) s.lamp.faultMap

def State.latencies (s : State) : SMap (Nat × Nat) :=
  allStrands.flatMap fun n => ((s.strand n).drivers.zipIdx).map fun d => (zoneKey n d.2, (d.1.lambda, d.1.written))

/-- The entry of a key in a list of pairs. -/
def entryOf {α : Type} (l : List (Nat × α)) (k : Nat) : Option α := (l.find? fun p => decide (p.1 = k)).map Prod.snd

/-- R438: the keys whose deltas wait, oldest first: those that waited before, then those that differ from what was told. -/
def deltasOf {α : Type} [DecidableEq α] (now told : List (Nat × α)) (waiting : List Nat) : List Nat :=
  (waiting ++ (now ++ told).map Prod.fst).eraseDups.filter fun k => decide (entryOf now k ≠ entryOf told k)

/-- R438: what is told after the deltas of `keys`. -/
def tellAll {α : Type} (now told : SMap α) (keys : List Nat) : SMap α :=
  keys.foldl (fun m k =>
    match entryOf now k with
    | some v => SMap.insert m k v
    | none => SMap.erase m k) told

/-- R437: CONFIG and RAW lines queued and not yet sent, by strand, as many as fit 8,192 bytes; a line is taken to need 4
bytes and its words (log 26). -/
def State.cfgSection (s : State) : List (Nat × CfgLine) :=
  let all := allStrands.flatMap fun n => (s.strand n).cfg.map fun l => (n, l)
  (all.foldl (fun (a : List (Nat × CfgLine) × Nat) x =>
    let room := 4 + 2 * x.2.words.length
    if room ≤ a.2 then (a.1 ++ [x], a.2 - room) else (a.1, 0)) ([], 8192)).1

/-- R438: the deltas of one record: how many entries of `size` bytes fit `room`, what they leave, and what is left over. -/
def takeDeltas (size room : Nat) (keys : List Nat) : List Nat × List Nat × Nat :=
  let n := min keys.length (room / size)
  (keys.take n, keys.drop n, room - n * size)

/-- R436 to R438: the tick record of this interval; `fixed`: the bytes of the sections whose layout is not stated (log 26).
With it, the deltas that wait for the next record. -/
def State.composeRecord (s : State) (expiry fixed : Nat) : TickRecord × List Nat × List Nat × List Nat :=
  let staged := s.recordedChanges
  let room := 65536 - (64 + fixed + (staged.map Change.size).sum)
  let z := takeDeltas 20 room (deltasOf s.zonesSoon s.red.toldZones s.red.zoneQueue)
  let l := takeDeltas 8 z.2.2 (deltasOf s.latencies s.red.toldLatency s.red.latencyQueue)
  let f := takeDeltas 8 l.2.2 (deltasOf s.faultsSoon s.red.toldFaults s.red.faultQueue)
  let pick := fun {α : Type} (now : List (Nat × α)) (keys : List Nat) => keys.filterMap fun k => (entryOf now k).map fun v => (k, v)
  ({ tick := s.hearth.k, recordPointNs := s.nowNs, digest := s.digestAfter, size := 65536 - f.2.2
     lagging := !(z.2.1.isEmpty && l.2.1.isEmpty && f.2.1.isEmpty)
     mode := s.mode, shortRun := s.fs.shortRun, goodRun := s.fs.goodRun, holdTicks := s.fs.holdTicks, raise3 := s.fs.raiseCmd
     brightStep := s.anvil.bright
     selection := (allStreams.filter s.enabled).map s.selItem, flips := s.fs.flips
     staged := staged, retime := s.hearth.retime
     plan := (List.range 4).map s.segments, planTiming := s.lamp.planTiming, sensePos := s.lamp.sensePos
     expiry := expiry, role := s.red.role, redundArb := s.param P.REDUND_ARB
     cfgQueue := s.cfgSection
     zones := pick s.zonesSoon z.1
     latency := (pick s.latencies l.1).map fun p => (p.1, p.2.1, p.2.2)
     faultMap := f.1.map fun k => (k, (entryOf s.faultsSoon k).getD 0) }, z.2.1, l.2.1, f.2.1)

/-- R439: the chunks of a record on the mirror link. -/
def State.sendChunks (s : State) (r : TickRecord) : State :=
  (List.range (ceilDiv r.size 8188)).foldl (fun s i =>
    s.sendMirror 4 (.record (i * 8188) (min 8188 (r.size - i * 8188)) r)) s

/-- R431, R439: how long a record takes on the mirror link at 1.25 GB/s, header and CRC of each frame included. -/
def recordNs (size : Nat) : Nat := ceilDiv ((size + 24 * ceilDiv size 8188) * 4) 5

/-- R439: the record starts to leave; without the mirror link it is never completely sent. -/
def State.startRecord (s : State) (r : TickRecord) (zq lq fq : List Nat) : State :=
  let d := s.red
  let told := fun {α : Type} (now told : SMap α) (keys : List Nat) => tellAll now told keys
  let s := { s with red := { d with
      recordAcked := false, recordSize := r.size, lagging := r.lagging
      sending := some ⟨r, s.up + recordNs r.size, !d.mirrorUp⟩
      toldZones := told s.zonesSoon d.toldZones (r.zones.map Prod.fst)
      toldLatency := told s.latencies d.toldLatency (r.latency.map Prod.fst)
      toldFaults := told s.faultsSoon d.toldFaults (r.faultMap.map Prod.fst)
      zoneQueue := zq, latencyQueue := lq, faultQueue := fq } }
  (s.sendChunks r).issue 4

/-- R419: an ACTIVE device in IDLE, LIVE or HOLD renews Tongs: RENEW on the mirror link, one heartbeat out of each port, and
its tick record. The bytes of the sections whose layout is not stated are a free value (log 26). -/
def State.renewTongs (s : State) : State :=
  if s.red.role = .active ∧ s.dead = false ∧ (s.mode = .idle ∨ s.mode = .live ∨ s.mode = .hold) then
    let expiry := s.hearth.k + s.param P.LEASE_TICKS
    let c := s.composeRecord expiry (Config.freeNat s.draws % 24000)
    let s := { s with draws := s.draws + 1, red := { s.red with expiry := expiry } }
    let s := (s.sendMirror 2 (.bytes (beBytes 8 expiry))).sendHeartbeats 0 expiry 0
    s.startRecord c.1 c.2.1 c.2.2.1 c.2.2.2
  else s

/-- R40, R439: at the tick a record that has left completely counts RECORDS_SENT; another is abandoned and counts
RECORDS_STALE. -/
def State.endRecord (s : State) : State :=
  match s.red.sending with
  | none => s
  | some x =>
    let s := { s with red := { s.red with sending := none } }
    if x.broken = false ∧ x.endUp ≤ s.up ∧ s.dead = false then s.count Reg.RECORDS_SENT else s.count Reg.RECORDS_STALE

/-! ### A tick record on the standby (R439 to R442) -/

/-- R195, R437: the mark, its retained parts and the play of a stream are those that the record names. -/
def Stream.follow (t : Stream) (it : SelItem) : Stream :=
  let mark : Option Mark := it.mark.map fun f => { frame := f, pin := it.pin, pinDropSeen := false }
  let t := if t.mark.map (·.frame) = it.mark then t else { t with mark := mark, parts := t.parts.map fun (p : Part) =>
      { p with byMark := match it.mark with
        | some f => p.chosen && !laterFrame p.v1 f p.frame
        | none => false } }
  t.setPlay it.play

/-- R440: the regions of the named frame that the standby lacks. -/
def State.lacking (s : State) (i : Nat) (named : Option Nat) : Nat :=
  match named with
  | none => 0
  | some f =>
    match (s.stream i).frameOf f with
    | some p => ((s.regions i).filter fun r => decide (SMap.get (fun _ => 0) p.counts r < s.regionSize i r)).length
    | none => (s.regions i).length

/-- R184, R440: the standby runs the selection of tick `next` with the frame that the record names; the regions it lacks
are patched, and its cadence is the active's. -/
def State.selectRecorded (s : State) (next : Nat) (it : SelItem) : State :=
  let i := it.stream
  let s := s.setStream i ((s.stream i).follow it)
  if s.layerOf i ≠ 0 then s
  else
    let named := (it.chosen.bind (s.stream i).frameOf).filter Part.waits
    let n := s.lacking i it.chosen
    let s := (s.selectWith i next named).countN Reg.SHADOW_PATCHED n
    s.setStream i { s.stream i with cadence := it.cadence }

/-- R192, R194, R217: the shadow keeps the fetch table as its peer did: it is taken when the records first show HOLD, and
given up when they no longer do. -/
def State.followHold (s : State) (was now : Option Mode) : State :=
  if now ≠ some .hold then
    let s := { s with fs := { s.fs with holdSrc := [] } }
    if was = some .hold then s.fs.streams.foldl (fun s p => s.settle p.1) s else s
  else if was = some .hold then s
  else { s with fs := { s.fs with holdSrc := s.fs.streams.map fun (p : Nat × Stream) => (p.1, p.2.src) } }

/-- R191, R204, R437: a layer flips as the record says. The frame in the back buffer has left it, so the buffer is free for
the stream's next frame. -/
def State.flipLayer (s : State) (sel : List SelItem) (n : Nat) : State :=
  let l := s.layer n
  let s := s.setLayer n { l with front := l.back, back := l.front }
  sel.foldl (fun s it =>
    if s.layerOf it.stream = n then
      let t := s.stream it.stream
      s.setStream it.stream { t with backFrame := none, lastPresented := it.chosen.orElse fun _ => t.lastPresented }
    else s) s

/-- R184, R204: a COMPLETE frame in a back buffer whose tick has come without a flip is released. -/
def State.releaseBack (s : State) (next i : Nat) : State :=
  let t := s.stream i
  match t.backFrame with
  | some p =>
    if p.st = .complete ∧ p.tick.getD 0 ≤ next then (s.setStream i { t with backFrame := none }).count Reg.FS_SKIPPED else s
  | none => s

/-- R191, R437: the selection of the active at tick `next - 1`, for tick `next`, is made on the standby. -/
def State.followSelection (s : State) (next : Nat) (sel : List SelItem) (flips : List Nat) : State :=
  let s := sel.foldl (fun s it => s.selectRecorded next it) s
  let s := flips.foldl (fun s n => s.flipLayer sel n) s
  sel.foldl (fun s it => s.releaseBack next it.stream) s

/-- R437: a latency delta: the driver's zone number, λ and the λ last written. -/
def State.putLatency (s : State) (d : Nat × Nat × Nat) : State :=
  let n := d.1 / 512
  let t := s.strand n
  match t.driver? (d.1 % 512) with
  | some v => s.setStrand n (t.setDriver (d.1 % 512) { v with lambda := d.2.1, written := d.2.2 })
  | none => s

/-- R437: the CONFIG and RAW lines that the record names are the standby's queues. -/
def State.putCfgQueue (s : State) (q : List (Nat × CfgLine)) : State :=
  allStrands.foldl (fun s n =>
    let lines := (q.filter fun x => decide (x.1 = n)).map Prod.snd
    if (s.strand n).cfg = lines then s else s.setStrand n { s.strand n with cfg := lines }) s

/-- R441: the record's digest is compared with the standby's own. -/
def State.compareDigest (s : State) (r : TickRecord) : State :=
  if s.ownDigest ≠ r.digest then s.setStale
  else if s.red.awaitDigest then
    { s with red := { s.red with stale := false, awaitDigest := false } }.raise Ev.RESYNC_DONE
  else s

/-- R439: a complete record is applied at the tick, acknowledged and compared. The zones that a LAGGING record holds back
are not named, so their count is free (R438, log 26). -/
def State.applyRecord (s : State) (r : TickRecord) : State :=
  let was := s.red.lastRecord.map (·.mode)
  let held := if r.mode = .hold ∧ s.hearth.gap ≠ 2 then r.holdTicks + 1 else r.holdTicks
  let s := { s with
    fs := { s.fs with shortRun := r.shortRun, goodRun := r.goodRun, holdTicks := held, raiseCmd := r.raise3 }
    anvil := { s.anvil with bright := r.brightStep }
    lamp := { s.lamp with
      sensePos := r.sensePos
      n0 := r.plan.getD 0 0, n1 := r.plan.getD 1 0, n2 := r.plan.getD 2 0, n3 := r.plan.getD 3 0, planTiming := r.planTiming
      faultMap := r.faultMap.foldl (fun m p => SMap.set (fun _ => 0) m p.1 p.2) s.lamp.faultMap
      zones := r.zones.foldl (fun m p => SMap.insert m p.1 p.2) s.lamp.zones }
    hearth := { s.hearth with retime := if s.hearth.gap = 0 then r.retime else s.hearth.retime }
    red := { s.red with lastRecord := some r, pendingRecord := none, recordSize := r.size, lagging := r.lagging } }
  let s := r.staged.foldl State.applyChange s
  let s := (s.followSelection (r.tick + 1) r.selection r.flips).followHold was (some r.mode)
  let s := (r.latency.foldl State.putLatency s).putCfgQueue r.cfgQueue
  let s := if r.lagging ∧ s.red.flavour = .hot then
      { s with draws := s.draws + 1 }.countN Reg.DELTA_LAGGED (Config.freeNat s.draws)
    else s
  ((s.count Reg.RECORDS_APPLIED).sendMirror 8 (.bytes (beBytes 4 r.tick))).compareDigest r

/-- R439, R441: the standby's record at the tick that follows tick `prev`; a missing one sets STALE, except after a
RELEASE (R427). `due`: the record point of the interval lay in it. -/
def State.recordTick (s : State) (prev : Nat) (due : Bool) : State :=
  if s.red.role ≠ .standby ∨ s.mode ≠ .shadow then s
  else
    match s.red.pendingRecord with
    | some r =>
      if r.tick = prev then s.applyRecord r
      else { s with red := { s.red with pendingRecord := none } }.setStale
    | none =>
      if due ∧ s.red.mirrorUp ∧ s.red.peerHeard ∧ s.red.peerRole = .active ∧ s.red.releaseRx = false then s.setStale else s

/-- R439: a chunk of the peer's record is taken; the one that completes it makes the record ready for its tick. -/
def State.takeRecord (s : State) (f : RecordFrame) : State :=
  if s.red.role ≠ .standby then s
  else
    match f.complete with
    | some r => { s with red := { s.red with pendingRecord := some r } }
    | none => s

/-- RECORD: R431, R439: a chunk of the peer's record arrives; one whose CRC fails is dropped. -/
def execRecord (f : RecordFrame) (s : State) : Host.Outcome State Fault Refusal :=
  if s.firmwareUp = false ∨ s.red.mirrorUp = false then .next s
  else if f.crcOk = false then .next (s.count Reg.MR_CRC_ERR)
  else .next (s.fromMirror (4 + f.bytes) (·.takeRecord f))

/-! ### Full-state copies (R441) -/

/-- R441: the copy replaces what it carries. -/
def State.install (s : State) (c : FullCopy) : State :=
  let live : SMap (List Byte) := c.live.foldl (fun m q => SMap.set paramDefault m q.1 q.2) []
  let plane : Plane := { recs := c.calPlane, defined := true }
  let s : State := { s with
    ctrl := { s.ctrl with live := live }
    anvil := { s.anvil with
      maps := c.maps.foldl (fun m q => SMap.set (fun _ => emptyMap) m q.1 q.2) []
      planeA := if s.anvil.activeB then s.anvil.planeA else plane
      planeB := if s.anvil.activeB then plane else s.anvil.planeB }
    lamp := { s.lamp with faultMap := c.faultMap, zones := c.zones.foldl (fun m p => SMap.insert m p.1 p.2) [] }
    fs := { s.fs with buffers := c.buffers, safeImage := c.safeImage, emergImage := c.emergImage } }
  let s := c.tables.foldl (fun s q => s.putTable q.1 q.2) s.tableParams
  let s := c.layers.foldl State.applyLayer s
  s.loadParamRegs

/-- R441: a chunk of the copy is taken and acknowledged; the last one installs the copy. -/
def State.takeState (s : State) (offset : Nat) (complete : Option FullCopy) : State :=
  if s.red.role ≠ .standby then s
  else
    let s := s.sendMirror 8 (.bytes (beBytes 8 offset))
    match complete with
    | some c =>
      let old := s
      let s := (s.install c).count Reg.RESYNCS
      let s := s.syncGroups old
      { s with red := { s.red with awaitDigest := true, resyncWanted := false } }
    | none => s

/-- STATE: R431, R441: a chunk of the full-state copy arrives; its length, which no operand names, is a free value (log 133). -/
def execState (offset : Nat) (crcOk : Bool) (complete : Option FullCopy) (s : State) : Host.Outcome State Fault Refusal :=
  if s.firmwareUp = false ∨ s.red.mirrorUp = false then .next s
  else if crcOk = false then .next (s.count Reg.MR_CRC_ERR)
  else
    let s1 : State := { s with draws := s.draws + 1 }
    .next (s1.fromMirror (8 + Config.freeNat s.draws % 8185) (·.takeState offset complete))

/-- R441: what a full-state copy carries, as it stands. -/
def State.fullCopy (s : State) : FullCopy :=
  let bind := fun (n : Nat) =>
    let l := s.layer n
    ({ layer := n, enable := l.enable, flip := false, raise_ := false, slotMask := l.slotMask, alpha := l.alpha, x := l.x, y := l.y
       front := l.front, back := l.back } : LayerReq)
  { live := s.ctrl.live, maps := s.anvil.maps, calPlane := (s.plane s.anvil.activeB).recs
    tables := ([0, 1, 2, 3, 4] ++ (List.range 16).map (16 + ·)).map fun id => (id, s.activeTable id)
    faultMap := s.lamp.faultMap, zones := s.lamp.zones, buffers := s.fs.buffers, layers := [bind 1, bind 2]
    safeImage := s.fs.safeImage, emergImage := s.fs.emergImage }

/-- R441: the next chunk of the copy leaves; after the last one the copy has been sent. -/
def State.sendCopy (s : State) (c : CopySend) : State :=
  if c.next < c.size then
    let n := min 8184 (c.size - c.next)
    (({ s with red := { s.red with copy := some { c with next := c.next + n } } } : State).sendMirror 6 (.state c.next n c.copy)).issue 4
  else { s with red := { s.red with copy := none } }

/-- R441: a full-state copy begins. Its bytes, whose layout is not stated, are at least one: a free value (log 26). What it
carries of zones and faults is told. -/
def State.startCopy (s : State) : State :=
  let c : CopySend := ⟨s.fullCopy, Config.freeNat s.draws + 1, 0⟩
  ({ s with draws := s.draws + 1, red := { s.red with
      toldZones := s.lamp.zones, toldFaults := s.lamp.faultMap, toldLatency := [], zoneQueue := [], faultQueue := [] } } :
    State).sendCopy c

/-- RESYNC_REQ: R431, R441: the active answers with a full-state copy. -/
def execResyncReq (s : State) : Host.Outcome State Fault Refusal :=
  if s.firmwareUp = false ∨ s.red.mirrorUp = false then .next s
  else .next (s.fromMirror 0 fun s => if s.red.role = .active then s.startCopy else s)

/-- R433, R441: the standby has a record, or a chunk of the copy, after which the next chunk leaves. -/
def State.acked (s : State) (offset : Option Nat) : State :=
  match offset, s.red.copy with
  | some _, some c => s.sendCopy c
  | some _, none => s
  | none, _ => { s with red := { s.red with recordAcked := true } }

/-- ACK: R431, R433. -/
def execAck (_tick : Nat) (offset : Option Nat) (s : State) : Host.Outcome State Fault Refusal :=
  if s.firmwareUp = false ∨ s.red.mirrorUp = false then .next s
  else .next (s.fromMirror (if offset.isSome then 8 else 4) (·.acked offset))

/-! ### The takeover conditions (R423) -/

/-- R423: the mode that the last applied record showed. -/
def State.recordMode (s : State) : Option Mode := s.red.lastRecord.map (·.mode)

/-- R423: all four conditions hold at tick `x`. -/
def State.takeoverReady (s : State) (x : Nat) : Bool :=
  decide (s.red.role = .standby) && decide (s.mode = .shadow) && s.leaseGone x && s.allSilent && s.healthOk &&
    (decide (s.recordMode = some .live) || decide (s.recordMode = some .hold))

/-- R423, R443: a peer that is gone in IDLE is lost, and one whose lease ended while the strands carry traffic is
unheard, each once until the next renewal; the conditions of a takeover are noted. -/
def State.leaseTick (s : State) (x : Nat) : State :=
  let s := { s with red := { s.red with takeoverDue := s.takeoverReady x } }
  if s.red.role ≠ .standby ∨ s.mode ≠ .shadow then s
  else
    let lost := s.leaseGone x && decide (s.recordMode = some .idle) && !s.red.lostPeer
    let unheard := s.red.peerHeard && decide (s.red.expiry ≤ x) && !s.allSilent && !s.red.unheard
    let s := if lost then { s with red := { s.red with lostPeer := true } }.raise Ev.PEER_LOST else s
    if unheard then { s with red := { s.red with unheard := true } }.raise Ev.PEER_UNHEARD else s

end Sys2Proof.Machine
end

