-- ==== Sys2Proof/Machine/Tick.lean ====
section
/-! DEFINITION. The tick and the record point: everything that R26, R41 to R45, R68, R83 and R184 place there. -/

namespace Sys2Proof.Machine

/-! ### Modes and roles at the tick (R6 to R9, R44, R413 to R418) -/

/-- R7, R57: locked to network time, or allowed to run free. -/
def State.mayPresent (s : State) : Bool := decide (s.hearth.servo = .locked) || s.paramOn P.FREE_RUN_ALLOWED

/-- R418: a STANDBY peer is paired. -/
def State.standbyPaired (s : State) : Bool :=
  decide (s.red.role = .active) && s.red.peerHeard && decide (s.red.peerRole = .standby)

/-- R6, R7, R8, R418, R518: may MODE_SET order this mode now? -/
def State.modeSetOk (s : State) (target : Mode) : Bool :=
  match s.mode, target with
  | .idle, .live => s.mayPresent && !s.tap.holdsPins
  | .hold, .live => !s.tap.holdsPins
  | .live, .idle => true
  | .hold, .idle => true
  | .idle, .service => !s.standbyPaired
  | .service, .idle => true
  | _, _ => false

/-- R514: SERVICE is left after a DRAM test: the reload begins. -/
def State.startReload (s : State) : State :=
  if s.bist.dramTested then { s with bist := { s.bist with reloading := true, reloadNs := s.hearth.lastTickNs } } else s

/-- A mode change with what goes with it: the counts of R190 restart, a HOLD snapshot ends, and on leaving SERVICE
ANVIL_BYPASS is cleared (R254) and the reload of R514 begins. -/
def State.afterMode (s : State) (old : Mode) : State :=
  let s := s.restartRuns
  let s := if old = .hold then s.endSnapshot else s
  if old = .service then (s.setParamN P.ANVIL_BYPASS 0).startReload else s

/-- The mode changes for a reason that R367 lists. -/
def State.enterMode (s : State) (m : Mode) (trigger : Nat) : State := (s.changeMode m trigger).afterMode s.mode

/-- R9, R408: the response of MODE_SET after its tick. -/
def State.modeReply (s : State) (tickNs : Nat) : List Byte :=
  beBytes 1 s.mode.code ++ List.replicate 7 0 ++ beBytes 8 tickNs

/-- R9, R44: an ordered mode change takes effect, or is discarded with DENIED_MODE. One that begins the reload of R514
completes with it. -/
def State.orderMode (s : State) (target : Mode) : State :=
  let ok := s.modeSetOk target && !s.sched.fatal
  let s := if ok then s.enterMode target Trigger.MODE_SET else s
  if ok && s.bist.reloading then s else
  let reply := s.modeReply s.hearth.lastTickNs
  s.completeWaiting fun w =>
    match w.why with
    | .modeSet t => if t = target then some (if ok then (Status.OK, reply) else (Status.DENIED_MODE, [])) else none
    | _ => none

/-- R9, R87, R405, R485: the mode changes due at this tick; from tick T to tick U they wait for tick U. -/
def State.modeTick (s : State) : State :=
  if s.hearth.gap = 1 then s
  else
    let s := if s.ctrl.serviceEnds then
        let s := { s with ctrl := { s.ctrl with serviceEnds := false } }
        if s.mode = .service then s.enterMode .idle Trigger.MODE_SET else s
      else s
    let s := match s.ctrl.waiting.findSome? fun w => match w.why with
        | .modeSet t => some t
        | _ => none with
      | some t => if s.bist.reloading then s else s.orderMode t
      | none => s
    if s.ctrl.autoLiveDue then
      let s := { s with ctrl := { s.ctrl with autoLiveDue := false } }
      if s.mode = .idle ∧ s.mayPresent ∧ s.sched.fatal = false ∧ s.tap.holdsPins = false then s.enterMode .live Trigger.MODE_SET else s
    else s

/-- R416: does the table list this request? A device whose mirror queues are lost stays SOLO (R516). -/
def State.roleSetOk (s : State) (r : Role) : Bool :=
  (decide (r = .solo) || !s.sys.set3Lost) &&
  let peer := fun (x : Role) => s.red.peerHeard && decide (s.red.peerRole = x)
  match r, s.red.role with
  | .solo, .standby => true
  | .solo, .electing => true
  | .solo, .active => !peer .standby
  | .active, .solo => !peer .active
  | .active, .electing => !peer .active
  | .standby, .solo => peer .active && s.red.mirrorUp
  | .standby, .electing => peer .active && s.red.mirrorUp
  | _, _ => false

/-- R416: ROLE_SET takes effect, or no longer applies. -/
def State.orderRole (s : State) (w : Waiting) (r : Role) (f : Flavour) (keep : Bool) : State :=
  let answer := fun (s : State) (st : Nat) => s.completeWaiting fun x => if x = w then some (st, []) else none
  if keep then answer { s with red := { s.red with flavour := f } } Status.OK
  else if s.roleSetOk r then
    let s := { s with red := { s.red with flavour := f } }.becomeRole r
    let s := if r = .standby then s.setStale else s
    let s := if r = .solo ∧ s.mode = .shadow then s.enterMode .idle Trigger.ROLE else s
    answer s Status.OK
  else answer s Status.DENIED_MODE

/-- R44, R416: the role changes due at this tick; a STANDBY device enters SHADOW (R6, R414). -/
def State.roleTick (s : State) : State :=
  let s := s.ctrl.waiting.foldl (fun s w =>
    match w.why with
    | .roleSet r f keep => s.orderRole w r f keep
    | _ => s) s
  if s.red.role = .standby ∧ (s.mode = .idle ∨ s.mode = .live ∨ s.mode = .hold) then s.enterMode .shadow Trigger.ROLE else s

/-! ### Corrections (R506) -/

/-- R504, R506: the figures of a class 2 calibration against their minima. -/
def State.marginsOf (s : State) (f : Class2Figures) : State :=
  let s := s.marginLow 4 f.dram0 (s.param P.TRIM_DRAM_MIN)
  let s := if s.arb.pop1 then s.marginLow 5 f.dram1 (s.param P.TRIM_DRAM_MIN) else s
  f.ret.foldl (fun s r => s.marginLow 6 r.1 (s.param P.TRIM_RET_MIN)) s

/-- R259, R506: the corrections of class 2 take effect. -/
def State.trimStep (s : State) (f : Class2Figures) : State :=
  let s := { s with trim := { s.trim with
      pending := none, dram := [f.dram0, f.dram1], ret := f.ret, lastStepNs := s.hearth.lastTickNs, marginLow := false } }
  let s := (List.range 8).foldl (fun s b => s.setBank b { s.bank b with zcalOk := f.zcalOk }) s
  (s.raise Ev.TRIM_STEP).marginsOf f

/-- R504, R519: a TRIM_RUN names something of class 2. -/
def trimsClass2 (targets : Nat) : Bool := decide (16 ≤ targets)

/-- TRIM_STEP: R506: a complete correction takes effect at the first tick boundary after it; R519: a TRIM_RUN completes
with it. -/
def State.trimTick (s : State) : State :=
  let s := { s with trim := { s.trim with sliceDone := false } }
  let done := s.trim.pending.isSome
  let s := match s.trim.pending with
    | some f => s.trimStep f
    | none => s
  s.completeWaiting fun w =>
    match w.why with
    | .trim targets => if done || !trimsClass2 targets then some (Status.OK, []) else none
    | _ => none

/-! ### The steps of a tick -/

/-- R68, R83, R551: the tick edge: the grid in force after it, and whether the edge is tick U+1 of a retime. -/
def State.tickEdge (s : State) : State :=
  let s := s.advanceTo s.nextTickUnits
  let h := s.hearth
  let s : State := match h.retime, h.gap with
    | some r, 0 => if r.tIndex ≤ h.k + 1 then { s with hearth := { h with k := h.k + 1 } }.endOldGrid r
                   else { s with hearth := { h with k := h.k + 1, lastTickNs := h.timing.tickNs (h.k + 1) } }
    | some r, 1 => { s with hearth := { h with k := r.uIndex, gap := 2, lastTickNs := h.timing.tickNs r.uIndex } }
    | some _, _ =>
      { s with hearth := { h with k := h.k + 1, gap := 0, retime := none, lastTickNs := h.timing.tickNs (h.k + 1) } }.raise
        Ev.RETIME_DONE
    | none, _ => { s with hearth := { h with k := h.k + 1, lastTickNs := h.timing.tickNs (h.k + 1) } }
  { s with hearth := { s.hearth with lastTickUp := s.up, subTick := 0, recordDone := false } }

/-- R232: the ramp's value at this tick. -/
def State.rampTick (s : State) : State :=
  let v := s.anvil
  if v.rampK < v.rampN then
    let k := v.rampK + 1
    let d : Int := (v.brightTo : Int) - v.brightFrom
    { s with anvil := { v with rampK := k, bright := ((v.brightFrom : Int) + (d * k).tdiv v.rampN).toNat } }
  else s

/-- R60, R62, R67: the domain that does not discipline the counter has brought no Sync for 3 of its intervals: under AUTO it
moves to the other port, and otherwise it is lost. -/
def State.ageTracked (s : State) : State :=
  let b := !s.hearth.secondActive
  let d := s.dom b
  if d.delivers ∧ d.syncUp + 3 * d.intervalNs ≤ s.up then
    match s.otherPort b with
    | some p => s.moveDomain b p
    | none =>
      let s := s.setDom b { d with st := .lost, syncAge := max 3 d.syncAge, good := 0, bad := 0 }
      if (s.dom s.hearth.secondActive).delivers then s else { s with hearth := { s.hearth with bothLost := true } }
  else s

/-- R89 to R92, R360, R428: what is kept per tick interval: TICK_OD's pulse and its silent ticks, HB_SEEN, the OWN_IL level,
starve warnings. -/
def State.intervalTick (s : State) : State :=
  let s := s.pulseTickOd.followTickOd
  { s with
    red := { s.red with hbSeen := false, ownIlHighLast := s.red.ownIlHigh, ownIlHigh := s.red.ownIlIn }
    arb := { s.arb with ch0 := { s.arb.ch0 with warned := [] }, ch1 := { s.arb.ch1 with warned := [] } } }

/-- R184 to R190, R204: the selection of the frames for the next tick. A shadow takes its selection from the records, and
in SERVICE there is none for layer 0. -/
def State.selectTick (s : State) (gapTick : Bool) : State :=
  let next := s.hearth.k + 1
  let s := (s.canvasFrames next).releaseAccums next
  if s.mode = .shadow then s
  else
    let s : State := { s with fs := { s.fs with flips := [] } }
    let s := allStreams.foldl (fun s i => if s.enabled i ∧ (s.layerOf i = 1 ∨ s.layerOf i = 2) then s.flipStream i next else s) s
    if s.mode = .service then s
    else (s.layer0Streams.foldl (fun s i => s.selectStream i next) s).countShort next gapTick

/-- R417: a device that would start to drive a strand which is not silent drives none. -/
def State.conflictTick (s : State) : State × Bool :=
  if s.driveConflict then
    let s := s.busConflict
    (if s.mode = .service then s else s.enterMode .shadow Trigger.ROLE, true)
  else (s, false)

/-- The strands at the tick: their frames are opened, and none is driven after a conflict. -/
def State.strandsTick (s : State) (conflict : Bool) : State :=
  let next := s.hearth.k + 1
  let s := allStrands.foldl (fun s n => s.openFrameOn n next) s
  if conflict then s.mapStrands fun _ _ t => { t with driving := false } else s

/-- The swap symbols of the tick (R271), after the wire logs of the interval have been cleared. -/
def State.swapTick (s : State) : State :=
  let s := allStrands.foldl (fun s n => (s.setStrand n { s.strand n with tx := [] }).tickSwap n) s
  if allStrands.any fun n => (s.strand n).swapped then { s with red := { s.red with lastSwapTick := s.hearth.k } } else s

/-- R25, R44, R68: the tick edge with the swaps, and what the last interval leaves to it. -/
def State.tickOpen (s : State) : State :=
  let s := allStrands.foldl State.closeFrame s
  let s := ((s.enterHold.exitHold).tickEdge).endRecord
  let s := ((s.releaseBuffers).overrunTick).swapTick
  allStrands.foldl State.senseTick s

/-- R193: one more tick presented in HOLD; at tick U of a retime nothing new is presented (R83). -/
def State.holdTick (s : State) : State :=
  if s.mode = .hold ∧ s.hearth.gap ≠ 2 then { s with fs := { s.fs with holdTicks := s.fs.holdTicks + 1 } }.count Reg.HOLD_TICKS else s

/-- R198: the plays advance by one presented tick. -/
def State.playTicks (s : State) : State :=
  if s.hearth.gap = 2 then s
  else { s with fs := { s.fs with streams := s.fs.streams.map fun (p : Nat × Stream) => (p.1, p.2.playTick) } }

/-- R27, R44: roles, modes and staged changes take effect; `prev` and `due` name the last interval and its record. Plays
and the brightness ramp advance first, so that one which begins at this tick shows its first value from here on (R198,
R232). -/
def State.tickChanges (s : State) (prev : Nat) (due : Bool) : State :=
  let s := ((s.holdTick.roleTick.modeTick.playTicks).rampTick.applyRecorded).recordTick prev due
  (s.applyFaults.applyZones).trimTick

/-- R85, R301: at tick U the frames move to the new grid and the plan is computed, as at the first tick after BOOT. A shadow
takes its plan from the records (R331). -/
def State.tickGrid (s : State) (first : Bool) : State :=
  let s : State := if s.hearth.gap = 2 then s.retimeStreams s.hearth.k else s
  let s : State := if (s.hearth.gap = 2 ∨ first) ∧ s.mode ≠ .shadow then s.setPlan else s
  s.leaseTick s.hearth.k

/-- R184: the frames of this tick are presented, and those of the next one chosen; at tick T there is no selection. -/
def State.tickFrames (s : State) : State :=
  let s := (s.layer0Streams.foldl (fun (t : State) i => t.presentStream t.hearth.k i) s).emergencyTick
  let s : State := if s.hearth.gap = 1 then s else s.selectTick (decide (s.hearth.gap = 2))
  s.silenceTick

/-- R317: the sense position. -/
def State.senseAdvance (s : State) : State := { s with lamp := { s.lamp with sensePos := s.lamp.sensePos + 1 } }

/-- R212, R269, R343: the strands open their frames, render starts, and the tick tasks are dispatched. -/
def State.tickClose (s : State) : State :=
  let c := s.senseAdvance.conflictTick
  let s := (c.1.strandsTick c.2).startRender (c.1.hearth.k + 1)
  s.tickTasks.ageTracked.intervalTick.pullOwnIl

/-- R68: the tick, step by step. -/
def State.tickAll (s : State) : State :=
  ((((s.tickOpen).tickChanges s.hearth.k s.hearth.recordDone).tickGrid (decide (s.hearth.lastTickUp = 0))).tickFrames).tickClose

/-- TICK: R68. -/
def execTick (s : State) : Host.Outcome State Fault Refusal := if s.firmwareUp then .next s.tickAll else .next s

/-! ### Steps that reach tick T (R88) -/

/-- R88: after a step from `old` that reached or passed tick T of the pending retime, tick T falls at the new time. In BOOT
there are no ticks. -/
def State.settleStep (s old : State) : State :=
  match s.hearth.retime with
  | some r =>
    if s.firmwareUp ∧ s.hearth.gap = 0 ∧ s.reachedT r ∧ old.reachedT r = false then s.tickAll else s
  | none => s

/-- SYNC: R52, R59, R60, R62. A Sync of an untracked domain, of a grandmaster that is not selected or on a port that
PTP_PORT_SEL leaves out has no effect (log 2); a two-step Sync waits for its Follow_Up. -/
def execSync (m : SyncMsg) (s : State) : Host.Outcome State Fault Refusal :=
  match s.domOf m.domain with
  | none => .next s
  | some second =>
    let d := s.dom second
    if s.ptpReady = false ∨ d.masters = [] ∨ d.gm ≠ m.gm ∨ s.domMayUse second m.port = false then .next s
    else if m.twoStep then
      .next (s.setDom second
        { (d.setPath m.port { d.path m.port with twoStep := some (m.seq, m.t2, m.corr) }) with
          logSync := m.logInterval, transport := m.transport })
    else .next ((s.completeSync second m).settleStep s)

/-- FOLLOW_UP: R59: it completes the Sync of its sequence number on its port; corrections add up. -/
def execFollowUp (domain : Nat) (port : Port) (seq t1 : Nat) (corr : Int) (s : State) : Host.Outcome State Fault Refusal :=
  match s.domOf domain with
  | none => .next s
  | some second =>
    let d := s.dom second
    match (d.path port).twoStep with
    | some (q, t2, c) =>
      if s.ptpReady ∧ q = seq ∧ s.domMayUse second port then
        .next ((s.completeSync second
          { domain := domain, port := port, transport := d.transport, gm := d.gm, seq := seq, twoStep := true, t1 := t1, t2 := t2
            corr := c + corr, logInterval := d.logSync }).settleStep s)
      else .next s
    | none => .next s

/-- TIME_NS. -/
def execTimeNs (by_ : Accessor) (v : Word) (s : State) : Host.Outcome State Fault Refusal :=
  .next ((s.writeTimeNs by_ v).settleStep s)

/-- R26: the record point of this interval is still to come. An interval shorter than 100 µs has none. -/
def State.recordPointDue (s : State) : Bool :=
  s.firmwareUp && !s.hearth.recordDone && decide (s.hearth.lastTickNs < s.recordPointNs)

/-- R27: the changes that the record point records. -/
def State.recordChanges (s : State) : State :=
  { s with
    hearth := { s.hearth with recordDone := true }
    ctrl := { s.ctrl with staged := recordStaged stagedLimit s.ctrl.staged } }

/-- What happens at the record point. -/
def State.recordPoint (s : State) : State :=
  let s := (s.advanceNs s.recordPointNs).recordChanges
  (if s.mode = .shadow then s else s.quenchStep).renewTongs

/-- RECORD_POINT: R26, R27, R325, R419: 100 µs before the next tick the staged changes are recorded, Quench steps, and an
active renews Tongs. -/
def execRecordPoint (s : State) : Host.Outcome State Fault Refusal :=
  if s.recordPointDue then .next s.recordPoint else .next s

/-- AUTO_LIVE: R405: once for each BOOT, when R7 first holds in IDLE. -/
def execAutoLive (s : State) : Host.Outcome State Fault Refusal :=
  if s.ctrl.autoLiveArmed ∧ s.mode = .idle ∧ s.paramOn P.AUTO_LIVE ∧ s.red.role ≠ .standby ∧ s.mayPresent then
    .next { s with ctrl := { s.ctrl with autoLiveArmed := false, autoLiveDue := true } }
  else .next s

end Sys2Proof.Machine
end

