-- ==== Sys2Proof/Machine/Boot.lean ====
section
/-! DEFINITION. Reset, start-up and download boot (13_startup_reset_selftest.md, R490 to R501; R206, R370, R456, R460,
R472, R481, R516). -/

namespace Sys2Proof.Machine

/-! ### Reset entry (R490 to R492, R525) -/

/-- What a MAC shows after reset entry: the RELEASE frames that it sent. -/
def Mac.atReset (old new : Mac) : Mac := { sent := new.own.drop old.own.length }

/-- R49: what the servo keeps through a warm reset. -/
def Hearth.atReset (s : State) (warm : Bool) : Hearth :=
  if warm then
    { everLocked := s.hearth.everLocked, servo := if s.hearth.everLocked then .holdover else .free, baseInc := s.time.inc }
  else {}

/-- R370: what the journal keeps: a frozen journal under SYSRST_N, and the flight record until PORST_N. -/
def Journal.atReset (j : Journal) (warm keep : Bool) : Journal :=
  if warm = false then {} else if keep && j.frozen then j else { flight := j.flight }

/-- The register store after reset: each port's filter 0 holds its own address (FILT0_HI, FILT0_LO). -/
def State.ownFilters (s : State) : SMap Word :=
  [0, 1, 2].foldl (fun m i =>
    let a := s.nvm.macBase + i
    SMap.set regReset (SMap.set regReset m (Reg.FILT_HI i 0) (BitVec.ofNat 32 (a / 2 ^ 32 % 2 ^ 16 + 2 ^ 16)))
      (Reg.FILT_LO i 0) (BitVec.ofNat 32 (a % 2 ^ 32))) []

/-- R491: reset entry. `warm`: the counter keeps counting (R49); `keep`: the reset acts as SYSRST_N does on the journal. -/
def State.enterReset (s : State) (cause : Nat) (warm keep : Bool) : State :=
  let r := s.sendRelease 0
  { time := if warm then s.time else {}
    up := s.up
    sys := { cause := cause, clockRuns := warm && s.sys.clockRuns, supervisor := s.sys.supervisor, boot := s.sys.boot }
    hearth := Hearth.atReset s warm
    macA := s.macA.atReset r.macA
    macB := s.macB.atReset r.macB
    macSv := s.macSv.atReset r.macSv
    jnl := s.jnl.atReset warm keep
    ctrl := { undefReads := s.ctrl.undefReads }
    red := { mirrorSent := r.red.mirrorSent.take (r.red.mirrorSent.length - s.red.mirrorSent.length) }
    nvm := s.nvm
    work := { draws := s.work.draws }
    tap := s.tap
    regs := s.ownFilters
    draws := s.draws
    pending := s.pending }

/-- R492: a reset that acts as SYSRST_N does. -/
def State.warmReset (s : State) (cause : Nat) : State := s.enterReset cause true true

/-- No board inputs are known until the next release. -/
def State.pinsHeld (s : State) : State := { s with sys := { s.sys with boot := none } }

/-- PORST_N: R490, R491: a low level of at least 1 µs; the counter stops until the PLL locks again (R49). -/
def execPorstN (lowNs : Nat) (s : State) : Host.Outcome State Fault Refusal :=
  if lowNs < 1000 then .next s else .next (s.enterReset 0 false false).pinsHeld

/-- SYSRST_N: R490, R491, R49, R370. A device that is in reset stays there. -/
def execSysrstN (lowNs : Nat) (s : State) : Host.Outcome State Fault Refusal :=
  if lowNs < 1000 ∨ s.sys.inReset then .next s else .next (s.warmReset 1).pinsHeld

/-- SUPERVISOR_UNDERVOLTAGE: R525: reset entry, whatever the pins show. RESET_CAUSE lists no value for it: a free value
(log 11). -/
def execSupervisorUndervoltage (belowMv ns : Nat) (s : State) : Host.Outcome State Fault Refusal :=
  if belowMv ≤ 30 ∨ ns < 1000 then .next s
  else
    let t : State := if s.sys.inReset then s
      else { s with draws := s.draws + 1 }.enterReset (Config.freeNat s.draws % 8) true false
    .next { t with sys := { t.sys with supervisor := true } }

/-- RESET_AFTER_RESPONSE: R457, R471, R492: 100 ms after the response. -/
def execResetAfterResponse (s : State) : Host.Outcome State Fault Refusal :=
  match s.work.resetDue with
  | some (cause, due) => .next ((s.reach due).warmReset cause)
  | none => .next s

/-- CONFIRM_WINDOW: R473: a trial that was not confirmed. -/
def execConfirmWindow (s : State) : Host.Outcome State Fault Refusal :=
  if s.work.upd = .trial ∧ s.firmwareUp then
    .next ((s.reach (s.work.bootEndUp + s.work.confirmWindow * 1000000000)).warmReset causeConfirm)
  else .next s

/-! ### Steps 1 to 5 (R49, R472, R481, R493 to R496, R515, R516) -/

/-- R496: the start-up ends in FAILED. -/
def State.bootFailed (s : State) : State := { s with sys := { s.sys with phase := 7 } }

/-- R493, R494: step 1 and 2: the straps are latched and the ROM runs. The counter of a device after PORST_N starts at 0. -/
def State.bootLatch (s : State) (b : BootInputs) : State :=
  { s with
    sys := { s.sys with
      inReset := false, clockRuns := true, releaseUp := s.up, supervisor := false, phase := 0, strap := b.bootStrap.toNat
      idStrap := b.idStrap.val, faultN := true, boot := some b, dl := { strap := b.bootStrap.toNat } }
    red := { s.red with roleStrap := b.roleStrap }
    mode := .boot }

/-- R535: the highest FL_CLK rate in MHz at the voltage of VDDIO_H. -/
def flashLimit (ioHigh : Bool) : Nat := if ioHigh then 100 else 200

/-- R535: the boot ROM reads the boot header at 25 MHz in 1S-1S-1S, then runs the flash in 8D-8D-8D at the rate that the header
names, within the limit of VDDIO_H. -/
def State.bootFlash (s : State) (b : BootInputs) : State :=
  { s with sys := { s.sys with flash8d := true, flashMhz := min s.nvm.headerMhz (flashLimit b.ioHigh) } }

/-- A slot that passes step 3 (R459, R462). -/
def Nvm.slotIfValid (n : Nvm) (b : Bool) : Option FwSlot := (if b then n.slotB else n.slotA).filter FwSlot.valid

/-- The slot runs. -/
def State.runSlot (s : State) (b : Bool) (f : FwSlot) : State :=
  { s with work := { s.work with runningB := b, running := some f.manifest, runningBlocks := f.blocks } }

/-- R459, R496: the active slot, else the other one, else NO_SLOT. -/
def State.bootActive (s : State) : State :=
  let a := s.nvm.activeSlotB
  match s.nvm.slotIfValid a, s.nvm.slotIfValid (!a) with
  | some f, _ => s.runSlot a f
  | none, some f => s.runSlot (!a) f
  | none, none => { s with sys := { s.sys with noSlot := true } }.bootFailed

/-- R472: the trial states. -/
def State.bootTrial (s : State) : State :=
  let back : State := { s with nvm := { s.nvm with trialState := 0 }.logBoot, sys := { s.sys with fallback := true } }
  match s.nvm.trialState, s.nvm.slotIfValid s.nvm.trialSlotB with
  | 0, _ => s.bootActive
  | 1, some f =>
    { s with nvm := { s.nvm with trialState := 2 }.logBoot, work := { s.work with upd := .trial } }.runSlot s.nvm.trialSlotB f
  | _, _ => back.bootActive

/-- R515, R516: what the tests of the SRAM found. -/
def State.bootRepair (s : State) (b : BootInputs) : State :=
  let degraded := !b.lostStrands.isEmpty || b.set2Lost || b.set3Lost || !b.journalLost.isEmpty
  let s := { s with sys := { s.sys with
      sparesUsed := b.sparesUsed, degraded := degraded, lost := b.lostStrands, set2Lost := b.set2Lost, set3Lost := b.set3Lost
      criticalMem := b.critical } }
  if b.critical then s.bootFailed else s

/-- R496, R540: the channels that train; 512 MB must remain. -/
def State.bootDram (s : State) (b : BootInputs) : State :=
  let s := { s with
    arb := { s.arb with pop0 := b.ch0, pop1 := b.ch1, lpddr4x := b.lpddr4x, mb := b.mb, rate := b.rate }
    sys := { s.sys with dramFail := !(b.ch0 && b.ch1) } }
  if (b.ch0 || b.ch1) && decide (512 ≤ b.mb) then s else s.bootFailed

/-- R370: a frozen journal becomes the flight record; R516: the ring loses the entries of the 64 KB that failed. -/
def State.bootJournal (s : State) (b : BootInputs) : State :=
  let j := s.jnl
  let flight := if j.frozen then some (j.next - j.ring.length, j.ring) else j.flight
  { s with jnl := { flight := flight, ringCap := 65536 - 4096 * (b.journalLost.eraseDups.filter (· < 16)).length } }

/-! ### Steps 7 to 11 -/

/-- R494, step 7: the engines start, the journal starts with an EPOCH entry, and what the ROM found is raised. -/
def State.bootEngines (s : State) : State :=
  let v := (s.work.running.map (·.fwVersion)).getD 0
  let s := { s with sys := { s.sys with fwVersion := v, phase := 4 }, jnl := { s.jnl with started := true } }.emitEpoch
  let s := if s.sys.fallback then s.raise Ev.FALLBACK else s
  let s := s.sys.lost.foldl (fun s n => s.raiseAt Ev.REPAIR_DEGRADED n) s
  let b := s.sys.boot
  let n := b2n s.sys.set2Lost + b2n s.sys.set3Lost + ((b.map (·.journalLost.length)).getD 0)
  (List.range n).foldl (fun s _ => s.raise Ev.REPAIR_DEGRADED) s

/-- R456: the valid copy with the higher SEQ, and whether it is B. -/
def Nvm.bestCopy (n : Nvm) : Option (Bool × Settings) :=
  match n.copyA, n.copyB with
  | some a, some b => if a.seq < b.seq then some (true, b) else some (false, a)
  | some a, none => some (false, a)
  | none, some b => some (true, b)
  | none, none => none

/-- R456: one parameter of a copy. -/
def State.loadSetting (s : State) (isB : Bool) (c : Settings) (id : Nat) : State :=
  let fixed := fun (cause : Nat) =>
    (s.count Reg.SETTINGS_FIXED).emit Src.NVM Kind.CONFIG Code.SETTINGS_FIXED
      (id * 2 ^ 48 + cause * 2 ^ 40 + b2n isB * 2 ^ 32)
  match c.records.find? fun q => decide (q.1 = id) with
  | none => fixed 0
  | some q => if paramOk id q.2 then s.setParam id q.2 else fixed 1

/-- R456: the settings are loaded. -/
def State.bootSettings (s : State) : State :=
  match s.nvm.bestCopy with
  | none => { s with work := { s.work with defaulted := true } }.raise Ev.SETTINGS_DEFAULTED
  | some (isB, c) =>
    ((List.range 10).flatMap fun g => writableIds (g + 1)).foldl (fun s id => s.loadSetting isB c id)
      { s with work := { s.work with copyALoaded := !isB } }

/-- R68: the grid of the settings, from the counter as it stands. -/
def State.bootGrid (s : State) : State :=
  let t := s.timingWith []
  let k := t.lastIndex s.time.units
  { s with
    hearth := { s.hearth with timing := t, k := k, lastTickNs := t.tickNs k, lastTickUp := 0 }
    fs := { s.fs with ownSlots := t.slots } }

/-- The values that the settings give to the blocks. -/
def State.bootParams (s : State) : State :=
  let s := s.loadParamRegs.bootGrid
  let bright := s.param P.MASTER_BRIGHTNESS
  let s := { s with
    ip := if s.dhcpOn .a then {} else s.staticIp false
    ipSv := if s.dhcpOn .sv then {} else s.staticIp true
    anvil := { s.anvil with
      bright := bright, brightFrom := bright, brightTo := bright, pqWhite := s.param P.PQ_WHITE, hlgGamma := s.param P.HLG_GAMMA } }
  s.syncGroups s

/-- R257, R259, R524: the banks are measured and calibrated. -/
def State.bootBanks (s : State) (b : BootInputs) : State :=
  (List.range 8).foldl (fun s i =>
    let c := vddioClass ((b.vddio[i]?).getD 0)
    s.setBank i { vclass := c, foundClass := c, outRun := 0, zcalOk := b.zcalOk }) s

/-- R97, R494: the training of step 9 has ended on every port: its transmitter leaves electrical idle, and a search begins in the
25G window. -/
def State.portsTrained (s : State) : State :=
  let on := fun (m : Mac) => ({ m with trained := true, win25 := true, winUp := s.up } : Mac)
  { s with macA := on s.macA, macB := on s.macB, macSv := on s.macSv }

/-- R503, R506: class 1 calibration of the four links. -/
def State.bootEyes (s : State) (b : BootInputs) : State :=
  let eyes := (List.range 4).map fun i => (b.eyes[i]?).getD 0
  (List.range 4).foldl (fun s i => s.marginLow i ((eyes[i]?).getD 0) (s.param P.TRIM_EYE_MIN)) { s with trim := { s.trim with eye := eyes } }

/-- R460: the content of a bank becomes the active one, in plane A (R241). -/
def State.loadBank (s : State) (b : FlashBank) : State :=
  let s := { s with anvil := { s.anvil with
      maps := b.maps, planeA := { recs := b.plane, defined := true }, planeB := {}, activeB := false } }
  b.tables.foldl (fun s q => s.putTable q.1 (q.2.foldl (fun m e => SMap.set (s.tableDefault q.1) m e.1 e.2) [])) s

/-- R460: ACTIVE_BANK, else the other bank, which becomes ACTIVE_BANK, else empty maps and the tables of R229. -/
def State.loadBanks (s : State) : State :=
  let bad := fun (s : State) => { s with sys := { s.sys with calBankBad := true } }.raise Ev.CAL_BANK_BAD
  match s.nvm.activeBank.filter (·.valid), s.nvm.otherBank.filter (·.valid) with
  | some b, _ => s.loadBank b
  | none, some b => (bad { s with nvm := { s.nvm with activeBankB := !s.nvm.activeBankB }.logBoot }).loadBank b
  | none, none => bad s

/-- R35: the sizes of regions 1 to 8, in order: working area, queue spill, journal spill, mirror staging, maps and tables,
images, calibration planes and frame store. -/
def State.fixedRegions (c : State) : List Nat :=
  ([32, 16, 16, 4, 16, 16].map (· * 2 ^ 20)) ++
    [2 * 16 * c.mappedPixels, 8 * (c.param P.FS_WINDOW_W * c.param P.FS_WINDOW_H) * c.param P.FS_DEPTH]

/-- R35: regions 1 to 9; the overlay heap has the remainder of the populated capacity. -/
def State.regionSizes (c : State) : List Nat :=
  c.fixedRegions ++ [c.arb.mb * 2 ^ 20 - c.fixedRegions.foldl (· + ·) 0]

/-- The starts that follow one another from `a` on, with their sizes. -/
def startsFrom (a : Nat) : List Nat → List (Nat × Nat)
  | [] => []
  | n :: l => (a, n) :: startsFrom (a + n) l

/-- R34: where DRAM lies. -/
def dramBase : Nat := 0x100000000

/-- R35: the DRAM regions, in order from its base. -/
def State.layoutDram (s : State) : State :=
  { s with arb := { s.arb with regions := startsFrom dramBase s.regionSizes } }

/-- R206: an image passes its check. -/
def FlashImage.good (f : FlashImage) : Bool := decide (crc32c (wordBytes (fun _ => 0) f.data (f.length / 4)) = f.crc)

/-- R206: IMAGE_BAD for an image without a record, or one that fails its check. -/
def State.imageBad (s : State) (which : Nat) (f : Option FlashImage) : State :=
  match f with
  | none => s.raiseWith Ev.IMAGE_BAD 0 (which * 2 ^ 48)
  | some f => if f.good then s else s.raiseWith Ev.IMAGE_BAD 0 (which * 2 ^ 48 + 2 ^ 40)

/-- R206: the images are copied from flash. -/
def State.loadImages (s : State) : State :=
  let safe := s.nvm.safe.filter FlashImage.good
  let emerg := s.nvm.emerg.filter FlashImage.good
  let s := { s with fs := { s.fs with
      safeImage := (safe.map FlashImage.data).getD [], safeOk := safe.isSome
      emergImage := (emerg.map FlashImage.data).getD [], emergOk := emerg.isSome } }
  (s.imageBad 0 s.nvm.safe).imageBad 1 s.nvm.emerg

/-- R413, R414, R448: the role in which the device leaves BOOT. -/
def State.bootRole (s : State) : State :=
  let pair := s.paramOn P.PAIR_ENABLE && !s.sys.set3Lost
  { s with red := { s.red with
      pairEn := pair, role := if pair then .electing else .solo, electStartUp := s.up, helloUp := s.up
      flavour := if s.paramOn P.SHADOW_FLAVOUR then .warm else .hot } }

/-- R464, R467: an update that a reset interrupted is SUSPENDED. -/
def State.bootUpdate (s : State) : State :=
  if s.work.upd = .trial ∨ s.nvm.ckptHead.isNone then s else { s with work := { s.work with upd := .suspended } }

/-- R89, R92: the device with ID_STRAP = 0 drives TICK_OD from the end of BOOT. The spec has a device that comes back from a reset
join as a follower whatever its ID, and ID 0 the master at reset: the model takes the pulses seen on the line during BOOT for
the sign that it comes back to a running board (DESIGN CHOICE, log 127). -/
def State.drivesAtBoot (s : State) : Bool :=
  s.odEn && decide (s.sys.idStrap = 0) &&
    (match s.sys.boot with
     | some b => !b.tickOd
     | none => true)

/-- R494, step 11: IDLE. -/
def State.bootEnd (s : State) : State :=
  let s := { s with
    sys := { s.sys with phase := 5, faultN := false }
    ctrl := { s.ctrl with reqFree := true, autoLiveArmed := true }
    hearth := { s.hearth with od := { driving := s.drivesAtBoot } }
    work := { s.work with idleUp := s.up, bootEndUp := s.up, confirmWindow := s.param P.CONFIRM_WINDOW } }
  ((s.changeModeOpen .idle).irq Irq.REQ_FREE).startLockout

/-- R494: steps 7 to 11, with the firmware in place. -/
def State.finishBoot (s : State) : State :=
  match s.sys.boot with
  | none => s
  | some b =>
    let s := (s.bootEngines.bootSettings).bootParams
    let s := ((s.bootBanks b).bootEyes b).portsTrained
    (s.loadBanks.layoutDram.loadImages).bootRole.bootUpdate.bootEnd

/-- R481: a download strap is accepted: always below SEALED, in SEALED with a permit. -/
def State.downloadAllowed (s : State) : Bool := decide (s.nvm.level ≠ 2) || s.nvm.permit

/-- R481, R495, R497: step 6: hold, open the download window, or boot the slot. Under BOOT_STRAP = 0b10 the ROM brings the service
port up (R500). -/
def State.bootStrapStep (s : State) : State :=
  match s.sys.strap with
  | 3 => { s with sys := { s.sys with phase := 6, faultN := false } }
  | 0 => s.finishBoot
  | _ =>
    if s.downloadAllowed then
      { s with
        nvm := { s.nvm with permit := s.nvm.permit && decide (s.nvm.level ≠ 2) }
        macSv := { s.macSv with trained := s.macSv.trained || decide (s.sys.strap = 2) }
        sys := { s.sys with phase := 3, dl := { s.sys.dl with open_ := true } } }
    else { s with sys := { s.sys with dlRefused := true } }.finishBoot

/-- The next step of the start-up, unless it has failed. -/
def State.andBoot (s : State) (f : State → State) : State := if s.sys.phase = 7 then s else f s

/-- R494: BOOT. Its duration is not modelled (log 30). -/
def State.runBoot (s : State) (b : BootInputs) : State :=
  (((((((s.bootLatch b).bootFlash b)).bootTrial).andBoot fun s => s.bootRepair b).andBoot fun s => s.bootDram b).andBoot fun s =>
    s.bootJournal b).andBoot State.bootStrapStep

/-- RESET_RELEASE: R493, R494. While the supervisor holds the device in reset, the release only shows what the board will
present when the supply returns. -/
def execResetRelease (b : BootInputs) (s : State) : Host.Outcome State Fault Refusal :=
  if s.sys.inReset = false then .next s
  else if s.sys.supervisor then .next { s with sys := { s.sys with boot := some b } }
  else .next (s.runBoot b)

/-- SUPPLY_RETURN: R525: the device leaves reset, with the board as at its last release (log 31). -/
def execSupplyReturn (s : State) : Host.Outcome State Fault Refusal :=
  if s.sys.inReset = false ∨ s.sys.supervisor = false then .next s
  else
    let s := { s with sys := { s.sys with supervisor := false } }
    match s.sys.boot with
    | some b => .next (s.runBoot b)
    | none => .next s

/-! ### Download boot (R497 to R500) -/

/-- R499: the encoding of DL_STATE. -/
def dlWaiting : Nat := 0
def dlReceiving : Nat := 1
def dlAccepted : Nat := 3
def dlRejected : Nat := 4

/-- R498: the package is discarded. -/
def Download.discard (d : Download) : Download := { d with st := dlRejected, next := 0, bytes := [], manifest := none, blocks := [] }

/-- R497: the manifest of a download. -/
def State.dlManifestOk (s : State) (m : Manifest) : Bool :=
  m.verifies && decide (m.kind = 0) && decide (s.nvm.secFloor ≤ m.security) && decide (1 ≤ m.blocks) && decide (m.blocks ≤ 2047)

/-- R497, R499: one step of the ROM on the bytes in hand: a manifest, a record, or nothing yet. -/
def State.dlStep (s : State) (d : Download) : Download × Bool :=
  let start := d.next - d.bytes.length
  match d.manifest with
  | none =>
    if d.bytes.length < 256 then (d, false)
    else
      let m := parseManifest (d.bytes.take 256)
      if s.dlManifestOk m then ({ d with manifest := some m, bytes := d.bytes.drop 256 }, true) else (d.discard, false)
  | some m =>
    let p := d.bytes
    if m.blocks ≤ d.blocks.length then (d, false)
    else if 8 ≤ p.length ∧ recordHeadOk m d.blocks.length start p = false then (d.discard, false)
    else if p.length < 12 ∨ p.length < field p 4 4 then (d, false)
    else
      match runOps [] false 4096 ((p.take (field p 4 4)).drop 12) with
      | none => (d.discard, false)
      | some out =>
        if out.length ≠ 4096 then (d.discard, false)
        else if crc32c out ≠ field p 8 4 then ({ d with next := start, bytes := [] }, false)
        else ({ d with blocks := d.blocks ++ [out], bytes := p.drop (field p 4 4) }, true)

/-- The ROM takes what it can of the bytes in hand. -/
def State.dlRun (s : State) : Nat → Download → Download
  | 0, d => d
  | fuel + 1, d =>
    let r := s.dlStep d
    if r.2 then s.dlRun fuel r.1 else r.1

/-- R497: the whole image is there: it is accepted or discarded. -/
def Download.verdict (d : Download) : Download :=
  match d.manifest with
  | some m =>
    if d.blocks.length < m.blocks then d
    else if sha384 d.blocks.flatten = m.imageDigest then { d with st := dlAccepted } else d.discard
  | none => d

/-- R499: package bytes arrive at offset `off`. -/
def State.dlTake (s : State) (off : Nat) (data : List Byte) : State :=
  let d := s.sys.dl
  if data.isEmpty ∨ d.next < off then s
  else
    let fresh := data.drop (d.next - off)
    let d := { d with st := dlReceiving, bytes := d.bytes ++ fresh, next := d.next + fresh.length }
    { s with sys := { s.sys with dl := (s.dlRun 1024 d).verdict } }

/-- R497: an accepted package runs. -/
def State.dlBoot (s : State) : State :=
  let d := s.sys.dl
  if d.st ≠ dlAccepted then s
  else
    { s with
      sys := { s.sys with dl := { strap := d.strap } }
      work := { s.work with
        upd := .none, downloaded := true, running := d.manifest, runningBlocks := d.blocks } }.finishBoot

/-- DL_CTRL: R499: SUBMIT under BOOT_STRAP = 0b01. -/
def State.writeDlCtrl (s : State) (v : Word) : State :=
  let len := bits v.toNat 26 16
  if s.sys.phase ≠ 3 ∨ s.sys.strap ≠ 1 ∨ v.getLsbD 0 = false ∨ len = 0 ∨ 1024 < len then s
  else
    let buf := bytesOfWords ((List.range 256).map fun i => SMap.get (fun _ => 0) s.sys.dl.buf i)
    (s.dlTake s.sys.dl.offset.toNat (buf.take len)).dlBoot

def execDlCtrl (v : Word) (s : State) : Host.Outcome State Fault Refusal := .next (s.writeDlCtrl v)

/-- R500: the ROM's answer to a datagram. -/
def dlAnswer (d : Download) (src : Endpoint) : OwnFrame :=
  { kind := .udp, cls0 := true, dst := src.addr, sport := 47811, dport := src.udp
    payload := beBytes 2 0x444C ++ beBytes 1 d.st ++ [0] ++ beBytes 4 d.next }

/-- DOWNLOAD_DATAGRAM: R500: under BOOT_STRAP = 0b10. -/
def execDownloadDatagram (toOwnOrBroadcast : Bool) (src : Endpoint) (data : List Byte) (s : State) : Host.Outcome State Fault Refusal :=
  if s.sys.phase ≠ 3 ∨ s.sys.strap ≠ 2 ∨ toOwnOrBroadcast = false ∨ data.length < 9 ∨ 1032 < data.length ∨ field data 0 2 ≠ 0x444C then
    .next s
  else
    let s := s.dlTake (field data 4 4) (data.drop 8)
    .next ({ s with macSv := { s.macSv with sent := dlAnswer s.sys.dl src :: s.macSv.sent } } : State).dlBoot

/-- DL_WINDOW_CLOSE: R497, R498: 1,000 ms after reset release the slot of step 3 boots. -/
def execDlWindowClose (s : State) : Host.Outcome State Fault Refusal :=
  if s.sys.phase ≠ 3 then .next s
  else
    let s := s.reach (s.sys.releaseUp + 1000000000)
    .next { s with sys := { s.sys with dlTimeout := true, dl := { strap := s.sys.dl.strap } } }.finishBoot

end Sys2Proof.Machine
end

