-- ==== Sys2Proof/Machine/Regs.lean ====
section
/-! DEFINITION. What every register of the register blocks shows and how it takes a write (R19, R20, R34, R129, R410 and
the register tables of spec/02 to spec/13). The tables say which bits exist; the functions `view…` say what the fields
that another part of the state is the home of read as. -/

namespace Sys2Proof.Machine

/-- A signed number in a register that saturates at ±(2^31 − 1). -/
def satReg (i : Int) : Nat := satSigned 32 (clampInt (-2147483647) 2147483647 i)

/-- A count in a field that saturates. -/
def satField (w n : Nat) : Nat := min n (2 ^ w - 1)

/-- Bit j of a word for each of 32 things. -/
def bitsOf (f : Nat → Bool) : Nat := (List.range 32).foldl (fun a j => a + b2n (f j) * 2 ^ j) 0

/-! ### Hearth (02_hearth_time_and_tick.md) -/

def DomState.code : DomState → Nat
  | .none => 0
  | .acquire => 1
  | .locked => 2
  | .lost => 3

/-- DOMn_STATUS.PORT_IN_USE. -/
def portInUse : Option Port → Nat
  | some .a => 1
  | some .b => 2
  | _ => 0

/-- DOMn_STATUS; GM_CHANGES stands in the store. -/
def State.viewDomStatus (s : State) (second : Bool) : Nat :=
  let d := s.dom second
  let active := decide (s.hearth.secondActive = second) && !s.hearth.sourcePps && d.delivers
  d.st.code + portInUse d.port * 4 + b2n active * 16 + min 255 (d.age s.up) * 2 ^ 8 + satSigned 8 d.logSync * 2 ^ 16 +
    bits (s.regN (Reg.DOM_STATUS (domIndex second))) 31 24 * 2 ^ 24

/-- The registers of one domain, by offset. -/
def State.viewDomain (s : State) (second : Bool) (o : Nat) : Option Nat :=
  let d := s.dom second
  match o with
  | 0x04 => some (s.viewDomStatus second)
  | 0x08 => some (d.gm / 2 ^ 32)
  | 0x0C => some (d.gm % 2 ^ 32)
  | 0x10 => some (satReg d.offset)
  | 0x14 => some (satReg d.rate)
  | 0x18 => some (satSigned 32 d.mpd)
  | _ => none

/-- TICK_OD_STATUS. -/
def State.viewTickOd (s : State) : Nat :=
  let od := s.hearth.od
  (if s.odEn = false then 2 else b2n od.driving) + b2n od.aligning * 4 + od.master * 2 ^ 8 + min 255 od.silent * 2 ^ 16

/-- The time counter and the servo. -/
def State.viewTime (s : State) (o : Nat) : Option Nat :=
  let h := s.hearth
  match o with
  | 0x04 => some (s.time.inc / 2 ^ 32)
  | 0x08 => some (s.time.inc % 2 ^ 32)
  | 0x10 => some (s.time.sec / 2 ^ 32)
  | 0x14 => some h.latch.secLo
  | 0x18 => some h.latch.ns
  | 0x1C => some h.latch.frac
  | 0x20 => some h.latch.short
  | 0x40 => some (h.servo.code + b2n h.sourcePps * 4 + b2n h.secondActive * 8 + b2n h.slewing * 16 + b2n h.clamped * 32)
  | 0x44 => some (satReg h.offset)
  | _ => none

/-- The tick grid, TICK_OD and PPS. -/
def State.viewTick (s : State) (o : Nat) : Option Nat :=
  let h := s.hearth
  let t := h.timing.reduced
  match o with
  | 0x100 => some t.n
  | 0x104 => some t.m
  | 0x108 => some t.periodNs
  | 0x110 => some (h.k / 2 ^ 32)
  | 0x114 => some h.tickLatchLo
  | 0x118 => some (s.nextTickNs % 2 ^ 32)
  | 0x120 => some (t.slots + t.w0 * 2 ^ 16)
  | 0x124 => some (t.w1 + t.w2 * 2 ^ 10 + t.w3 * 2 ^ 20)
  | 0x140 => some (b2n (h.retime.isSome && decide (h.gap = 0)) + b2n (decide (h.gap ≠ 0)) * 2)
  | 0x144 => some ((match h.retime with
      | some r => r.tNs
      | none => h.lastRetimeNs) % 2 ^ 32)
  | 0x164 => some s.viewTickOd
  | 0x168 => some (satSigned 32 h.od.skew)
  | 0x184 => some (h.ppsStamp % 2 ^ 32)
  | 0x188 => some (satSigned 32 h.ppsError)
  | _ => none

def State.viewHearth (s : State) (o : Nat) : Option Nat :=
  if o < 0x80 then s.viewTime o
  else if o < 0xC0 then s.viewDomain false (o - 0x80)
  else if o < 0x100 then s.viewDomain true (o - 0xC0)
  else s.viewTick o

/-! ### MAC ports (03_network_ports.md) -/

/-- The fields of MAC_CTRL that a port has: the service port has none for forwarding, FEC, the transparent clock and
edges. -/
def macCtrlMask (p : Port) : Nat := if p = .sv then 0x47 else 0xFF

def State.viewMac (s : State) (p : Port) (o : Nat) : Option Nat :=
  let m := s.mac p
  match o with
  | 0x00 => some (s.macCtrl p &&& macCtrlMask p)
  | 0x04 => some (b2n m.up + m.speed * 2 + b2n m.fecActive * 8 + b2n m.blockLock * 16 + b2n m.hiBer * 32 + m.sgmii * 64)
  | 0x10 => some ((s.nvm.macBase + p.index) / 2 ^ 32 % 2 ^ 16)
  | 0x14 => some ((s.nvm.macBase + p.index) % 2 ^ 32)
  | 0x40 => if p = .sv then some 0 else some (satField 16 (fifoLevel m) + bits (s.regN (Reg.FWD_STATUS p.index)) 31 16 * 2 ^ 16)
  | _ => none

/-! ### HPT ingress and class queues (04_pixel_transport.md) -/

def State.viewStream (s : State) (i o : Nat) : Option Nat :=
  let t := s.stream i
  match o with
  | 0x0 => some (t.version + t.port * 4 + b2n t.up * 16 + t.format * 2 ^ 8 + field (s.streamCfg i) 0 2 * 2 ^ 16)
  | 0x4 => some t.frame
  | 0x8 => some (t.high.getD 0)
  | _ => none

/-- Qs_c_LEVEL: fills in whole KB. -/
def ClassQueue.level (q : ClassQueue) : Nat :=
  satField 7 (q.headFill / 1024) + satField 7 (q.tailFill / 1024) * 2 ^ 8 + satField 11 (q.spillFill / 1024) * 2 ^ 16

/-- R175, R410: a register access reads Qs_POP as NOT_VALID. -/
def State.viewQueue (s : State) (set o : Nat) : Option Nat :=
  if o < 0x80 then (if o % 0x20 = 4 then some ((s.qset set).q (o / 0x20)).level else none)
  else if o = 0x80 then some 0 else none

def State.viewIngress (s : State) (o : Nat) : Option Nat :=
  match o with
  | 0x00 => some (b2n (bit (s.regN Reg.ING_CTRL) 0) + b2n (s.paramOn P.SACN_ENABLE) * 2)
  | 0x04 => some (s.param P.HPT_UDP_PORT + s.param P.HPT_ETHERTYPE * 2 ^ 16)
  | 0x08 =>
    let up := ((List.range 64).filter fun i => (s.stream i).up).length
    let live := (s.ingress.universes.filter fun u => !u.sources.isEmpty).length
    some (up + s.ingress.accums.length * 2 ^ 8 + satField 9 live * 2 ^ 16)
  | _ =>
    if 0x100 ≤ o ∧ o < 0x500 then s.viewStream ((o - 0x100) / 0x10) (o % 0x10)
    else if 0x1000 ≤ o ∧ o < 0x1400 then s.viewQueue (o / 0x100 % 4) (o % 0x100)
    else none

/-! ### Frame store (05_frame_store.md) -/

/-- A play or a REPLAY loop runs on the stream. -/
def State.playing (s : State) (i : Nat) : Bool :=
  (s.stream i).play.isSome || (decide (s.mode = .hold) && decide (s.param P.HOLD_POLICY = 1) && (s.stream i).mark.isSome)

def State.viewMark (s : State) (i : Nat) (state : Bool) : Nat :=
  let t := s.stream i
  match t.mark with
  | none => 0
  | some m =>
    if state then
      1 + b2n m.pin * 2 + b2n (s.playing i) * 4 +
        satField 6 (t.parts.filter fun (p : Part) => decide (p.st = .held)).length * 2 ^ 8
    else m.frame

def State.viewLayer (s : State) (n : Nat) : Nat :=
  if n = 3 then 0xFFFF else (s.layer n).front + (s.layer n).back * 2 ^ 16

def State.viewFrameStore (s : State) (o : Nat) : Option Nat :=
  let f := s.fs
  match o with
  | 0x00 => some (s.param P.FS_DEPTH + s.perSlot * 2 ^ 8)
  | 0x04 => some (s.param P.FS_WINDOW_X + s.param P.FS_WINDOW_Y * 2 ^ 16)
  | 0x08 => some (s.param P.FS_WINDOW_W + s.param P.FS_WINDOW_H * 2 ^ 16)
  | 0x10 =>
    some (s.param P.HOLD_POLICY + b2n (decide (s.mode = .hold)) * 4 + min 255 f.shortRun * 2 ^ 8 + min 255 f.goodRun * 2 ^ 16)
  | 0x14 => some (b2n f.raised + b2n f.emergPin * 2 + b2n f.raiseCmd * 4 + b2n f.emergOk * 8 + b2n f.safeOk * 16)
  | _ =>
    if 0x100 ≤ o ∧ o < 0x300 then some (s.viewMark ((o - 0x100) / 8) (decide (o % 8 = 4)))
    else if 0x304 ≤ o ∧ o < 0x310 then some (s.viewLayer ((o - 0x300) / 4))
    else none

/-! ### Anvil (06_anvil_pixel_pipeline.md) -/

/-- R249: cycles per tick: for each strand its pixels and runs and twice the lines that carry pixels. -/
def PixMap.cycles (m : PixMap) : Nat := m.pixels + m.runCount + 2 * ceilDiv m.pixels m.pixPerLine

def State.renderCycles (s : State) : Nat :=
  s.hearth.timing.slots * (allStrands.map fun n => if (s.map n).pixels = 0 then 0 else (s.map n).cycles).foldl (· + ·) 0

/-- No line is being rendered between two steps, so the lanes are idle. -/
def State.viewAnvil (s : State) (o : Nat) : Option Nat :=
  let v := s.anvil
  match o with
  | 0x00 =>
    some (b2n (s.paramOn P.DITHER_ENABLE) + b2n (s.paramOn P.TONE_ENABLE) * 2 + s.param P.ANVIL_BYPASS * 4 + s.param P.TPG_PATTERN * 2 ^ 8)
  | 0x04 =>
    let tables := (List.range 5).foldl (fun a t => a + b2n (v.acceptedTables.any fun q => decide (q.1 = t)) * 2 ^ t) 0
    some (b2n v.rendering + b2n v.activeB * 2 + b2n v.staging * 4 + b2n v.calPending * 8 + tables * 2 ^ 4)
  | 0x08 => some (s.mappedPixels * s.hearth.timing.slots % 2 ^ 24)
  | 0x0C => some (s.renderCycles % 2 ^ 25)
  | 0x20 => some (v.bright + s.param P.MASTER_BRIGHTNESS * 2 ^ 16)
  | 0x24 => some (s.param P.SPLIT_THRESHOLD)
  | 0x30 => some (field (s.paramBytes P.TPG_COLOUR) 0 2 + field (s.paramBytes P.TPG_COLOUR) 2 2 * 2 ^ 16)
  | 0x34 => some (field (s.paramBytes P.TPG_COLOUR) 4 2 + field (s.paramBytes P.TPG_COLOUR) 6 2 * 2 ^ 16)
  | 0x38 => some (s.param P.TPG_PERIOD)
  | _ => if 0x100 ≤ o ∧ o < 0x114 then some (s.tableCrc ((o - 0x100) / 4)) else none

/-! ### Strands (07_strand_ports_and_nsp.md) -/

/-- STR_STATUS.STATE. -/
def State.strandState (s : State) (n : Nat) : Nat :=
  let t := s.strand n
  if s.coder n = Coder.OFF then 0
  else if t.enumerating then 3
  else if s.mode = .shadow then 4
  else if t.kind = .none then 1
  else 2

def State.viewStrand (s : State) (n o : Nat) : Option Nat :=
  let t := s.strand n
  match o with
  | 0x00 => some (s.coder n + s.rateCode n * 16)
  | 0x04 =>
    some (s.strandState n + b2n t.busActive * 8 + b2n t.lastSwp * 16 + b2n t.bellows * 32 + satField 10 t.drivers.length * 2 ^ 16)
  | 0x10 => some (s.hActive n + 16 * 2 ^ 8 + s.hBp n * 2 ^ 16 + s.hFp n * 2 ^ 24)
  | 0x14 => some (s.vActive n + s.lineMatch n * 2 ^ 16)
  | 0x18 => some (s.vFp n)
  | 0x1C => some (s.vSync n + s.vBp n * 2 ^ 16)
  | 0x24 => some (satField 16 t.fill + bits (s.regN (Reg.LB_LEVEL n)) 31 16 * 2 ^ 16)
  | _ => none

/-- BANKb_STATUS. -/
def State.viewBank (s : State) (b : Nat) : Nat :=
  let c := field (s.paramBytes (P.BANK_CFG b)) 0 2
  (s.bank b).vclass + bits c 1 0 * 4 + bits c 2 2 * 16 + b2n (s.bank b).zcalOk * 32

/-- STR_EVENT_SUMMARY: an enabled event of the strand is set. -/
def State.strandPending (s : State) (n : Nat) : Bool :=
  decide (s.regN (Reg.STR_EVENTS n) &&& s.regN (Reg.STR_EVENT_EN n) ≠ 0)

def State.viewStrands (s : State) (o : Nat) : Option Nat :=
  if o < 0x8000 then s.viewStrand (o / 0x1000 * 16 + o % 0x1000 / 0x100) (o % 0x100)
  else if o < 0x8020 then some (s.viewBank (o % 0x20 / 4))
  else if 0x8040 ≤ o ∧ o < 0x8050 then some (bitsOf fun j => (s.strand (o % 0x10 / 4 * 32 + j)).busActive)
  else if 0x8050 ≤ o ∧ o < 0x8060 then some (bitsOf fun j => s.strandPending (o % 0x10 / 4 * 32 + j))
  else none

/-! ### Lamp control (08_lamp_control.md) -/

/-- DIODEn_TEMP. -/
def State.viewDiode (s : State) (k : Nat) : Nat :=
  let l := s.lamp
  let d := match k with
    | 0 => (l.diode0, l.diodeFault0)
    | 1 => (l.diode1, l.diodeFault1)
    | 2 => (l.diode2, l.diodeFault2)
    | _ => (l.diode3, l.diodeFault3)
  satSigned 16 (d.1.getD (-32768)) + b2n d.2 * 2 ^ 16

/-- ZONE_SEL names the zone that ZONE_INFO and ZONE_GAIN show. -/
def State.shownZone (s : State) : Zone :=
  let z := s.regN Reg.ZONE_SEL
  s.zone (bits z 6 0) (bits z 24 16)

def State.viewLampZones (s : State) (o : Nat) : Option Nat :=
  let l := s.lamp
  let z := s.shownZone
  match o with
  | 0x50 =>
    some (satField 16 (l.zones.filter fun p => decide (p.2.q < 4096)).length +
      satField 16 (l.zones.filter fun p => decide (p.2.q = s.quenchFloor)).length * 2 ^ 16)
  | 0x64 => some (satSigned 16 z.temp + z.source * 2 ^ 16 + z.q * 2 ^ 19)
  | 0x68 => some (z.g0 + z.g1 * 2 ^ 16)
  | 0x6C => some (z.g2 + z.g3 * 2 ^ 16)
  | 0x74 =>
    some (satField 16 (l.faultMap.filter fun p => decide (faultState p.2 = 1)).length +
      satField 16 (l.faultMap.filter fun p => decide (faultState p.2 = 2)).length * 2 ^ 16)
  | _ => none

def State.viewLamp (s : State) (o : Nat) : Option Nat :=
  let l := s.lamp
  match o with
  | 0x00 =>
    some (b2n (s.paramOn P.QUENCH_ENABLE) + b2n (s.paramOn P.TRACK_ENABLE) * 2 + b2n (s.paramOn P.CAMERA_MODE) * 4 +
      b2n (s.paramOn P.SHORT_LATCH) * 8 + s.param P.SENSE_PER_TICK * 16)
  | 0x04 => some (l.n0 + l.n1 * 2 ^ 8 + l.n2 * 2 ^ 16 + l.n3 * 2 ^ 24)
  | 0x10 => some (s.pitch 8 0)
  | 0x14 => some (s.pitch 8 1)
  | 0x18 => some (s.pitch 8 2)
  | 0x1C => some (s.pitch 8 3)
  | 0x20 => some (b2n l.refreshShort + b2n l.dieWarn * 2 + b2n l.shutdown * 4 + b2n l.anyLost * 8)
  | 0x24 => some (l.sensePos % 2 ^ 16)
  | 0x30 => some (satSigned 16 l.die + satSigned 16 l.dieMax * 2 ^ 16)
  | 0x40 => some (s.viewDiode 0)
  | 0x44 => some (s.viewDiode 1)
  | 0x48 => some (s.viewDiode 2)
  | 0x4C => some (s.viewDiode 3)
  | _ => s.viewLampZones o

/-! ### Scheduler, locks, engines, arbiter, journal (09_engines_scheduling_journal.md) -/

def TaskState.code : TaskState → Nat
  | .free => 0
  | .waiting => 1
  | .ready => 2
  | .dispatched => 3
  | .suspended => 4
  | .done => 5

def State.viewTask (s : State) (n : Nat) : Nat :=
  let t := s.task n
  t.st.code + t.prio * 8 + b2n t.cancelReq * 64 + b2n t.flow.isSome * 128 + t.flow.getD 0 * 2 ^ 8 +
    (if t.inService then t.engine * 2 ^ 16 else 0)

/-- LOCKn_STATE; TRY_ONLY and SHADOW are fixed by R347. -/
def State.viewLock (s : State) (n : Nat) : Nat :=
  let l := s.lock n
  (regReset (Reg.LOCK_STATE n)).toNat + b2n l.owner.isSome + (l.owner.getD 0) * 2 ^ 8 + l.waiters.length * 2 ^ 16

def State.viewEngine (s : State) (e : Nat) : Nat :=
  let g := s.engine e
  let st := if g.halted then 3 else if g.restarting then 2 else if g.task.isSome ∨ s.mode = .boot then 0 else 1
  st + bits (s.regN (Reg.ENG_STATUS e)) 15 8 * 2 ^ 8 + g.task.getD 0 * 2 ^ 16

def State.viewSched (s : State) (o : Nat) : Option Nat :=
  if o = 0 then
    let used := (s.sched.tasks.filter fun p => decide (p.2.st ≠ .free)).length
    let ready := (List.range 8).foldl (fun a p =>
      a + b2n (s.sched.tasks.any fun q => decide (q.2.st = .ready) && decide (q.2.prio = p)) * 2 ^ p) 0
    some (used + ready * 2 ^ 11)
  else if 0x100 ≤ o ∧ o < 0x120 then
    some (bitsOf fun j => s.sched.tasks.any fun q => q.2.inService && decide (q.2.flow = some ((o - 0x100) / 4 * 32 + j)))
  else if 0x1000 ≤ o ∧ o < 0x1800 then some (s.viewTask (o % 0x800 / 4))
  else if 0x2000 ≤ o ∧ o < 0x2100 then some (s.viewLock (o % 0x100 / 4))
  else if 0x3000 ≤ o ∧ o < 0x3050 then some (s.viewEngine (o % 0x100 / 4))
  else none

def State.viewArb (s : State) (o : Nat) : Option Nat :=
  let status := fun (c : Nat) =>
    let a := s.channelArb c
    a.owner + (List.range 8).foldl (fun m k => m + b2n (a.waiting.any fun w => decide (w.1 = k)) * 2 ^ k) 0 * 2 ^ 4 +
      satField 8 (allStrands.filter fun n => (s.strand n).bellows).length * 2 ^ 16
  match o with
  | 0x000 => some (s.channelArb 0).ranks
  | 0x100 => some (s.channelArb 1).ranks
  | 0x004 => some (status 0)
  | 0x104 => some (status 1)
  | 0x800 =>
    some (b2n s.arb.pop0 + b2n s.arb.pop1 * 2 + b2n s.arb.lpddr4x * 4 + s.arb.mb / 256 % 32 * 2 ^ 8 + s.arb.rate % 2 ^ 16 * 2 ^ 16)
  | _ => none

def State.viewJournal (s : State) (o : Nat) : Option Nat :=
  let j := s.jnl
  match o with
  | 0x00 =>
    some (b2n j.frozen + b2n j.flight.isSome * 2 + b2n s.streamOn * 4 + j.unspilled * 2 ^ 8)
  | 0x08 => some (j.next / 2 ^ 32)
  | 0x0C => some j.latchNext
  | 0x10 => some (s.jOldest / 2 ^ 32)
  | 0x14 => some j.latchOldest
  | _ => none

/-! ### Redundancy (11_redundancy_and_boards.md) -/

def State.viewRed (s : State) (o : Nat) : Option Nat :=
  let r := s.red
  match o with
  | 0x00 =>
    some (r.role.code + b2n (decide (r.flavour = .warm)) * 4 + b2n r.stale * 8 + b2n r.mirrorUp * 16 + b2n r.hbSeen * 32 +
      b2n s.healthOk * 64 + b2n r.ownIlIn * 128 + b2n r.ownIlOut * 256 + r.peerRole.code * 512 + b2n r.peerHeard * 2048)
  | 0x04 => some (r.expiry % 2 ^ 32)
  | 0x08 => some (r.peerSerial / 2 ^ 32 % 2 ^ 32)
  | 0x0C => some (r.peerSerial % 2 ^ 32)
  | 0x10 => some (satField 17 r.recordSize + b2n r.lagging * 2 ^ 17)
  | _ => none

/-! ### NVM and access (12_persistence_update_access.md) -/

/-- SEQ of the newest valid settings copy. -/
def State.settingsSeq (s : State) : Nat :=
  match s.nvm.bestCopy with
  | some c => c.2.seq
  | none => 0

/-- R454: a settings copy as it stands in the NVM. -/
def Settings.image (c : Settings) : List Byte :=
  let area := c.records.flatMap fun q => paramRecord q.1 false q.2
  beBytes 4 0x53544F52 ++ beBytes 2 1 ++ [0, 0] ++ beBytes 4 c.seq ++ beBytes 4 area.length ++ beBytes 4 (crc32c area) ++
    beBytes 4 c.fw ++ beBytes 8 0 ++ area

/-- A word of the NVM: sectors 2 to 11 read 0, the boot and checkpoint logs by R452, settings copies by R454; the rest of the NVM has no stated layout, and its words
are free values (log 11). -/
def State.nvmWordAt (s : State) (addr : Nat) : Nat :=
  let a := addr / 4 * 4
  let sector := a / 4096
  let copy := fun (c : Option Settings) (base : Nat) =>
    match c with
    | some c => let p := c.image
                if a - base < p.length then field p (a - base) 4 else Config.freeNat s.draws % 2 ^ 32
    | none => Config.freeNat s.draws % 2 ^ 32
  let log := fun (l : NvmLog) (base : Nat) => (l.word (a - base)).getD (Config.freeNat s.draws % 2 ^ 32)
  if 2 ≤ sector ∧ sector ≤ 11 then 0
  else if 12 ≤ sector ∧ sector ≤ 19 then log s.nvm.bootLog (12 * 4096)
  else if 20 ≤ sector ∧ sector ≤ 35 then log s.nvm.ckptLog (20 * 4096)
  else if 36 ≤ sector ∧ sector ≤ 51 then copy s.nvm.copyA (36 * 4096)
  else if 52 ≤ sector ∧ sector ≤ 67 then copy s.nvm.copyB (52 * 4096)
  else Config.freeNat s.draws % 2 ^ 32

def State.viewNvm (s : State) (o : Nat) : Option Nat :=
  let n := s.nvm
  match o with
  | 0x00 =>
    some (b2n s.work.storing.isSome + b2n n.copyA.isSome * 2 + b2n n.copyB.isSome * 4 + b2n (!s.work.copyALoaded) * 8 + b2n s.work.defaulted * 16)
  | 0x04 => some s.settingsSeq
  | 0x08 =>
    some (b2n n.activeSlotB + b2n s.work.runningB * 2 + n.trialState * 4 + b2n n.activeBankB * 16 + s.work.upd.code * 32)
  | 0x0C => some n.secFloor
  | 0x14 => some (s.nvmWordAt (s.regN Reg.NVM_RAW_ADDR))
  | _ => none

/-- Union of the rights held on any channel. -/
def State.rightsAny (s : State) : Nat :=
  (s.ctrl.ch1 ++ s.ctrl.ch2).foldl (fun a c => a ||| c.rights) (s.ctrl.ch0.rights ||| s.ctrl.ch3.rights)

/-- LOCKOUT_LEFT: whole seconds, a started one counted (log 33). -/
def State.lockoutLeft (s : State) : Nat := if s.work.lockout then ceilDiv (s.work.lockoutUntil - s.up) 1000000000 else 0

def State.viewAccess (s : State) (o : Nat) : Option Nat :=
  let n := s.nvm
  match o with
  | 0x00 =>
    some (n.level + b2n s.work.lockout * 4 + b2n n.pwDigest.isSome * 8 + b2n n.permit * 16 + min 255 n.failures * 2 ^ 8 +
      s.rightsAny % 32 * 2 ^ 16)
  | 0x04 => some s.lockoutLeft
  | _ => none

/-! ### Self-test and trim (13_startup_reset_selftest.md) -/

/-- R507: the cost of a test in mW. -/
def testCost (target : Nat) : Nat :=
  match target with
  | 0 => 150
  | 1 => 40
  | 2 => 5
  | 3 => 10
  | 4 => 60
  | 5 => 60
  | _ => 500

/-- R509: the cost of the running tests. -/
def State.testPower (s : State) : Nat := ((s.bist.tests.filter (·.running)).map fun t => testCost t.target).foldl (· + ·) 0

def State.viewBist (s : State) (o : Nat) : Option Nat :=
  match o with
  | 0x00 =>
    some ((s.bist.tests.filter (·.running)).length + (s.bist.tests.filter fun t => !t.running).length * 8 + s.testPower * 2 ^ 16)
  | 0x04 => some (s.param P.BIST_POWER_BUDGET)
  | 0x10 => some (satField 10 s.sys.sparesUsed + b2n s.sys.degraded * 2 ^ 10 + b2n s.sys.criticalMem * 2 ^ 11)
  | _ => if 0x40 ≤ o ∧ o < 0x50 then some (bitsOf fun j => s.sys.lost.contains ((o - 0x40) / 4 * 32 + j)) else none

def State.viewTrim (s : State) (o : Nat) : Option Nat :=
  let t := s.trim
  match o with
  | 0x00 => some (b2n t.due + b2n t.pending.isSome * 2 + b2n t.marginLow * 4 + satSigned 16 t.lastTemp * 2 ^ 16)
  | _ =>
    if 0x10 ≤ o ∧ o < 0x20 then some (satField 10 ((t.eye[(o - 0x10) / 4]?).getD 0))
    else if 0x20 ≤ o ∧ o < 0x28 then some (satField 12 ((t.dram[(o - 0x20) / 4]?).getD 0))
    else if 0x30 ≤ o ∧ o < 0x50 then
      let r := (t.ret[(o - 0x30) / 4]?).getD (0, 0)
      some (satField 8 r.1 + r.2 % 128 * 2 ^ 8)
    else none

/-! ### Reading -/

/-- What the register at `a` shows, where the store is not its home. -/
def State.view (s : State) (a : Nat) : Option Nat :=
  let o := a % 0x10000
  match blockOf a with
  | 0x1 => s.viewHearth o
  | 0x2 => if o < 0x1000 then s.viewMac .a o else if o < 0x2000 then s.viewMac .b (o % 0x1000) else s.viewMac .sv (o % 0x1000)
  | 0x3 => s.viewIngress o
  | 0x4 => s.viewFrameStore o
  | 0x5 => s.viewAnvil o
  | 0x6 => s.viewStrands o
  | 0x7 => s.viewLamp o
  | 0x8 => s.viewSched o
  | 0x9 => s.viewArb o
  | 0xA => s.viewJournal o
  | 0xB => s.viewRed o
  | 0xC => s.viewNvm o
  | 0xD => s.viewBist o
  | 0xE => s.viewTrim o
  | 0xF => s.viewAccess o
  | _ => none

/-- R19, R20: what a read of row `r` at `a` returns: write-only and reserved bits read 0. -/
def State.shown (s : State) (r : RegRow) (a : Nat) : Nat :=
  ((match s.view a with
    | some n => n
    | none => s.regN a) &&& r.dfd) &&& (2 ^ 32 - 1 - r.wo)

/-- R129: the low words of the 64-bit byte counters of the ports. -/
def byteLow (a : Nat) : Bool :=
  decide (blockOf a = 2) && [0x480, 0x488, 0x490].contains (a % 0x1000)

/-- R129: their high words. -/
def byteHigh (a : Nat) : Bool :=
  decide (blockOf a = 2) && [0x484, 0x48C, 0x494].contains (a % 0x1000)

/-- R129: a read of a low word returns it and latches the high word. -/
def State.readByteLow (s : State) (a : Nat) : State × Word :=
  ({ s with byteLatch := (s.byteLatch.filter fun q => decide (q.1 ≠ a)) ++ [(a, s.reg (a + 4))] }, s.reg a)

/-- R129: the read of the high word that follows returns the latched value and clears both words; any other reads 0. -/
def State.readByteHigh (s : State) (a : Nat) : State × Word :=
  match s.byteLatch.find? fun q => decide (q.1 = a - 4) with
  | some q =>
    (({ s with byteLatch := s.byteLatch.filter fun x => decide (x.1 ≠ a - 4) }.setRegN (a - 4) 0).setRegN a 0, q.2)
  | none => (s, 0)

/-- R19: what is cleared after a read of an RC field: the fields to their reset values. -/
def State.clearRead (s : State) (r : RegRow) (a : Nat) : State :=
  if r.rc = 0 then s
  else if a = Reg.DIE_TEMP then { s with lamp := { s.lamp with dieMax := -32768 } }
  else
    let n := s.regN a
    s.setRegN a (n - (n &&& r.rc) + ((regReset a).toNat &&& r.rc))

/-- R34: an access to a word where no register is. -/
def State.unmapped (s : State) (a : Nat) : State := s.emit Src.CP Kind.CONFIG Code.UNMAPPED (a * 2 ^ 32)

/-- A register that draws a free value as it is read. -/
def State.afterDraw (s : State) (a : Nat) : State :=
  if a = Reg.NVM_RAW_DATA then { s with draws := s.draws + 1 } else s

/-- The read of one word of the register blocks, with its effects. -/
def State.readReg (s : State) (a : Nat) : State × Word :=
  match regRow a with
  | none => (s.unmapped a, 0)
  | some r =>
    if a = Reg.TIME_SEC_HI then s.readTimeSecHi false
    else if a = Reg.TICK_INDEX_HI then s.readTickIndexHi
    else if a = Reg.JNL_NEXT_HI then s.readJnlNextHi
    else if a = Reg.JNL_OLDEST_HI then s.readJnlOldestHi
    else if byteLow a then s.readByteLow a
    else if byteHigh a then s.readByteHigh a
    else ((s.clearRead r a).afterDraw a, BitVec.ofNat 32 (s.shown r a))

/-! ### Writing -/

/-- The new content of a register by the access codes of R19; `open_` tells whether RWL fields take the write. -/
def RegRow.written (r : RegRow) (open_ : Bool) (old v : Nat) : Nat :=
  let mask := r.rw ||| (if open_ then r.rwl else 0)
  let kept := old - (old &&& mask) + (v &&& mask)
  kept - (kept &&& (v &&& r.w1c))

/-- Values that the description of a register ignores. -/
def ignoresWrite (a v : Nat) : Bool :=
  if a = Reg.SLEW_LIMIT then decide (bits v 8 0 < 1) || decide (500 < bits v 8 0)
  else if blockOf a = 2 ∧ a % 0x1000 = 0x008 then decide (bits v 13 0 < 1518) || decide (9600 < bits v 13 0)
  else if blockOf a = 6 ∧ a % 0x10000 < 0x8000 ∧ a % 0x100 = 0x20 then decide (bits v 30 16 ≤ bits v 14 0 + 2048)
  else false

/-- R97, R128, R410: a write of MAC_CTRL that disables the port takes its link down; one that changes speed or FEC retrains
it; one that enables it starts a search. -/
def State.macCtrlWritten (s : State) (p : Port) (old : Nat) : State :=
  let new := s.macCtrl p
  if bits old 3 0 = bits new 3 0 then s
  else if bit new 0 then s.retrain p else if (s.mac p).up then s.portDown p else s

/-- The port whose MAC_CTRL lies at `a`. -/
def macCtrlPort (a : Nat) : Option Port :=
  if a = Reg.MAC_CTRL 0 then some .a else if a = Reg.MAC_CTRL 1 then some .b else if a = Reg.MAC_CTRL 2 then some .sv else none

/-- The fields of a port that the service port does not have ignore writes. -/
def writeMask (a v old : Nat) : Nat :=
  if a = Reg.MAC_CTRL 2 then (v &&& 0x47) + (old &&& 0xB8) else v

/-- R173, R174: a queue that is enabled or switched to polling may wake its consumer. -/
def queueSetOf (a : Nat) : Option Nat :=
  if 0x40031000 ≤ a ∧ a < 0x40031400 ∧ a % 0x100 < 0x80 ∧ a % 0x20 = 0 then some (a / 0x100 % 4) else none

/-- The strand whose LB_WM lies at `a`. -/
def lbStrandOf (a : Nat) : Option Nat :=
  if 0x40060000 ≤ a ∧ a < 0x40068000 ∧ a % 0x100 = 0x20 then some (a / 0x1000 % 8 * 16 + a / 0x100 % 16) else none

/-- R289: new watermarks judge Bellows anew. -/
def State.watermarks (s : State) (a : Nat) : State :=
  match lbStrandOf a with
  | some n => s.bellows n
  | none => s

/-- What a write to the register at `a` sets off beside its new value; `old` is the value before. -/
def State.afterWrite (s : State) (a old : Nat) : State :=
  let s := s.watermarks a
  if a = Reg.PPS_CTRL then s.releasePps
  else if a = Reg.TICK_OD_CTRL then s.leaveTickOd
  else
    match macCtrlPort a, queueSetOf a with
    | some p, _ => s.macCtrlWritten p old
    | none, some q => s.wakePop q
    | none, none => s

/-- R19: a write to a register without a rule of its own. -/
def State.writePlain (s : State) (r : RegRow) (by_ : Accessor) (a v : Nat) : State :=
  let old := s.regN a
  if ignoresWrite a v then s
  else (s.setRegN a (r.written (s.unlocked by_) old (writeMask a v old))).afterWrite a old

/-- The registers whose write has a row of its own; none for the others. -/
def State.writeOwn (s : State) (by_ : Accessor) (a : Nat) (v : Word) : Option State :=
  if a = Reg.TIME_SEC_HI then some (s.writeTimeSec by_ true v)
  else if a = Reg.TIME_SEC_LO then some (s.writeTimeSec by_ false v)
  else if a = Reg.TIME_NS then some ((s.writeTimeNs by_ v).settleStep s)
  else if a = Reg.TIME_INC_HI then some (s.writeTimeIncHi by_ v)
  else if a = Reg.TIME_INC_LO then
    some (if s.unlocked by_ then { s with hearth := { s.hearth with stageIncLo := v.toNat } } else s.regDenied a v)
  else if a = Reg.JNL_MARK then some (s.journalMark v.toNat)
  else if a = Reg.TASK_CANCEL then some (s.cancelTask (v.toNat % 512))
  else if a = Reg.FAULT_CLEAR then some (s.clearFaults v)
  else if a = Reg.ARB_RANK 0 then some (s.writeArbRank 0 v.toNat)
  else if a = Reg.ARB_RANK 1 then some (s.writeArbRank 1 v.toNat)
  else none

/-- Qs_DONE. -/
def queueDoneOf (a : Nat) : Option Nat :=
  if 0x40031000 ≤ a ∧ a < 0x40031400 ∧ a % 0x100 = 0x8C then some (a / 0x100 % 4) else none

/-- R19: the RWL fields of `r` refuse the accessor: the write is ignored and journalled. -/
def State.rwlRefuses (s : State) (r : RegRow) (by_ : Accessor) : Bool := decide (r.rwl ≠ 0) && !s.unlocked by_

/-- The write of one word of the register blocks. -/
def State.writeReg (s : State) (by_ : Accessor) (a : Nat) (v : Word) : State :=
  match regRow a with
  | none => s.unmapped a
  | some r =>
    match s.writeOwn by_ a v, queueDoneOf a with
    | some t, _ => t
    | none, some q => s.popDone q v.toNat
    | none, none => if s.rwlRefuses r by_ then s.regDenied a v else s.writePlain r by_ a v.toNat

end Sys2Proof.Machine
end

