-- ==== Sys2Proof/Machine/AddressMap.lean ====
section
/-! DEFINITION. The 36-bit system address space that the engines and Anvil share (R34): what lies at an address, what a word
there reads as, and what a write of it does; and the commands that read and write one word. -/

namespace Sys2Proof.Machine

/-- R34: the rows of the address map. -/
inductive Place where
  | bootRom | cpLocal | scLocal | peLocal (pe : Nat) | sqLocal (sq : Nat) | lineBuffer (strand : Nat) | queueSram | journal
  | registers | nvm | flash | dram | unmapped
  deriving DecidableEq, Repr

/-- R34: the row of address `a`. -/
def placeOf (a : Nat) : Place :=
  if a < 0x10000 then .bootRom
  else if 0x10000000 ≤ a ∧ a < 0x10080000 then .cpLocal
  else if 0x10080000 ≤ a ∧ a < 0x100C0000 then .scLocal
  else if 0x100C0000 ≤ a ∧ a < 0x101C0000 then .peLocal ((a - 0x100C0000) / 0x80000)
  else if 0x101C0000 ≤ a ∧ a < 0x10300000 then .sqLocal ((a - 0x101C0000) / 0x14000)
  else if 0x20000000 ≤ a ∧ a < 0x20400000 then .lineBuffer ((a - 0x20000000) / 0x8000)
  else if 0x20400000 ≤ a ∧ a < 0x20600000 then .queueSram
  else if 0x20600000 ≤ a ∧ a < 0x20700000 then .journal
  else if 0x40000000 ≤ a ∧ a < 0x40100000 then .registers
  else if 0x50000000 ≤ a ∧ a < 0x50080000 then .nvm
  else if 0x60000000 ≤ a ∧ a < 0xA0000000 then .flash
  else if dramBase ≤ a ∧ a < dramBase + 0x100000000 then .dram
  else .unmapped

/-- R34: the CP's 32-bit address `a` as a system address: its four DRAM windows of 256 MB lie where the firmware places them
(log 134). -/
def cpAddress (a : Nat) : Nat :=
  if 0xC0000000 ≤ a ∧ a < 0x100000000 then
    dramBase + Config.cpWindow ((a - 0xC0000000) / 2 ^ 28) % 16 * 2 ^ 28 + a % 2 ^ 28
  else a

/-- Word number `i` of a run of bytes; none past its end. -/
def wordIn (p : List Byte) (i : Nat) : Option Nat := if i * 4 < p.length then some (field p (i * 4) 4) else none

/-- The frame of a class queue whose head bytes hold the word at system address `a`, read from its own first byte on. -/
def State.queueWord (s : State) (a : Nat) : Option Nat :=
  let n := (a - 0x20400000) / 0x80000
  let c := (a - 0x20400000) / 0x20000 % 4
  let t := s.qset n
  let fs := (t.popped.filter fun p => decide (p.1 = c)).map (·.2) ++ (t.q c).frames.filter fun f => decide (f.endPos ≤ (t.q c).hPos)
  let off := fun (f : QFrame) => (a % headBytes + headBytes - f.pos % headBytes) % headBytes
  match fs.find? fun f => decide (off f < f.bytes.length) with
  | some f => some (field f.bytes (off f) 4)
  | none => none

/-- R363, R368: the word of the on-chip journal: entry number n stands at n mod 65,536. -/
def State.journalWord (s : State) (a : Nat) : Option Nat :=
  let i := (a - 0x20600000) / 16
  let n := s.jRingFirst + (i + 65536 - s.jRingFirst % 65536) % 65536
  match s.jAt n with
  | some e => wordIn e.bytes (a % 16 / 4)
  | none => none

/-- R459: a word of a firmware slot: the manifest, erased bytes up to the image, and the image. -/
def FwSlot.word (f : FwSlot) (o : Nat) : Option Nat :=
  if o < 0x1000 then wordIn (f.manifest.bytes ++ List.replicate (0x1000 - f.manifest.bytes.length) (0xFF : Byte)) (o / 4)
  else
    match f.blocks[(o - 0x1000) / 4096]? with
    | some b => wordIn b (o % 4096 / 4)
    | none => none

/-- R478: a word of an image area. -/
def FlashImage.word (f : FlashImage) (o : Nat) : Option Nat :=
  if o < f.length then some (SMap.get (fun _ => 0) f.data (o / 4)) else none

/-- R460: a word of a bank: the calibration records from 0x1000 on, the maps and tables from 0x0200_1000 on. The fields of the
bank header have no stated places (log 134). -/
def FlashBank.word (b : FlashBank) (o : Nat) : Option Nat :=
  if 0x1000 ≤ o ∧ o < 0x2001000 then
    let k := (o - 0x1000) / 16
    if k < b.pixels then wordIn (beBytes 16 (b.record k)) (o % 16 / 4) else none
  else if 0x2001000 ≤ o then wordIn b.rest ((o - 0x2001000) / 4)
  else none

/-- R458 to R460: a word of the flash whose content the state holds. -/
def State.flashWord (s : State) (o : Nat) : Option Nat :=
  if 0x20000 ≤ o ∧ o < 0x820000 then s.nvm.slotA.bind fun f => f.word (o - 0x20000)
  else if 0x820000 ≤ o ∧ o < 0x1020000 then s.nvm.slotB.bind fun f => f.word (o - 0x820000)
  else if 0x1020000 ≤ o ∧ o < 0x3820000 then s.nvm.bankA.bind fun b => b.word (o - 0x1020000)
  else if 0x3820000 ≤ o ∧ o < 0x6020000 then s.nvm.bankB.bind fun b => b.word (o - 0x3820000)
  else if 0x6020000 ≤ o ∧ o < 0x6820000 then s.nvm.safe.bind fun f => f.word (o - 0x6020000)
  else if 0x6820000 ≤ o ∧ o < 0x7020000 then s.nvm.emerg.bind fun f => f.word (o - 0x6820000)
  else none

/-- What an engine has written at `a`. -/
def State.memoryWord (s : State) (a : Nat) : Option Nat :=
  match SMap.get (fun _ => 0) s.memory a with
  | 0 => none
  | n + 1 => some n

/-- The word at an address outside the register blocks, where the state gives it. -/
def State.knownWord (s : State) (a : Nat) : Option Nat :=
  match placeOf a with
  | .queueSram => s.queueWord a
  | .journal => s.journalWord a
  | .nvm => if 2 ≤ a % 0x80000 / 4096 ∧ a % 0x80000 / 4096 ≤ 11 then none else some (s.nvmWordAt (a % 0x80000))
  | .flash => s.flashWord (a - 0x60000000)
  | .registers | .unmapped => none
  | _ => s.memoryWord a

/-- A word of memory: what the state gives, or a free value where the spec states neither its content nor its layout (log 134). -/
def State.readMemory (s : State) (a : Nat) : State × Word :=
  match s.knownWord a with
  | some n => (s, BitVec.ofNat 32 n)
  | none => ({ s with draws := s.draws + 1 }, BitVec.ofNat 32 (Config.freeNat s.draws))

/-- R34: an engine reads the word at a system address: unmapped addresses read 0 and are journalled. -/
def State.readSystem (s : State) (a : Nat) : State × Word :=
  match placeOf a with
  | .registers => s.readReg a
  | .unmapped => (s.unmapped (a % 2 ^ 32), 0)
  | _ => s.readMemory a

/-- A word written to memory. The boot ROM, the NVM and the flash are read windows and take none; the line buffers, the queue
SRAM and the journal keep what the blocks that fill them have put there (log 134). -/
def State.writeMemory (s : State) (a : Nat) (v : Word) : State :=
  { s with memory := SMap.set (fun _ => 0) s.memory a (v.toNat + 1) }

/-- R34: an engine writes the word at a system address. -/
def State.writeSystem (s : State) (by_ : Accessor) (a : Nat) (v : Word) : State :=
  match placeOf a with
  | .registers => s.writeReg by_ a v
  | .unmapped => s.unmapped (a % 2 ^ 32)
  | .cpLocal | .scLocal | .peLocal _ | .sqLocal _ | .dram => s.writeMemory a v
  | .bootRom | .nvm | .flash | .lineBuffer _ | .queueSram | .journal => s

/-- REGISTER_WRITE: R19, R34: an engine reaches the system address space, the host the register blocks alone. -/
def execRegisterWrite (by_ : Accessor) (a v : Word) (s : State) : Host.Outcome State Fault Refusal :=
  if s.sys.inReset then .next s
  else
    .next (match by_ with
      | .engine => s.writeSystem .engine (cpAddress a.toNat) v
      | .client _ _ => s.writeReg by_ a.toNat v)

/-- COUNTER_READ: R129: a counter is returned and cleared; a low word latches its high word. -/
def execCounterRead (a : Word) (s : State) : Host.Outcome State Fault Refusal :=
  if s.sys.inReset then .next s
  else
    let r := s.readSystem (cpAddress a.toNat)
    .next { r.1 with ctrl := { r.1.ctrl with regOut := r.2 } }

/-- BYTE_COUNTER_HI_READ: R129. -/
def execByteCounterHiRead (a : Word) (s : State) : Host.Outcome State Fault Refusal :=
  if s.sys.inReset ∨ byteHigh a.toNat = false then .next s
  else
    let r := s.readByteHigh a.toNat
    .next { r.1 with ctrl := { r.1.ctrl with regOut := r.2 } }

end Sys2Proof.Machine
end

