-- ==== Sys2Proof/Machine/Enumeration.lean ====
section
/-! DEFINITION. Enumeration of NSP strands, and the commands that it shares with the return slots of a frame: RTS, a reply and
its absence (07_strand_ports_and_nsp.md, R274 to R284). -/

namespace Sys2Proof.Machine

/-! ### The loop of R281 -/

/-- R281: strand `n` enumerates, drives its net, and its loop has not ended. -/
def State.enumRuns (s : State) (n : Nat) : Bool :=
  let t := s.strand n
  t.enumerating && t.driving && !t.scan.ended && s.isNsp n && !t.engineDown && !s.dead

/-- R281: bit-times on strand `n`, in ns, rounded up. -/
def State.bitsNs (s : State) (n bits : Nat) : Nat := ceilDiv (bits * 1000000000) (s.strandBps n)

/-- R281, R282: the next RTS, with RELAY 31, behind ENM with HOP 0 at the start; the strand is then released. -/
def State.enumRts (s : State) (n : Nat) : State :=
  let t := s.strand n
  let c := t.scan
  let items : List StrandItem := (if c.sent then [] else [.enm 0]) ++ [.rts c.next false 31]
  let s := s.pass (s.bitsNs n (26 * items.length))
  let s := s.wire n items
  s.setStrand n { s.strand n with released := true, scan := { c with sent := true, awaiting := true, rtsUp := s.up } }

/-- R281, R282: the slot of the last RTS was not answered by a valid reply. After the first one that fails the device tries one
more, so that it finds a valid reply behind it (DEDUCED, log 135). -/
def Enumeration.slotFailed (c : Enumeration) : Enumeration :=
  let c := { c with awaiting := false }
  if c.failed ∨ c.next = 512 then { c with ended := true, result := if c.caps.isEmpty then 1 else 0 }
  else { c with failed := true, next := c.next + 1 }

/-- R281, R282: the slot of the last RTS was answered by a valid reply. -/
def Enumeration.slotAnswered (c : Enumeration) (words : List Half) (latency : Nat) : Enumeration :=
  let c := { c with awaiting := false }
  if c.failed then { c with ended := true, result := 3 }
  else if c.next = 512 then { c with ended := true, result := 2 }
  else { c with next := c.next + 1, caps := c.caps ++ [(words, latency)] }

/-- R275, R280, R281: the reply to an enumeration RTS is valid: its CRC, the driver and the 8 words of an ENUM payload. -/
def enumReplyOk (c : Enumeration) (r : ReplyIn) : Bool :=
  decide (crc16Words (r.head :: r.words) = r.crc) && decide (bits r.head.toNat 15 6 = c.next) && decide (bits r.head.toNat 5 3 = 1) &&
    decide (r.words.length = 8)

/-- R277, R281: a reply to an enumeration RTS. -/
def State.enumReply (s : State) (n : Nat) (r : ReplyIn) : State :=
  let t := s.strand n
  let c := if enumReplyOk t.scan r then t.scan.slotAnswered r.words r.sample else t.scan.slotFailed
  (s.setStrand n { t with released := false, scan := c }).count (if enumReplyOk t.scan r then Reg.RET_REPLIES n else Reg.RET_CRC_ERR n)

/-- R277, R281: no reply: nothing starts on the strand before the relay window of 31 × 256 bit-times has ended. -/
def State.enumTimeout (s : State) (n : Nat) : State :=
  let t := s.strand n
  let s := s.reach (t.scan.rtsUp + s.bitsNs n (31 * 256))
  (s.setStrand n { t with released := false, scan := t.scan.slotFailed }).count (Reg.RET_TIMEOUT n)

/-- RTS: R278, R281. -/
def execRts (n : Fin 128) (s : State) : Host.Outcome State Fault Refusal :=
  if s.isNsp n = false then .next s
  else if (s.strand n).enumerating then
    (if s.enumRuns n ∧ (s.strand n).scan.awaiting = false then .next (s.enumRts n) else .next s)
  else .next (s.nextSlot n)

/-- REPLY: R274 to R277, R281. A shadow's receivers capture replies for bus sense only (R331). -/
def execReply (n : Fin 128) (r : ReplyIn) (s : State) : Host.Outcome State Fault Refusal :=
  if s.enumRuns n ∧ (s.strand n).scan.awaiting then .next (s.enumReply n r)
  else
    match (s.strand n).awaiting with
    | none => .next s
    | some slot => .next (s.slotReply n slot r)

/-- REPLY_TIMEOUT: R277, R281. -/
def execReplyTimeout (n : Fin 128) (s : State) : Host.Outcome State Fault Refusal :=
  if s.enumRuns n ∧ (s.strand n).scan.awaiting then .next (s.enumTimeout n)
  else
    match (s.strand n).awaiting with
    | none => .next s
    | some slot => .next (s.slotTimeout n slot)

/-! ### Its end (R280 to R284, R306, R308) -/

/-- R280: the driver that an ENUM payload describes. -/
def State.enumDriver (s : State) (p : List Half × Nat) : Driver :=
  let w := fun i => (p.1.getD i 0)
  { word1 := w 0, word2 := w 1, minWdt := bits (w 2).toNat 15 8 * 10, minHbp := bits (w 3).toNat 7 0
    uid := (w 6).toNat * 65536 + (w 7).toNat, lambda := p.2, written := p.2, status := 0, temp := 0x8000, tempMs := 0
    failed := 0, lost := false, sampledMs := s.upMs }

/-- R281: the configuration line of driver `h` on the wire, with the driver's MIN_HBP as its H_BP. -/
def State.enumItem (s : State) (n h : Nat) (d : Driver) : StrandItem :=
  let l := s.driverLine n h d d.lambda
  let words := lineHeader 0x5 (l.words.length + 1) 0 :: BitVec.ofNat 16 l.driver :: l.words
  .line 0x5 0 d.minHbp (s.hFp n) words (crc16Words words)

/-- R270: command frames of at most 32 lines, one after the other. -/
def commandFrames : Nat → List StrandItem → List StrandItem
  | 0, _ => []
  | _, [] => []
  | k + 1, l => [.sof] ++ l.take 32 ++ [.eof] ++ commandFrames k (l.drop 32)

/-- R270: the frames that `n` lines wait, added up: those behind the first 32 wait one frame, and so on. -/
def framesWaited (n : Nat) : Nat := ((List.range (n / 32 + 1)).map fun k => n - 32 * (k + 1)).foldl (· + ·) 0

/-- R281 to R284, R306: the loop of strand `n` has ended: its drivers are known, configured by command frames, and their
further writes queued. -/
def State.enumStrand (s : State) (n : Nat) : State :=
  let t := s.strand n
  if t.enumerating = false ∨ t.scan.ended = false then s
  else
    let drivers := t.scan.caps.map s.enumDriver
    let s := s.setStrand n { t with
      enumerating := false, drivers := drivers, enumResult := t.scan.result, cfg := t.cfg.filter fun l => decide (l.cls = 1)
      ret := [], retLate := [], awaiting := none, scan := {} }
    let s := { s with lamp := { s.lamp with zones := s.lamp.zones.filter fun p => decide (p.1 / 512 ≠ n) } }
    let s := s.overDrivers n fun s h d => if d.v2 then s.phaseRange n h d.lambda else s
    let items := ((List.range drivers.length).zip drivers).map fun p => s.enumItem n p.1 p.2
    let s := s.wire n (commandFrames (items.length / 32 + 1) items)
    ((s.countN (Reg.CFG_SENT n) items.length).countN (Reg.CFG_DEFERRED n) (framesWaited items.length)).queueAnchor n

/-- R296: the response of STRAND_ENUMERATE for the named strands. -/
def State.enumPayload (s : State) (strands : List Nat) : List Byte :=
  strands.flatMap fun n =>
    let t := s.strand n
    if s.isNsp n then beBytes 1 n ++ beBytes 1 t.enumResult ++ beBytes 2 t.drivers.length ++ beBytes 2 t.units
    else beBytes 1 n ++ beBytes 1 4 ++ beBytes 2 0 ++ beBytes 2 0

/-- ENUMERATION_COMPLETE: R281, R282: the named strands whose loop has ended are configured and return to their rate; a
STRAND_ENUMERATE completes with the last of its strands. -/
def execEnumerationComplete (strands : List (Fin 128)) (s : State) : Host.Outcome State Fault Refusal :=
  let s := (allStrands.filter fun n => strands.any fun m => decide (m.val = n)).foldl State.enumStrand s
  .next (s.completeWaiting fun w =>
    match w.why with
    | .enumerate l => if l.any (fun n => (s.strand n).enumerating) then none else some (Status.OK, s.enumPayload l)
    | _ => none)

end Sys2Proof.Machine
end

