-- ==== Sys2Proof/Machine/Checks.lean ====
section
/-! DEFINITION. The capacity of the device and the checks of a commit: the budgets of R36 to R39, R249, R287, R292, R314
and R361, and the rules that bind parameters (R95, R128, R140, R165, R177 to R179, R253, R254, R257 to R259, R283, R287,
R288, R293, R487, R516). -/

namespace Sys2Proof.Machine

/-! ### The configuration that a check looks at (R403) -/

/-- R403: the configuration with a staged change in force. -/
def State.foresee (s : State) (g : Staged) : State :=
  match g.change with
  | .commit recs _ => recs.foldl (fun s q => s.setParam q.1 q.2) s
  | .mapSwitch n =>
    match s.anvil.acceptedMaps.find? fun q => decide (q.1 = n) with
    | some q => { s with anvil := { s.anvil with maps := SMap.set (fun _ => emptyMap) s.anvil.maps n q.2 } }
    | none => s
  | .layer r => if r.layer = 3 then s else s.applyLayer r
  | _ => s

/-- R403: the configuration with everything in force that has been accepted: a pending retime and the staged changes. -/
def State.planned (s : State) : State :=
  s.ctrl.staged.foldl State.foresee s.timingBase

/-- The configuration with the values of a commit. -/
def State.withValues (s : State) (recs : List (Nat × List Byte)) : State := recs.foldl (fun s q => s.setParam q.1 q.2) s

/-- The configuration's timing is the grid's. -/
def State.onGrid (c : State) : State := { c with hearth := { c.hearth with timing := c.timingWith [] } }

/-! ### Loads (R37, R38, R249, R287, R292, R314, R361) -/

/-- One load against its limit, as R399 reports it. -/
structure Load where
  resource : Nat
  index : Nat
  demand : Nat
  limit : Nat
  deriving DecidableEq, Repr

/-- R314: bit-times at which the SOF of train `j` may end at the earliest, for the trains that wait. -/
def State.trainWait (c : State) (n j : Nat) : Nat :=
  let t := c.hearth.timing
  let bps := rateBps (c.rateCode n)
  if t.slots = 4 ∨ (t.slots = 3 ∧ 1 ≤ j) then
    ceilDiv (t.offsetBits bps (t.weightBelow j)) (t.n * 1000) + c.vSync n + ceilDiv (16000 * bps) 1000000000
  else 0

/-- R312: the end of the DATA lines of the first `k` trains. -/
def State.trainsEnd (c : State) (n : Nat) : Nat → Nat
  | 0 => 0
  | k + 1 =>
    let sof := max (if k = 0 then c.vBp n else c.trainsEnd n k + 10) (c.trainWait n k)
    sof + c.vActive n * c.lineBits n (c.hActive n)

/-- R287, R314: what follows the DATA lines and the last sub-tick swap. -/
def State.tailBits (c : State) (n : Nat) : Nat := 640 + 32 * (312 + c.hBp n) + c.vFp n + 1000

/-- R314: E. -/
def State.cfgStart (c : State) (n : Nat) : Nat :=
  let t := c.hearth.timing
  let lines := c.trainsEnd n (if (c.strand n).hasV1 then 1 else t.slots) + (t.slots - 1) * (c.lineBits n (c.hActive n) + 10)
  let swap := nearestBit (t.offsetBits (rateBps (c.rateCode n)) (t.weightBelow (t.slots - 1))) (t.n * 1000) + c.vSync n + 10
  if t.slots = 1 then lines else max lines swap

/-- R287, R314, R292: the strand bit budget. -/
def State.strandLoads (c : State) (n : Nat) : List Load :=
  let t := c.hearth.timing
  if c.isNsp n then
    let b := rateBps (c.rateCode n) * t.m / t.n
    let plain := c.vBp n + t.slots * c.vActive n * c.lineBits n (c.hActive n) + (t.slots - 1) * 10 + c.tailBits n
    [⟨0, n, max plain (c.cfgStart n + c.tailBits n), b⟩, ⟨0, n, c.vSync n + 20, c.vBp n⟩]
  else if c.isLegacy n then
    [⟨0, n, (c.legacyNs n + c.param P.LEG_LATCH * 1000 + 100000) * t.n, t.m * 1000000000⟩]
  else []

/-- R38, R249: the Anvil limit. -/
def State.anvilLoads (c : State) : List Load :=
  let t := c.hearth.timing
  [⟨1, 0, c.mappedPixels * t.slots * t.n, 640000000 * t.m⟩, ⟨2, 0, c.renderCycles * t.n, 720000000 * t.m⟩]

/-- The part of [a, a + n) that lies in [b, b + m). -/
def overlap (a n b m : Nat) : Nat := min (a + n) (b + m) - max a b

/-- R225: the pixels of a run inside a rectangle; a DARK run fetches nothing. -/
def Run.pixelsIn (r : Run) (x y w h : Nat) : Nat :=
  if r.dark then 0
  else
    match r.dir with
    | 0 => if y ≤ r.y ∧ r.y < y + h then overlap r.x r.count x w else 0
    | 1 => if y ≤ r.y ∧ r.y < y + h then overlap (r.x + 1 - r.count) r.count x w else 0
    | 2 => if x ≤ r.x ∧ r.x < x + w then overlap r.y r.count y h else 0
    | _ => if x ≤ r.x ∧ r.x < x + w then overlap (r.y + 1 - r.count) r.count y h else 0

/-- R251, R225: bytes that layer `l` reads for one tick. -/
def State.overlayBytes (c : State) (l : Nat) : Nat :=
  let g := c.layer l
  match c.buffer? g.front with
  | some b =>
    if g.enable then
      let slots := ((List.range c.hearth.timing.slots).filter fun j => bit g.slotMask j).length
      let pixels := (allStrands.map fun n => ((c.map n).runs.map fun r => r.pixelsIn g.x g.y b.width b.height).foldl (· + ·) 0).foldl (· + ·) 0
      slots * pixels * (if b.rgba16 then 8 else 4)
    else 0
  | none => 0

/-- R251, R361: bytes that Anvil reads for one tick; the maps and gains lie within the system's 1.00 GB/s. -/
def State.readBytes (c : State) : Nat :=
  let px := c.mappedPixels * c.hearth.timing.slots
  (if c.tpgOn then 0 else 8 * px) + (if c.bypass 0 then 0 else 16 * px) + c.overlayBytes 1 + c.overlayBytes 2

/-- R361: bytes written for the frames of the enabled streams, per second and times M. -/
def State.writeBytes (c : State) : Nat :=
  ((allStreams.filter c.enabled).map fun i => 8 * c.rectW i * c.rectH i * c.hearth.timing.n / max 1 (c.stream i).cadence).foldl (· + ·) 0

/-- R37: the peak of one channel, bytes a second: 25.6 GB/s for LPDDR5 at 6400 MT/s, and 17.05 GB/s, the table's figure, for
LPDDR4X at 4266 MT/s; in proportion at another rate (log 102). -/
def Arb.peakBytes (a : Arb) : Nat := if a.lpddr4x then 17050000000 * a.rate / 4266 else 4000000 * a.rate

/-- R37, R361: planned traffic of a channel against its share of the limit. -/
def State.dramLoad (c : State) : Load :=
  let t := c.hearth.timing
  let channels := b2n c.arb.pop0 + b2n c.arb.pop1
  let share := if c.arb.lpddr4x then 37 else 45
  ⟨3, if c.arb.pop0 then 0 else 1, (c.readBytes * t.n + c.writeBytes + 1000000000 * t.m) * 100,
    channels * c.arb.peakBytes * share * t.m⟩

/-- R39: every load. -/
def State.loads (c : State) : List Load := c.anvilLoads ++ allStrands.flatMap c.strandLoads ++ [c.dramLoad]

/-- R39: the loads under the configuration's timing, and under the one in force until the retime that brings it. -/
def State.loadsUntilThen (c : State) : List Load :=
  c.onGrid.loads ++ (if c.timingWith [] = c.hearth.timing then [] else c.loads)

/-- Does `a` leave less margin than `b`? -/
def Load.worse (a b : Load) : Bool := decide (b.demand * a.limit < a.demand * b.limit)

/-- R399: the detail of CAPACITY_EXCEEDED. -/
def Load.detail (l : Load) : List Byte :=
  beBytes 1 l.resource ++ beBytes 1 l.index ++ beBytes 2 (if l.limit = 0 then 65535 else min 65535 (l.demand * 1000 / l.limit))

/-- R39: the resource with the least margin, when a limit is broken. -/
def State.overload (c : State) : Option Load :=
  (c.loadsUntilThen.filter fun l => decide (l.limit < l.demand)).foldl (fun b l =>
    match b with
    | none => some l
    | some w => if l.worse w then some l else b) none

/-- R39: the refusal, with its detail. -/
def State.capacity (c : State) : Option (Nat × List Byte) := c.overload.map fun l => (Status.CAPACITY_EXCEEDED, l.detail)

/-- R179: SLOT_COUNT is raised beyond the frame store. -/
def slotsRefused (s c : State) : Option (Nat × List Byte) :=
  let l : Load := ⟨4, 0, c.param P.SLOT_COUNT, c.param P.FS_DEPTH / 4⟩
  if s.param P.SLOT_COUNT < l.demand ∧ l.limit < l.demand then some (Status.CAPACITY_EXCEEDED, l.detail) else none

/-! ### DRAM (R35, R36) -/

/-- R201: bytes of a buffer in 4 KB granules. -/
def Buffer.granted (b : Buffer) : Nat := ceilDiv (b.width * b.height * (if b.rgba16 then 8 else 4)) 4096 * 4096

/-- R35: the DRAM that the regions take, the granted buffers for the heap. -/
def State.dramNeed (c : State) : Nat :=
  c.fixedRegions.foldl (· + ·) 0 + (c.fs.buffers.map Buffer.granted).foldl (· + ·) 0

/-- R36: the configuration needs more DRAM than is populated. -/
def State.dramShort (c : State) : Bool := decide (c.arb.mb * 2 ^ 20 < c.dramNeed)

/-! ### Streams and sACN maps (R140, R165, R166, R178) -/

/-- R178: the rectangle lies wholly inside the window. -/
def State.insideWindow (c : State) (i : Nat) : Bool :=
  decide (c.param P.FS_WINDOW_X ≤ c.rectX i) && decide (c.param P.FS_WINDOW_Y ≤ c.rectY i) &&
    decide (c.rectX i + c.rectW i ≤ c.param P.FS_WINDOW_X + c.param P.FS_WINDOW_W) &&
    decide (c.rectY i + c.rectH i ≤ c.param P.FS_WINDOW_Y + c.param P.FS_WINDOW_H)

/-- R139, R140: the rectangle, layer and slot of an entry are in range. -/
def State.entryRangeOk (c : State) (i : Nat) : Bool :=
  decide (c.layerOf i ≤ 2) && decide (1 ≤ c.rectW i) && decide (c.rectW i ≤ 16384) && decide (1 ≤ c.rectH i) &&
    decide (c.rectH i ≤ 16384) && decide (c.rectX i + c.rectW i ≤ 16384) && decide (c.rectY i + c.rectH i ≤ 16384) &&
    decide (c.slotOf i < c.param P.SLOT_COUNT)

/-- R140: two entries of one layer and slot overlap. -/
def State.entriesOverlap (c : State) (i j : Nat) : Bool :=
  decide (c.slotLayer i = c.slotLayer j) && decide (overlap (c.rectX i) (c.rectW i) (c.rectX j) (c.rectW j) ≠ 0) &&
    decide (overlap (c.rectY i) (c.rectH i) (c.rectY j) (c.rectH j) ≠ 0)

/-- R140: two streams share STREAM_ID and UDP_PORT. -/
def State.sameKey (c : State) (i j : Nat) : Bool :=
  decide (i < 64) && decide (j < 64) && decide (field (c.streamCfg i) 0 2 = field (c.streamCfg j) 0 2) &&
    decide (c.streamPort i = c.streamPort j)

/-- R139: with SRC_MAC, bytes 0 to 9 of SOURCE are 0. -/
def State.sourceOk (c : State) (i : Nat) : Bool :=
  decide (64 ≤ i) || !bit (byteAt (c.streamCfg i) 2) 2 || decide (beNat (((c.streamCfg i).drop 32).take 10) = 0)

/-- R140, R166, R178: the refusal of an enabled entry. -/
def State.entryRefused (c : State) (i : Nat) : Option Nat :=
  let others := allStreams.filter fun j => decide (j ≠ i) && c.enabled j
  if c.enabled i = false then none
  else if c.entryRangeOk i = false ∨ c.sourceOk i = false ∨ (others.any fun j => c.sameKey i j || c.entriesOverlap i j) ∨
      (c.layerOf i = 0 ∧ c.insideWindow i = false) then some Status.BAD_PARAM
  else if 64 < others.length + 1 then some Status.NO_RESOURCE
  else none

/-- R165: the bytes per pixel of a CANVAS map's format, 0 for one that it may not have. -/
def canvasBytes (f : Nat) : Nat :=
  if fmtLayout f ≤ 3 ∧ (fmtTransfer f = 0 ∨ fmtTransfer f = 3) then pixelBytes (fmtLayout f) 1 else 0

/-- R165: the fields of a map whose KIND is not OFF. -/
def mapRangeOk (v : List Byte) : Bool :=
  decide (1 ≤ mapFirst v) && decide (mapFirst v ≤ 63999) && decide (1 ≤ mapCount v) && decide (mapCount v ≤ 256) &&
    (match mapKind v with
    | 1 =>
      decide (canvasBytes (mapFormat v) ≠ 0) && decide (1 ≤ mapPixPerUniv v) &&
        decide (mapPixPerUniv v ≤ 512 / canvasBytes (mapFormat v))
    | 2 => decide (mapDmxPort v + mapCount v ≤ 64)
    | _ => false)

/-- R165: two DMX maps send universes to one port. -/
def dmxClash (v w : List Byte) : Bool :=
  decide (mapKind v = 2) && decide (mapKind w = 2) && decide (overlap (mapDmxPort v) (mapCount v) (mapDmxPort w) (mapCount w) ≠ 0)

/-- R165: the refusal of map `m`. -/
def State.mapRefused (c : State) (m : Nat) : Option Nat :=
  let v := c.mapCfg m
  let us := c.mappedUniverses
  if mapKind v = 0 then none
  else if mapRangeOk v = false ∨ ((List.range 32).any fun k => decide (k ≠ m) && dmxClash v (c.mapCfg k)) then some Status.BAD_PARAM
  else if 256 < us.length ∨ us.eraseDups.length < us.length then some Status.NO_RESOURCE
  else c.entryRefused (64 + m)

/-! ### Strands and banks (R257 to R259, R283, R287, R288, R293, R516) -/

/-- R258: the rate goes with the coder. -/
def rateFitsCoder (coder rate : Nat) : Bool :=
  if coder = Coder.NSP then decide (rate ≤ 5)
  else if coder = Coder.LEGACY8 ∨ coder = Coder.LEGACY16 then decide (6 ≤ rate)
  else true

/-- R258: the rate goes with the bank's supply. -/
def rateFitsBank (coder rate vclass : Nat) : Bool :=
  decide (coder = Coder.OFF) || decide (coder = Coder.DMX) || decide (3 ≤ rate) || decide (vclass = 1)

/-- R259: SLOW edges and the rates of the bank's NSP strands. -/
def State.slowOk (c : State) (b : Nat) : Bool :=
  !bit (field (c.paramBytes (P.BANK_CFG b)) 0 2) 2 ||
    (List.range 16).all fun j => !c.isNsp (16 * b + j) || decide (3 ≤ c.rateCode (16 * b + j))

/-- R293: a DMX port takes its even strand; the odd one beside it is OFF. -/
def State.dmxPairOk (c : State) (n : Nat) : Bool :=
  if n % 2 = 0 then decide (c.coder n ≠ Coder.DMX) || decide (c.coder (n + 1) = Coder.OFF)
  else decide (c.coder n ≠ Coder.DMX) && (decide (c.coder (n - 1) ≠ Coder.DMX) || decide (c.coder n = Coder.OFF))

/-- R283: the limits of the strand's drivers on its rate and H_BP. -/
def State.driversAllow (c : State) (n : Nat) : Bool :=
  !c.isNsp n || ((c.strand n).drivers.all fun d =>
    decide (rateBps (c.rateCode n) ≤ d.maxRate * 1000000) && decide (d.minHbp ≤ c.hBp n))

/-- R283: and on the watchdog time. -/
def State.watchdogAllows (c : State) : Bool :=
  allStrands.all fun n => (c.strand n).drivers.all fun d => decide (d.minWdt ≤ c.param P.DRV_WDT_MS)

/-- R288: what a commit may not change outside IDLE and SERVICE. -/
def rasterFixed (s c : State) (n : Nat) : Bool :=
  decide (s.coder n = c.coder n) && decide (s.rateCode n = c.rateCode n) && decide (s.hBp n = c.hBp n)

/-- The device is in IDLE or SERVICE. -/
def State.atRest (s : State) : Bool := decide (s.mode = .idle) || decide (s.mode = .service)

/-- The refusal of STRANDn_CFG. -/
def strandRefused (s c : State) (n : Nat) : Option Nat :=
  let used := decide (c.coder n ≠ Coder.OFF)
  if (used && (decide ((c.bank (n / 16)).vclass = 0) || c.sys.lost.contains n)) || !rateFitsCoder (c.coder n) (c.rateCode n) ||
      !rateFitsBank (c.coder n) (c.rateCode n) (c.bank (n / 16)).vclass || !c.slowOk (n / 16) || !c.dmxPairOk n ||
      !c.driversAllow n || decide (c.vActive n < (c.map n).lines) then some Status.BAD_PARAM
  else if rasterFixed s c n = false ∧ s.atRest = false then some Status.DENIED_MODE
  else none

/-! ### One value of a commit -/

/-- R128: the port that the active domain uses. -/
def State.guardedPort (s : State) : Option Port :=
  if s.mode.presenting ∨ s.mode = .shadow then (s.dom s.hearth.secondActive).port else none

/-- R177, R178: the refusal of a change of the window or the depth. -/
def windowRefused (s c : State) : Option Nat :=
  let w := c.param P.FS_WINDOW_W
  let h := c.param P.FS_WINDOW_H
  if s.mode ≠ .idle then some Status.DENIED_MODE
  else if 4194304 < w * h ∨ 16384 < c.param P.FS_WINDOW_X + w ∨ 16384 < c.param P.FS_WINDOW_Y + h ∨
      c.param P.FS_DEPTH < 4 * c.param P.SLOT_COUNT ∨
      (allStreams.any fun i => c.enabled i && decide (c.layerOf i = 0) && !c.insideWindow i) then some Status.BAD_PARAM
  else if c.dramShort then some Status.NO_RESOURCE
  else none

/-- Refuse with `st` unless `ok`. -/
def unless_ (ok : Bool) (st : Nat) : Option Nat := if ok then none else some st

/-- R128: a change of speed, FEC or service mode. -/
def State.portRefused (s : State) (changed : Bool) (p : Port) : Option Nat :=
  unless_ (!changed || decide (s.guardedPort ≠ some p)) Status.DENIED_MODE

/-- The checks of a value in the arrays of parameters. -/
def arrayRefused (s c : State) (id : Nat) : Option Nat :=
  if P.STREAM 0 ≤ id ∧ id ≤ P.STREAM 63 then c.entryRefused (id - P.STREAM 0)
  else if P.SACN_MAP 0 ≤ id ∧ id ≤ P.SACN_MAP 31 then c.mapRefused (id - P.SACN_MAP 0)
  else if P.STRAND_CFG 0 ≤ id ∧ id ≤ P.STRAND_CFG 127 then strandRefused s c (id - P.STRAND_CFG 0)
  else if P.BANK_CFG 0 ≤ id ∧ id ≤ P.BANK_CFG 7 then
    if c.slowOk (id - P.BANK_CFG 0) = false then some Status.BAD_PARAM
    else unless_ (decide (s.paramBytes id = c.paramBytes id) || s.atRest) Status.DENIED_MODE
  else none

/-- The rules that bind one committed value, in the configuration `c` that the commit makes. -/
def valueRefused (s c : State) (id : Nat) : Option Nat :=
  let changed := decide (s.paramBytes id ≠ c.paramBytes id)
  let ramp := (decide (c.param P.TPG_PATTERN = 2) || decide (c.param P.TPG_PATTERN = 3)) && decide (c.param P.TPG_PERIOD = 1)
  match id with
  | 0x0200 => s.portRefused changed .a
  | 0x0201 => s.portRefused changed .b
  | 0x0202 => s.portRefused changed .a
  | 0x0203 => s.portRefused changed .b
  | 0x0204 => s.portRefused changed .sv
  | 0x030F => unless_ (decide (c.param P.LOCK_THRESHOLD < c.param P.UNLOCK_THRESHOLD)) Status.BAD_PARAM
  | 0x0310 => unless_ (decide (c.param P.LOCK_THRESHOLD < c.param P.UNLOCK_THRESHOLD)) Status.BAD_PARAM
  | 0x0400 => unless_ c.watchdogAllows Status.BAD_PARAM
  | 0x0500 => if changed then windowRefused s c else none
  | 0x0501 => if changed then windowRefused s c else none
  | 0x0502 => if changed then windowRefused s c else none
  | 0x0503 => if changed then windowRefused s c else none
  | 0x0504 => if changed then windowRefused s c else none
  | 0x0609 => unless_ (!ramp) Status.BAD_PARAM
  | 0x060B => unless_ (!ramp) Status.BAD_PARAM
  | 0x060C => unless_ (decide (c.param P.ANVIL_BYPASS = 0) || decide (s.mode = .service)) Status.DENIED_MODE
  | 0x0A00 => unless_ (decide (c.param P.AUTO_CONFIRM_DELAY < c.param P.CONFIRM_WINDOW)) Status.BAD_PARAM
  | 0x0A02 => unless_ (decide (c.param P.AUTO_CONFIRM_DELAY < c.param P.CONFIRM_WINDOW)) Status.BAD_PARAM
  | _ => arrayRefused s c id

/-! ### The timing (R70, R76, R81) -/

/-- R81: a retime is pending that lies less than two current periods ahead, or one is under way. -/
def State.retimeBusy (s : State) : Bool :=
  decide (s.hearth.gap ≠ 0) ||
    (match s.hearth.retime with
    | some r =>
      let t := s.hearth.timing
      decide (r.tIndex * t.m * 1000000000 * 2 ^ 32 < s.time.units * t.n + 2 * t.m * 1000000000 * 2 ^ 32)
    | none => false)

/-- The first committed value of a timing. -/
def timingId (recs : List (Nat × List Byte)) : Option Nat := (recs.find? fun q => retimeIds.contains q.1).map Prod.fst

/-- R70, R76, R95: the timing that a commit names is legal. -/
def timingRefused (c : State) (recs : List (Nat × List Byte)) : Option Nat :=
  match timingId recs with
  | some id => if (c.timingWith []).ok then none else some id
  | none => none

/-- R140, R165: the commit names an entry of the stream table or an sACN map. -/
def namesEntry (recs : List (Nat × List Byte)) : Bool :=
  recs.any fun q => decide (P.STREAM 0 ≤ q.1) && decide (q.1 ≤ P.SACN_MAP 31)

/-- R125: a commit that sets streams or sACN maps needs more than the 7 filter entries of the groups. -/
def State.filtersShort (c : State) (recs : List (Nat × List Byte)) : Bool :=
  namesEntry recs && decide (7 < c.groupEntries.length)

/-! ### The commit as a whole (R403) -/

/-- R140, R165: the first entry or map, in table order, that refuses a commit of the tables, with its ID: every enabled
entry is judged, whether or not the commit names it. -/
def State.tableRefused (c : State) : Option (Nat × Nat) :=
  ((List.range 64).findSome? fun i => (c.entryRefused i).map fun st => (st, P.STREAM i)).orElse fun _ =>
    (List.range 32).findSome? fun m => (c.mapRefused m).map fun st => (st, P.SACN_MAP m)

/-- R403: the check that a commit fails, with its detail; none when all pass. -/
def State.commitRefused (s : State) (recs : List (Nat × List Byte)) : Option (Nat × List Byte) :=
  let p := s.planned
  let c := p.withValues recs
  let byValue := recs.findSome? fun q => (valueRefused { p with mode := s.mode } c q.1).map fun st => (st, q.1)
  match byValue.orElse fun _ => if namesEntry recs then c.tableRefused else none with
  | some (st, id) => some (st, beBytes 2 id)
  | none =>
    match timingRefused c recs with
    | some id => some (Status.BAD_PARAM, beBytes 2 id)
    | none =>
      match slotsRefused s c with
      | some d => some d
      | none =>
        if c.dramShort ∨ c.filtersShort recs then some (Status.NO_RESOURCE, beBytes 2 ((recs.head?.map Prod.fst).getD 0))
        else
          match c.capacity with
          | some d => some d
          | none => if s.startsRetime recs ∧ s.retimeBusy then some (Status.BUSY, []) else none

end Sys2Proof.Machine
end

