-- ==== Sys2Proof/Machine/Field.lean ====
section
/-! DEFINITION. The commands of the field: strands and drivers (07, R281, R295 to R297), self-test and calibration (13,
R503 to R519), and the redundant pair (11, R416, R430, R444). -/

namespace Sys2Proof.Machine

/-! ### Strands and drivers (R281, R296, R297) -/

/-- R281: the strand stops its frames and waits for its enumeration. -/
def State.startEnum (s : State) (n : Nat) : State :=
  if s.isNsp n then
    let s := s.haltStrand n
    s.setStrand n { s.strand n with enumerating := true, kind := .none, nswNext := false, released := false, scan := {} }
  else s

/-- R281, R282: strands that are not NSP are not touched. -/
def bodyStrandEnumerate : Body := fun s r =>
  let named := allStrands.filter fun n => bit (field r.payload 0 16) n
  if named.any fun n => (s.strand n).enumerating then (s, .plain Status.BUSY)
  else if named.any s.isNsp then (named.foldl State.startEnum s, .wait (.enumerate named))
  else (s, .done Status.OK (s.enumPayload named))

def execStrandEnumerate (r : Request) (s : State) : Host.Outcome State Fault Refusal :=
  .next (s.mailbox Op.STRAND_ENUMERATE r bodyStrandEnumerate)

/-- R296: the lowest MAX_RATE of a strand's drivers, in Mbit/s; of no driver the spec names none (log 34). -/
def Strand.lowestRate (t : Strand) (open_ : Nat) : Nat :=
  match t.drivers with
  | [] => open_ % 65536
  | d :: ds => ds.foldl (fun m d => min m d.maxRate) d.maxRate

/-- R296: one driver of STRAND_STATUS. -/
def driverStatus (h : Nat) (d : Driver) : List Byte :=
  beBytes 2 h ++ beBytes 2 d.word1.toNat ++ beBytes 2 (satField 16 d.lambda) ++ beBytes 2 d.status.toNat ++
    beBytes 2 d.temp.toNat ++ beBytes 2 (b2n d.lost + 2 * b2n d.v2) ++ beBytes 4 d.uid

/-- R296: the head of STRAND_STATUS. -/
def State.strandHead (s : State) (n open_ : Nat) : List Byte :=
  let t := s.strand n
  beBytes 1 n ++ beBytes 1 (s.coder n) ++ beBytes 1 (s.strandState n) ++ [0] ++ beBytes 2 t.drivers.length ++ beBytes 2 t.units ++
    beBytes 2 (t.drivers.filter fun d => !d.v2).length ++ beBytes 2 (t.lowestRate open_) ++
    beBytes 2 (t.drivers.filter (·.lost)).length ++ [0, 0]

def bodyStrandStatus : Body := fun s r =>
  let n := byteAt r.payload 0
  let count := byteAt r.payload 1
  let first := field r.payload 2 2
  let ds := (s.strand n).drivers
  if 127 < n ∨ 62 < count ∨ ds.length < first + count then (s, .plain Status.BAD_PARAM)
  else
    let items := (List.range count).flatMap fun i =>
      match ds[first + i]? with
      | some d => driverStatus (first + i) d
      | none => []
    ({ s with draws := s.draws + 1 }, .done Status.OK (s.strandHead n (Config.freeNat s.draws) ++ items))

def execStrandStatus (r : Request) (s : State) : Host.Outcome State Fault Refusal :=
  .next (s.mailbox Op.STRAND_STATUS r bodyStrandStatus)

/-- R296: COUNT of a DRIVER_COMMAND is in range. -/
def lineCountOk (raw : Bool) (count : Nat) : Bool :=
  if raw then decide (count ≤ 63) else decide (2 ≤ count) && decide (count ≤ 16) && decide (count % 2 = 0)

/-- R297, R328: the line of DRIVER_COMMAND number `id`. -/
def commandLine (p : List Byte) (id : Nat) : CfgLine :=
  { cls := 1, raw := bit (byteAt p 1) 0, driver := field p 2 2
    words := (List.range (field p 4 2)).map fun i => BitVec.ofNat 16 (field p (8 + 2 * i) 2)
    sense := bit (byteAt p 1) 1, id := id }

/-- R297: a DRIVER_COMMAND has taken the next number. -/
def State.nextCommand (s : State) : State := { s with ctrl := { s.ctrl with commandId := s.ctrl.commandId + 1 } }

def bodyDriverCommand : Body := fun s r =>
  let n := byteAt r.payload 0
  let id := s.ctrl.commandId + 1
  let l := commandLine r.payload id
  if 127 < n ∨ s.isNsp n = false ∨ (s.strand n).drivers.length ≤ l.driver ∨ lineCountOk l.raw l.words.length = false then
    (s, .plain Status.BAD_PARAM)
  else (s.nextCommand.queueCfg n l, .wait (.driver n id))

def execDriverCommand (r : Request) (s : State) : Host.Outcome State Fault Refusal :=
  .next (s.mailbox Op.DRIVER_COMMAND r bodyDriverCommand)

/-- R295: the request that is queued. -/
def rdmOf (r : Request) : RdmReq :=
  let p := r.payload
  { discovery := bit (byteAt p 1) 0, dst := (p.drop 4).take 6, sub := field p 10 2, cc := byteAt p 12, pid := field p 13 2
    data := (p.drop 16).take (byteAt p 15), chan := r.chan, from_ := r.from_, seq := r.seq }

/-- R295, R297: four requests may wait on a port. -/
def bodyRdmRequest : Body := fun s r =>
  let port := byteAt r.payload 0
  let n := 2 * port
  if 63 < port ∨ s.isDmx n = false ∨ 231 < byteAt r.payload 15 then (s, .plain Status.BAD_PARAM)
  else if 4 ≤ (s.strand n).rdm.length then (s, .plain Status.BUSY)
  else (s.setStrand n { s.strand n with rdm := (s.strand n).rdm ++ [rdmOf r] }, .wait (.rdm port))

def execRdmRequest (r : Request) (s : State) : Host.Outcome State Fault Refusal :=
  .next (s.mailbox Op.RDM_REQUEST r bodyRdmRequest)

/-! ### Self-test (R507 to R509, R519) -/

/-- R507: the instances of a target. -/
def testCount (target : Nat) : Nat :=
  match target with
  | 0 => 4
  | 1 => 8
  | 2 => 1
  | 3 => 1
  | 4 => 8
  | 5 => 4
  | 6 => 2
  | _ => 0

/-- The strands of a bank. -/
def bankStrands (b : Nat) : List Nat := (List.range 16).map fun j => 16 * b + j

/-- R507: the port of SERDES test or queue set `i`. -/
def testPort (i : Nat) : Port := if i = 0 then .a else if i = 1 then .b else .sv

/-- R46, R507, R508: the block is idle. -/
def State.blockIdle (s : State) (target index : Nat) : Bool :=
  if target = 0 ∨ target = 5 then
    (if index = 3 then decide (s.red.role = .solo) else !(s.mac (testPort index)).up)
  else if target = 1 ∨ target = 4 then
    (bankStrands index).all fun n => decide (s.coder n = Coder.OFF) && (!s.pair || (s.strand n).silent)
  else decide (target ≠ 6) || decide (s.mode = .service)

/-- R514: the window of a DRAM test starts within the capacity, on a channel that is populated. -/
def State.windowOk (s : State) (channel window : Nat) : Bool :=
  s.channelPopulated channel && decide (68 + 128 * window < s.arb.mb)

/-- R507, R519: the operands are in range. -/
def State.testOk (s : State) (target index arg : Nat) : Bool :=
  decide (index < testCount target) && (if target = 6 then s.windowOk index arg else decide (arg = 0))

/-- R509: the tests of STRAND_BANK and of SRAM_LB of one bank are of one block, as the worked example of the chapter has it. -/
def testBlock (target index : Nat) : Nat × Nat := (if target = 4 then 1 else target, index)

/-- R509: a test of this block runs. -/
def State.blockTested (s : State) (target index : Nat) : Bool :=
  s.bist.tests.any fun t => t.running && decide (testBlock t.target t.index = testBlock target index)

/-- R509: the test may start now: no other of its block runs, and the power allows it. -/
def State.testStarts (s : State) (target index : Nat) : Bool :=
  s.blockIdle target index && !s.blockTested target index &&
    decide (s.testPower + testCost target ≤ s.param P.BIST_POWER_BUDGET)

/-- The tests that wait. -/
def State.testsWaiting (s : State) : List Test := s.bist.tests.filter fun t => !t.running

/-- R509: the waiting test that is next to start: the one requested first among those whose block no test holds. -/
def State.nextTest (s : State) : Option Test := s.testsWaiting.find? fun t => !s.blockTested t.target t.index

/-- R519: the start to expect, µs from now: at once, or a free value (log 34). -/
def State.expectedStart (s : State) (target index : Nat) : Nat :=
  if s.nextTest.isNone ∧ s.testStarts target index then 0 else Config.freeNat s.draws % 2 ^ 32

def bodyBistRun : Body := fun s r =>
  let target := byteAt r.payload 0
  let index := byteAt r.payload 1
  let arg := field r.payload 4 4
  if s.testOk target index arg = false then (s, .plain Status.BAD_PARAM)
  else if s.blockIdle target index = false then (s, .plain Status.DENIED_MODE)
  else if s.param P.BIST_POWER_BUDGET < testCost target then (s, .plain Status.NO_RESOURCE)
  else if 8 ≤ s.testsWaiting.length then (s, .plain Status.BUSY)
  else
    let id := s.bist.nextId
    let t : Test := ⟨id, target, index, arg, false, 0⟩
    ({ s with
      draws := s.draws + 1
      bist := { s.bist with tests := s.bist.tests ++ [t], nextId := if id = 65534 then 0 else id + 1 } },
      .done Status.OK (beBytes 2 id ++ [0, 0] ++ beBytes 4 (s.expectedStart target index)))

def execBistRun (r : Request) (s : State) : Host.Outcome State Fault Refusal := .next (s.mailbox Op.BIST_RUN r bodyBistRun)

/-- The ID that BIST_RUN gave last. -/
def Bist.lastId (b : Bist) : Nat := if b.nextId = 0 then 65534 else b.nextId - 1

/-- R519: a test that is not done has no result yet: its result, duration and detail are free values (log 34). -/
def bodyBistResult : Body := fun s r =>
  let named := field r.payload 0 2
  let id := if named = 0xFFFF then s.bist.lastId else named
  match s.bist.tests.find? fun t => decide (t.id = id) with
  | some t =>
    let v := fun (i : Nat) => Config.freeNat (s.draws + i)
    ({ s with draws := s.draws + 3 }, .done Status.OK (beBytes 2 id ++ beBytes 1 (b2n t.running) ++ beBytes 1 (v 0) ++ beBytes 4 (v 1) ++ beBytes 8 (v 2)))
  | none =>
    match s.bist.results.reverse.find? fun d => decide (d.id = id) with
    | some d => (s, .done Status.OK (beBytes 2 id ++ [2] ++ beBytes 1 d.result ++ beBytes 4 d.durationUs ++ beBytes 8 d.detail))
    | none => (s, .plain Status.BAD_PARAM)

def execBistResult (r : Request) (s : State) : Host.Outcome State Fault Refusal :=
  .next (s.mailbox Op.BIST_RESULT r bodyBistResult)

/-! ### Calibration (R503 to R506, R519) -/

/-- R503, R519: the links that TRIM_RUN names are retrained. -/
def State.retrainLinks (s : State) (targets : Nat) : State :=
  let s := [Port.a, Port.b, Port.sv].foldl (fun s p => if bit targets p.index then s.retrain p else s) s
  if bit targets 3 then s.mirrorLinkDown else s

/-- R519: TRIM_RUN. -/
def bodyTrimRun : Body := fun s r =>
  let targets := field r.payload 0 2 % 256
  let s := s.retrainLinks targets
  let s := if trimsClass2 targets then { s with trim := { s.trim with due := true } } else s
  (s, .wait (.trim targets))

def execTrimRun (r : Request) (s : State) : Host.Outcome State Fault Refusal := .next (s.mailbox Op.TRIM_RUN r bodyTrimRun)

/-- R519: TRIM_REPORT. -/
def bodyTrimReport : Body := fun s _ =>
  let t := s.trim
  (s, .done Status.OK (beBytes 2 (satSigned 16 t.lastTemp) ++ [0, 0] ++ (t.eye.flatMap (beBytes 2)) ++ (t.dram.flatMap (beBytes 2)) ++
    (t.ret.flatMap fun x => beBytes 1 (satField 8 x.1)) ++ beBytes 8 t.lastStepNs))

def execTrimReport (r : Request) (s : State) : Host.Outcome State Fault Refusal :=
  .next (s.mailbox Op.TRIM_REPORT r bodyTrimReport)

/-! ### The pair (R416, R430, R444) -/

/-- R444: ROLE_GET. -/
def bodyRoleGet : Body := fun s _ =>
  let d := s.red
  let flags := b2n (decide (d.flavour = .warm)) + 2 * b2n d.stale + 4 * b2n d.mirrorUp + 8 * b2n d.hbSeen + 16 * b2n s.healthOk +
    32 * b2n d.ownIlIn
  (s, .done Status.OK (beBytes 1 d.role.code ++ beBytes 1 flags ++ beBytes 1 (if d.peerHeard then d.peerRole.code else 0xFF) ++
    beBytes 1 (s.param P.REDUND_ARB) ++ beBytes 8 d.peerSerial ++ beBytes 8 d.expiry ++ beBytes 8 d.takeoverNs))

def execRoleGet (r : Request) (s : State) : Host.Outcome State Fault Refusal := .next (s.mailbox Op.ROLE_GET r bodyRoleGet)

/-- R416: the role that ROLE_SET may name. -/
def roleOf : Nat → Option Role
  | 0 => some .solo
  | 1 => some .active
  | 2 => some .standby
  | _ => none

/-- R39, R444: the configuration that the peer's digest names, where the device holds it itself. -/
def State.peerRefused (s : State) : Option (Nat × List Byte) :=
  if s.red.peerDigest ≠ s.ownDigest then none
  else if s.dramShort then some (Status.NO_RESOURCE, [])
  else s.capacity

/-- R416, R444: ROLE_SET is judged, and waits for the next tick. -/
def bodyRoleSet : Body := fun s r =>
  let f : Flavour := if bit (byteAt r.payload 1) 0 then .warm else .hot
  if bit (byteAt r.payload 1) 1 then (s, .wait (.roleSet s.red.role f true))
  else
    match roleOf (byteAt r.payload 0) with
    | none => (s, .plain Status.BAD_PARAM)
    | some x =>
      if s.roleSetOk x = false then (s, .plain Status.DENIED_MODE)
      else
        match (if x = .standby then s.peerRefused else none) with
        | some d => (s, .done d.1 d.2)
        | none => (s, .wait (.roleSet x f false))

def execRoleSet (r : Request) (s : State) : Host.Outcome State Fault Refusal := .next (s.mailbox Op.ROLE_SET r bodyRoleSet)

/-- The `n`-th tick ahead: its index, its full ns, and whether it lies in a retime from tick T to tick U+1 (R82, R83). -/
def State.tickAhead (s : State) (n : Nat) : Nat × Nat × Bool :=
  let h := s.hearth
  let plain := (h.k + n, h.timing.tickNs (h.k + n))
  match h.retime with
  | none => (plain.1, plain.2, false)
  | some r =>
    let after := fun (j : Nat) => (r.uIndex + j, r.timing.tickNs (r.uIndex + j), decide (j ≤ 1))
    match h.gap with
    | 0 => if h.k + n ≤ r.tIndex then (plain.1, plain.2, decide (h.k + n = r.tIndex)) else after (h.k + n - r.tIndex - 1)
    | 1 => after (n - 1)
    | _ => (plain.1, plain.2, decide (n ≤ 1))

/-- The tick whose full ns is `ns`: its index, and whether it lies in a retime. -/
def State.tickAt (s : State) (ns : Nat) : Option (Nat × Bool) :=
  let h := s.hearth
  let named := fun (t : Timing) => let i := t.firstAtOrAfter ns; if t.tickNs i = ns then some i else none
  match h.retime with
  | none => (named h.timing).map fun i => (i, false)
  | some r =>
    if h.gap = 0 ∧ ns < r.uNs then
      (named h.timing).bind fun i => if i ≤ r.tIndex then some (i, decide (i = r.tIndex)) else none
    else (named r.timing).map fun i => (i, decide (i ≤ r.uIndex + 1))

/-- R430: the tick X that SWITCHOVER names: its index, its full ns, and whether it lies in a retime. -/
def State.switchTick (s : State) (ns : Nat) : Option (Nat × Nat × Bool) :=
  if ns = 0 then some (s.tickAhead 4)
  else if ns < (s.tickAhead 3).2.1 then none
  else (s.tickAt ns).map fun x => (x.1, ns, x.2)

/-- R430: the peer is paired, the standby is not STALE as far as this device knows, and the mirror link is up. -/
def State.switchReady (s : State) : Bool :=
  let d := s.red
  d.peerHeard && d.mirrorUp && !d.stale &&
    ((decide (d.role = .active) && decide (d.peerRole = .standby)) || (decide (d.role = .standby) && decide (d.peerRole = .active)))

/-- R430: the journal entry of a SWITCHOVER. R367 gives no code for it: a free value (log 34). -/
def State.journalSwitch (s : State) (ns : Nat) : State :=
  ({ s with draws := s.draws + 1 } : State).emit Src.CP Kind.CONFIG (Config.freeNat s.draws % 65536) ns

/-- R430: SWITCHOVER: both members schedule tick X. -/
def bodySwitchover : Body := fun s r =>
  match s.switchTick (field r.payload 0 8) with
  | none => (s, .plain Status.BAD_PARAM)
  | some (x, ns, inRetime) =>
    if s.switchReady = false then (s, .plain Status.DENIED_MODE)
    else if inRetime then (s, .plain Status.BUSY)
    else
      let s := ({ s with red := { s.red with switchX := some x } } : State).journalSwitch ns
      let s := if r.chan = .c3 then s else s.sendRequest Op.SWITCHOVER 0 (beBytes 8 ns)
      (s, .done Status.OK (beBytes 8 ns))

def execSwitchover (r : Request) (s : State) : Host.Outcome State Fault Refusal :=
  .next (s.mailbox Op.SWITCHOVER r bodySwitchover)

end Sys2Proof.Machine
end

