-- ==== Sys2Proof/Machine/Window.lean ====
section
/-! DEFINITION. The host SPI target and the host window (10_control_and_mailbox.md, R376 to R383; 09, R372; 13, R496,
R499). -/

namespace Sys2Proof.Machine

/-! ### What the window shows (R379) -/

/-- BOOT_STATUS (R496). -/
def State.bootStatus (s : State) : Nat :=
  let y := s.sys
  y.phase + y.strap * 8 + y.cause * 32 + b2n y.dlRefused * 2 ^ 8 + b2n y.dlTimeout * 2 ^ 9 + b2n s.work.downloaded * 2 ^ 10 +
    b2n y.fallback * 2 ^ 11 + b2n y.degraded * 2 ^ 12 + b2n y.criticalMem * 2 ^ 13 + b2n y.dramFail * 2 ^ 14 +
    b2n y.noSlot * 2 ^ 15 + b2n y.calBankBad * 2 ^ 16

/-- Bits [11:8] of the MODE register: FATAL, LOCKED, EMERG, RETIME. -/
def State.modeFlags (s : State) : Nat :=
  b2n s.sched.fatal + b2n (decide (s.hearth.servo = .locked)) * 2 + b2n s.fs.raised * 4 +
    b2n (s.hearth.retime.isSome || decide (s.hearth.gap ≠ 0)) * 8

/-- R15: DEV_ID. -/
def devId : Nat := 0x48560960

/-- The offsets below 0x0108, which BOOT serves too. -/
def State.lowWindow (s : State) (a : Nat) : Nat :=
  match a with
  | 0x0000 => devId
  | 0x0004 => 1
  | 0x0008 => s.sys.fwVersion
  | 0x000C => s.mode.code + s.modeFlags * 2 ^ 8
  | 0x0010 => s.bootStatus
  | 0x0014 => s.nvm.serial / 2 ^ 32
  | 0x0018 => s.nvm.serial % 2 ^ 32
  | 0x001C => b2n s.ctrl.bcastEn + s.sys.idStrap * 2
  | 0x0100 => s.ctrl.irq
  | 0x0104 => s.ctrl.irqEn
  | _ => 0

/-- R499: DL_WAIT under BOOT_STRAP = 0b01. -/
def State.dlServed (s : State) : Bool := decide (s.sys.phase = 3) && decide (s.sys.strap = 1)

/-- R499: the download registers. -/
def State.dlWindow (s : State) (a : Nat) : Nat :=
  let d := s.sys.dl
  match a with
  | 0x0304 => d.offset.toNat
  | 0x0308 => d.next
  | 0x030C => d.st
  | _ => if 0x1000 ≤ a ∧ a < 0x1400 then (SMap.get (fun _ => 0) d.buf (a % 0x400 / 4)).toNat else 0

/-- R382: requests of channel 0 submitted and not yet complete. -/
def State.inFlight0 (s : State) : Nat := s.ctrl.submitted.length + s.ctrl.ch0.inFlight

/-- MBX_STATUS. -/
def State.mbxStatus (s : State) : Nat :=
  let c := s.ctrl.ch0
  let sel := c.holds s.ctrl.mbxSel
  b2n s.served + b2n s.ctrl.reqFree * 2 + min 4 s.inFlight0 * 4 + b2n sel.isSome * 32 +
    b2n (match sel with
      | some t => t.done
      | none => false) * 64 + b2n s.ctrl.overrun * 128 + c.queue.length * 2 ^ 16

/-- R383: word `o` of MBX_RSP: the response in the selected slot. Of one that is not complete only STATUS is defined, and
of one that RESPONSE_ACK discarded nothing; what lies beyond a response is not stated either (log 10). -/
def State.rspWord (s : State) (o : Nat) : Word :=
  let c := s.ctrl.ch0
  let open_ := Config.undefinedWord o s.ctrl.undefReads
  match c.holds s.ctrl.mbxSel with
  | some t =>
    if t.acked then open_
    else if t.done ∨ t.deferred then
      let p := c.responseBytes t
      if o < p.length then BitVec.ofNat 32 (field p o 4) else open_
    else if o = 0 then BitVec.ofNat 32 (Status.PENDING * 2 ^ 16 + open_.toNat % 2 ^ 16)
    else open_
  | none => if o = 0 then BitVec.ofNat 32 (Status.PENDING * 2 ^ 16 + open_.toNat % 2 ^ 16) else open_

/-- R372: the journal window. -/
def State.jnlWindow (s : State) (a : Nat) : Nat :=
  let j := s.jnl
  match a with
  | 0x2000 => j.jwHi
  | 0x2004 => j.jwLo
  | 0x2008 =>
    b2n j.frozen + b2n (match j.jwSel with
      | some n => decide (n < s.jOldest)
      | none => false) * 2 + b2n j.flight.isSome * 4
  | 0x200C => j.next % 2 ^ 32
  | _ =>
    match j.jwSel with
    | some n =>
      if 0x2800 ≤ a then
        match s.jAt (n + a % 0x800 / 16) with
        | some e => field e.bytes (a % 16) 4
        | none => 0
      else 0
    | none => 0

/-- R379, R50: the time snapshot. -/
def State.timeWindow (s : State) (a : Nat) : Nat :=
  let l := s.hearth.hostLatch
  match a with
  | 0x3004 => l.secLo
  | 0x3008 => l.ns
  | 0x300C => l.short
  | 0x3010 => s.nextTickNs % 2 ^ 32
  | _ => 0

/-! ### Reads (R376 to R379, R383) -/

/-- The read of one word of the window. -/
def State.winRead (s : State) (a : Nat) : State × Word :=
  if a < 0x0108 then (s, BitVec.ofNat 32 (s.lowWindow a))
  else if s.mode = .boot then (s, if s.dlServed then BitVec.ofNat 32 (s.dlWindow a) else 0)
  else if a = 0x0204 then ({ s with ctrl := { s.ctrl with overrun := false } }, BitVec.ofNat 32 s.mbxStatus)
  else if a = 0x0208 then (s, s.ctrl.mbxSel)
  else if 0x1000 ≤ a ∧ a < 0x1400 then (s, SMap.get (fun _ => 0) s.ctrl.mbxReq (a % 0x400 / 4))
  else if 0x1400 ≤ a ∧ a < 0x1800 then
    ({ s with ctrl := { s.ctrl with undefReads := s.ctrl.undefReads + 1 } }, s.rspWord (a % 0x400))
  else if 0x2000 ≤ a ∧ a < 0x3000 then (s, BitVec.ofNat 32 (s.jnlWindow a))
  else if a = 0x3000 then s.readTimeSecHi true
  else (s, BitVec.ofNat 32 (s.timeWindow a))

/-- R377: `n` words from `a` on; the address wraps after 0xFFFC. -/
def State.winReads (s : State) (a : Nat) : Nat → State × List Word
  | 0 => (s, [])
  | n + 1 =>
    let r := s.winRead a
    let t := r.1.winReads ((a + 4) % 65536) n
    (t.1, r.2 :: t.2)

/-- R377: does a transaction of `n` words from `a` include offset `o`? -/
def covers (a n o : Nat) : Bool := decide ((o + 65536 - a) % 65536 / 4 < n)

/-- R383, R387: the host has read the selected response when a transaction includes offset 0x1400 of a complete one. -/
def State.markRead (s : State) (a n : Nat) : State :=
  let c := s.ctrl.ch0
  if covers a n 0x1400 ∧ s.mode ≠ .boot then
    match c.holds s.ctrl.mbxSel with
    | some t => if t.done then { s with ctrl := { s.ctrl with ch0 := c.setSlot s.ctrl.mbxSel (some { t with seen := true }) } } else s
    | none => s
  else s

/-- R377: bits [1:0] of an address are ignored. -/
def wordAddr (addr : BitVec 16) : Nat := addr.toNat / 4 * 4

/-- What the device puts on HS_DQ. -/
def State.answerSpi (s : State) (taken : Bool) (ws : List Word) : State :=
  { s with ctrl := { s.ctrl with spiAnswered := taken, spiOut := ws } }

/-- R378, R379: a read transaction, of either width. -/
def State.spiRead (s : State) (id : Fin 8) (addr : BitVec 16) (n : Nat) : State :=
  if s.sys.inReset ∨ id.val ≠ s.sys.idStrap then s.answerSpi false []
  else
    let r := s.winReads (wordAddr addr) n
    (r.1.markRead (wordAddr addr) n).answerSpi true r.2

/-- READ: R376. -/
def execRead (id : Fin 8) (addr : BitVec 16) (n : Nat) (s : State) : Host.Outcome State Fault Refusal := .next (s.spiRead id addr n)

/-- QREAD: R376: the same over four lanes. -/
def execQread (id : Fin 8) (addr : BitVec 16) (n : Nat) (s : State) : Host.Outcome State Fault Refusal := .next (s.spiRead id addr n)

/-- R383: words of the selected response. -/
def State.rspWords (s : State) : Nat :=
  match s.ctrl.ch0.holds s.ctrl.mbxSel with
  | some t => if t.done then 4 + ceilDiv t.payload.length 4 else 4
  | none => 4

/-- MBX_RSP: R383: the host reads the selected response from its first word to its last. -/
def execMbxRsp (s : State) : Host.Outcome State Fault Refusal :=
  if s.firmwareUp = false then .next s
  else
    let r := s.winReads 0x1400 s.rspWords
    .next ((r.1.markRead 0x1400 s.rspWords).answerSpi true r.2)

/-! ### Writes (R376 to R379, R382, R372) -/

/-- R379, R380: a write of ones clears bits of IRQ_STATUS; EVENT and FATAL are set again while their cause stands. -/
def State.clearIrq (s : State) (v : Nat) : State :=
  let left := s.ctrl.irq - (s.ctrl.irq &&& v)
  let again := b2n (!s.ctrl.ch0.queue.isEmpty) * 2 ^ Irq.EVENT + b2n s.sched.fatal * 2 ^ Irq.FATAL
  { s with ctrl := { s.ctrl with irq := left ||| (again &&& s.ctrl.irq) } }

/-- R382: SUBMIT: the CP copies 16 + LEN bytes of MBX_REQ, and REQ_FREE returns at once. -/
def State.submit (s : State) : State :=
  if s.served = false ∨ s.ctrl.reqFree = false ∨ 4 ≤ s.inFlight0 then
    ({ s with ctrl := { s.ctrl with overrun := true } } : State).count Reg.MBX_OVERRUN
  else
    let buf := bytesOfWords ((List.range 256).map fun i => SMap.get (fun _ => 0) s.ctrl.mbxReq i)
    let q := buf.take (16 + field buf 10 2)
    (({ s with ctrl := { s.ctrl with submitted := s.ctrl.submitted ++ [q] } } : State).irq Irq.REQ_FREE).drainRowless 4

/-- MBX_CTRL. -/
def State.writeMbxCtrl (s : State) (v : Word) : State := if v.getLsbD 0 then s.submit else s

/-- R372: a write of JW_FIRST_LO selects. -/
def State.selectJournal (s : State) (v : Word) : State :=
  { s with jnl := { s.jnl with jwLo := v.toNat, jwSel := some (s.jnl.jwHi * 2 ^ 32 + v.toNat) } }

/-- R499: writes in DL_WAIT. -/
def State.dlWrite (s : State) (a : Nat) (w : Word) : State :=
  let d := s.sys.dl
  if a = 0x0300 then s.writeDlCtrl w
  else if a = 0x0304 then { s with sys := { s.sys with dl := { d with offset := w } } }
  else if 0x1000 ≤ a ∧ a < 0x1400 then
    { s with sys := { s.sys with dl := { d with buf := SMap.set (fun _ => 0) d.buf (a % 0x400 / 4) w } } }
  else s

/-- The write of one word of the window. -/
def State.winWrite (s : State) (a : Nat) (w : Word) : State :=
  if a = 0x001C then { s with ctrl := { s.ctrl with bcastEn := w.getLsbD 0 } }
  else if a = 0x0100 then s.clearIrq w.toNat
  else if a = 0x0104 then { s with ctrl := { s.ctrl with irqEn := w.toNat % 128 } }
  else if s.mode = .boot then (if s.dlServed then s.dlWrite a w else s)
  else if a = 0x0200 then s.writeMbxCtrl w
  else if a = 0x0208 then { s with ctrl := { s.ctrl with mbxSel := w } }
  else if 0x1000 ≤ a ∧ a < 0x1400 then
    if s.ctrl.reqFree then { s with ctrl := { s.ctrl with mbxReq := SMap.set (fun _ => 0) s.ctrl.mbxReq (a % 0x400 / 4) w } }
    else s
  else if a = 0x2000 then { s with jnl := { s.jnl with jwHi := w.toNat } }
  else if a = 0x2004 then s.selectJournal w
  else s

/-- R377: words from `a` on. -/
def State.winWrites (s : State) (a : Nat) : List Word → State
  | [] => s
  | w :: ws => (s.winWrite a w).winWrites ((a + 4) % 65536) ws

/-- R378: the device takes a write with this ID. -/
def State.takesWrite (s : State) (id : Fin 8) : Bool :=
  !s.sys.inReset && (decide (id.val = s.sys.idStrap) || (decide (id.val = 7) && s.ctrl.bcastEn))

/-- A write transaction, of either width. -/
def State.spiWrite (s : State) (id : Fin 8) (addr : BitVec 16) (ws : List Word) : State :=
  if s.takesWrite id then (s.winWrites (wordAddr addr) ws).answerSpi true [] else s.answerSpi false []

/-- WRITE: R376. -/
def execWrite (id : Fin 8) (addr : BitVec 16) (words : List Word) (s : State) : Host.Outcome State Fault Refusal :=
  .next (s.spiWrite id addr words)

/-- QWRITE: R376: the same over four lanes. -/
def execQwrite (id : Fin 8) (addr : BitVec 16) (words : List Word) (s : State) : Host.Outcome State Fault Refusal :=
  .next (s.spiWrite id addr words)

/-- MBX_CTRL: R382. -/
def execMbxCtrl (v : Word) (s : State) : Host.Outcome State Fault Refusal :=
  if s.firmwareUp then .next (s.writeMbxCtrl v) else .next s

/-- IRQ_STATUS: R379. -/
def execIrqStatus (v : Word) (s : State) : Host.Outcome State Fault Refusal :=
  if s.sys.inReset then .next s else .next (s.clearIrq v.toNat)

/-- JW_FIRST_LO: R372. -/
def execJwFirstLo (v : Word) (s : State) : Host.Outcome State Fault Refusal :=
  if s.firmwareUp then .next (s.selectJournal v) else .next s

end Sys2Proof.Machine
end

