-- ==== Sys2Proof/Machine/Pins.lean ====
section
/-! DEFINITION. The states of the pins that the device drives, each a function of the state
(13_startup_reset_selftest.md, R501). STR0 to STR127 are State.pin, beside the strands. -/

namespace Sys2Proof.Machine

/-- R380, R89, R429, R501: an open-drain pin is released or pulled low. -/
inductive OpenDrain where
  | released | low
  deriving DecidableEq, Repr

def openDrain (pulled : Bool) : OpenDrain := if pulled then .low else .released

/-- R501: neither in reset nor in BOOT. -/
def State.booted (s : State) : Bool := !s.sys.inReset && decide (s.mode ≠ .boot)

/-- R380, R501: HOST_IRQ_N. -/
def State.hostIrqPin (s : State) : OpenDrain := openDrain s.hostIrqLow

/-- R89, R501: TICK_OD. -/
def State.tickOdPin (s : State) : OpenDrain := openDrain (s.booted && s.tickOdLow)

/-- R429, R501: OWN_IL. -/
def State.ownIlPin (s : State) : OpenDrain := openDrain (s.booted && s.red.ownIlOut)

/-- R501: FAULT_N: low in reset, and in BOOT until step 11 or HELD; low on a fatal fault. -/
def State.faultPin (s : State) : OpenDrain := openDrain (s.sys.inReset || s.sys.faultN)

/-- R93, R501: PPS_OUT is high. -/
def State.ppsOutPin (s : State) : Bool := s.booted && s.hearth.ppsOutLevel

/-- R99, R501, R507: the transmitter of a link is at electrical idle: before step 9 of the start-up, and in a SerDes test. -/
def State.linkIdle (s : State) (l : Link) : Bool :=
  match Link.port l with
  | some p => s.txIdle p || s.testing 0 p.index
  | none => s.booted = false || s.testing 0 3

/-- R501: DDRn_RESET_N is high and the channel's other outputs are driven: from step 5 of the start-up. -/
def State.ddrDriven (s : State) : Bool :=
  !s.sys.inReset && (decide (s.mode ≠ .boot) || !(s.sys.noSlot || s.sys.criticalMem))

/-- R501: FL_CLK, FL_DQ and FL_DQS are driven and FL_CS_N has left its pull-up: by the ROM from reset release on. -/
def State.flashDriven (s : State) : Bool := !s.sys.inReset

/-- R378, R379, R501: the device drives HS_DQ[3:0] in a read with the ID `id`: its own; in BOOT an offset that is not served
is answered with 0. -/
def State.hsDriven (s : State) (id : Nat) : Bool := !s.sys.inReset && decide (id = s.sys.idStrap)

/-- R501: REFCLK_OUT shows the buffered REFCLK, in reset, BOOT and every mode, while its supplies are valid. -/
def State.refclkOut (_ : State) (suppliesValid : Bool) : Bool := suppliesValid

end Sys2Proof.Machine
end

