-- ==== Sys2Proof/Machine/Session.lean ====
section
/-! DEFINITION. The commands of the connection, of modes and of time: HELLO, sessions, MODE_GET, MODE_SET, TIME_GET,
TIMING_SET and DOMAIN_SELECT (04, R159 to R161; 10, R393 to R397, R408, R409; 00, R6 to R9; 02, R66, R79 to R82). -/

namespace Sys2Proof.Machine

/-! ### HELLO (R159 to R161) -/

/-- R160: the highest version in both bitmaps; 0 when none. -/
def selectedVersion (versions : Nat) : Nat :=
  if bit versions 3 then 3 else if bit versions 2 then 2 else if bit versions 1 then 1 else 0

/-- R160: the OFFER. -/
def State.offerBytes (s : State) (selected : Nat) : List Byte :=
  let t := s.hearth.timing.reduced
  [0x0E] ++ beBytes 1 selected ++ beBytes 2 0x01FF ++ [0x0F] ++ beBytes 1 (1 + 2 * b2n (s.paramOn P.SACN_ENABLE)) ++ [64] ++
    beBytes 1 t.slots ++ beBytes 4 t.n ++ beBytes 4 t.m ++ beBytes 8 s.nextTickNs ++ beBytes 4 (s.param P.PT_WINDOW) ++
    beBytes 2 (s.param P.HPT_UDP_PORT) ++ beBytes 2 (s.param P.HPT_ETHERTYPE) ++ beBytes 8 s.nvm.serial

/-- R408: the response of HELLO. -/
def State.helloReply (s : State) (selected : Nat) (ch : Chan) : List Byte :=
  s.offerBytes selected ++ [1] ++ beBytes 1 ch.index ++ [4, 0] ++ beBytes 4 s.sys.fwVersion

/-- R159: the SOURCE_NAME of a pixel source is journalled. R367 gives no code for it: a CONFIG entry of the CP whose code
is a free value (log 34). -/
def State.journalSource (s : State) (name : Nat) : State :=
  ({ s with draws := s.draws + 1 } : State).emit Src.CP Kind.CONFIG (Config.freeNat s.draws % 65536) name

/-- R160, R408: SELECTED: the highest version in both bitmaps. A control host names no versions, since its bytes 1 to 7 are
reserved, so none is in both (DEDUCED, log 35). -/
def helloSelected (p : List Byte) : Nat := if byteAt p 0 = 0 then 0 else selectedVersion (byteAt p 1)

/-- R161: UNSUPPORTED_VERSION when SELECTED is 0, otherwise OK, each with the OFFER; R159: the name of a pixel source is
journalled. -/
def bodyHello : Body := fun s r =>
  let v := helloSelected r.payload
  let s := if byteAt r.payload 0 = 0 then s else s.journalSource (field r.payload 8 8)
  (s, .done (if v = 0 then Status.UNSUPPORTED_VERSION else Status.OK) (s.helloReply v r.chan))

def execHello (r : Request) (s : State) : Host.Outcome State Fault Refusal := .next (s.mailbox Op.HELLO r bodyHello)

/-! ### Sessions (R393 to R397) -/

/-- R394: the first handle after `h` that is not open; 0 is skipped. -/
def State.handleAfter (s : State) (h : Nat) : Nat → Nat
  | 0 => h
  | fuel + 1 =>
    let n := if 65535 ≤ h then 1 else h + 1
    if s.ctrl.sessions.any fun x => decide (x.handle = n) then s.handleAfter n fuel else n

/-- R393: the scope is free: no session holds it, and its lock is held by none. -/
def State.scopeFree (s : State) (scope : Nat) : Bool := (s.sessionOf scope).isNone && decide ((s.lock (40 + scope)).owner = none)

/-- R394: open a session: its lock is the CP's. -/
def State.openSession (s : State) (r : Request) (scope lease : Nat) : State :=
  let h := s.handleAfter s.ctrl.lastHandle 8
  let x : Session := ⟨scope, r.chan, r.from_, h, lease, s.up + lease * 1000000000, false⟩
  let s := s.setLock (40 + scope) { owner := some 0, waiters := [], sinceUp := s.up }
  { s with ctrl := { s.ctrl with sessions := s.ctrl.sessions ++ [x], lastHandle := h } }

/-- R366: SESSION_DENIED of a requester. -/
def State.sessionDenied (s : State) (r : Request) (scope : Nat) : State :=
  s.raiseWith Ev.SESSION_DENIED r.chan.index (scope * 2 ^ 48 + s.endpointIndex r.chan r.from_ * 2 ^ 40)

/-- R394. -/
def bodySessionOpen : Body := fun s r =>
  let scope := byteAt r.payload 0
  let named := field r.payload 2 2
  let lease := if named = 0 then s.param P.SESSION_LEASE else named
  if 4 < scope ∨ lease < 5 ∨ 300 < lease then (s, .plain Status.BAD_PARAM)
  else if s.scopeFree scope then
    let s := s.openSession r scope lease
    (s, .done Status.OK (beBytes 2 s.ctrl.lastHandle ++ beBytes 2 lease))
  else (s.sessionDenied r scope, .done Status.DENIED_LOCK (s.lockDetail scope))

def execSessionOpen (r : Request) (s : State) : Host.Outcome State Fault Refusal :=
  .next (s.mailbox Op.SESSION_OPEN r bodySessionOpen)

/-- R395: DENIED_LOCK of a handle that is not open on the requester. The handle names no scope there: the detail shows no
session (log 36). -/
def noSession : List Byte := [0xFF, 0, 0, 0, 0, 0, 0, 0] ++ beBytes 8 0

/-- R397. -/
def bodySessionClose : Body := fun s r =>
  match s.session r.chan r.from_ r.client.toNat with
  | none => (s, .done Status.DENIED_LOCK noSession)
  | some x => if s.sessionBusy x.handle then (s, .plain Status.BUSY) else (s.closeSession x, .plain Status.OK)

def execSessionClose (r : Request) (s : State) : Host.Outcome State Fault Refusal :=
  .next (s.mailbox Op.SESSION_CLOSE r bodySessionClose)

/-- R396, R408: the lease left in ms, and the mode. -/
def State.keepaliveReply (s : State) (ns : Nat) : List Byte := beBytes 4 (ns / 1000000) ++ beBytes 1 s.mode.code ++ [0, 0, 0]

/-- R395, R396, R408: the lease restarts at the end of the command, so the whole lease is left. -/
def bodyKeepalive : Body := fun s r =>
  if r.client = 0 then (s, .done Status.OK (s.keepaliveReply 0))
  else
    match s.session r.chan r.from_ r.client.toNat with
    | none => (s, .done Status.DENIED_LOCK noSession)
    | some x => (s, .done Status.OK (s.keepaliveReply (x.lease * 1000000000)))

def execKeepalive (r : Request) (s : State) : Host.Outcome State Fault Refusal := .next (s.mailbox Op.KEEPALIVE r bodyKeepalive)

/-! ### Modes (R4 to R9, R409) -/

/-- R408. -/
def bodyModeGet : Body := fun s _ =>
  (s, .done Status.OK (beBytes 1 s.mode.code ++ beBytes 1 s.ctrl.prevMode.code ++ beBytes 1 (s.param P.HOLD_POLICY) ++
    beBytes 1 s.modeFlags ++ beBytes 8 s.ctrl.modeNs ++ s.paramBytes P.DEVICE_LABEL))

def execModeGet (r : Request) (s : State) : Host.Outcome State Fault Refusal := .next (s.mailbox Op.MODE_GET r bodyModeGet)

/-- R408: the modes that MODE_SET may name. -/
def modeOf : Nat → Option Mode
  | 1 => some .idle
  | 2 => some .live
  | 5 => some .service
  | _ => none

/-- R409: a MODE_SET is accepted and has not taken effect. -/
def State.modeSetWaits (s : State) : Bool :=
  s.ctrl.waiting.any fun w =>
    match w.why with
    | .modeSet _ => true
    | _ => false

/-- R6 to R9, R409: MODE_SET is judged, and waits for the next tick boundary. -/
def bodyModeSet : Body := fun s r =>
  match modeOf (byteAt r.payload 0) with
  | none => (s, .plain Status.BAD_PARAM)
  | some m =>
    if s.modeSetWaits then (s, .plain Status.BUSY)
    else if s.mode = .hold ∧ m = .live then (s, .done Status.OK (s.modeReply 0))
    else if s.modeSetOk m then (s, .wait (.modeSet m))
    else (s, .plain Status.DENIED_MODE)

def execModeSet (r : Request) (s : State) : Host.Outcome State Fault Refusal := .next (s.mailbox Op.MODE_SET r bodyModeSet)

/-! ### Time (R66, R79 to R82) -/

/-- The number of the active domain. -/
def State.activeDomain (s : State) : Nat := s.domNumber s.hearth.secondActive

/-- R408. -/
def bodyTimeGet : Body := fun s _ =>
  let h := s.hearth
  (s, .done Status.OK (beBytes 8 s.nowNs ++ beBytes 4 s.short.toNat ++ beBytes 1 h.servo.code ++ beBytes 1 s.activeDomain ++
    beBytes 1 (b2n h.sourcePps + 2 * b2n h.secondActive) ++ [0] ++ beBytes 4 (satReg h.offset) ++ beBytes 4 h.timing.reduced.n ++
    beBytes 4 h.timing.reduced.m ++ [0, 0, 0, 0] ++ beBytes 8 s.nextTickNs ++ beBytes 8 s.nextTickIndex))

def execTimeGet (r : Request) (s : State) : Host.Outcome State Fault Refusal := .next (s.mailbox Op.TIME_GET r bodyTimeGet)

/-- R79: the timing of a request. -/
def requestTiming (p : List Byte) : Timing :=
  ⟨field p 0 4, field p 4 4, byteAt p 8, field p 12 2, field p 14 2, field p 16 2, field p 18 2⟩

/-- R79: the named time. -/
def namedTime (p : List Byte) : Option Nat := if bit (byteAt p 9) 0 then some (field p 20 8) else none

/-- R82: the index of the tick T that a request names. -/
def State.retimeIndex (s : State) (named : Option Nat) : Nat :=
  match named with
  | some ns => s.hearth.timing.firstAtOrAfter ns
  | none => s.hearth.k + 3

/-- R81: the named time lies less than two current periods after now. -/
def State.tooSoon (s : State) (named : Option Nat) : Bool :=
  match named with
  | some ns => decide ((ns * 2 ^ 32 - s.time.units) * s.hearth.timing.n < 2 * s.hearth.timing.m * 1000000000 * 2 ^ 32)
  | none => false

/-- R39, R179: the planned configuration with the new timing. -/
def State.timingCapacity (s : State) (t : Timing) : Option (Nat × List Byte) :=
  let p := s.planned
  let c := p.setTimingParams t
  match slotsRefused p c with
  | some d => some d
  | none => c.capacity

/-- R79 to R82: TIMING_SET schedules a retime at once; within a gap it is BUSY, where no current period is in force. -/
def bodyTimingSet : Body := fun s r =>
  let t := requestTiming r.payload
  let named := namedTime r.payload
  if t.ok = false then (s, .plain Status.BAD_PARAM)
  else if s.hearth.gap ≠ 0 then (s, .plain Status.BUSY)
  else if s.tooSoon named then (s, .plain Status.BAD_PARAM)
  else
    match s.timingCapacity t with
    | some d => (s, .done d.1 d.2)
    | none =>
      if s.retimeBusy then (s, .plain Status.BUSY)
      else
        let x := s.retimeAt t (s.retimeIndex named)
        ({ s with hearth := { s.hearth with retime := some x } }, .done Status.OK (beBytes 8 x.tNs ++ beBytes 8 x.uNs))

def execTimingSet (r : Request) (s : State) : Host.Outcome State Fault Refusal :=
  .next (s.mailbox Op.TIMING_SET r bodyTimingSet)

/-- R66: DOMAIN_SELECT completes at the next Sync of the new domain. -/
def bodyDomainSelect : Body := fun s r =>
  match s.domOf (byteAt r.payload 0) with
  | none => (s, .plain Status.BAD_PARAM)
  | some d =>
    if s.hearth.secondActive = d then (s, .plain Status.OK)
    else if (s.dom d).st = .locked then (s, .wait (.domain d))
    else (s, .plain Status.NO_RESOURCE)

def execDomainSelect (r : Request) (s : State) : Host.Outcome State Fault Refusal :=
  .next (s.mailbox Op.DOMAIN_SELECT r bodyDomainSelect)

end Sys2Proof.Machine
end

