-- ==== Sys2Proof/Machine/Setup.lean ====
section
/-! DEFINITION. The commands of parameters, registers, counters, the journal and events: PARAM_GET, PARAM_SET,
PARAM_COMMIT, REG_READ, REG_WRITE, COUNTERS_READ, JOURNAL_READ and EVENTS_READ (10, R400 to R403, R406, R408, R410; 09,
R371). -/

namespace Sys2Proof.Machine

/-! ### Parameters (R400 to R403) -/

/-- R487: the value that a parameter shows: the read-only ones show the state that they name. -/
def State.shownParam (s : State) (id : Nat) : List Byte :=
  if id = P.ACCESS_LEVEL then beBytes 4 s.nvm.level
  else if id = P.LOCKOUT_LEFT then beBytes 4 s.lockoutLeft
  else if id = P.UNLOCK_FAILURES then beBytes 4 (min 255 s.nvm.failures)
  else s.paramBytes id

/-- The staged value of a parameter. -/
def Client.staged (c : Client) (id : Nat) : Option (List Byte) := (c.staging.find? fun q => decide (q.1 = id)).map Prod.snd

/-- R408: the record that PARAM_GET returns. -/
def State.getRecord (s : State) (c : Client) (staged : Bool) (id : Nat) : List Byte :=
  match (if staged then c.staged id else none) with
  | some v => paramRecord id true v
  | none => paramRecord id false (s.shownParam id)

/-- R408: the IDs of a request. -/
def requestIds (p : List Byte) : List Nat := (List.range (field p 2 2)).map fun i => field p (4 + 2 * i) 2

/-- R408: PARAM_GET. -/
def bodyParamGet : Body := fun s r =>
  let ids := requestIds r.payload
  let c := s.client r.chan r.from_
  if ids.length = 0 ∨ 250 < ids.length then (s, .plain Status.BAD_PARAM)
  else
    match ids.find? fun id => (paramRow id).isNone with
    | some id => (s, .done Status.BAD_PARAM (beBytes 2 id))
    | none =>
      let out := ids.flatMap (s.getRecord c (bit (field r.payload 0 2) 0))
      if 1008 < out.length then (s, .plain Status.BAD_LENGTH) else (s, .done Status.OK out)

def execParamGet (r : Request) (s : State) : Host.Outcome State Fault Refusal := .next (s.mailbox Op.PARAM_GET r bodyParamGet)

/-- R402: put a value into a staging set; a value staged again replaces the earlier one. -/
def stageValue (l : List (Nat × List Byte)) (q : Nat × List Byte) : List (Nat × List Byte) :=
  if l.any fun x => decide (x.1 = q.1) then l.map fun x => if x.1 = q.1 then q else x else l ++ [q]

/-- R401, R402: bytes of the records of a staging set. -/
def stagedBytes (l : List (Nat × List Byte)) : Nat := (l.map fun q => (paramRecord q.1 false q.2).length).foldl (· + ·) 0

/-- R402: stage the records one by one; the status and the ID of the first that fails. -/
def stageAll : List (Nat × List Byte) → List (Nat × List Byte) → Except (Nat × Nat) (List (Nat × List Byte))
  | l, [] => .ok l
  | l, q :: qs =>
    if paramOk q.1 q.2 = false then .error (Status.BAD_PARAM, q.1)
    else if 4096 < stagedBytes (stageValue l q) then .error (Status.NO_RESOURCE, q.1)
    else stageAll (stageValue l q) qs

/-- R399, R402: PARAM_SET. -/
def bodyParamSet : Body := fun s r =>
  let c := s.client r.chan r.from_
  match parseRecords (r.len.toNat / 4 + 1) (r.payload.take r.len.toNat) with
  | none => (s, .plain Status.BAD_LENGTH)
  | some recs =>
    match stageAll c.staging recs with
    | .error e => (s, .done e.1 (beBytes 2 e.2))
    | .ok l => (s.setClient r.chan r.from_ { c with staging := l }, .plain Status.OK)

def execParamSet (r : Request) (s : State) : Host.Outcome State Fault Refusal := .next (s.mailbox Op.PARAM_SET r bodyParamSet)

/-- R403: the staging set of a channel or endpoint empties. -/
def State.emptyStaging (s : State) (r : Request) : State :=
  s.setClient r.chan r.from_ { s.client r.chan r.from_ with staging := [] }

/-- R403, R408: nothing is applied; no tick is stated for it: a free value (log 34). -/
def State.appliedNothing (s : State) : State × Reply :=
  ({ s with draws := s.draws + 1 },
    .done Status.OK (beBytes 2 0 ++ List.replicate 6 0 ++ beBytes 8 (Config.freeNat s.draws)))

/-- R403: PARAM_COMMIT. -/
def bodyParamCommit : Body := fun s r =>
  let recs := (s.client r.chan r.from_).staging
  if bit (byteAt r.payload 0) 0 ∨ recs.isEmpty then (s.emptyStaging r).appliedNothing
  else
    match s.commitRefused recs with
    | some d => (s, .done d.1 d.2)
    | none =>
      let id := s.ctrl.stagedId
      ((s.emptyStaging r).stage (.commit recs (s.startsRetime recs)), .wait (.change id))

def execParamCommit (r : Request) (s : State) : Host.Outcome State Fault Refusal :=
  .next (s.mailbox Op.PARAM_COMMIT r bodyParamCommit)

/-! ### Registers (R410) -/

/-- R410: ADDR is a multiple of 4, COUNT is in range, and every word lies in the register blocks. -/
def regRangeOk (addr count top : Nat) : Bool :=
  decide (addr % 4 = 0) && decide (1 ≤ count) && decide (count ≤ top) && decide (0x40000000 ≤ addr) &&
    decide (addr + 4 * (count - 1) ≤ 0x400FFFFC)

/-- R410, R34, R367: a read of one word by a request; an unmapped word is journalled as UNMAPPED, another as REG_READ. -/
def State.regReadWord (s : State) (a : Nat) : State × Word :=
  let x := s.readReg a
  if (regRow a).isSome then (x.1.emit Src.CP Kind.CONFIG Code.REG_READ (a * 2 ^ 32 + x.2.toNat), x.2) else x

/-- R410: `n` consecutive words from `a` on. -/
def State.regReadWords (s : State) (a : Nat) : Nat → State × List Word
  | 0 => (s, [])
  | n + 1 =>
    let x := s.regReadWord a
    let y := x.1.regReadWords (a + 4) n
    (y.1, x.2 :: y.2)

/-- R408, R410: REG_READ. -/
def bodyRegRead : Body := fun s r =>
  let addr := field r.payload 0 4
  let count := field r.payload 4 2
  if regRangeOk addr count 252 = false then (s, .plain Status.BAD_PARAM)
  else
    let x := s.regReadWords addr count
    (x.1, .done Status.OK (bytesOfWords x.2))

def execRegRead (r : Request) (s : State) : Host.Outcome State Fault Refusal := .next (s.mailbox Op.REG_READ r bodyRegRead)

/-- R19: the write is ignored for want of an unlocked access level. -/
def State.ignoredRwl (s : State) (by_ : Accessor) (a : Nat) : Bool :=
  match regRow a with
  | some r => s.rwlRefuses r by_
  | none => false

/-- The write of TIME_NS finds the servo on or another mode, is ignored and journalled by the register's own rule. -/
def State.timeNsIgnored (s : State) (a : Nat) : Bool :=
  decide (a = Reg.TIME_NS) && (s.servoEn || !s.atRest)

/-- R410, R367: a write of one word by a request: journalled as REG_WRITE, unless it is ignored (REG_DENIED) or unmapped
(UNMAPPED). -/
def State.regWriteWord (s : State) (by_ : Accessor) (a : Nat) (v : Word) : State :=
  let s' := s.writeReg by_ a v
  if (regRow a).isNone ∨ s.ignoredRwl by_ a ∨ s.timeNsIgnored a then s'
  else s'.emit Src.CP Kind.CONFIG Code.REG_WRITE (a * 2 ^ 32 + v.toNat)

/-- R408: words from `a` on: how many were written, and how many ignored as RWL. -/
def State.regWriteWords (s : State) (by_ : Accessor) (a : Nat) : List Word → State × Nat × Nat
  | [] => (s, 0, 0)
  | w :: ws =>
    let no := b2n (s.ignoredRwl by_ a)
    let yes := b2n ((regRow a).isSome && !s.ignoredRwl by_ a)
    let x := (s.regWriteWord by_ a w).regWriteWords by_ (a + 4) ws
    (x.1, yes + x.2.1, no + x.2.2)

/-- R408, R410: REG_WRITE. -/
def bodyRegWrite : Body := fun s r =>
  let addr := field r.payload 0 4
  let count := field r.payload 4 2
  if regRangeOk addr count 250 = false then (s, .plain Status.BAD_PARAM)
  else
    let x := s.regWriteWords (.client r.chan r.from_) addr (wordsOf (r.payload.drop 8) count)
    (x.1, .done Status.OK (beBytes 2 x.2.1 ++ beBytes 2 x.2.2))

def execRegWrite (r : Request) (s : State) : Host.Outcome State Fault Refusal := .next (s.mailbox Op.REG_WRITE r bodyRegWrite)

/-! ### Counters (R129, R408) -/

/-- R408: the blocks that COUNTERS_READ serves, and their instances. -/
def counterInstanceOk (block inst : Nat) : Bool :=
  match block with
  | 2 => decide (inst ≤ 2)
  | 6 => decide (inst ≤ 127)
  | _ => [0, 3, 4, 5, 7, 10, 11, 12, 15].contains block && decide (inst = 0)

/-- The rows of the counter tables: whole words that clear on read, at the counter offsets of their block. -/
def RegRow.isCounter (r : RegRow) (block : Nat) : Bool :=
  decide (r.rc = 0xFFFFFFFF) && (decide (block = 2) || decide (block = 6) || decide (0x800 ≤ r.base % 0x10000))

/-- The counter of a row for one instance. -/
def RegRow.instanceAddr (r : RegRow) (block inst : Nat) : Nat :=
  match block with
  | 2 => r.base + inst * r.s1
  | 6 => r.base + inst / 16 * r.s1 + inst % 16 * r.s2
  | _ => r.base

/-- R408: the counter words of a block, in ascending offset. -/
def counterWords (block inst : Nat) : List Nat :=
  ((regRowsOf (0x40000000 + block * 0x10000)).filter (·.isCounter block)).map (·.instanceAddr block inst)

/-- R129: read and clear. -/
def State.readCounters (s : State) : List Nat → State × List Word
  | [] => (s, [])
  | a :: l =>
    let x := s.readReg a
    let y := x.1.readCounters l
    (y.1, x.2 :: y.2)

/-- R408: COUNTERS_READ. -/
def bodyCountersRead : Body := fun s r =>
  let block := byteAt r.payload 0
  let inst := byteAt r.payload 1
  if counterInstanceOk block inst = false then (s, .plain Status.BAD_PARAM)
  else
    let x := s.readCounters (counterWords block inst)
    (x.1, .done Status.OK (beBytes 1 block ++ beBytes 1 inst ++ beBytes 2 x.2.length ++ bytesOfWords x.2))

def execCountersRead (r : Request) (s : State) : Host.Outcome State Fault Refusal :=
  .next (s.mailbox Op.COUNTERS_READ r bodyCountersRead)

/-! ### The journal (R371) -/

/-- The entries of a source of R371, with their numbers; none when there is no flight record. -/
def State.jSourceEntries (s : State) (flight : Bool) : Option (List (Nat × JEntry)) :=
  if flight then s.jnl.flight.map fun f => ((List.range f.2.length).zip f.2).map fun p => (f.1 + p.1, p.2)
  else some ((s.jnl.dram.filter fun p => decide (p.1 < s.jRingFirst)) ++
    ((List.range s.jnl.ring.length).zip s.jnl.ring).map fun p => (s.jRingFirst + p.1, p.2))

/-- R371: does KINDS select the entry? -/
def kindSelected (kinds : Nat) (e : JEntry) : Bool := decide (kinds = 0) || bit kinds e.kind || decide (e.kind = Kind.EPOCH)

/-- R371: FIRST that names the oldest entry. -/
def oldestEntry : Nat := 0xFFFFFFFFFFFFFFFF

/-- R371: the response. Of a response without entries the first number is not stated: a free value (log 34). -/
def State.journalReply (s : State) (l : List (Nat × JEntry)) (first count kinds : Nat) : List Byte :=
  let start := if first = oldestEntry then 0 else first
  let gap := decide (first ≠ oldestEntry) && (match l.head? with
    | some p => decide (first < p.1)
    | none => false)
  let out := ((l.filter fun p => decide (start ≤ p.1) && kindSelected kinds p.2)).take count
  let last := match l.getLast? with
    | some p => p.1 + 1
    | none => s.jnl.next
  let next := match out.getLast? with
    | some p => if out.length = count then p.1 + 1 else last
    | none => max last (if first = oldestEntry then 0 else first)
  let num := match out.head? with
    | some p => p.1
    | none => Config.freeNat s.draws
  beBytes 8 num ++ beBytes 8 next ++ beBytes 1 out.length ++
    beBytes 1 (b2n s.jnl.frozen + 2 * b2n gap + 4 * b2n (decide (last ≤ next))) ++ List.replicate 6 0 ++ out.flatMap fun p => p.2.bytes

/-- R371: JOURNAL_READ. -/
def bodyJournalRead : Body := fun s r =>
  let p := r.payload
  let count := byteAt p 8
  if count = 0 ∨ 61 < count ∨ 1 < byteAt p 9 then (s, .plain Status.BAD_PARAM)
  else
    match s.jSourceEntries (decide (byteAt p 9 = 1)) with
    | none => (s, .plain Status.BAD_PARAM)
    | some l =>
      let out := s.journalReply l (field p 0 8) count (field p 12 4)
      let s := { s with draws := s.draws + 1 }
      let s := if bit (byteAt p 10) 0 then { s with jnl := { s.jnl with flight := none } } else s
      (s, .done Status.OK out)

def execJournalRead (r : Request) (s : State) : Host.Outcome State Fault Refusal :=
  .next (s.mailbox Op.JOURNAL_READ r bodyJournalRead)

/-! ### Events (R406, R408) -/

/-- R408: the response. -/
def eventsReply (c : Client) (max : Nat) : List Byte :=
  let out := c.queue.take max
  beBytes 1 out.length ++ beBytes 1 (b2n c.overflow) ++ List.replicate 6 0 ++ out.flatMap fun e => e.bytes

/-- R406, R408: EVENTS_READ reads the queue and may replace the subscription. -/
def bodyEventsRead : Body := fun s r =>
  let p := r.payload
  let c := s.client r.chan r.from_
  let max := byteAt p 1
  if 62 < max then (s, .plain Status.BAD_PARAM)
  else
    let d := { c with queue := c.queue.drop max, overflow := false }
    let d := if bit (byteAt p 0) 0 then { d with kinds := field p 4 4, sources := field p 8 8 } else d
    (s.setClient r.chan r.from_ d, .done Status.OK (eventsReply c max))

def execEventsRead (r : Request) (s : State) : Host.Outcome State Fault Refusal :=
  .next (s.mailbox Op.EVENTS_READ r bodyEventsRead)

end Sys2Proof.Machine
end

