-- ==== Sys2Proof/Machine/Show.lean ====
section
/-! DEFINITION. The commands of content: pixel maps, overlay buffers, layers, marks, calibration planes and tables
(05_frame_store.md, R195 to R209; 06_anvil_pixel_pipeline.md, R218 to R223, R242 to R247; 08, R323, R332). On channel 3
the work is staged only (R435). -/

namespace Sys2Proof.Machine

/-! ### Maps (R218 to R222) -/

/-- R218: a map header, as a map without runs. -/
def parseHeader (p : List Byte) : PixMap :=
  { pixels := field p 0 2, runCount := field p 2 2, emitters := byteAt p 4, order := byteAt p 5 % 8
    wFirst := bit (byteAt p 5) 3, pixPerLine := byteAt p 6, runs := [] }

/-- R219: a run. -/
def parseRun (p : List Byte) : Run :=
  ⟨field p 0 2, field p 2 2, field p 4 2, byteAt p 6 % 4, bit (byteAt p 6) 2⟩

/-- The staging copy of a strand's map. -/
def State.stagedMap (s : State) (n : Nat) : StagedMap :=
  (s.anvil.stagedMaps.find? fun m => decide (m.strand = n)).getD { strand := n }

def State.dropStagedMap (s : State) (n : Nat) : State :=
  { s with anvil := { s.anvil with stagedMaps := s.anvil.stagedMaps.filter fun m => decide (m.strand ≠ n) } }

def State.putStagedMap (s : State) (m : StagedMap) : State :=
  let s := s.dropStagedMap m.strand
  { s with anvil := { s.anvil with stagedMaps := s.anvil.stagedMaps ++ [m] } }

/-- R221: the staging copy after a request. -/
def StagedMap.write (m : StagedMap) (p : List Byte) : StagedMap :=
  let head := bit (byteAt p 1) 0
  let data := p.drop (if head then 24 else 8)
  { m with
    header := if head then some (parseHeader (p.drop 8)) else m.header
    runs := (List.range (field p 4 2)).foldl (fun l i => SMap.insert l (field p 2 2 + i) (parseRun (data.drop (8 * i)))) m.runs }

/-- R219, R222: the run lies in the canvas. -/
def Run.inCanvas (r : Run) : Bool :=
  decide (1 ≤ r.count) && decide (r.count ≤ 16384) && decide (r.x ≤ 16383) && decide (r.y ≤ 16383) &&
    (match r.dir with
    | 0 => decide (r.x + r.count ≤ 16384)
    | 1 => decide (r.count ≤ r.x + 1)
    | 2 => decide (r.y + r.count ≤ 16384)
    | _ => decide (r.count ≤ r.y + 1))

/-- R218: the header's fields are in range. -/
def PixMap.headerOk (m : PixMap) : Bool :=
  decide (m.pixels ≤ 16384) && decide (m.runCount ≤ 16384) && (decide (m.emitters = 3) || decide (m.emitters = 4)) &&
    decide (m.order ≤ 5) && decide (1 ≤ m.pixPerLine) && decide (m.pixPerLine ≤ 21)

/-- R222: the staged map as a whole; none where BAD_PARAM applies. -/
def StagedMap.whole (c : State) (m : StagedMap) : Option PixMap :=
  match m.header with
  | none => none
  | some h =>
    let runs := m.runs.map Prod.snd
    if h.headerOk && decide (runs.length = h.runCount) && (m.runs.all fun q => decide (q.1 < h.runCount)) &&
        decide ((runs.map Run.count).foldl (· + ·) 0 = h.pixels) && runs.all Run.inCanvas &&
        decide (h.emitters * h.pixPerLine ≤ c.hActive m.strand) && decide (h.lines ≤ c.vActive m.strand) then
      some { h with runs := runs }
    else none

/-- The configuration `c` with map `m` on strand `n`. -/
def State.withMap (c : State) (n : Nat) (m : PixMap) : State :=
  { c with anvil := { c.anvil with maps := SMap.set (fun _ => emptyMap) c.anvil.maps n m } }

/-- R222: runs of all strands. -/
def State.runsMapped (c : State) : Nat := (allStrands.map fun n => (c.map n).runCount).foldl (· + ·) 0

/-- R222: the first status that refuses the staged map; `ch3` spares what a standby does not judge. -/
def State.mapChecks (s : State) (n : Nat) (m : PixMap) : Option (Nat × List Byte) :=
  let c := s.planned.withMap n m
  if 131072 < c.runsMapped ∨ c.dramShort then some (Status.NO_RESOURCE, [])
  else
    match c.capacity with
    | some d => some d
    | none => if s.mode.presenting ∧ m.pixels ≠ (s.map n).pixels then some (Status.DENIED_MODE, []) else none

/-- R222, R435: the map waits for its tick; on channel 3 for the record that carries the switch. -/
def State.acceptMap (s : State) (r : Request) (n : Nat) (m : PixMap) : State × Reply :=
  let s := s.dropStagedMap n
  let s := { s with anvil := { s.anvil with acceptedMaps := s.anvil.acceptedMaps ++ [(n, m)] } }
  if r.chan = .c3 then (s, .plain Status.OK) else (s.stage (.mapSwitch n), .wait (.change s.ctrl.stagedId))

/-- R222: MAP_WRITE. -/
def bodyMapWrite : Body := fun s r =>
  let n := byteAt r.payload 0
  if s.mode = .shadow ∧ r.chan ≠ .c3 then (s, .plain Status.DENIED_MODE)
  else if 127 < n then (s, .plain Status.BAD_PARAM)
  else
    let m := (s.stagedMap n).write r.payload
    if bit (byteAt r.payload 1) 1 = false then (s.putStagedMap m, .plain Status.OK)
    else
      match m.whole s.planned with
      | none => (s.dropStagedMap n, .plain Status.BAD_PARAM)
      | some w =>
        match s.mapChecks n w with
        | some d => (s.dropStagedMap n, .done d.1 d.2)
        | none => s.acceptMap r n w

def execMapWrite (r : Request) (s : State) : Host.Outcome State Fault Refusal := .next (s.mailbox Op.MAP_WRITE r bodyMapWrite)

/-! ### Overlay buffers (R201 to R207) -/

/-- R201: the next free handle, from 1 to 0xFFFD. -/
def State.freeHandle (s : State) (h : Nat) : Nat → Nat
  | 0 => h
  | fuel + 1 =>
    let n := if 1 ≤ h ∧ h ≤ 0xFFFD then h else 1
    if (s.buffer? n).isSome then s.freeHandle (n + 1) fuel else n

/-- R201: the buffer that a request asks for. -/
def requestBuffer (p : List Byte) (h : Nat) : Buffer :=
  { handle := h, width := field p 0 2, height := field p 2 2, rgba16 := decide (byteAt p 4 = 1), data := [], freeDeferred := false }

/-- R201: the fields are in range. -/
def Buffer.sizeOk (b : Buffer) : Bool :=
  decide (1 ≤ b.width) && decide (b.width ≤ 16384) && decide (1 ≤ b.height) && decide (b.height ≤ 16384) &&
    decide (b.width * b.height ≤ 4194304)

/-- R201, R435: the handle: on channel 3 the one that the active returned, in the request's reserved bytes 6 and 7
(log 37). -/
def State.bufferHandle (s : State) (r : Request) : Nat :=
  let given := field r.payload 6 2
  if r.chan = .c3 ∧ given ≠ 0 then given else s.freeHandle s.fs.nextHandle 65

def State.addBuffer (s : State) (b : Buffer) : State :=
  { s with fs := { s.fs with buffers := s.fs.buffers ++ [b], nextHandle := b.handle + 1 } }

/-- R201: BUFFER_ALLOC. -/
def bodyBufferAlloc : Body := fun s r =>
  let b := requestBuffer r.payload (s.bufferHandle r)
  if b.sizeOk = false ∨ 1 < byteAt r.payload 4 ∨ (s.buffer? b.handle).isSome then (s, .plain Status.BAD_PARAM)
  else if 64 ≤ s.fs.buffers.length ∨ (s.planned.addBuffer b).dramShort then (s, .plain Status.NO_RESOURCE)
  else (s.addBuffer b, .done Status.OK (beBytes 2 b.handle))

def execBufferAlloc (r : Request) (s : State) : Host.Outcome State Fault Refusal :=
  .next (s.mailbox Op.BUFFER_ALLOC r bodyBufferAlloc)

/-- Write 32-bit words from word `k` on. -/
def putWords (d : Nat → Nat) (m : SMap Nat) : Nat → List Word → SMap Nat
  | _, [] => m
  | k, w :: ws => putWords d (SMap.set d m k w.toNat) (k + 1) ws

/-- R207: a write of the safe or the emergency image. -/
def State.writeImage (s : State) (emergency : Bool) (k : Nat) (ws : List Word) : State :=
  if emergency then { s with fs := { s.fs with emergImage := putWords (fun _ => s.emergBase) s.fs.emergImage k ws } }
  else { s with fs := { s.fs with safeImage := putWords (fun _ => 0) s.fs.safeImage k ws } }

/-- R207: BUFFER_WRITE to handle 0xFFFE or 0xFFFF. -/
def State.imageWriteCmd (s : State) (r : Request) (emergency : Bool) (off : Nat) (ws : List Word) : State × Reply :=
  if s.atRest = false ∧ r.chan ≠ .c3 then (s, .plain Status.DENIED_MODE)
  else if off % 4 ≠ 0 ∨ 4 * s.mappedPixels < off + 4 * ws.length then (s, .plain Status.BAD_PARAM)
  else (s.writeImage emergency (off / 4) ws, .plain Status.OK)

/-- R203, R207: BUFFER_WRITE. -/
def bodyBufferWrite : Body := fun s r =>
  let h := field r.payload 0 2
  let off := field r.payload 4 4
  let ws := wordsOf (r.payload.drop 8) ((r.len.toNat - 8) / 4)
  if h = 0xFFFE ∨ h = 0xFFFF then s.imageWriteCmd r (decide (h = 0xFFFF)) off ws
  else
    match s.buffer? h with
    | none => (s, .plain Status.BAD_PARAM)
    | some b =>
      if off % 4 ≠ 0 ∨ 4 * b.words < off + 4 * ws.length then (s, .plain Status.BAD_PARAM)
      else if s.bufferLocked b then (s, .plain Status.BUFFER_IN_USE)
      else (s.putBuffer { b with data := putWords (fun _ => 0) b.data (off / 4) ws }, .plain Status.OK)

def execBufferWrite (r : Request) (s : State) : Host.Outcome State Fault Refusal :=
  .next (s.mailbox Op.BUFFER_WRITE r bodyBufferWrite)

/-- R205: BUFFER_FREE. -/
def bodyBufferFree : Body := fun s r =>
  match s.buffer? (field r.payload 0 2) with
  | none => (s, .plain Status.BAD_PARAM)
  | some b =>
    if b.freeDeferred then (s, .done Status.OK [1])
    else if s.bound b.handle then (s.putBuffer { b with freeDeferred := true }, .done Status.OK [1])
    else ({ s with fs := { s.fs with buffers := s.fs.buffers.filter fun x => decide (x.handle ≠ b.handle) } }, .done Status.OK [0])

def execBufferFree (r : Request) (s : State) : Host.Outcome State Fault Refusal :=
  .next (s.mailbox Op.BUFFER_FREE r bodyBufferFree)

/-! ### Layers, marks and plays (R195 to R202, R208) -/

/-- R209: a LAYER_SET request. -/
def requestLayer (p : List Byte) : LayerReq :=
  { layer := byteAt p 0, enable := bit (byteAt p 1) 0, flip := bit (byteAt p 1) 1, raise_ := bit (byteAt p 1) 2
    slotMask := byteAt p 2, alpha := field p 4 2, x := field p 6 2, y := field p 8 2, front := field p 10 2, back := field p 12 2 }

/-- R202: the buffer is bound to the other overlay layer, now or by a change that waits. -/
def State.boundElsewhere (s c : State) (layer h : Nat) : Bool :=
  let n := 3 - layer
  [s, c].any fun x => decide ((x.layer n).front = h) || decide ((x.layer n).back = h)

/-- R202: what refuses a LAYER_SET on layer 1 or 2. -/
def State.layerRefused (s : State) (q : LayerReq) : Option (Nat × List Byte) :=
  let c := s.planned
  match s.buffer? q.front, s.buffer? q.back with
  | some a, some b =>
    if a.width ≠ b.width ∨ a.height ≠ b.height ∨ a.rgba16 ≠ b.rgba16 then some (Status.BAD_PARAM, [])
    else if a.freeDeferred ∨ b.freeDeferred ∨ s.boundElsewhere c q.layer q.front ∨ s.boundElsewhere c q.layer q.back then
      some (Status.BUFFER_IN_USE, [])
    else (c.applyLayer q).capacity
  | _, _ => some (Status.BAD_PARAM, [])

/-- R208: layer 3 takes no buffers and no placement. -/
def layer3Ok (q : LayerReq) : Bool := decide (q.x = 0) && decide (q.y = 0) && decide (q.front = 0) && decide (q.back = 0)

/-- R202, R208: LAYER_SET. -/
def bodyLayerSet : Body := fun s r =>
  let q := requestLayer r.payload
  let id := s.ctrl.stagedId
  if q.layer = 0 ∨ 3 < q.layer ∨ (q.layer = 3 ∧ layer3Ok q = false) then (s, .plain Status.BAD_PARAM)
  else
    match (if q.layer = 3 then none else s.layerRefused q) with
    | some d => (s, .done d.1 d.2)
    | none => (s.stage (.layer q), .wait (.change id))

def execLayerSet (r : Request) (s : State) : Host.Outcome State Fault Refusal := .next (s.mailbox Op.LAYER_SET r bodyLayerSet)

/-- R195: the frame that a MARK_SET names; with CLEAR the response's frame is not stated: a free value (log 34). -/
def State.markedFrame (s : State) (p : List Byte) : Option Nat :=
  if bit (byteAt p 1) 1 then some (Config.freeNat s.draws % 2 ^ 32)
  else if bit (byteAt p 1) 2 then some (field p 4 4)
  else (s.stream (byteAt p 0)).lastPresented

/-- R195: a part of the frame is COMPLETE, SOURCE or HELD. -/
def Stream.keeps (t : Stream) (f : Nat) : Bool :=
  match t.frameOf f with
  | some p => decide (p.st = .complete) || decide (p.st = .source) || decide (p.st = .held)
  | none => false

/-- R195: MARK_SET. -/
def bodyMarkSet : Body := fun s r =>
  let i := byteAt r.payload 0
  let id := s.ctrl.stagedId
  let clear := bit (byteAt r.payload 1) 1
  if 63 < i ∨ s.enabled i = false ∨ s.layerOf i ≠ 0 then (s, .plain Status.BAD_PARAM)
  else
    match s.markedFrame r.payload with
    | none => (s, .plain Status.MARK_LOST)
    | some f =>
      if clear ∨ (s.stream i).keeps f then
        let q : MarkReq := ⟨i, bit (byteAt r.payload 1) 0, clear, bit (byteAt r.payload 1) 2, f⟩
        (({ s with draws := s.draws + 1 } : State).stage (.mark q), .wait (.change id))
      else (s, .plain Status.MARK_LOST)

def execMarkSet (r : Request) (s : State) : Host.Outcome State Fault Refusal := .next (s.mailbox Op.MARK_SET r bodyMarkSet)

/-- R198: REWIND. -/
def bodyRewind : Body := fun s r =>
  let i := byteAt r.payload 0
  let id := s.ctrl.stagedId
  if 63 < i then (s, .plain Status.BAD_PARAM)
  else if (s.stream i).mark.isNone then (s, .plain Status.MARK_LOST)
  else if s.mode ≠ .live then (s, .plain Status.DENIED_MODE)
  else if (s.stream i).play.isSome then (s, .plain Status.BUSY)
  else (s.stage (.rewind i), .wait (.change id))

def execRewind (r : Request) (s : State) : Host.Outcome State Fault Refusal := .next (s.mailbox Op.REWIND r bodyRewind)

/-! ### Calibration planes (R242 to R244) -/

/-- A CAL_BEGIN that restarts the staging ends the copy in progress (log 38). -/
def State.endCopy (s : State) : State :=
  if s.anvil.copying then
    ({ s with anvil := { s.anvil with copying := false } }).completeWaiting fun w =>
      if w.why = Wait.calCopy then some (Status.ABORTED, []) else none
  else s

/-- R242, R477: CAL_BEGIN. -/
def bodyCalBegin : Body := fun s r =>
  if s.anvil.calPending ∨ s.work.bankNew.isSome then (s, .plain Status.BUSY)
  else
    let s := s.endCopy
    let s := { s with anvil := { s.anvil with staging := true, calMoved := false } }
    if bit (byteAt r.payload 0) 0 then (({ s with anvil := { s.anvil with copying := true } } : State).issue 7, .wait .calCopy)
    else (s, .done Status.OK (beBytes 1 (b2n (!s.anvil.activeB))))

def execCalBegin (r : Request) (s : State) : Host.Outcome State Fault Refusal := .next (s.mailbox Op.CAL_BEGIN r bodyCalBegin)

/-- Change the inactive plane. -/
def State.mapInactive (s : State) (f : Bool → Plane → Plane) : State :=
  if s.anvil.activeB then { s with anvil := { s.anvil with planeA := f false s.anvil.planeA } }
  else { s with anvil := { s.anvil with planeB := f true s.anvil.planeB } }

/-- R243: records of a plane from record `k` on. -/
def Plane.writeRecords (b : Bool) (p : Plane) (k : Nat) : List Nat → Plane
  | [] => p
  | v :: vs => ({ p with recs := SMap.set (({ p with recs := [] } : Plane).record b) p.recs k v } : Plane).writeRecords b (k + 1) vs

/-- R243: CAL_WRITE. -/
def bodyCalWrite : Body := fun s r =>
  let p := r.payload
  let n := byteAt p 0
  let count := field p 4 2
  if s.anvil.calPending then (s, .plain Status.BUSY)
  else if s.anvil.staging = false ∨ 127 < n ∨ count = 0 ∨ 62 < count ∨ (s.map n).pixels < field p 2 2 + count then
    (s, .plain Status.BAD_PARAM)
  else
    let recs := (List.range count).map fun i => field p (8 + 16 * i) 16
    (s.mapInactive fun b pl => pl.writeRecords b (s.recordBase n + field p 2 2) recs, .plain Status.OK)

def execCalWrite (r : Request) (s : State) : Host.Outcome State Fault Refusal := .next (s.mailbox Op.CAL_WRITE r bodyCalWrite)

/-- R244, R477: CAL_COMMIT. While a copy runs it is BUSY (log 38). -/
def bodyCalCommit : Body := fun s _ =>
  let id := s.ctrl.stagedId
  if s.work.bankNew.isSome then (s, .plain Status.BUSY)
  else if s.anvil.staging = false then (s, .plain Status.BAD_PARAM)
  else if s.anvil.calPending ∨ s.anvil.copying then (s, .plain Status.BUSY)
  else if s.mode = .shadow then (s, .plain Status.DENIED_MODE)
  else if s.anvil.calMoved then
    ({ s with anvil := { s.anvil with staging := false, calMoved := false } }, .plain Status.ABORTED)
  else
    (({ s with anvil := { s.anvil with calPending := true } } : State).stage (.calSwitch (s.planeCrc (!s.anvil.activeB))),
      .wait (.change id))

def execCalCommit (r : Request) (s : State) : Host.Outcome State Fault Refusal := .next (s.mailbox Op.CAL_COMMIT r bodyCalCommit)

/-! ### Tables (R246, R247, R323, R332) -/

/-- R246, R332: entries of a table; none for an ID without one. -/
def tableEntries (id : Nat) : Option Nat :=
  if id < 4 then some 4096 else if id = 4 then some 1024 else if 0x10 ≤ id ∧ id ≤ 0x1F then some 64
  else if id = 0x20 then some 65536 else none

/-- R246, R323, R332: the largest value of an entry. -/
def tableMax (id : Nat) : Nat := if id < 0x10 then 2 ^ 24 - 1 else 0xFFFF

/-- R247: the staging copy of a table, made from the active table when there is none. -/
def State.stagedTable (s : State) (id : Nat) : SMap Nat :=
  match s.anvil.stagedTables.find? fun q => decide (q.1 = id) with
  | some q => q.2
  | none => s.activeTable id

def State.dropStagedTable (s : State) (id : Nat) : State :=
  { s with anvil := { s.anvil with stagedTables := s.anvil.stagedTables.filter fun q => decide (q.1 ≠ id) } }

def State.putStagedTable (s : State) (id : Nat) (m : SMap Nat) : State :=
  let s := s.dropStagedTable id
  { s with anvil := { s.anvil with stagedTables := s.anvil.stagedTables ++ [(id, m)] } }

/-- R247, R435: the table waits for its tick; on channel 3 for the record that carries the switch. -/
def State.acceptTable (s : State) (r : Request) (id : Nat) (m : SMap Nat) : State × Reply :=
  let s := s.dropStagedTable id
  let s := { s with anvil := { s.anvil with acceptedTables := s.anvil.acceptedTables ++ [(id, m)] } }
  if r.chan = .c3 then (s, .plain Status.OK) else (s.stage (.tableSwitch id), .wait (.change s.ctrl.stagedId))

/-- R247, R477: COLOUR_TABLE_WRITE. -/
def bodyColourTableWrite : Body := fun s r =>
  let p := r.payload
  let id := byteAt p 0
  let first := field p 2 2
  let ws := wordsOf (p.drop 12) (field p 4 2)
  if s.work.bankNew.isSome then (s, .plain Status.BUSY)
  else match tableEntries id with
  | none => (s, .plain Status.BAD_PARAM)
  | some size =>
    if 248 < field p 4 2 ∨ size < first + ws.length ∨ (ws.any fun w => decide (tableMax id < w.toNat)) then (s.dropStagedTable id, .plain Status.BAD_PARAM)
    else
      let m := putWords (s.tableDefault id) (s.stagedTable id) first ws
      if bit (byteAt p 1) 0 = false then (s.putStagedTable id m, .plain Status.OK)
      else if entriesCrc size (SMap.get (s.tableDefault id) m) = field p 8 4 then s.acceptTable r id m
      else ((s.dropStagedTable id).raise Ev.TABLE_CHECK_FAIL, .plain Status.CHECK_FAILED)

def execColourTableWrite (r : Request) (s : State) : Host.Outcome State Fault Refusal :=
  .next (s.mailbox Op.COLOUR_TABLE_WRITE r bodyColourTableWrite)

end Sys2Proof.Machine
end

