-- ==== Sys2Proof/Machine/Resume.lean ====
section
/-! DEFINITION. What starts, ends or resumes other work: self-tests and the requests they deferred (13, R509 to R514),
takeover and switchover (11, R423 to R430), EMERG_N (14, R533), and the mailbox of the mirror link (11, R435). -/

namespace Sys2Proof.Machine

/-! ### The commands by opcode (R407) -/

/-- CAL_STORE by its OP (R475). -/
def bodyCalStore : Body := fun s r =>
  match byteAt r.payload 0 with
  | 0 => bodyBank s r
  | 1 => bodySafe s r
  | 2 => bodyEmergency s r
  | 3 => bodyLibSave s r
  | 4 => bodyLibLoad s r
  | _ => bodyRowless s r

/-- OWNER_KEY_SET by its OP (R482). -/
def bodyOwnerKeySet : Body := fun s r =>
  match byteAt r.payload 0 with
  | 0 => bodySetKey s r
  | 1 => bodySetPassword s r
  | 2 => bodyClearPassword s r
  | 3 => bodySealLevel s r
  | 4 => bodyUnsealLevel s r
  | 5 => bodyPermitDownload s r
  | _ => bodyRowless s r

/-- The commands of opcodes 0x0001 to 0x0403. -/
def bodyLow (op : Nat) : Body :=
  match op with
  | 0x0001 => bodyHello
  | 0x0002 => bodySessionOpen
  | 0x0003 => bodySessionClose
  | 0x0004 => bodyKeepalive
  | 0x0100 => bodyParamGet
  | 0x0101 => bodyParamSet
  | 0x0102 => bodyParamCommit
  | 0x0103 => bodyStore
  | 0x0104 => bodyFactoryReset
  | 0x0200 => bodyModeGet
  | 0x0201 => bodyModeSet
  | 0x0300 => bodyTimeGet
  | 0x0301 => bodyTimingSet
  | 0x0302 => bodyDomainSelect
  | 0x0400 => bodyStrandEnumerate
  | 0x0401 => bodyStrandStatus
  | 0x0402 => bodyDriverCommand
  | 0x0403 => bodyRdmRequest
  | _ => bodyRowless

/-- The commands of opcodes 0x0404 to 0x0705. -/
def bodyMid (op : Nat) : Body :=
  match op with
  | 0x0404 => bodyMapWrite
  | 0x0500 => bodyBufferAlloc
  | 0x0501 => bodyBufferWrite
  | 0x0502 => bodyBufferFree
  | 0x0503 => bodyLayerSet
  | 0x0504 => bodyMarkSet
  | 0x0505 => bodyRewind
  | 0x0600 => bodyCalBegin
  | 0x0601 => bodyCalWrite
  | 0x0602 => bodyCalCommit
  | 0x0603 => bodyCalStore
  | 0x0604 => bodyColourTableWrite
  | 0x0700 => bodyUpdOpen
  | 0x0701 => bodyUpdBlock
  | 0x0702 => bodyUpdFinish
  | 0x0703 => bodyUpdActivate
  | 0x0704 => bodyUpdConfirm
  | 0x0705 => bodyUpdStatus
  | _ => bodyRowless

/-- The commands from opcode 0x0800 on. -/
def bodyHigh (op : Nat) : Body :=
  match op with
  | 0x0800 => bodyBistRun
  | 0x0801 => bodyBistResult
  | 0x0802 => bodyCountersRead
  | 0x0803 => bodyJournalRead
  | 0x0804 => bodyEventsRead
  | 0x0805 => bodyTrimRun
  | 0x0806 => bodyTrimReport
  | 0x0900 => bodyRoleGet
  | 0x0901 => bodyRoleSet
  | 0x0902 => bodySwitchover
  | 0x0A00 => bodyUnlockChallenge
  | 0x0A01 => bodyUnlockResponse
  | 0x0A02 => bodyUnlockPassword
  | 0x0A03 => bodyRelock
  | 0x0A04 => bodyOwnerKeySet
  | 0x0B00 => bodyRegRead
  | 0x0B01 => bodyRegWrite
  | _ => bodyRowless

/-- The rules of the command with an opcode. -/
def bodyOf (op : Nat) : Body := if op < 0x0404 then bodyLow op else if op < 0x0800 then bodyMid op else bodyHigh op

/-- MAILBOX: R431, R435: a request of channel 3 is judged and executed. The active does not wait for responses: one is taken and
changes nothing. -/
def execMailbox (response : Bool) (opcode : BitVec 16) (r : Request) (s : State) : Host.Outcome State Fault Refusal :=
  if s.firmwareUp = false ∨ s.red.mirrorUp = false then .next s
  else
    .next (s.fromMirror (16 + r.len.toNat) fun s =>
      if response then s else s.mailbox opcode.toNat { r with chan := .c3, from_ := ⟨[], 0⟩ } (bodyOf opcode.toNat))

/-! ### Requests that waited for a self-test (R512) -/

/-- R512: a deferred request whose block no test holds any longer is judged anew, and completes. -/
def State.resumeOne (s : State) (w : Waiting) : State :=
  match w.why with
  | .selfTest op r =>
    if (s.blockTest op r).isSome then s
    else ({ s with ctrl := { s.ctrl with waiting := s.ctrl.waiting.filter fun x => decide (x ≠ w) } } : State).execute op r (bodyOf op)
  | _ => s

def State.resumeDeferred (s : State) : State := s.ctrl.waiting.foldl State.resumeOne s

/-! ### Tests start and end (R509, R511, R513 to R516) -/

/-- R507: a test isolates its block. A DRAM test stops the rendering until the reload (R514). -/
def State.isolate (s : State) (t : Test) : State :=
  if t.target = 0 ∧ t.index = 3 then s.mirrorLinkDown
  else if t.target = 6 then
    { s with bist := { s.bist with dramTested := true }, anvil := { s.anvil with rendering := false } }
  else s

/-- The test with an ID runs from now. -/
def State.markRunning (s : State) (id : Nat) : State :=
  { s with bist := { s.bist with tests := s.bist.tests.map fun t =>
      if t.id = id then { t with running := true, startUp := s.up } else t } }

/-- BIST_START: R508, R509: the first waiting test whose block is free starts when it may. -/
def execBistStart (s : State) : Host.Outcome State Fault Refusal :=
  match s.nextTest with
  | some t => if s.testStarts t.target t.index then .next ((s.markRunning t.id).isolate t) else .next s
  | none => .next s

/-- R511: after a test its block is initialised anew; a read that stalls on a queue set of which nothing is left ends with
NOT_VALID (R173). -/
def State.reinitBlock (s : State) (t : Test) : State :=
  match t.target with
  | 0 => if t.index = 3 then s else s.retrain (testPort t.index)
  | 4 => (bankStrands t.index).foldl (fun s n => s.setStrand n { s.strand n with buf := [] }) s
  | 5 =>
    let r := s.setQset t.index {}
    if (s.qset t.index).stalled then r.readAnswer 0 else r
  | _ => s

/-- R511: the last 16 results are kept. -/
def State.keepResult (s : State) (d : TestDone) : State :=
  let l := s.bist.results ++ [d]
  { s with bist := { s.bist with
      tests := s.bist.tests.filter fun t => decide (t.id ≠ d.id), results := l.drop (l.length - 16) } }

/-- R519: the encoding of a result. -/
def resultCode : TestResult → Nat
  | .pass => 0
  | .fail => 1
  | .repaired => 3
  | .degraded => 4

def resultAborted : Nat := 2

/-- R515: rows repaired while the device runs use the spares. -/
def State.useSpares (s : State) (t : Test) (detail : Nat) : State :=
  if t.target = 4 ∨ t.target = 5 then
    { s with sys := { s.sys with sparesUsed := s.sys.sparesUsed + detail % 2 ^ 32 } }
  else s

/-- R516: what the device loses with a row that no spare covers. Which strand of the bank a lost line buffer belongs to is
not named by the result: a free value (log 34). -/
def State.loseMemory (s : State) (t : Test) (detail : Nat) : State :=
  let s := { s with sys := { s.sys with degraded := true } }
  if t.target = 4 then
    let n := 16 * t.index + Config.freeNat s.draws % 16
    ({ s with draws := s.draws + 1, sys := { s.sys with lost := s.sys.lost ++ [n] } } : State).raiseAt Ev.REPAIR_DEGRADED n
  else if t.target ≠ 5 then s
  else if t.index < 2 then
    ({ s with sys := { s.sys with criticalMem := true } } : State).fatalFault Src.SYS Code.CRITICAL_MEM (detail / 2 ^ 32 % 2 ^ 32 * 2 ^ 32)
  else if t.index = 2 then
    (({ s with sys := { s.sys with set2Lost := true } } : State).portDown .sv).raise Ev.REPAIR_DEGRADED
  else
    ((({ s with sys := { s.sys with set3Lost := true } } : State).mirrorLinkDown).becomeRole .solo).raise Ev.REPAIR_DEGRADED

/-- BIST_DONE: R507, R511, R512: a running test ends within its maximum duration. -/
def execBistDone (id : Nat) (result : TestResult) (durationUs detail : Nat) (s : State) : Host.Outcome State Fault Refusal :=
  match s.bist.tests.find? fun t => t.running && decide (t.id = id) with
  | none => .next s
  | some t =>
    if testMaxUs t.target < durationUs then .next s
    else
      let s := (s.reach (t.startUp + durationUs * 1000)).reinitBlock t
      let s := (s.keepResult ⟨id, resultCode result, durationUs, detail⟩).raise Ev.BIST_DONE
      let s := if result = .fail then s.raise Ev.BIST_FAIL else s
      let s := s.useSpares t detail
      let s := if result = .degraded then s.loseMemory t detail else s
      .next s.resumeDeferred

/-- R513: an aborted test: its result is ABORTED, its detail a free value (log 34), its block initialised anew. -/
def State.abortTest (s : State) (t : Test) : State :=
  let us := if t.running then (s.up - t.startUp) / 1000 else 0
  let s := ({ s with draws := s.draws + 1 } : State).keepResult ⟨t.id, resultAborted, us, Config.freeNat s.draws⟩
  ((if t.running then s.reinitBlock t else s).raise Ev.BIST_DONE).raise Ev.BIST_ABORTED

/-- R513: the tests of the strand banks and line buffers of the banks that `hit` names are aborted; the strands of a bank
whose test ran send their first NSW at the following tick. -/
def State.abortTests (s : State) (hit : Nat → Bool) : State :=
  let out := s.bist.tests.filter fun t => (decide (t.target = 1) || decide (t.target = 4)) && hit t.index
  let s := out.foldl State.abortTest s
  let s := (out.filter (·.running)).foldl (fun s t =>
    (bankStrands t.index).foldl (fun s n => s.setStrand n { s.strand n with nswNext := true }) s) s
  s.resumeDeferred

/-- The banks whose test runs. -/
def State.bankTested (s : State) (b : Nat) : Bool :=
  s.testing 1 b || s.testing 4 b

/-! ### The reload after a DRAM test (R514) -/

/-- R514: every overlay buffer is freed, and no layer binds one. -/
def State.freeBuffers (s : State) : State := { s with fs := { s.fs with buffers := [], layer1 := {}, layer2 := {} } }

/-- RELOAD_COMPLETE: R514: the active bank and the images are there again, the frame store is clear, and the MODE_SET
completes. -/
def execReloadComplete (s : State) : Host.Outcome State Fault Refusal :=
  if s.bist.reloading = false then .next s
  else
    let s := ((s.loadBanks.loadImages).clearRing).freeBuffers
    let s := { s with bist := { s.bist with reloading := false, dramTested := false } }
    let reply := s.modeReply s.bist.reloadNs
    .next (s.completeWaiting fun w =>
      match w.why with
      | .modeSet _ => some (Status.OK, reply)
      | _ => none)

/-! ### Takeover (R423 to R425) -/

/-- R194, R424: the device leaves SHADOW for LIVE, and goes on to HOLD when the last record showed it; the counts and the
progress of HOLD continue from that record. -/
def State.present (s : State) (trigger : Nat) : State :=
  let f := s.fs
  let hold := decide (s.recordMode = some .hold)
  let noMark := decide (s.param P.HOLD_POLICY = 1) && s.layer0Streams.all fun i => decide ((s.stream i).mark = none)
  let s := s.enterMode .live trigger
  let s := if hold then (s.changeMode .hold Trigger.HOLD_RULE).raise Ev.HOLD_ENTER else s
  let s := if hold && noMark then s.raise Ev.REPLAY_NO_MARK else s
  { s with fs := { s.fs with shortRun := f.shortRun, goodRun := f.goodRun, holdTicks := f.holdTicks } }

/-- R424, R425: strand `n` is driven from the takeover tick: NSW, and with a HOT standby the lines of the frame that it
renders. A WARM standby sends no lines in this interval, and a strand of an aborted bank not even NSW. -/
def State.takeStrand (s : State) (tested : Nat → Bool) (hot : Bool) (n : Nat) : State :=
  if s.wantsDrive n = false then s
  else
    let t := { s.strand n with driving := true }
    let idle : Strand := { t with kind := .render, lines := 0, eof := true, nswNext := true, swapped := false }
    if tested (n / 16) then s.setStrand n idle
    else
      let t := if hot then { t with ret := if s.isNsp n then s.pollSlots n else [] } else idle
      let t := { t with swapped := s.isNsp n, swapBanks := [], lastSwp := false }
      if s.isNsp n then ((s.setStrand n t).wire n [.nsw]).count (Reg.FRAMES_NSW n) else s.setStrand n t

/-- R424: every strand is driven from this tick. -/
def State.takeStrands (s : State) (tested : Nat → Bool) : State :=
  let hot := decide (s.red.flavour = .hot)
  allStrands.foldl (fun s n => s.takeStrand tested hot n) s

/-- R424, R430: the takeover is told: TAKEOVER, its counter, and the tick. -/
def State.noteTakeover (s : State) : State :=
  let s := { s with red := { s.red with takeoverNs := s.hearth.lastTickNs, lastSwapTick := s.hearth.k, switchX := none } }
  (s.raise Ev.TAKEOVER).count Reg.TAKEOVERS

/-- R513: the banks that the configuration uses. -/
def State.bankUsed (s : State) (b : Nat) : Bool := (bankStrands b).any fun n => decide (s.coder n ≠ Coder.OFF)

/-- TAKEOVER: R424: the conditions of R423 held at the tick that has just passed. -/
def execTakeover (s : State) : Host.Outcome State Fault Refusal :=
  if s.red.takeoverDue = false ∨ s.mode ≠ .shadow then .next s
  else
    let tested := s.bankTested
    let s := ((s.becomeRole .active).present Trigger.TAKEOVER).abortTests s.bankUsed
    .next (((s.takeStrands tested).noteTakeover).pullOwnIl)

/-! ### Switchover at tick X (R430) -/

/-- R430: the active lets go of its strands and becomes the standby. -/
def State.handOver (s : State) : State :=
  let warm := decide (s.red.flavour = .warm)
  let s := s.mapStrands fun _ _ t =>
    let t := { t with driving := false, ret := [], retLate := [], awaiting := none }
    if warm then { t with kind := .none, lines := 0 } else t
  let s := (s.sendRelease 2).becomeRole .standby
  let s := { s with red := { s.red with peerRole := .active, releaseRx := false, switchX := none } }
  let s := if warm then { s with anvil := { s.anvil with rendering := false } } else s
  s.enterMode .shadow Trigger.ROLE

/-- R430: a receiver has seen an edge during the last µs. -/
def State.edgeNear (s : State) : Bool :=
  allStrands.any fun n =>
    (s.isNsp n || s.isLegacy n) && decide ((s.strand n).edgeUp ≠ 0) && decide (s.up ≤ (s.strand n).edgeUp + 1000)

/-- R430: a strand of the new active starts to drive at the end of the swap window and sends its lines from V_BP. -/
def State.startDriving (s : State) : State :=
  allStrands.foldl (fun s n =>
    if s.wantsDrive n then
      s.setStrand n { s.strand n with driving := true, ret := if s.isNsp n then s.pollSlots n else [] }
    else s) s

/-- R430: the standby becomes the active, unless an edge keeps it from driving. -/
def State.takeOver (s : State) : State :=
  if s.edgeNear then ({ s with red := { s.red with switchX := none } } : State).raise Ev.BUS_CONFLICT
  else
    let s := { s with red := { s.red with peerRole := .standby } }.becomeRole .active
    let s := (s.present Trigger.TAKEOVER).abortTests s.bankUsed
    ((s.startDriving).noteTakeover).pullOwnIl

/-- R6, R430: the active still has its standby, and its mode is one that R6 leaves for SHADOW. -/
def State.mayHandOver (s : State) : Bool :=
  s.red.peerHeard && decide (s.red.peerRole = .standby) &&
    (decide (s.mode = .idle) || decide (s.mode = .live) || decide (s.mode = .hold))

/-- SWITCHOVER_AT_TICK: R430: both members act at the end of the swap window of tick X. -/
def execSwitchoverAtTick (s : State) : Host.Outcome State Fault Refusal :=
  if s.red.switchX ≠ some s.hearth.k ∨ s.firmwareUp = false ∨ s.dead then .next s
  else
    let s := s.reach (s.hearth.lastTickUp + s.swapWindowNs)
    if s.red.role = .active ∧ s.mayHandOver then .next s.handOver
    else if s.red.role = .standby ∧ s.mode = .shadow then .next s.takeOver
    else .next { s with red := { s.red with switchX := none } }

/-! ### EMERG_N (R45, R208, R513, R533) -/

/-- R513: a mapped strand of the bank. -/
def State.bankMapped (s : State) (b : Nat) : Bool := (bankStrands b).any fun n => decide ((s.map n).pixels ≠ 0)

/-- R45: the driver commands in progress end ABORTED. -/
def State.abortCommands (s : State) : State := allStrands.foldl (fun s n => s.dropCommands n Status.ABORTED) s

/-- EMERG_N_ASSERTED: R533, R45: the emergency layer follows at the tick. -/
def execEmergNAsserted (s : State) : Host.Outcome State Fault Refusal :=
  if s.sys.inReset ∨ s.fs.emergPin then .next s
  else
    let s : State := { s with fs := { s.fs with emergPin := true } }
    match s.mode with
    | .idle => .next (s.abortTests s.bankMapped)
    | .service => .next s.abortCommands
    | _ => .next s

/-- EMERG_N_DEASSERTED: R533. -/
def execEmergNDeasserted (s : State) : Host.Outcome State Fault Refusal :=
  .next { s with fs := { s.fs with emergPin := false } }

end Sys2Proof.Machine
end

