-- ==== Sys2Proof/Machine/Scan.lean ====
section
/-! DEFINITION. Interface calibration and boundary scan (13_startup_reset_selftest.md, R503 to R506, R517, R518). -/

namespace Sys2Proof.Machine

/-! ### Class 2 calibration (R504, R505) -/

/-- R506: a test of a DRAM channel or strand bank holds class 2 calibration back. -/
def State.calibrationBlocked (s : State) : Bool :=
  s.bist.tests.any fun t => t.running && [1, 4, 6].contains t.target

/-- CLASS_2_CALIBRATION: R504, R506: a run that is due ends with its figures; they wait for the next tick boundary. -/
def execClass2Calibration (f : Class2Figures) (s : State) : Host.Outcome State Fault Refusal :=
  if s.firmwareUp = false ∨ s.trim.due = false ∨ s.calibrationBlocked then .next s
  else .next { s with trim := { s.trim with pending := some f, due := false, slices := 0, lastTemp := s.lamp.die } }

/-- R505: a slice may start: nothing is rendered, the record copy to a standby has been made (at the record point), and it
ends 10 µs before the next tick. -/
def State.sliceOk (s : State) (c : Nat) : Bool :=
  s.firmwareUp && s.trim.due && !s.trim.sliceDone && decide (s.trim.slices < 64) && s.channelPopulated c &&
    !s.anvil.rendering && (!s.standbyPaired || s.hearth.recordDone) && decide (s.nowNs + 30000 ≤ s.nextTickNs) &&
    !s.testing 6 c

/-- RETRAIN_SLICE: R505: one slice on one channel; no burst is granted within this step. -/
def execRetrainSlice (channel : Fin 2) (s : State) : Host.Outcome State Fault Refusal :=
  if s.sliceOk channel.val then .next { s with trim := { s.trim with sliceDone := true, slices := s.trim.slices + 1 } }
  else .next s

/-! ### The TAP (R517, R518) -/

/-- R517: the DEBUG right is held device-wide (R485). -/
def State.debugRight (s : State) : Bool :=
  bit s.ctrl.ch0.rights 0 || (s.ctrl.ch1.any fun c => bit c.rights 0) || s.ctrl.ch2.any fun c => bit c.rights 0

/-- R517: is instruction `ir` available now? -/
def State.scanAvailable (s : State) (ir : Nat) : Bool :=
  let rest := decide (s.mode = .boot) || decide (s.mode = .idle) || decide (s.mode = .service)
  match ir with
  | 0x00 => rest
  | 0x01 => true
  | 0x02 => true
  | 0x03 => rest
  | 0x04 => rest
  | 0x05 => rest
  | 0x06 => rest
  | 0x10 => rest && !s.sys.inReset && (decide (s.nvm.level ≠ 2) || s.debugRight)
  | 0x11 => rest && !s.sys.inReset && (decide (s.nvm.level ≠ 2) || s.debugRight)
  | 0x12 => true
  | _ => false

/-- R492, R518: another instruction takes the place of one that held the pins: the device resets. -/
def State.leaveScan (s : State) (ir : Nat) : State :=
  if s.tap.holdsPins ∧ s.tap.ir ≠ ir then
    if s.sys.inReset then s else s.warmReset causeScan
  else s

/-- R518: the instruction register takes `ir`, or BYPASS when that is not available. -/
def State.loadIr (s : State) (ir : Nat) : State :=
  let v := if s.scanAvailable ir then ir else 0xFF
  let s := s.leaveScan v
  { s with tap := { s.tap with ir := v } }

/-- The boundary register takes the bits shifted in, when `ir` was selected. -/
def State.shiftBoundary (s : State) (ir : Nat) (bits : List Bool) : State :=
  if s.tap.ir = ir then { s with tap := { s.tap with boundary := bits } } else s

/-- A data register whose content the spec does not state: a free value (log 11). -/
def State.freeTdo (s : State) (ir : Nat) : State :=
  if s.tap.ir = ir then
    { s with tap := { s.tap with tdo := BitVec.ofNat 32 (Config.freeNat s.tap.draws), draws := s.tap.draws + 1 } }
  else s

/-- EXTEST: the pins are driven from the boundary register. -/
def execExtest (bits : List Bool) (s : State) : Host.Outcome State Fault Refusal := .next ((s.loadIr 0x00).shiftBoundary 0x00 bits)

/-- SAMPLE_PRELOAD: the pins are sampled, each a free value (log 11); the boundary register is preloaded. -/
def execSamplePreload (bits : List Bool) (s : State) : Host.Outcome State Fault Refusal :=
  let s := (s.loadIr 0x01).shiftBoundary 0x01 bits
  let sample := (List.range bits.length).map fun i => decide (Config.freeNat (s.tap.draws + i) % 2 = 1)
  .next { s with tap := { s.tap with captured := sample, draws := s.tap.draws + bits.length } }

/-- IDCODE: 0x0960_13C5. -/
def execIdcode (s : State) : Host.Outcome State Fault Refusal :=
  let s := s.loadIr 0x02
  .next { s with tap := { s.tap with tdo := 0x096013C5 } }

/-- CLAMP: the pins are held from the boundary register. -/
def execClamp (s : State) : Host.Outcome State Fault Refusal := .next (s.loadIr 0x03)

/-- HIGHZ: all outputs are high-Z. -/
def execHighz (s : State) : Host.Outcome State Fault Refusal := .next (s.loadIr 0x04)

/-- EXTEST_PULSE. -/
def execExtestPulse (s : State) : Host.Outcome State Fault Refusal := .next (s.loadIr 0x05)

/-- EXTEST_TRAIN. -/
def execExtestTrain (s : State) : Host.Outcome State Fault Refusal := .next (s.loadIr 0x06)

/-- DBG_SELECT: an engine's debug port is selected. -/
def execDbgSelect (engine : Nat) (s : State) : Host.Outcome State Fault Refusal :=
  let s := s.loadIr 0x10
  .next (if s.tap.ir = 0x10 then { s with tap := { s.tap with dbgEngine := engine } } else s)

/-- DBG_DATA: what the debug port answers is not stated: a free value. Its effect on the engine's program is not the
block's state (log 32). -/
def execDbgData (_v : Word) (s : State) : Host.Outcome State Fault Refusal := .next ((s.loadIr 0x11).freeTdo 0x11)

/-- REPAIR_READ: the repair map; its layout is not stated: a free value. -/
def execRepairRead (s : State) : Host.Outcome State Fault Refusal := .next ((s.loadIr 0x12).freeTdo 0x12)

/-- BYPASS: 0xFF and every value without an instruction of its own (R518). -/
def execBypass (ir : BitVec 8) (s : State) : Host.Outcome State Fault Refusal := .next (s.loadIr ir.toNat)

/-- TRST_N: R517: IDCODE is selected. -/
def execTrstN (s : State) : Host.Outcome State Fault Refusal := .next (s.loadIr 0x02)

/-- SCAN_EXIT: R492, R518: an instruction that held the pins is left. -/
def execScanExit (s : State) : Host.Outcome State Fault Refusal := if s.tap.holdsPins then .next (s.loadIr 0xFF) else .next s

end Sys2Proof.Machine
end

