-- ==== Sys2Proof/Machine/Dispatch.lean ====
section
/-! DEFINITION. The meaning of every command: one direct call per constructor. -/

namespace Sys2Proof.Machine

open Host

/-- The command's effect on everything but the queue. -/
def exec (i : Instr) (s : State) : Host.Outcome State Fault Refusal :=
  match i with
  | .porstN x1 => Sys2Proof.Machine.execPorstN x1 s
  | .sysrstN x1 => Sys2Proof.Machine.execSysrstN x1 s
  | .resetRelease x1 => Sys2Proof.Machine.execResetRelease x1 s
  | .supervisorUndervoltage x1 x2 => Sys2Proof.Machine.execSupervisorUndervoltage x1 x2 s
  | .resetAfterResponse => Sys2Proof.Machine.execResetAfterResponse s
  | .dlWindowClose => Sys2Proof.Machine.execDlWindowClose s
  | .dlCtrl x1 => Sys2Proof.Machine.execDlCtrl x1 s
  | .downloadDatagram x1 x2 x3 => Sys2Proof.Machine.execDownloadDatagram x1 x2 x3 s
  | .autoLive => Sys2Proof.Machine.execAutoLive s
  | .tick => Sys2Proof.Machine.execTick s
  | .subTick x1 => Sys2Proof.Machine.execSubTick x1 s
  | .recordPoint => Sys2Proof.Machine.execRecordPoint s
  | .epoch => Sys2Proof.Machine.execEpoch s
  | .sync x1 => Sys2Proof.Machine.execSync x1 s
  | .followUp x1 x2 x3 x4 x5 => Sys2Proof.Machine.execFollowUp x1 x2 x3 x4 x5 s
  | .delayReqSend x1 x2 => Sys2Proof.Machine.execDelayReqSend x1 x2 s
  | .delayResp x1 x2 x3 x4 => Sys2Proof.Machine.execDelayResp x1 x2 x3 x4 s
  | .announce x1 => Sys2Proof.Machine.execAnnounce x1 s
  | .announceReceiptTimeout x1 => Sys2Proof.Machine.execAnnounceReceiptTimeout x1 s
  | .pdelayReq x1 x2 => Sys2Proof.Machine.execPdelayReq x1 x2 s
  | .syncLoss => Sys2Proof.Machine.execSyncLoss s
  | .ppsIn x1 => Sys2Proof.Machine.execPpsIn x1 s
  | .ppsInLost => Sys2Proof.Machine.execPpsInLost s
  | .ppsOut => Sys2Proof.Machine.execPpsOut s
  | .tickOdEdge x1 => Sys2Proof.Machine.execTickOdEdge x1 s
  | .tickSkew => Sys2Proof.Machine.execTickSkew s
  | .tickMaster => Sys2Proof.Machine.execTickMaster s
  | .receivedFrame x1 x2 x3 => Sys2Proof.Machine.execReceivedFrame x1 x2 x3 s
  | .forwarding x1 x2 x3 x4 => Sys2Proof.Machine.execForwarding x1 x2 x3 x4 s
  | .frameBoundary x1 => Sys2Proof.Machine.execFrameBoundary x1 s
  | .linkUp x1 x2 => Sys2Proof.Machine.execLinkUp x1 x2 s
  | .linkDown x1 => Sys2Proof.Machine.execLinkDown x1 s
  | .searchWindow x1 => Sys2Proof.Machine.execSearchWindow x1 s
  | .multicastQuery x1 x2 x3 => Sys2Proof.Machine.execMulticastQuery x1 x2 x3 s
  | .membershipReport x1 => Sys2Proof.Machine.execMembershipReport x1 s
  | .arpRequest x1 x2 x3 x4 => Sys2Proof.Machine.execArpRequest x1 x2 x3 x4 s
  | .neighbourSolicitation x1 x2 x3 => Sys2Proof.Machine.execNeighbourSolicitation x1 x2 x3 s
  | .echoRequest x1 x2 x3 x4 => Sys2Proof.Machine.execEchoRequest x1 x2 x3 x4 s
  | .headRefill x1 x2 => Sys2Proof.Machine.execHeadRefill x1 x2 s
  | .qsPop x1 x2 => Sys2Proof.Machine.execQsPop x1 x2 s
  | .qsDone x1 x2 => Sys2Proof.Machine.execQsDone x1 x2 s
  | .hptPacket x1 x2 x3 x4 => Sys2Proof.Machine.execHptPacket x1 x2 x3 x4 s
  | .sourceFailover x1 => Sys2Proof.Machine.execSourceFailover x1 s
  | .streamDown x1 => Sys2Proof.Machine.execStreamDown x1 s
  | .sacnPacket x1 x2 => Sys2Proof.Machine.execSacnPacket x1 x2 s
  | .sacnSrcLost x1 x2 => Sys2Proof.Machine.execSacnSrcLost x1 x2 s
  | .consolidation x1 => Sys2Proof.Machine.execConsolidation x1 s
  | .holdEnter => Sys2Proof.Machine.execHoldEnter s
  | .holdExit => Sys2Proof.Machine.execHoldExit s
  | .emergNAsserted => Sys2Proof.Machine.execEmergNAsserted s
  | .emergNDeasserted => Sys2Proof.Machine.execEmergNDeasserted s
  | .lineRender x1 => Sys2Proof.Machine.execLineRender x1 s
  | .dataLineSend x1 => Sys2Proof.Machine.execDataLineSend x1 s
  | .underrun x1 => Sys2Proof.Machine.execUnderrun x1 s
  | .syn x1 => Sys2Proof.Machine.execSyn x1 s
  | .rts x1 => Sys2Proof.Machine.execRts x1 s
  | .reply x1 x2 => Sys2Proof.Machine.execReply x1 x2 s
  | .replyTimeout x1 => Sys2Proof.Machine.execReplyTimeout x1 s
  | .commandFrame x1 => Sys2Proof.Machine.execCommandFrame x1 s
  | .legacyFrame x1 => Sys2Proof.Machine.execLegacyFrame x1 s
  | .dmxFrame x1 => Sys2Proof.Machine.execDmxFrame x1 s
  | .rdmTransaction x1 => Sys2Proof.Machine.execRdmTransaction x1 s
  | .rdmResponse x1 x2 x3 => Sys2Proof.Machine.execRdmResponse x1 x2 x3 s
  | .enumerationComplete x1 => Sys2Proof.Machine.execEnumerationComplete x1 s
  | .dieTemp x1 => Sys2Proof.Machine.execDieTemp x1 s
  | .diodeMeasurement x1 x2 => Sys2Proof.Machine.execDiodeMeasurement x1 x2 s
  | .zoneTempLost x1 x2 => Sys2Proof.Machine.execZoneTempLost x1 x2 s
  | .vddioSample x1 x2 => Sys2Proof.Machine.execVddioSample x1 x2 s
  | .taskSubmit x1 x2 x3 x4 x5 => Sys2Proof.Machine.execTaskSubmit x1 x2 x3 x4 x5 s
  | .taskReady x1 => Sys2Proof.Machine.execTaskReady x1 s
  | .taskDispatch x1 => Sys2Proof.Machine.execTaskDispatch x1 s
  | .taskDone x1 => Sys2Proof.Machine.execTaskDone x1 s
  | .taskWdt x1 => Sys2Proof.Machine.execTaskWdt x1 s
  | .lockAcquire x1 x2 x3 => Sys2Proof.Machine.execLockAcquire x1 x2 x3 s
  | .lockRelease x1 x2 => Sys2Proof.Machine.execLockRelease x1 x2 s
  | .lockHold x1 => Sys2Proof.Machine.execLockHold x1 s
  | .engineFault x1 x2 x3 => Sys2Proof.Machine.execEngineFault x1 x2 x3 s
  | .engineRestarted x1 => Sys2Proof.Machine.execEngineRestarted x1 s
  | .burstGrant x1 => Sys2Proof.Machine.execBurstGrant x1 s
  | .turnForecastReissue x1 x2 => Sys2Proof.Machine.execTurnForecastReissue x1 x2 s
  | .starveWarn x1 x2 => Sys2Proof.Machine.execStarveWarn x1 x2 s
  | .journalEntry x1 x2 x3 x4 => Sys2Proof.Machine.execJournalEntry x1 x2 x3 x4 s
  | .journalSpill => Sys2Proof.Machine.execJournalSpill s
  | .journalDatagram => Sys2Proof.Machine.execJournalDatagram s
  | .sessionExpired x1 => Sys2Proof.Machine.execSessionExpired x1 s
  | .linkHelloSend => Sys2Proof.Machine.execLinkHelloSend s
  | .linkHello x1 => Sys2Proof.Machine.execLinkHello x1 s
  | .electWait => Sys2Proof.Machine.execElectWait s
  | .renew x1 x2 x3 => Sys2Proof.Machine.execRenew x1 x2 x3 s
  | .release x1 x2 x3 x4 => Sys2Proof.Machine.execRelease x1 x2 x3 x4 s
  | .takeover => Sys2Proof.Machine.execTakeover s
  | .switchoverAtTick => Sys2Proof.Machine.execSwitchoverAtTick s
  | .record x1 => Sys2Proof.Machine.execRecord x1 s
  | .state x1 x2 x3 => Sys2Proof.Machine.execState x1 x2 x3 s
  | .resyncReq => Sys2Proof.Machine.execResyncReq s
  | .ack x1 x2 => Sys2Proof.Machine.execAck x1 x2 s
  | .mailbox x1 x2 x3 => Sys2Proof.Machine.execMailbox x1 x2 x3 s
  | .bistStart => Sys2Proof.Machine.execBistStart s
  | .bistDone x1 x2 x3 x4 => Sys2Proof.Machine.execBistDone x1 x2 x3 x4 s
  | .class2Calibration x1 => Sys2Proof.Machine.execClass2Calibration x1 s
  | .retrainSlice x1 => Sys2Proof.Machine.execRetrainSlice x1 s
  | .autoConfirm => Sys2Proof.Machine.execAutoConfirm s
  | .confirmWindow => Sys2Proof.Machine.execConfirmWindow s
  | .unlockExpired x1 x2 => Sys2Proof.Machine.execUnlockExpired x1 x2 s
  | .lockoutEnd => Sys2Proof.Machine.execLockoutEnd s
  | .nonceExpiry => Sys2Proof.Machine.execNonceExpiry s
  | .storeComplete => Sys2Proof.Machine.execStoreComplete s
  | .calCopyDone => Sys2Proof.Machine.execCalCopyDone s
  | .bankStoreComplete => Sys2Proof.Machine.execBankStoreComplete s
  | .write x1 x2 x3 => Sys2Proof.Machine.execWrite x1 x2 x3 s
  | .read x1 x2 x3 => Sys2Proof.Machine.execRead x1 x2 x3 s
  | .qwrite x1 x2 x3 => Sys2Proof.Machine.execQwrite x1 x2 x3 s
  | .qread x1 x2 x3 => Sys2Proof.Machine.execQread x1 x2 x3 s
  | .mbxCtrl x1 => Sys2Proof.Machine.execMbxCtrl x1 s
  | .mbxRsp => Sys2Proof.Machine.execMbxRsp s
  | .irqStatus x1 => Sys2Proof.Machine.execIrqStatus x1 s
  | .jwFirstLo x1 => Sys2Proof.Machine.execJwFirstLo x1 s
  | .jnlMark x1 => Sys2Proof.Machine.execJnlMark x1 s
  | .taskCancel x1 => Sys2Proof.Machine.execTaskCancel x1 s
  | .faultClear x1 => Sys2Proof.Machine.execFaultClear x1 s
  | .arbRank x1 x2 => Sys2Proof.Machine.execArbRank x1 x2 s
  | .timeSecHiRead x1 => Sys2Proof.Machine.execTimeSecHiRead x1 s
  | .timeSecWrite x1 x2 x3 => Sys2Proof.Machine.execTimeSecWrite x1 x2 x3 s
  | .timeNs x1 x2 => Sys2Proof.Machine.execTimeNs x1 x2 s
  | .timeIncHi x1 x2 => Sys2Proof.Machine.execTimeIncHi x1 x2 s
  | .tickIndexHi => Sys2Proof.Machine.execTickIndexHi s
  | .jnlNextHi => Sys2Proof.Machine.execJnlNextHi s
  | .jnlOldestHi => Sys2Proof.Machine.execJnlOldestHi s
  | .counterRead x1 => Sys2Proof.Machine.execCounterRead x1 s
  | .byteCounterHiRead x1 => Sys2Proof.Machine.execByteCounterHiRead x1 s
  | .registerWrite x1 x2 x3 => Sys2Proof.Machine.execRegisterWrite x1 x2 x3 s
  | .hello x1 => Sys2Proof.Machine.execHello x1 s
  | .sessionOpen x1 => Sys2Proof.Machine.execSessionOpen x1 s
  | .sessionClose x1 => Sys2Proof.Machine.execSessionClose x1 s
  | .keepalive x1 => Sys2Proof.Machine.execKeepalive x1 s
  | .responseAck x1 => Sys2Proof.Machine.execResponseAck x1 s
  | .paramGet x1 => Sys2Proof.Machine.execParamGet x1 s
  | .paramSet x1 => Sys2Proof.Machine.execParamSet x1 s
  | .paramCommit x1 => Sys2Proof.Machine.execParamCommit x1 s
  | .store x1 => Sys2Proof.Machine.execStore x1 s
  | .factoryReset x1 => Sys2Proof.Machine.execFactoryReset x1 s
  | .modeGet x1 => Sys2Proof.Machine.execModeGet x1 s
  | .modeSet x1 => Sys2Proof.Machine.execModeSet x1 s
  | .timeGet x1 => Sys2Proof.Machine.execTimeGet x1 s
  | .timingSet x1 => Sys2Proof.Machine.execTimingSet x1 s
  | .domainSelect x1 => Sys2Proof.Machine.execDomainSelect x1 s
  | .strandEnumerate x1 => Sys2Proof.Machine.execStrandEnumerate x1 s
  | .strandStatus x1 => Sys2Proof.Machine.execStrandStatus x1 s
  | .driverCommand x1 => Sys2Proof.Machine.execDriverCommand x1 s
  | .rdmRequest x1 => Sys2Proof.Machine.execRdmRequest x1 s
  | .mapWrite x1 => Sys2Proof.Machine.execMapWrite x1 s
  | .bufferAlloc x1 => Sys2Proof.Machine.execBufferAlloc x1 s
  | .bufferWrite x1 => Sys2Proof.Machine.execBufferWrite x1 s
  | .bufferFree x1 => Sys2Proof.Machine.execBufferFree x1 s
  | .layerSet x1 => Sys2Proof.Machine.execLayerSet x1 s
  | .markSet x1 => Sys2Proof.Machine.execMarkSet x1 s
  | .rewind x1 => Sys2Proof.Machine.execRewind x1 s
  | .calBegin x1 => Sys2Proof.Machine.execCalBegin x1 s
  | .calWrite x1 => Sys2Proof.Machine.execCalWrite x1 s
  | .calCommit x1 => Sys2Proof.Machine.execCalCommit x1 s
  | .bank x1 => Sys2Proof.Machine.execBank x1 s
  | .safe x1 => Sys2Proof.Machine.execSafe x1 s
  | .emergency x1 => Sys2Proof.Machine.execEmergency x1 s
  | .libSave x1 => Sys2Proof.Machine.execLibSave x1 s
  | .libLoad x1 => Sys2Proof.Machine.execLibLoad x1 s
  | .colourTableWrite x1 => Sys2Proof.Machine.execColourTableWrite x1 s
  | .updOpen x1 => Sys2Proof.Machine.execUpdOpen x1 s
  | .updBlock x1 => Sys2Proof.Machine.execUpdBlock x1 s
  | .updFinish x1 => Sys2Proof.Machine.execUpdFinish x1 s
  | .updActivate x1 => Sys2Proof.Machine.execUpdActivate x1 s
  | .updConfirm x1 => Sys2Proof.Machine.execUpdConfirm x1 s
  | .updStatus x1 => Sys2Proof.Machine.execUpdStatus x1 s
  | .bistRun x1 => Sys2Proof.Machine.execBistRun x1 s
  | .bistResult x1 => Sys2Proof.Machine.execBistResult x1 s
  | .countersRead x1 => Sys2Proof.Machine.execCountersRead x1 s
  | .journalRead x1 => Sys2Proof.Machine.execJournalRead x1 s
  | .eventsRead x1 => Sys2Proof.Machine.execEventsRead x1 s
  | .trimRun x1 => Sys2Proof.Machine.execTrimRun x1 s
  | .trimReport x1 => Sys2Proof.Machine.execTrimReport x1 s
  | .roleGet x1 => Sys2Proof.Machine.execRoleGet x1 s
  | .roleSet x1 => Sys2Proof.Machine.execRoleSet x1 s
  | .switchover x1 => Sys2Proof.Machine.execSwitchover x1 s
  | .unlockChallenge x1 => Sys2Proof.Machine.execUnlockChallenge x1 s
  | .unlockResponse x1 => Sys2Proof.Machine.execUnlockResponse x1 s
  | .unlockPassword x1 => Sys2Proof.Machine.execUnlockPassword x1 s
  | .relock x1 => Sys2Proof.Machine.execRelock x1 s
  | .setKey x1 => Sys2Proof.Machine.execSetKey x1 s
  | .setPassword x1 => Sys2Proof.Machine.execSetPassword x1 s
  | .clearPassword x1 => Sys2Proof.Machine.execClearPassword x1 s
  | .sealLevel x1 => Sys2Proof.Machine.execSealLevel x1 s
  | .unsealLevel x1 => Sys2Proof.Machine.execUnsealLevel x1 s
  | .permitDownload x1 => Sys2Proof.Machine.execPermitDownload x1 s
  | .regRead x1 => Sys2Proof.Machine.execRegRead x1 s
  | .regWrite x1 => Sys2Proof.Machine.execRegWrite x1 s
  | .extest x1 => Sys2Proof.Machine.execExtest x1 s
  | .samplePreload x1 => Sys2Proof.Machine.execSamplePreload x1 s
  | .idcode => Sys2Proof.Machine.execIdcode s
  | .clamp => Sys2Proof.Machine.execClamp s
  | .highz => Sys2Proof.Machine.execHighz s
  | .extestPulse => Sys2Proof.Machine.execExtestPulse s
  | .extestTrain => Sys2Proof.Machine.execExtestTrain s
  | .dbgSelect x1 => Sys2Proof.Machine.execDbgSelect x1 s
  | .dbgData x1 => Sys2Proof.Machine.execDbgData x1 s
  | .repairRead => Sys2Proof.Machine.execRepairRead s
  | .bypass x1 => Sys2Proof.Machine.execBypass x1 s
  | .trstN => Sys2Proof.Machine.execTrstN s
  | .scanExit => Sys2Proof.Machine.execScanExit s
  | .blockLock x1 x2 => Sys2Proof.Machine.execBlockLock x1 x2 s
  | .hiBer x1 x2 => Sys2Proof.Machine.execHiBer x1 x2 s
  | .busSense x1 x2 => Sys2Proof.Machine.execBusSense x1 x2 s
  | .ownIl x1 => Sys2Proof.Machine.execOwnIl x1 s
  | .dhcpv4 x1 x2 => Sys2Proof.Machine.execDhcpv4 x1 x2 s
  | .completionRecordRead x1 => Sys2Proof.Machine.execCompletionRecordRead x1 s
  | .verifyComplete => Sys2Proof.Machine.execVerifyComplete s
  | .imageWriteComplete => Sys2Proof.Machine.execImageWriteComplete s
  | .reloadComplete => Sys2Proof.Machine.execReloadComplete s
  | .supplyReturn => Sys2Proof.Machine.execSupplyReturn s

end Sys2Proof.Machine
end

