-- ==== Sys2Proof/Machine/Idle.lean ====
section
/-! DEFINITION. The idle cycle of 2 ns: the counter adds its increment (R47, R48), and the journal takes one waiting entry
(R368). -/

namespace Sys2Proof.Machine

/-- One idle cycle (log 4): while the clock runs, the counter adds its increment and the journal takes the entry whose turn
comes. In reset the counter of a device whose REFCLK PLL has not locked stands still (R49). -/
def idleCycle (s : State) : State :=
  if s.sys.clockRuns then s.advanceTo (s.time.units + s.time.inc) else s.journalTurn

end Sys2Proof.Machine
end

