-- ==== Sys2Proof/Safety.lean ====
section
/-! DEFINITION. What a safe run is, in the terms the claims use: the invariants of the state that every step keeps, the
moment at which a mailbox command begins to act, and what a device in reset or under a flag shows. -/

namespace Sys2Proof.Machine

/-! ### Invariants -/

/-- R47: the nanosecond field never reaches 10^9, and the fraction never reaches one ns. -/
def State.timeOk (s : State) : Prop := s.time.ns < 1000000000 ∧ s.time.frac < 2 ^ 32

/-- R48: the increment lies within 2.0 ns ± 1,000 ppm. -/
def State.incOk (s : State) : Prop := incMin ≤ s.time.inc ∧ s.time.inc ≤ incMax

/-- R47: one more than the last instant that the counter of 48-bit seconds can hold, in units of 2^-32 ns. -/
def unitsEnd : Nat := 2 ^ 48 * 1000000000 * 2 ^ 32

/-- The register store is in canonical form: addresses strictly rising, and no entry equal to its reset value. -/
def State.regsOk (s : State) : Prop := SMap.wf regReset s.regs = true

/-- The counter is legal and the register store is in canonical form. -/
def State.Inv (s : State) : Prop := s.timeOk ∧ s.incOk ∧ s.regsOk

/-- The sparse stores of tasks, locks, engines, strands, streams, shadow copies and memory are in canonical form. -/
def State.storesOk (s : State) : Prop :=
  SMap.wf (fun _ => ({} : Task)) s.sched.tasks = true ∧ SMap.wf (fun _ => ({} : Lock)) s.sched.locks = true ∧
    SMap.wf (fun _ => ({} : Engine)) s.sched.engines = true ∧ SMap.wf (fun _ => ({} : Strand)) s.strands = true ∧
    SMap.wf (fun _ => ({} : Stream)) s.fs.streams = true ∧ SMap.wf (fun _ => (none : Option Shadow)) s.shadows = true ∧
    SMap.wf (fun _ => 0) s.memory = true

/-- A step answers a next state: no fault and no refusal. -/
def State.runs (s : State) : Prop := ∃ t, step s = .next t

/-! ### Events, frames and reset -/

/-- R19: the event bit is set. -/
def State.sees (s : State) (e : Ev) : Bool := (s.reg e.reg).getLsbD e.bit

/-- The two states differ at most in the register store, the journal, and the event queues and interrupt flags of
control: what a count, an event or a journal entry touches. -/
def State.sameButRecords (s t : State) : Prop :=
  t = { s with regs := t.regs, jnl := t.jnl, ctrl := { s.ctrl with
    ch0 := t.ctrl.ch0, ch1 := t.ctrl.ch1, ch2 := t.ctrl.ch2, ch3 := t.ctrl.ch3, irq := t.ctrl.irq } }

/-- R491: every block but the counter, the journal and the stores is at its reset values, and the lines are let go. -/
def State.blocksReset (t : State) (cause : Nat) : Prop :=
  t.mode = .boot ∧ t.sys.inReset = true ∧ t.sys.faultN = true ∧ t.sys.cause = cause ∧ t.strands = [] ∧ t.banks = [] ∧
    t.ingress = {} ∧ t.fs = {} ∧ t.anvil = {} ∧ t.lamp = {} ∧ t.sched = {} ∧ t.arb = {} ∧ t.bist = {} ∧ t.trim = {} ∧
    t.macA.up = false ∧ t.macB.up = false ∧ t.macSv.up = false ∧ t.red.ownIlOut = false ∧ t.red.role = .solo ∧
    t.hearth.od = {} ∧ t.ctrl.irq = 0 ∧ t.ctrl.sessions = [] ∧ t.ctrl.staged = [] ∧ t.ctrl.waiting = [] ∧ t.work.upd = .none

/-! ### Mailbox commands -/

/-- R388: the SEQ is new to the requester and its slot is free. -/
def State.freshSeq (s : State) (r : Request) : Bool :=
  let c := s.client r.chan r.from_
  (c.holds r.seq).isNone && !c.staleSeq r.seq && !c.slotBusy r.seq

/-- R392: no step before the command's own rules refuses the request. -/
def State.passes (s : State) (op : Nat) (r : Request) : Bool :=
  (s.judge op r).isNone && (decide (r.chan = .c3) || (s.blockTest op r).isNone) && !(s.takeAborted r).2

/-- R385, R388: the state in which the CP looks at the request's SEQ. -/
def State.received (s : State) (op : Nat) (r : Request) : State :=
  let a := (s.popSubmitted op r).admits r
  if op = Op.HELLO then a.1.helloSlots r else a.1

/-- R388, R392: the state in which a request's command begins to act, when its channel is served, its SEQ is new, its slot
is free, and no step of R392 before the command's own rules refuses it. -/
def State.begun (s : State) (op : Nat) (r : Request) : Option State :=
  if s.served && s.channelOn r.chan && ((s.popSubmitted op r).admits r).2 && (s.received op r).freshSeq r &&
      ((s.received op r).takeSlot op r).passes op r then
    some ((s.received op r).takeSlot op r)
  else none

/-- R390, R396: the command has answered: the response completes or waits, the lease restarts, and the channel's next
requests follow. -/
def State.replied (s : State) (op : Nat) (r : Request) (rep : Reply) : State :=
  ((s.forward op r rep).answer op r rep).afterRequest r.chan

/-! ### The mirror link -/

/-- R30, R431: the SC takes a mirror frame of `len` payload bytes as it arrives: the queue has room, is enabled, and the SC
runs. -/
def State.mirrorOpen (s : State) (len : Nat) : Bool :=
  !((s.qset 3).q mirrorClass).full (16 + len) && s.qEnabled 3 mirrorClass && !s.consumerAway 3

/-- R30, R431: the state once the SC has taken such a frame out of queue set 3. -/
def State.mirrorBase (s : State) (len : Nat) : State := (s.mirrorArrives len).1.mirrorTaken

/-- The two states differ at most in what a frame that passes a class queue touches: the queues, the arbiter's requests, the
records, the last register read, and the free values drawn. -/
def State.sameButQueues (s t : State) : Prop :=
  t = { s with ingress := t.ingress, arb := t.arb, draws := t.draws, regs := t.regs, jnl := t.jnl, ctrl := { s.ctrl with
    ch0 := t.ctrl.ch0, ch1 := t.ctrl.ch1, ch2 := t.ctrl.ch2, ch3 := t.ctrl.ch3, irq := t.ctrl.irq, regOut := t.ctrl.regOut } }

/-- R386: the bytes of a request on the wire. -/
def Request.bytes (r : Request) (op : Nat) : List Byte :=
  beBytes 2 op ++ beBytes 2 r.flags.toNat ++ beBytes 4 r.seq.toNat ++ beBytes 4 r.len.toNat ++ beBytes 2 r.client.toNat ++
    [0, 0] ++ r.payload

end Sys2Proof.Machine
end

