-- ==== Sys2Proof/Certificates/Slice0/Obligations.lean ====
section
/-! DEFINITION. The statements for the provers, group by group, in the order of the chapters of spec/. The rules at
the head of a docstring are those it rests on; what it states of them is what follows the colon. -/

open Sys2Proof Sys2Proof.Machine

/-! ### The queue, the clock and the records of every command -/

/-- Asked of a block: a step with a command at the front of the queue is `exec` of that command on the state with the
queue's rest. -/
def Obligations.StepRunsFrontCommand : Prop :=
  ∀ (c : Instr) (rest : List Instr) (s : State), step { s with pending := c :: rest } = exec c { s with pending := rest }

/-- The model's choice of log 2: every command answers a next state, whatever the state and its operands. -/
def Obligations.EveryCommandAnswers : Prop := ∀ (c : Instr) (s : State), ∃ t, exec c s = .next t

/-- R47, R48, R368 and log 4: a step on an empty queue is one cycle of 2 ns nominal: a running counter advances by its
increment, and with nothing waiting in the journal's source buffers and no multiple of 2^30 ns crossed (R74) nothing else
changes but the timers' clock. -/
def Obligations.IdleCycleAdvancesCounter : Prop :=
  ∀ s : State, s.pending = [] → s.timeOk → s.time.sec < 2 ^ 47 → 0 < s.time.inc → s.time.inc < 2 ^ 34 →
    s.jnl.sources = [] → s.nowNs / 2 ^ 30 = (s.time.units + s.time.inc) / 2 ^ 32 / 2 ^ 30 →
    (s.sys.clockRuns = true → ∃ t, step s = .next t ∧ t.time.units = s.time.units + s.time.inc ∧
      t = { s with time := t.time, up := t.up } ∧ t.up = s.up + ((s.time.units + s.time.inc) / 2 ^ 32 - s.nowNs)) ∧
    (s.sys.clockRuns = false → step s = .next s)

/-- The machine right after reset holds the invariant: its counter is legal and its register store is in canonical form. -/
def Obligations.ResetHoldsInvariant : Prop := State.reset.Inv ∧ State.reset.mode = .boot ∧ State.reset.pending = []

/-- R47, R48: from every state whose counter is legal, a step leaves a legal counter: fewer than 10^9 ns, a fraction below
one ns, and an increment within 2.0 ns ± 1,000 ppm. -/
def Obligations.EveryStepKeepsCounterLegal : Prop :=
  ∀ s t : State, s.timeOk → s.incOk → step s = .next t → t.timeOk ∧ t.incOk

/-- From every state whose register store is in canonical form (addresses strictly rising, no entry equal to its reset
value), a step leaves it so: equal register contents are equal data. -/
def Obligations.EveryStepKeepsRegistersCanonical : Prop := ∀ s t : State, s.regsOk → step s = .next t → t.regsOk

/-- R386: every request starts with its header of 16 bytes, field by field as the table of R386 lays it out, and the request
that the CP copies from channel 0 is the one that the host wrote, at every value. A LEN beyond 1,008, so every LEN with a bit
of [31:16], is refused; DEFER makes the request wait for the block under self-test that it meets. -/
def Obligations.RequestHeaderReadsBack : Prop :=
  ∀ (op : Nat) (r : Request), op < 2 ^ 16 →
    let q := r.bytes op
    (field q 0 2 = op ∧ field q 2 2 = r.flags.toNat ∧ field q 4 4 = r.seq.toNat ∧ field q 8 4 = r.len.toNat ∧
      field q 12 2 = r.client.toNat ∧ field q 14 2 = 0 ∧ q.drop 16 = r.payload) ∧
    (r.chan = .c0 → r.from_ = ⟨[], 0⟩ → r.port = .a → submittedRequest q = r) ∧
    (∀ s : State, 1008 < r.len.toNat → s.judge op r = some (Status.BAD_LENGTH, [])) ∧
    (∀ (s : State) (body : Body) (t : Test), r.chan ≠ .c3 → s.judge op r = none → s.blockTest op r = some t →
      s.execute op r body = if r.flags.getLsbD 0 then s.defer op r
        else s.answer op r (.done Status.BUSY_SELFTEST (beBytes 4 (s.testLeft t))))

/-- R19, R129, R366, R406: raising an event sets its bit, clears no other event bit of its register, and touches nothing
but the register store, the journal, the event queues and the interrupt flags. -/
def Obligations.RaisingAnEventTouchesOnlyRecords : Prop :=
  ∀ (s : State) (e : Ev) (index detail : Nat), s.regsOk → e.bit < 32 → e.reg ≠ Reg.JNL_OVERWRITTEN →
    e.reg ≠ Reg.JNL_STREAM_SKIPPED →
    (s.raiseWith e index detail).sees e = true ∧
    (∀ b, s.sees ⟨e.reg, b⟩ = true → (s.raiseWith e index detail).sees ⟨e.reg, b⟩ = true) ∧
    s.sameButRecords (s.raiseWith e index detail) ∧
    (s.jnl.started = true → s.jnl.frozen = false → blockOf e.reg ≠ 6 → s.jSource (blockOf e.reg) = {} →
      s.jnl.next < (s.raiseWith e index detail).jnl.next)

/-- R388: a request whose SEQ lies 4 or more below H is dropped, one whose slot holds an unfinished request gets BUSY
without a slot, and a SEQ that a slot holds is answered from that slot; the command runs in none of the three. -/
def Obligations.SequenceNumbersGuardExecution : Prop :=
  ∀ (s : State) (op : Nat) (r : Request) (body : Body), s.served = true → s.channelOn r.chan = true →
    ((s.popSubmitted op r).admits r).2 = true →
    let u := s.received op r
    let c := u.client r.chan r.from_
    (∀ t, c.holds r.seq = some t → t.acked = true →
      s.mailbox op r body = (u.count Reg.MBX_STALE).afterRequest r.chan) ∧
    (∀ t, c.holds r.seq = some t → t.acked = false →
      s.mailbox op r body = ((u.count Reg.MBX_DUPLICATES).sendSlot r.chan r.from_ r.seq).afterRequest r.chan) ∧
    (c.holds r.seq = none → c.staleSeq r.seq = true →
      s.mailbox op r body = ((u.count Reg.MBX_STALE).raise Ev.MBX_STALE).afterRequest r.chan) ∧
    (c.holds r.seq = none → c.staleSeq r.seq = false → c.slotBusy r.seq = true →
      s.mailbox op r body = ((u.count Reg.MBX_BUSY).sendBusy op r).afterRequest r.chan) ∧
    (u.freshSeq r = true → s.mailbox op r body = ((u.takeSlot op r).execute op r body).afterRequest r.chan)

/-- R392: on channels 0 to 2 the first step that fails gives the status, and the command has no effect; a block under
self-test defers the request with DEFER and otherwise returns BUSY_SELFTEST. -/
def Obligations.RequestsAreJudgedInOrder : Prop :=
  ∀ (s : State) (op : Nat) (r : Request) (body : Body), r.chan ≠ .c3 →
    let len := r.len.toNat
    let bad1 := 1008 < len ∨ r.payload.length < len
    let bad2 := opServed r.chan op = false
    let bad3 := lenOk op len (r.payload.take len) = false
    let bad4 := s.sched.fatal = true ∧ servedFatal.contains op = false
    let bad5 := bit (((cmdRow op).map (·.modes)).getD 0) s.mode.code = false
    let bad6 := s.accessOk op r = false
    let bad7 := ∃ sc, scopeOf op r = some sc ∧ ∀ x, s.session r.chan r.from_ r.client.toNat = some x → x.scope ≠ sc
    let gives := fun (st : Nat) => ∃ p, s.execute op r body = s.answer op r (.done st p)
    (bad1 → gives Status.BAD_LENGTH) ∧
    (¬bad1 → bad2 → gives Status.BAD_OPCODE) ∧
    (¬bad1 → ¬bad2 → bad3 → gives Status.BAD_LENGTH) ∧
    (¬bad1 → ¬bad2 → ¬bad3 → bad4 → gives Status.DENIED_MODE) ∧
    (¬bad1 → ¬bad2 → ¬bad3 → ¬bad4 → bad5 → gives Status.DENIED_MODE) ∧
    (¬bad1 → ¬bad2 → ¬bad3 → ¬bad4 → ¬bad5 → bad6 → gives Status.DENIED_ACCESS) ∧
    (¬bad1 → ¬bad2 → ¬bad3 → ¬bad4 → ¬bad5 → ¬bad6 → bad7 → gives Status.DENIED_LOCK) ∧
    (¬bad1 → ¬bad2 → ¬bad3 → ¬bad4 → ¬bad5 → ¬bad6 → ¬bad7 → ∀ t, s.blockTest op r = some t →
      s.execute op r body = if r.flags.getLsbD 0 then s.defer op r else s.answer op r (.done Status.BUSY_SELFTEST (beBytes 4 (s.testLeft t))))

/-! ### Time and ticks (R47 to R95) -/

/-- R26, R68, R77, R313: a tick takes the counter to the next instant of the grid and makes that tick the last one; sub-tick
`j` takes it to the slot boundary; the record point records the staged changes once in the interval, 100 µs before the next
tick. None of the three turns the counter back. -/
def Obligations.TickGridAdvances : Prop :=
  ∀ (s : State) (j : Fin 4), s.firmwareUp = true →
    (s.nextTickUnits < unitsEnd → ∃ t, exec .tick s = .next t ∧ t.hearth.k = s.nextTickIndex ∧
      t.time.units = max s.time.units s.nextTickUnits ∧ t.hearth.subTick = 0 ∧ t.hearth.recordDone = false) ∧
    (s.hearth.gap ≠ 1 → s.hearth.subTick < j.val → j.val < s.hearth.timing.slots →
      s.hearth.timing.subUnits s.hearth.k j < unitsEnd → ∃ t, exec (.subTick j) s = .next t ∧ t.hearth.subTick = j.val ∧
        t.time.units = max s.time.units (s.hearth.timing.subUnits s.hearth.k j) ∧
        ∀ n, n < 128 → s.isNsp n = true → (s.strand n).driving = true → (s.strand n).swapped = true →
          (t.strand n).tx = (s.strand n).tx ++
            [(((s.strand n).swapBanks[j.val]?).map StrandItem.swp).getD .nsw]) ∧
    (s.hearth.recordDone = false → s.hearth.lastTickNs < s.recordPointNs → s.recordPointNs * 2 ^ 32 < unitsEnd →
      ∃ t, exec .recordPoint s = .next t ∧ t.hearth.recordDone = true ∧ t.hearth.k = s.hearth.k ∧
        t.time.units = max s.time.units (s.recordPointNs * 2 ^ 32) ∧
        t.ctrl.staged = recordStaged stagedLimit s.ctrl.staged)

/-- R74: EPOCH takes the running counter to the next multiple of 2^30 ns and writes there an EPOCH entry of Hearth's that
holds the full nanosecond count. -/
def Obligations.EpochEntryHoldsFullCount : Prop :=
  ∀ s : State, s.sys.clockRuns = true → (s.nowNs / 2 ^ 30 + 1) * 2 ^ 30 * 2 ^ 32 < unitsEnd → s.time.frac < 2 ^ 32 →
    s.jnl.started = true → s.jnl.frozen = false → s.jSource Src.SC = {} → s.jnl.ring.length + 2 ≤ s.jnl.ringCap →
    let n := (s.nowNs / 2 ^ 30 + 1) * 2 ^ 30
    ∃ t, exec .epoch s = .next t ∧ t.nowNs = n ∧ t.time.frac = 0 ∧ s.jnl.next < t.jnl.next ∧
      (⟨BitVec.ofNat 32 n, Src.SC, Kind.EPOCH, 0, n⟩ : JEntry) ∈ t.jnl.ring

/-- R59, R60, R62: a complete Sync of the selected grandmaster on the domain's port measures (t2 − t1) less the mean path delay,
the correction and the port's asymmetry; a Follow_Up completes the two-step Sync of its number on its port, and the two
corrections add up. The measurement is the servo's when the domain disciplines the counter; a Sync on the other port only
tells the path there. No retime is pending (R88). -/
def Obligations.SyncMeasuresTheOffset : Prop :=
  ∀ (s : State) (m : SyncMsg) (second : Bool) (q t2 : Nat) (c : Int), s.sys.inReset = false →
    s.hearth.retime = none → s.domOf m.domain = some second →
    let d := s.dom second
    let off := fun (t2 : Nat) (corr : Int) => (t2 : Int) - m.t1 - d.mpdOn m.port - Int.fdiv corr 65536 - s.asymmetry m.port
    let told := fun (t2 : Nat) (corr : Int) => d.setPath m.port
      { d.path m.port with t2mt1 := some ((t2 : Int) - m.t1 - Int.fdiv corr 65536), twoStep := none }
    let measured := fun (t : State) (t2 : Nat) (corr : Int) =>
      (t.dom second).offset = -(off t2 corr) ∧ (t.dom second).lastT1 = m.t1 ∧ (t.dom second).lastT2 = t2 ∧
        (t.dom second).syncAge = 0 ∧ (t.dom second).path m.port = (told t2 corr).path m.port ∧
        (s.hearth.secondActive = second → s.hearth.sourcePps = false → t.hearth.offset = off t2 corr) ∧
        t.dom (!second) = s.dom (!second)
    (d.masters ≠ [] → d.gm = m.gm → s.domMayUse second m.port = true →
      (m.twoStep = false → (s.portMove second m.port).1 = true → ∃ t, exec (.sync m) s = .next t ∧ measured t m.t2 m.corr) ∧
      (m.twoStep = false → (s.portMove second m.port).1 = false → exec (.sync m) s = .next (s.setDom second (told m.t2 m.corr))) ∧
      (m.twoStep = true → exec (.sync m) s = .next (s.setDom second
        { (d.setPath m.port { d.path m.port with twoStep := some (m.seq, m.t2, m.corr) }) with
          logSync := m.logInterval, transport := m.transport }))) ∧
    ((d.path m.port).twoStep = some (q, t2, c) → s.domMayUse second m.port = true →
      ((s.portMove second m.port).1 = true →
        ∃ t, exec (.followUp m.domain m.port q m.t1 m.corr) s = .next t ∧ measured t t2 (c + m.corr)) ∧
      ((s.portMove second m.port).1 = false →
        exec (.followUp m.domain m.port q m.t1 m.corr) s = .next (s.setDom second (told t2 (c + m.corr)))))

/-- R59, R60, R124: with the end-to-end mechanism a Delay_Req leaves at t3 on a port that carries the domain's Syncs, and the
Delay_Resp of its number gives the mean path delay of that port, half of (t2 − t1) + (t4 − t3); under P2P a Pdelay_Req leaves,
and its Pdelay_Resp gives half of the time from t3 to t4 less the corrections; and a Pdelay_Req is answered with the
turnaround time in the correction field. Nothing else changes. -/
def Obligations.PathDelayIsHalfTheRoundTrip : Prop :=
  ∀ (s : State) (second : Bool) (p : Port) (m : PdelayMsg) (domain t3 t4 q : Nat) (corr f : Int), s.sys.inReset = false →
    let d := s.dom second
    let x := d.path p
    let back := (t4 : Int) - t3 - Int.fdiv corr 65536
    (s.domEnabled second = true → s.domMayUse second p = true → (s.domP2p second = true ∨ x.t2mt1 ≠ none) →
      (s.mac p).up = true →
      exec (.delayReqSend second ⟨p, t3⟩) s = .next ((s.sendOwn p (s.delayRequest second p)).setDom second
        { (d.setPath p { x with req := some (d.delaySeq, t3) }) with delaySeq := (d.delaySeq + 1) % 65536 })) ∧
    (s.domOf domain = some second → x.req = some (q, t3) →
      (s.domP2p second = true ∨ x.t2mt1 = some f) →
      let mpd := if s.domP2p second then Int.fdiv back 2 else Int.fdiv (f + back) 2
      ∃ t, exec (.delayResp domain q ⟨p, t4⟩ corr) s = .next t ∧ ((t.dom second).path p).mpd = some mpd ∧
        ((t.dom second).path p).req = none ∧ (t.dom second).mpd = (if d.port = some p then mpd else d.mpd) ∧
        t = s.setDom second (t.dom second)) ∧
    (p ≠ .sv → s.p2pOn p = true →
      exec (.pdelayReq p m) s = .next (s.sendOwn p (s.pdelayResponse p m))) ∧
    (m.turnaround * 65536 < 2 ^ 63 → field (s.pdelayResponse p m).payload 8 8 = m.turnaround * 65536)

/-- R59, R63: an Announce enters the domain's foreign masters, and the best of them is selected; an announce timeout drops
the selected one; the loss of Sync on the active domain switches to the other domain when that is LOCKED, without a step,
and otherwise leads a locked servo to HOLDOVER. -/
def Obligations.MastersAndDomainsAreSelected : Prop :=
  ∀ (s : State) (m : AnnounceMsg) (second : Bool), s.sys.inReset = false →
    let d := s.dom second
    let f : Foreign := ⟨m.gm, m.port, AnnounceMsg.rank m, m.ptpScale⟩
    let withF := (d.masters.filter fun g => !(g.gm = m.gm ∧ g.port = m.port)) ++ [f]
    let without := d.masters.filter fun g => decide (g.gm ≠ d.gm)
    let selects := fun (t : State) (l : List Foreign) =>
      (t.dom second).masters = l ∧ ((∃ g, bestMaster l = some g ∧ (t.dom second).gm = g.gm) ∨ l = [] ∧ (t.dom second).gm = 0)
    (s.domOf m.domain = some second → m.port ≠ .sv → ∃ t, exec (.announce m) s = .next t ∧ selects t withF) ∧
    (∃ t, exec (.announceReceiptTimeout second) s = .next t ∧ selects t without) ∧
    (s.hearth.secondActive = second → d.delivers = true → s.domPortSel second ≠ 0 →
      (s.dom (!second)).st = .locked → ∃ t, exec .syncLoss s = .next t ∧ t.hearth.secondActive = !second ∧
        (t.dom second).st = .lost ∧ t.time.units = s.time.units) ∧
    (s.hearth.secondActive = second → d.delivers = true → s.domPortSel second ≠ 0 →
      (s.dom (!second)).st ≠ .locked → s.hearth.sourcePps = false → s.hearth.servo = .locked →
      ∃ t, exec .syncLoss s = .next t ∧ t.hearth.servo = .holdover ∧ t.hearth.secondActive = second ∧
        (t.dom second).st = .lost ∧ (s.regsOk → t.sees Ev.TIME_UNLOCKED = true))

/-- R93, R94: PPS_IN stamps the edge and its distance from the nearest whole second; in MONITOR an error beyond 1 µs raises
PPS_IN_ERROR; 2 s without an edge raise PPS_IN_LOST, in every mode (log 119); PPS_OUT rises at the next whole second when that is selected, and
falls again.
R90 to R92: a follower measures the skew of each edge of the shared tick line; three ticks in a row with an edge beyond the tolerance
raise TICK_SKEW; after twice its distance of silent ticks it starts to drive the line. A device that drives the line measures
nothing. -/
def Obligations.PulseAndTickPins : Prop :=
  (∀ (s : State) (stamp : Nat), s.sys.inReset = false →
    (s.ppsInMode ≤ 1 → ∃ t, exec (.ppsIn stamp) s = .next t ∧ t.hearth.ppsStamp = stamp % 2 ^ 32 ∧
      t.hearth.ppsError = ppsErrorOf stamp ∧ t.hearth.ppsLost = false ∧ t.time = s.time ∧
      (s.regsOk → s.ppsInMode = 1 → 1000 < (ppsErrorOf stamp).natAbs → t.sees Ev.PPS_IN_ERROR = true) ∧
      (s.ppsInMode = 1 → (ppsErrorOf stamp).natAbs ≤ 1000 → t.regs = s.regs)) ∧
    (s.hearth.ppsLost = false → ∃ t, exec .ppsInLost s = .next t ∧ t.hearth.ppsLost = true ∧
      t.hearth.sourcePps = false ∧ s.hearth.ppsLastUp + 2000000000 ≤ t.up ∧ (s.regsOk → t.sees Ev.PPS_IN_LOST = true)) ∧
    (s.ppsOutSel = 1 → s.hearth.ppsOutLevel = false → s.timeOk → s.time.units + 1000000000 * 2 ^ 32 < unitsEnd → ∃ t,
      exec .ppsOut s = .next t ∧ t.hearth.ppsOutLevel = true ∧ t.time.frac = 0 ∧ t.time.ns = 0 ∧
      s.time.units ≤ t.time.units ∧ (s.hearth.ppsRise = s.time.units → s.time.units < t.time.units) ∧
      t.time.units ≤ s.time.units + 1000000000 * 2 ^ 32 ∧ t.hearth.ppsRise = t.time.units) ∧
    (s.hearth.ppsOutLevel = true → ∃ t, exec .ppsOut s = .next t ∧ t.hearth.ppsOutLevel = false)) ∧
  (∀ (s : State) (skew : Int), s.odEn = true → s.mode ≠ .boot →
    (s.hearth.od.driving = false → ∃ t, exec (.tickOdEdge skew) s = .next t ∧ t.hearth.od.skew = skew ∧
      (s.odTolerance < skew.natAbs → t.hearth.od.silent = s.hearth.od.silent ∧ t.hearth.od.skewRun =
        s.hearth.od.skewRun + b2n !(if skew < 0 then s.hearth.od.measuredNext else s.hearth.od.measured)) ∧
      (skew.natAbs ≤ s.odTolerance → t.hearth.od.skewRun = 0 ∧ t.hearth.od.silent = 0 ∧
        (if skew < 0 then t.hearth.od.edgeNext else t.hearth.od.edgeSeen) = true) ∧
      (s.hearth.servo ≠ .holdover → t = { s with hearth := { s.hearth with od := t.hearth.od } })) ∧
    (s.hearth.od.driving = true → exec (.tickOdEdge skew) s = .next s) ∧
    (s.hearth.od.driving = false → 3 ≤ s.hearth.od.skewRun → ∃ t, exec .tickSkew s = .next t ∧ t.hearth.od.skewRun = 0 ∧
      (s.regsOk → t.sees Ev.TICK_SKEW = true)) ∧
    (s.hearth.od.driving = false → silentNeeded s.sys.idStrap s.hearth.od.master ≤ s.hearth.od.silent →
      ∃ t, exec .tickMaster s = .next t ∧ t.hearth.od.driving = true ∧ t.hearth.od.master = s.sys.idStrap ∧
        (s.regsOk → t.sees Ev.TICK_MASTER = true)))

/-- R48, R50, R53, R54: the registers of the counter with a row of their own. A read of the high seconds latches the rest;
writes of the seconds stage them; with SERVO_EN 0, in IDLE or SERVICE, a write of TIME_NS loads the staged seconds and the
written ns and clears the fraction, where no retime is pending; with SERVO_EN 0 a write of TIME_INC_HI loads the increment, clamped; a read of the high
tick index latches the low one. A client without access changes nothing of the counter. -/
def Obligations.CounterRegistersLoadAndLatch : Prop :=
  ∀ (s : State) (a : Accessor) (v : Word),
    (∃ t, exec (.timeSecHiRead false) s = .next t ∧ t.ctrl.regOut.toNat = s.time.sec / 2 ^ 32 % 2 ^ 32 ∧
      t.hearth.latch = ⟨s.time.sec % 2 ^ 32, s.time.ns, s.time.frac, s.nowNs % 2 ^ 32⟩ ∧ t.time = s.time ∧
      t.hearth.hostLatch = s.hearth.hostLatch) ∧
    (∃ t, exec (.timeSecHiRead true) s = .next t ∧ t.ctrl.regOut.toNat = s.time.sec / 2 ^ 32 % 2 ^ 32 ∧
      t.hearth.hostLatch = ⟨s.time.sec % 2 ^ 32, s.time.ns, s.time.frac, s.nowNs % 2 ^ 32⟩ ∧
      t.hearth.latch = s.hearth.latch) ∧
    (s.unlocked a = true →
      exec (.timeSecWrite a true v) s = .next { s with hearth := { s.hearth with stageSecHi := v.toNat % 65536 } } ∧
      exec (.timeSecWrite a false v) s = .next { s with hearth := { s.hearth with stageSecLo := v.toNat } }) ∧
    (s.unlocked a = true → s.mode = .idle ∨ s.mode = .service → s.servoEn = false → s.hearth.retime = none →
      s.hearth.stageSecHi < 65536 → s.hearth.stageSecLo < 2 ^ 32 → v.toNat < 1000000000 →
      ∃ t, exec (.timeNs a v) s = .next t ∧ t.time.sec = s.hearth.stageSecHi * 2 ^ 32 + s.hearth.stageSecLo ∧
        t.time.ns = v.toNat ∧ t.time.frac = 0 ∧ t.time.inc = s.time.inc) ∧
    (s.unlocked a = true → s.servoEn = false → ∃ t, exec (.timeIncHi a v) s = .next t ∧
      t.time.inc = max incMin (min incMax (v.toNat * 2 ^ 32 + s.hearth.stageIncLo)) ∧ t.time.units = s.time.units) ∧
    (s.unlocked a = true → s.servoEn = true → exec (.timeIncHi a v) s = .next s) ∧
    (∃ t, exec .tickIndexHi s = .next t ∧ t.ctrl.regOut.toNat = s.hearth.k / 2 ^ 32 % 2 ^ 32 ∧
      t.hearth.tickLatchLo = s.hearth.k % 2 ^ 32 ∧ t.regs = s.regs) ∧
    (s.unlocked a = false → ∀ c, c = Instr.timeSecWrite a true v ∨ c = .timeSecWrite a false v ∨ c = .timeNs a v ∨
      c = .timeIncHi a v → ∃ t, exec c s = .next t ∧ t.time = s.time ∧ t.hearth = s.hearth)

/-! ### Network ports and class queues (R96 to R130, R170 to R175) -/

/-- R102, R104 to R107, R109, R110, R130, R171: what the receiver found on the line is counted, then the frame is judged step
by step, and the first condition that holds decides and counts it: runt, giant, FCS, MAC control, own source, filter, IP and
UDP checks, a full receive FIFO or queue. A frame that passes them all joins its class queue behind every frame that is there,
with the stamp of its arrival. -/
def Obligations.ReceivedFramesAreJudgedInOrder : Prop :=
  ∀ (s : State) (p : Port) (f : List Byte) (rx : Reception), (s.mac p).up = true → s.portEn p = true →
    let run := exec (.receivedFrame p f rx) s
    let u := s.countLine p rx
    let fcs := rx.fcs
    let i := p.index
    let cls := u.classOf f
    let length := 64 ≤ f.length
    let notGiant := f.length ≤ u.maxLen p f
    let foreign := innerType f ≠ 0x8808 ∧ u.ownSource f = false
    let taken := (u.r105 p (dstMac f)).1 = true ∧ u.vlanOk p f = true ∧
      ¬(p = .sv ∧ u.paramOn P.SV_PIXEL_EN = false ∧ (cls = 1 ∨ cls = 2))
    let q := (u.qset p.qset).q cls
    (¬length → run = .next (u.count (Reg.RX_RUNT i))) ∧
    (length → ¬notGiant → run = .next (u.count (Reg.RX_GIANT i))) ∧
    (length → notGiant → fcs ≠ .good → run = .next (u.count (Reg.RX_FCS_ERR i))) ∧
    (fcs = .good → length → notGiant → innerType f = 0x8808 → run = .next (u.count (Reg.RX_PAUSE i))) ∧
    (fcs = .good → length → notGiant → innerType f ≠ 0x8808 → u.ownSource f = true →
      run = .next ((u.count (Reg.RX_OWN_SRC i)).raiseAt (Ev.OWN_SRC_SEEN i) i)) ∧
    (fcs = .good → length → notGiant → foreign → ¬taken → run = .next ((u.countRx p f).count (Reg.RX_FILTERED i))) ∧
    (fcs = .good → length → notGiant → foreign → taken →
      (ipVerdict f = .hdrErr → run = .next ((u.countRx p f).count (Reg.RX_IP_HDR_ERR i))) ∧
      (ipVerdict f = .frag → run = .next ((u.countRx p f).count (Reg.RX_IP_FRAG i))) ∧
      (ipVerdict f = .udpErr → run = .next ((u.countRx p f).count (Reg.RX_UDP_CSUM_ERR i))) ∧
      (ipVerdict f = .pass → u.rxFull p = true ∨ q.full f.length = true ∨ u.qEnabled p.qset cls = false →
        run = .next (((u.countRx p f).count (Reg.RX_DROP_FIFO i)).blockRx p cls f.length)) ∧
      (ipVerdict f = .pass → u.rxFull p = false → q.full f.length = false →
        u.qEnabled p.qset cls = true → (u.qset p.qset).stalled = false →
        ∃ t fr, run = .next t ∧ ((t.qset p.qset).q cls).frames = q.frames ++ [fr] ∧
          fr.bytes = f ∧ fr.len = f.length ∧ fr.stamp = u.rxStamp p))

/-- R171, R173 to R175: a pop takes the oldest frame of the class that is next and latches its address and stamp, a refill
keeps the order of the queue, and DONE forgets the popped frame of its address; a read of Qs_POP through REG_READ returns
NOT_VALID (a word of zeros, VALID = 0) at once and never dequeues, in both modes. -/
def Obligations.ClassQueuesKeepOrder : Prop :=
  ∀ (s : State) (n c : Fin 4) (a : Word),
    exec (.qsPop n true) s = .next { s with ctrl := { s.ctrl with regOut := 0 } } ∧
    ((s.qset n).stalled = false →
      (∃ t, exec (.headRefill n c) s = .next t ∧ ((t.qset n).q c).frames = ((s.qset n).q c).frames ∧
        (t.qset n).popped = (s.qset n).popped) ∧
      (∀ d f fs, (s.qset n).popped.length < 8 → s.consumerAway n = false → s.popClass n = some d →
        ((s.qset n).q d).frames = f :: fs →
        ∃ t, exec (.qsPop n false) s = .next t ∧ ((t.qset n).q d).frames = fs ∧
          (t.qset n).popped = (s.qset n).popped ++ [(d, f)] ∧ t.ctrl.regOut = BitVec.ofNat 32 (popWord d f.len) ∧
          (s.regsOk → t.regN (Reg.Q_POP_ADDR n) = queueAddr n d f.pos ∧ t.reg (Reg.Q_POP_STAMP n) = f.stamp)) ∧
      (∃ t, exec (.qsDone n a) s = .next t ∧
        (t.qset n).popped = (s.qset n).popped.filter (fun p => decide (queueAddr n p.1 p.2.pos ≠ a.toNat)) ∧
        ((t.qset n).q c).frames = ((s.qset n).q c).frames))

/-- R105, R106, R111 to R116, R121: a frame that R105 forwards enters the other chain port's FIFO behind the frames in it,
stomped when it fails step 3 or 5; with less than 64 bytes free it is only counted. At a frame boundary the frame in
transmission is complete, and an own class 0 frame starts first, then a forwarded one, which the transparent clock of the port
corrects when it is on, then any other own frame. -/
def Obligations.EgressForwardsInOrder : Prop :=
  ∀ (s : State) (p e : Port) (f : List Byte) (fcs : Fcs) (ns : Nat),
    let m := s.mac e
    let noneFirst := (m.own.all fun g => !g.cls0 && decide (g.waited < 8)) = true
    let ended := fun (t : State) =>
      (t.mac e).sent = (match m.tx with
        | some (.own g) => g :: m.sent
        | _ => m.sent) ∧
      (t.mac e).sentFwd = (match m.tx with
        | some (.fwd x) => x :: m.sentFwd
        | _ => m.sentFwd)
    (p.other = some e → s.forwards p e f = true → f.length ≤ s.maxLen p f → f.length ≤ 32768 - fifoLevel m →
      64 ≤ 32768 - fifoLevel m →
      ∃ t, exec (.forwarding p f fcs ns) s = .next t ∧
        (t.mac e).fwd = m.fwd ++ [⟨f, f.length - 4, decide (fcs ≠ .good) || s.ownSource f, false, s.nowNs - ns, none⟩] ∧
        (t.mac e).own = m.own ∧ t.mac p = s.mac p) ∧
    (p.other = some e → s.forwards p e f = true → 32768 - fifoLevel m < 64 →
      exec (.forwarding p f fcs ns) s = .next (s.count (Reg.FWD_DROP e.index))) ∧
    (∀ g gs, m.up = true → m.own = g :: gs → g.cls0 = true →
      ∃ t w x, exec (.frameBoundary e) s = .next t ∧ ended t ∧ (t.mac e).own = gs ∧
        (t.mac e).tx = some (.own { g with wire := w, stamp := x }) ∧ (t.mac e).fwd = m.fwd) ∧
    (∀ x xs, m.up = true → noneFirst → m.fwd = x :: xs →
      ∃ t y, exec (.frameBoundary e) s = .next t ∧ ended t ∧ (t.mac e).fwd = xs ∧ (t.mac e).tx = some (.fwd y) ∧
        y.keep = x.keep ∧ y.stomp = x.stomp ∧ y.dropped = x.dropped ∧
        y.bytes = (if bit (s.macCtrl e) 7 then (transparent x.bytes (s.txNs e - x.ingressNs)).1 else x.bytes).take x.keep ∧
        (t.mac e).own = m.own.map fun g => { g with waited := g.waited + 1 }) ∧
    (∀ g gs, m.up = true → m.own = g :: gs → m.fwd = [] → noneFirst →
      ∃ t w x, exec (.frameBoundary e) s = .next t ∧ ended t ∧ (t.mac e).own = gs ∧
        (t.mac e).tx = some (.own { g with wire := w, stamp := x }))

/-- R97 to R99, R117, R143, R431: a port that is trained, enabled and locked at the speed that it seeks comes up with LINK_UP
after 10 ms of lock; a port that goes down discards what it had to send and searches in its 25G window; the search switches
windows at their ends, and only while the port is down; block lock and the high-BER condition are the receiver's. The mirror
link comes up after 10 ms of lock as well, and goes down with MIRROR_DOWN. -/
def Obligations.LinksComeUpAndGoDown : Prop :=
  ∀ (s : State) (p : Port) (l : Link) (speed : Nat) (b : Bool), l.port = some p →
    let m := s.mac p
    (m.up = false → s.testing 0 p.index = false → m.trained = true → s.portEn p = true →
      s.speedOk p speed = true → s.lockHolds p = true →
      ∃ t, exec (.linkUp l speed) s = .next t ∧ (t.mac p).up = true ∧ m.lockUp + lockHoldNs ≤ t.up ∧
        (t.mac p).speed = s.seekSpeed p ∧ (t.mac p).fecActive = s.fecRuns p ∧
        (s.regsOk → t.sees (Ev.LINK_UP p.index) = true)) ∧
    (m.up = true → ∃ t, exec (.linkDown l) s = .next t ∧ (t.mac p).up = false ∧ (t.mac p).own = [] ∧ (t.mac p).fwd = [] ∧
      (t.mac p).tx = none ∧ (t.mac p).win25 = true ∧ (t.mac p).blockLock = false ∧
      (s.regsOk → t.sees (Ev.LINK_DOWN p.index) = true) ∧ (∀ x ∈ t.fs.streams, x.2.bound ≠ some p)) ∧
    (p ≠ .sv → m.up = false → m.trained = true → s.portEn p = true → s.speedSel p = 0 →
      ∃ t, exec (.searchWindow p) s = .next t ∧ m.winUp + windowNs m.win25 ≤ t.up ∧
        t.mac p = { m with win25 := !m.win25, winUp := t.up, blockLock := false, aligned := false }) ∧
    (m.up = true → exec (.searchWindow p) s = .next s) ∧
    (m.trained = true → s.portEn p = true →
      ∃ t, exec (.blockLock l b) s = .next t ∧ (t.mac p).blockLock = true ∧ (t.mac p).aligned = b ∧
        (s.lockHolds p = false → t.lockHolds p = true → (t.mac p).lockUp = s.up) ∧ t = s.setMac p (t.mac p)) ∧
    (∃ t, exec (.hiBer l b) s = .next t ∧ (t.mac p).hiBer = b ∧
      (b = true → m.hiBer = false → (t.mac p).hiBerUp = s.up) ∧ t = s.setMac p (t.mac p)) ∧
    (s.firmwareUp = true → s.red.mirrorUp = false → s.red.mirrorLock = true → s.red.mirrorHiBer = false →
      s.sys.set3Lost = false → s.testing 0 3 = false →
      ∃ t, exec (.linkUp .mirror speed) s = .next t ∧ t.red.mirrorUp = true ∧ s.red.mirrorLockUp + lockHoldNs ≤ t.up) ∧
    (s.red.mirrorUp = true → ∃ t, exec (.linkDown .mirror) s = .next t ∧ t.red.mirrorUp = false ∧
      (s.regsOk → t.sees Ev.MIRROR_DOWN = true) ∧ (s.red.role = .standby → t.red.stale = true))

/-- R125: the second report of a join or leave leaves once, at its time, by every port that carries reports and has link; a
query is answered on its port with a report for each joined group that it names (at once, the choice of log 124). No other
port sends. -/
def Obligations.GroupsAreReported : Prop :=
  ∀ (s : State) (g : List Byte) (r : List Byte × Nat) (p : Port) (ms : Nat), s.firmwareUp = true →
    ((s.reports.find? fun x => decide (x.1 = g)) = some r → ∃ t, exec (.membershipReport g) s = .next t ∧
      t.reports = s.reports.erase r ∧ r.2 ≤ t.up ∧ t.groups = s.groups ∧
      (p ∈ s.reportPorts → (s.mac p).up = true → (t.mac p).own = (s.mac p).own ++ [s.reportFrame g false]) ∧
      (p ∉ s.reportPorts ∨ (s.mac p).up = false → t.mac p = s.mac p)) ∧
    (p ∈ s.reportPorts → (s.mac p).up = true →
      (∃ t, exec (.multicastQuery p none ms) s = .next t ∧
        (t.mac p).own = (s.mac p).own ++ s.groups.map (fun x => s.reportFrame x true) ∧ t = s.setMac p (t.mac p)) ∧
      (∃ t, exec (.multicastQuery p (some g) ms) s = .next t ∧
        (t.mac p).own = (s.mac p).own ++ (s.groups.filter fun x => decide (x = g)).map (fun x => s.reportFrame x true) ∧
        t = s.setMac p (t.mac p)))

/-- R126: the firmware answers for its own addresses on the port that asks, where that has link, and with DHCP as the
address's source a lease gives the address, a refusal takes it away, and the end of a lease asks anew. -/
def Obligations.FirmwareAnswersForItsAddresses : Prop :=
  ∀ (s : State) (p : Port) (target ip mask gw server : Word) (a b data mac : List Byte) (lease : Nat),
    s.firmwareUp = true → (s.mac p).up = true →
    let i := s.ipOf p
    let sends := fun (t : State) (f : OwnFrame) => (t.mac p).own = (s.mac p).own ++ [f]
    let only := fun (t : State) => t = s.setMac p (t.mac p)
    (target ≠ 0 → i.addr = target → ∃ t, exec (.arpRequest p target mac ip) s = .next t ∧ only t ∧
      sends t (ownAnswer .arp (mapped4 ip.toNat)
        ([0, 1, 8, 0, 6, 4, 0, 2] ++ s.ownMac p ++ beBytes 4 target.toNat ++ mac ++ beBytes 4 ip.toNat) (some mac) none)) ∧
    (i.addr ≠ target → exec (.arpRequest p target mac ip) s = .next s) ∧
    (a = s.linkLocal p ∨ a = s.global6 p ∧ beNat a ≠ 0 → ∃ t, exec (.neighbourSolicitation p a b) s = .next t ∧ only t ∧
      sends t (s.naAnswer p a b)) ∧
    (a ≠ s.linkLocal p → a ≠ s.global6 p → exec (.neighbourSolicitation p a b) s = .next s) ∧
    (a ∈ s.ownAddrs p → ∃ t, exec (.echoRequest p a b data) s = .next t ∧ only t ∧
      sends t (ownAnswer .echo b ([if isMapped a then 0 else 129, 0, 0, 0] ++ data) none (some a))) ∧
    (s.dhcpOn p = true →
      (∃ t f, exec (.dhcpv4 p (.offer ip mask gw server)) s = .next t ∧ (t.ipOf p) = { i with requested := true } ∧
        sends t f ∧ f.kind = .dhcp) ∧
      (i.requested = true ∨ i.addr ≠ 0 → exec (.dhcpv4 p (.ack ip mask gw lease)) s = .next (s.setIp p
        { i with addr := ip, mask := mask, gw := gw, leaseUntil := s.up + lease * 1000000000, requested := false })) ∧
      exec (.dhcpv4 p .nak) s = .next (s.setIp p { i with addr := 0, requested := false }) ∧
      (i.addr = 0 ∨ i.leaseUntil ≤ s.up → ∃ t f, exec (.dhcpv4 p .timer) s = .next t ∧ (t.ipOf p).addr = 0 ∧
        (t.ipOf p).requested = false ∧ sends t f ∧ f.kind = .dhcp) ∧
      (i.addr ≠ 0 → s.up < i.leaseUntil → ∃ t f, exec (.dhcpv4 p .timer) s = .next t ∧ (t.ipOf p).addr = i.addr ∧
        (t.ipOf p).requested = true ∧ sends t f ∧ f.kind = .dhcp))

/-! ### Pixel transport and the frame store (R131 to R211) -/

/-- R41, R133, R148, R150: a packet that fails one of steps 1 to 9 moves exactly one counter; what a step before it has
learnt of its source stays. -/
def Obligations.RejectedPacketsMoveOneCounter : Prop :=
  ∀ (s : State) (p : Port) (c : Carrier) (mac d : List Byte), s.ingressOn p = true →
    let h := parseHpt d
    (bit (s.regN Reg.ING_CTRL) 0 = false → exec (.hptPacket p c mac d) s = .next (s.count Reg.HPT_DISABLED)) ∧
    (bit (s.regN Reg.ING_CTRL) 0 = true →
      (∀ k, hptEarly d = some k → exec (.hptPacket p c mac d) s = .next (s.count k)) ∧
      (hptEarly d = none → s.hptStream c h.sid = none →
        exec (.hptPacket p c mac d) s = .next (s.count Reg.HPT_NO_STREAM)) ∧
      (∀ i, hptEarly d = none → s.hptStream c h.sid = some i →
        (s.srcRefused i c mac = true → exec (.hptPacket p c mac d) s = .next (s.count Reg.HPT_FOREIGN)) ∧
        (∀ s1, s.srcRefused i c mac = false → s.hptSource i p (sourceOf c mac) (decide (h.version = 1)) = (s1, false) →
          exec (.hptPacket p c mac d) s = .next (s1.count Reg.HPT_FOREIGN)) ∧
        (∀ s1, s.srcRefused i c mac = false → s.hptSource i p (sourceOf c mac) (decide (h.version = 1)) = (s1, true) →
          (h.version = 3 → h.slotLayer ≠ s1.slotLayer i →
            exec (.hptPacket p c mac d) s = .next (s1.count Reg.HPT_BAD_BINDING)) ∧
          (h.version ≠ 1 → (h.version = 3 → h.slotLayer = s1.slotLayer i) →
            ((s1.stream i).judgeSeq h.seq = .dup → exec (.hptPacket p c mac d) s = .next (s1.count Reg.HPT_DUP)) ∧
            ((s1.stream i).judgeSeq h.seq = .old → exec (.hptPacket p c mac d) s = .next (s1.count Reg.HPT_SEQ_OLD))))))

/-- R141, R142, R146, R148, R150, R152, R168: a DATA packet outside any parity group that passes every step is accepted: it is counted,
its stream is UP and owned by its source, and its pixels stand in its frame's ring entry at the places that its rectangle
gives them, each sample as R146 expands it. -/
def Obligations.AcceptedPacketWritesItsPixels : Prop :=
  ∀ (s s1 s2 : State) (p : Port) (c : Carrier) (mac d : List Byte) (i : Nat),
    let h := parseHpt d
    let payload := d.drop (hptHeaderLen h.version)
    let q := h.y * s.rectW i + h.x
    let pixels := unpack (fmtLayout h.format) h.count payload
    s.ingressOn p = true → bit (s.regN Reg.ING_CTRL) 0 = true → hptEarly d = none → s.hptStream c h.sid = some i →
    s.srcRefused i c mac = false → s.hptSource i p (sourceOf c mac) (decide (h.version = 1)) = (s1, true) →
    (h.version = 3 → h.slotLayer = s1.slotLayer i) → h.type = 1 → h.inGroup = false →
    (h.version ≠ 1 → (s1.stream i).judgeSeq h.seq = .pass) → s1.hptTail i h payload = none →
    s.layerOf i = 0 → s.rectX i + s.rectW i ≤ 2 ^ 14 → s.rectY i + s.rectH i ≤ 2 ^ 14 →
    s1.hptWrite i h payload = (s2, none) → s.regsOk → s.regN Reg.HPT_ACCEPTED < 2 ^ 32 - 1 →
    ∃ t, exec (.hptPacket p c mac d) s = .next t ∧ t.regN Reg.HPT_ACCEPTED = s.regN Reg.HPT_ACCEPTED + 1 ∧
      (t.stream i).up = true ∧ (t.stream i).owner.isSome = true ∧ (t.stream i).silentTicks = 0 ∧
      (h.version ≠ 1 → (t.stream i).high.isSome = true ∧ h.seq ∈ (t.stream i).seen) ∧
      ∃ part, (t.stream i).frameOf h.frame = some part ∧
        ∀ k, k < pixels.length →
          t.ringAt part.entry (s.canvasX i (q + k)) (s.canvasY i (q + k)) = pixels.getD k 0

/-- R142, R143, R168: after SOURCE_FAILOVER silent ticks the owner may be replaced, and a bound port is given up; after
STREAM_TIMEOUT silent ticks an UP stream goes down with STREAM_DOWN. -/
def Obligations.SilentStreamsFailOverAndGoDown : Prop :=
  ∀ (s : State) (i : Fin 64),
    let t := s.stream i
    let n := s.param P.SOURCE_FAILOVER
    (t.owner.isSome = true → n ≤ t.silentTicks → t.boundSilent < n →
      exec (.sourceFailover i) s = .next (s.setStream i { t with ownerReleased := true })) ∧
    (t.bound.isSome = true → n ≤ t.boundSilent → t.silentTicks < n →
      exec (.sourceFailover i) s = .next (s.setStream i { t with bound := none, boundSilent := 0 })) ∧
    (t.up = true → s.param P.STREAM_TIMEOUT ≤ t.silentTicks →
      exec (.streamDown i) s = .next ((s.setStream i { t with up := false }).raiseAt Ev.STREAM_DOWN i)) ∧
    (t.up = false ∨ t.silentTicks < s.param P.STREAM_TIMEOUT → exec (.streamDown i) s = .next s)

/-- R162 to R164: an E1.31 data packet of a mapped universe refreshes its source, or adds it while the universe tracks fewer
than 8, and is an overflow there; a packet that fails R162, a preview packet, an alternate start code, an unmapped universe and
a packet out of order are counted, and of a tracked source each one ends its silence; a source that terminates its stream, or
that is silent for SACN_TIMEOUT, is dropped with SACN_SRC_LOST. The order of several causes, and that a terminated stream of a
source that is not tracked changes nothing, are the choices of log 21. -/
def Obligations.SacnSourcesAreTracked : Prop :=
  ∀ (s : State) (p : Port) (m : SacnMsg), s.ingressOn p = true → s.paramOn P.SACN_ENABLE = true →
    let good := m.wellFormed = true ∧ sacnIsOther m = false ∧ sacnIsData m = true ∧ 1 ≤ m.univ ∧ m.univ ≤ 63999 ∧ m.priority ≤ 200
    let old := (s.sources m.univ).find? fun (x : SacnSource) => decide (x.cid = m.cid)
    let plain := m.preview = false ∧ m.startCode = 0 ∧ (s.mapOf m.univ).isSome = true
    (sacnIsOther m = true → exec (.sacnPacket p m) s = .next (s.count Reg.SACN_OTHER)) ∧
    (good → m.preview = true → exec (.sacnPacket p m) s = .next ((s.hearSource m.univ m.cid).count Reg.SACN_PREVIEW)) ∧
    (good → m.preview = false → m.startCode ≠ 0 →
      exec (.sacnPacket p m) s = .next ((s.hearSource m.univ m.cid).count Reg.SACN_ALT_START)) ∧
    (∀ y ∈ (s.hearSource m.univ m.cid).sources m.univ, y.cid = m.cid → y.lastUp = s.up) ∧
    (good → m.preview = false → m.startCode = 0 → s.mapOf m.univ = none →
      exec (.sacnPacket p m) s = .next (s.count Reg.SACN_UNMAPPED)) ∧
    (good → plain → old = none → m.terminated = false → (s.sources m.univ).length < 8 →
      ∃ t x, exec (.sacnPacket p m) s = .next t ∧ t.sources m.univ = s.sources m.univ ++ [x] ∧ x.cid = m.cid ∧
        x.slots = m.slots ∧ x.priority = m.priority ∧ x.seq = m.seq ∧ x.lastUp = s.up) ∧
    (∀ y, good → plain → old = some y → sacnOutOfOrder m.seq y.seq = true →
      exec (.sacnPacket p m) s = .next ((s.hearSource m.univ m.cid).count Reg.SACN_OUT_OF_ORDER)) ∧
    (sacnIsOther m = false → ¬good → exec (.sacnPacket p m) s = .next (s.count Reg.SACN_BAD)) ∧
    (good → plain → old = none → 8 ≤ (s.sources m.univ).length →
      exec (.sacnPacket p m) s = .next ((s.count Reg.SACN_SRC_OVERFLOW).raise Ev.SACN_SRC_OVERFLOW)) ∧
    (good → plain → old = none → m.terminated = true → (s.sources m.univ).length < 8 →
      exec (.sacnPacket p m) s = .next s) ∧
    (∀ y, good → plain → old = some y → sacnOutOfOrder m.seq y.seq = false → m.terminated = false →
      ∃ t since, exec (.sacnPacket p m) s = .next t ∧ (y.priority = m.priority → since = y.rankSince) ∧
        t.sources m.univ = (s.sources m.univ).map (fun z =>
          if z.cid = m.cid then ⟨m.cid, m.seq, m.priority, since, m.slots, s.up⟩ else z)) ∧
    (∀ y, good → plain → old = some y → sacnOutOfOrder m.seq y.seq = false → m.terminated = true →
      ∃ t, exec (.sacnPacket p m) s = .next t ∧ (t.sources m.univ).all (fun x => decide (x.cid ≠ m.cid)) = true ∧
        (s.regsOk → t.sees Ev.SACN_SRC_LOST = true)) ∧
    (∀ y, old = some y → ∃ t, exec (.sacnSrcLost m.univ m.cid) s = .next t ∧
      t.sources m.univ = (s.sources m.univ).filter (fun x => decide (x.cid ≠ m.cid)) ∧
      y.lastUp + s.param P.SACN_TIMEOUT * 1000000 ≤ t.up ∧ (s.regsOk → t.sees Ev.SACN_SRC_LOST = true))

/-- R187: when the copies of a stream are done, every region of it is fetched from the chosen frame's entry, and copying
ends. Every other stream, the mode, the registers and the time stay as they are. -/
def Obligations.ConsolidationMovesEveryRegion : Prop :=
  ∀ (s : State) (i : Fin 64) (p : Part), (s.stream i).copying = true → (s.stream i).newestChosen = some p →
    ∃ t, exec (.consolidation i) s = .next t ∧
      (∀ r ∈ s.regions i, SMap.get (fun _ => 0) (t.stream i).src r = p.entry + 1) ∧
      (s.regions i ≠ [] → (t.stream i).copying = false) ∧
      (∀ j, j ≠ i.val → t.stream j = s.stream j) ∧ t.mode = s.mode ∧ t.regs = s.regs ∧ t.time = s.time

/-- R190, R192, R193: the HOLD that is due is entered from LIVE with HOLD_ENTER, and the fetch table of every stream is kept
as it stands; the end that is due leads back to LIVE with HOLD_EXIT, and the kept table is given up. Neither acts in
another mode. -/
def Obligations.HoldKeepsTheFetchTable : Prop :=
  ∀ s : State,
    (s.mode = .live → s.fs.holdDue = true → ∃ t, exec .holdEnter s = .next t ∧ t.mode = .hold ∧
      t.fs.holdSrc = s.fs.streams.map (fun (p : Nat × Stream) => (p.1, p.2.src)) ∧ t.fs.streams = s.fs.streams ∧
      t.fs.holdTicks = 0 ∧ t.ctrl.prevMode = .live ∧ (s.regsOk → t.sees Ev.HOLD_ENTER = true)) ∧
    (s.mode = .hold → s.fs.resumeDue = true → ∃ t, exec .holdExit s = .next t ∧ t.mode = .live ∧ t.fs.holdSrc = [] ∧
      t.fs.holdTicks = 0 ∧ t.ctrl.prevMode = .hold ∧ (s.regsOk → t.sees Ev.HOLD_EXIT = true)) ∧
    (s.mode ≠ .live → exec .holdEnter s = .next s) ∧ (s.mode ≠ .hold → exec .holdExit s = .next s)

/-! ### Anvil, strands and lamp control (R212 to R334) -/

/-- R213, R216, R238, R266: a free lane renders the next line of the most urgent strand: the line joins that strand's
buffer behind the others, with a DATA header and one word for each channel of the raster, and no other strand changes. -/
def Obligations.LaneRendersTheMostUrgentLine : Prop :=
  ∀ (s : State) (lane : Fin 2) (n : Nat), s.anvil.rendering = true → s.mostUrgent = some n →
    let t0 := s.strand n
    let slot := t0.rendered / s.vActive n
    ∃ t words, exec (.lineRender lane) s = .next t ∧ (t.strand n).buf = t0.buf ++ [(slot, words)] ∧
      (t.strand n).rendered = t0.rendered + 1 ∧ words.length = s.hActive n + 1 ∧
      words.tail = (List.range (s.hActive n)).map (fun w => (s.channel n (t0.rendered % s.vActive n) slot w).word) ∧
      (∀ m, m ≠ n → t.strand m = s.strand m) ∧ t.mode = s.mode ∧ t.time = s.time ∧
      (∀ m, m < 128 → s.eligible m = true → s.deadline n ≤ s.deadline m)

/-- R224, R231, R235, R236: the identity calibration record leaves every colour component of light as it is; a layer of
full weight hides what is below it, and a layer of no weight leaves it as it is; an identity transfer of light never
exceeds 24 bits. -/
def Obligations.StagesAreExactAtTheirEnds : Prop :=
  ∀ (v u : Light), v.1 ≤ maxL24 → v.2.1 ≤ maxL24 → v.2.2 ≤ maxL24 →
    calibrate identityRecord 0 v = (v.1, false) ∧ calibrate identityRecord 1 v = (v.2.1, false) ∧
    calibrate identityRecord 2 v = (v.2.2, false) ∧ blend 65536 v u = v ∧ blend 0 u v = v ∧
    layerWeight 65535 65535 = 65536 ∧ (∀ a, layerWeight 0 a = 0) ∧
    (∀ w, w ≤ 65536 → u.1 ≤ maxL24 → (blend w v u).1 ≤ maxL24)

/-- R266 to R269, R271, R289, R305: on an NSP strand the serialiser sends the next DATA line with the CRC of its words, then
the queued CONFIG and RAW lines, up to 32 in a frame, and SYN at its instants. An underrun ends the DATA lines of the frame
with BRK and UNDERRUN. -/
def Obligations.SerialiserSendsLinesInOrder : Prop :=
  ∀ (s : State) (n : Fin 128), s.isNsp n = true →
    let t0 := s.strand n
    (∀ words, t0.kind ≠ .none → t0.eof = false → t0.enumerating = false → t0.sentLines < t0.lines → t0.underrun = false →
      s.nextLine n = some words → ∃ t bank, exec (.dataLineSend n) s = .next t ∧
        (t.strand n).sentLines = t0.sentLines + 1 ∧ (t.strand n).buf = t0.buf.drop 1 ∧
        (t0.driving = true → s.lineItem n 0xA bank words ∈ (t.strand n).tx) ∧
        (∀ m, m ≠ n.val → t.strand m = s.strand m)) ∧
    (∀ l rest, t0.kind ≠ .none → t0.eof = false → t0.enumerating = false →
      (t0.lines ≤ t0.sentLines ∨ t0.underrun = true) → t0.cfg = l :: rest → t0.cfgSent < 32 →
      ∃ t, exec (.dataLineSend n) s = .next t ∧ (t.strand n).cfg = rest ∧ (t.strand n).cfgSent = t0.cfgSent + 1 ∧
        (t0.driving = true → s.lineItem n (if l.raw then 0xC else 0x5) 0
          (lineHeader (if l.raw then 0xC else 0x5) (l.words.length + 1) 0 :: BitVec.ofNat 16 l.driver :: l.words) ∈
            (t.strand n).tx)) ∧
    (t0.kind = .render → t0.eof = false → t0.underrun = false → t0.sentLines < t0.lines → s.nextLine n = none →
      ∃ t, exec (.underrun n) s = .next t ∧ (t.strand n).underrun = true ∧ (t.strand n).sentLines = t0.sentLines ∧
        (t0.driving = true → StrandItem.brk ∈ (t.strand n).tx) ∧ (s.regsOk → t.sees (Ev.UNDERRUN n) = true)) ∧
    (∀ b, (t0.kind = .render ∨ t0.kind = .dark) → t0.engineDown = false → s.dead = false →
      (s.synBits n)[t0.synDone]? = some b → ∃ t, exec (.syn n) s = .next t ∧ (t.strand n).synDone = t0.synDone + 1 ∧
        (t0.driving = true → (t.strand n).tx = t0.tx ++ [.syn]))

/-- R270, R274 to R278: a driven strand without a frame sends its queued lines in a command frame, but not in the gap of a
retime; after EOF the first queued return slot that ends within V_FP starts with its RTS; a valid STATUS reply of the driver
that was asked stores its words and ends its failures; a wrong one, or none, counts a failure, and the third in a row raises
DRIVER_LOST. -/
def Obligations.DriversAreAskedAndAnswer : Prop :=
  ∀ (s : State) (n : Fin 128) (slot : RetSlot) (rest : List RetSlot) (d : Driver) (r : ReplyIn),
    let t0 := s.strand n
    t0.driver? slot.driver = some d →
    let ok := crc16Words (r.head :: r.words) = r.crc ∧ bits r.head.toNat 15 6 = slot.driver
    let failed := fun (t : State) => (t.strand n).awaiting = none ∧
      (∃ d', (t.strand n).driver? slot.driver = some d' ∧ d'.failed = d.failed + 1 ∧ (2 ≤ d.failed → d'.lost = true)) ∧
      (s.regsOk → d.failed = 2 → t.sees (Ev.DRIVER_LOST n) = true)
    (s.commandFrameOk n = true → ∃ t, exec (.commandFrame n) s = .next t ∧ (t.strand n).kind = .command ∧
        (t.strand n).cfg = t0.cfg.drop 32 ∧ (t0.tx ++ [.sof]) <+: (t.strand n).tx) ∧
    (s.commandFrameOk n = false → exec (.commandFrame n) s = .next s) ∧
    (t0.enumerating = false →
      (∀ b, s.isNsp n = true → t0.driving = true → t0.eof = true → t0.awaiting = none → t0.ret = slot :: rest →
        s.slotStart n slot d = some b → ∃ t, exec (.rts n) s = .next t ∧ (t.strand n).awaiting = some slot ∧
          (t.strand n).ret = rest ∧ (t.strand n).released = true ∧
          (t.strand n).tx = t0.tx ++ [.rts slot.driver slot.sense (relayOf (s.slotBits n slot d))]) ∧
      (∀ status temp sense, t0.awaiting = some slot → ok → bits r.head.toNat 5 3 = 0 → r.words = status :: temp :: sense →
        slot.sense = false → slot.forCommand = false →
        ∃ t d', exec (.reply n r) s = .next t ∧ (t.strand n).awaiting = none ∧ (t.strand n).released = false ∧
          (t.strand n).driver? slot.driver = some d' ∧ d'.status = status ∧ d'.temp = temp ∧ d'.failed = 0 ∧
          d'.lost = false) ∧
      (t0.awaiting = some slot → ¬ok → slot.forCommand = false → ∃ t, exec (.reply n r) s = .next t ∧ failed t) ∧
      (t0.awaiting = some slot → slot.forCommand = false → ∃ t, exec (.replyTimeout n) s = .next t ∧ failed t))

/-- R281, R282, R261: an enumeration sends ENM with HOP 0 before its first RTS, and asks each driver in turn with RELAY 31; a
valid reply adds the driver, a slot that fails does not; when the loop has ended, what it found becomes the drivers of the
strand, in index order, and a strand that is not named or does not enumerate stays as it is; the receiver's edge is remembered, and outside
the swap window it breaks silence. -/
def Obligations.EnumerationFillsTheStrand : Prop :=
  ∀ (s : State) (n : Fin 128) (r : ReplyIn) (inWindow : Bool) (strands : List (Fin 128)),
    let t0 := s.strand n
    (s.enumRuns n = true → t0.scan.awaiting = false → ∃ t, exec (.rts n) s = .next t ∧
      (t.strand n).tx = t0.tx ++ (if t0.scan.sent then [] else [.enm 0]) ++ [.rts t0.scan.next false 31] ∧
      (t.strand n).scan.awaiting = true ∧ (t.strand n).scan.next = t0.scan.next ∧ (t.strand n).released = true) ∧
    (s.enumRuns n = true → t0.scan.awaiting = true →
      (∃ t, exec (.reply n r) s = .next t ∧ (t.strand n).released = false ∧ (t.strand n).scan =
        (if enumReplyOk t0.scan r then t0.scan.slotAnswered r.words r.sample else t0.scan.slotFailed) ∧
        ∀ m, m ≠ n.val → t.strand m = s.strand m) ∧
      (∃ t, exec (.replyTimeout n) s = .next t ∧ (t.strand n).released = false ∧ (t.strand n).scan = t0.scan.slotFailed)) ∧
    (n ∈ strands → t0.enumerating = true → t0.scan.ended = true → ∃ t, exec (.enumerationComplete strands) s = .next t ∧
      (t.strand n).enumerating = false ∧ (t.strand n).enumResult = t0.scan.result ∧
      (t.strand n).drivers.map (fun d => (d.word1, d.word2, d.lambda)) =
        t0.scan.caps.map (fun c => (c.1.getD 0 0, c.1.getD 1 0, c.2)) ∧
      (∀ m : Fin 128, m ∉ strands ∨ (s.strand m).enumerating = false → t.strand m = s.strand m)) ∧
    (s.firmwareUp = true → exec (.busSense n inWindow) s = .next (s.setStrand n { s.strand n with
      edgeNow := true, edgeUp := s.up, edgeJudged := (s.strand n).edgeJudged || !inWindow }))

/-- R291 to R295: a legacy frame that is fully rendered is sent as the codes of its lines without their headers, and one
that is not is skipped and counted; a DMX frame carries the start code 0 and the merged slots, and starts no earlier than the
one before allows; an RDM request leaves as E1.20 has it, and its response ends the transaction. -/
def Obligations.LegacyAndDmxPortsSendFrames : Prop :=
  ∀ (s : State) (n : Fin 128) (p : Fin 64) (brk : Bool) (m : RdmIn) (r : RdmReq) (rest : List RdmReq),
    let t0 := s.strand n
    let d0 := s.strand (2 * p.val)
    let tick := s.hearth.lastTickUp
    let far := d0.dmxFrame = [] ∨ max (d0.dmxStartUp + s.param P.DMX_MIN_PERIOD * 1000) d0.dmxEndUp ≤ tick
    (s.isLegacy n = true → t0.kind = .render → t0.eof = false → t0.lines ≠ 0 → t0.buf.length = t0.lines →
      t0.driving = true → ∃ t, exec (.legacyFrame n) s = .next t ∧ (t.strand n).eof = true ∧
        (t.strand n).tx = t0.tx ++ [.legacy (s.legacyForm n) (t0.buf.flatMap fun l => l.2.drop 1)] ∧
        t.regN (Reg.LEG_SKIP n) = s.regN (Reg.LEG_SKIP n)) ∧
    (s.isLegacy n = true → t0.kind = .render → t0.eof = false → t0.buf.length ≠ t0.lines → s.regsOk →
      s.regN (Reg.LEG_SKIP n) < 2 ^ 32 - 1 → ∃ t, exec (.legacyFrame n) s = .next t ∧ (t.strand n).eof = true ∧
        t.regN (Reg.LEG_SKIP n) = s.regN (Reg.LEG_SKIP n) + 1) ∧
    (s.dmxOn p = true → d0.rdmNow = none → d0.rdmEndUp ≤ tick → far →
      exec (.dmxFrame p) s = .next ((s.setStrand (2 * p.val) { d0 with
        dmxStartUp := tick, dmxEndUp := tick + s.dmxNs, dmxFrame := 0 :: s.dmxSlots p
        tx := d0.tx ++ [.dmx (s.param P.DMX_BREAK) (s.param P.DMX_MAB) (0 :: s.dmxSlots p)] }).count
          (Reg.DMX_FRAMES (2 * p.val)))) ∧
    (s.dmxOn p = true → d0.rdmNow = none → d0.rdm = r :: rest → d0.dmxFrame = [] →
      exec (.rdmTransaction p) s = .next (s.setStrand (2 * p.val) { d0 with
        rdm := rest, rdmNow := some r, rdmTn := (d0.rdmTn + 1) % 256
        rdmSentUp := s.up + s.rdmNs (s.rdmPacket r d0.rdmTn).length, tx := d0.tx ++ [.rdm (s.rdmPacket r d0.rdmTn)] })) ∧
    (d0.rdmNow = some r → ∃ t, exec (.rdmResponse p brk m) s = .next t ∧
      t.ctrl.waiting = s.ctrl.waiting.filter (fun w =>
        !(decide (w.chan = r.chan) && decide (w.ep = r.from_) && decide (w.seq = r.seq) && decide (w.why = .rdm p))) ∧
      t.strands = (s.setStrand (2 * p.val) { d0 with rdmNow := none, rdmEndUp := s.up }).strands)

/-- R321, R322, R329, R330, R504, R524, R320: what the sensors show. The die's reading is kept with its maximum, 115 °C warns, and
130 °C shuts the device down for good; a diode shows its offset temperature, or raises DIODE_FAULT once; a bank whose
second sample in a row lies outside its class goes to FAULT; FAULT_CLEAR resets the fault map in IDLE and SERVICE, and
EMERG_N is remembered until it is let go. -/
def Obligations.SensorsAndSuppliesAreWatched : Prop :=
  ∀ (s : State) (t : Int) (k : Fin 4) (b : Fin 8) (mv : Nat) (v : Word), s.firmwareUp = true → s.testing 2 0 = false →
    (t < 130 * 128 → ∃ u, exec (.dieTemp t) s = .next u ∧ u.lamp.die = t ∧ u.lamp.dieMax = max s.lamp.dieMax t ∧
      (115 * 128 ≤ t → u.lamp.dieWarn = true) ∧ (t < 110 * 128 → u.lamp.dieWarn = false) ∧ u.lamp.shutdown = s.lamp.shutdown ∧
      u.sched = s.sched) ∧
    (130 * 128 ≤ t → s.lamp.shutdown = false → s.sched.fatal = false → ∃ u, exec (.dieTemp t) s = .next u ∧
      u.lamp.shutdown = true ∧ u.sched.fatal = true ∧ u.sys.faultN = true ∧ u.jnl.frozen = true) ∧
    (∃ u, exec (.diodeMeasurement k (.temp t)) s = .next u ∧ u.diode k = some (t + s.paramI (P.DIODE_OFFSET k)) ∧
      u.regs = s.regs) ∧
    (s.diode k ≠ none → ∃ u, exec (.diodeMeasurement k .openCircuit) s = .next u ∧ u.diode k = none ∧
      (s.regsOk → u.sees Ev.DIODE_FAULT = true)) ∧
    ((s.bank b).foundClass ≠ 0 → (s.bank b).vclass ≠ 0 → vddioClass mv ≠ (s.bank b).foundClass →
      ((s.bank b).outRun = 0 → exec (.vddioSample b mv) s = .next (s.setBank b { s.bank b with outRun := 1 })) ∧
      ((s.bank b).outRun ≠ 0 → ∃ u, exec (.vddioSample b mv) s = .next u ∧ (u.bank b).vclass = 0 ∧
        ∀ n, n / 16 = b.val → n < 128 → (u.strand n).driving = false)) ∧
    (s.mode = .idle ∨ s.mode = .service → bit v.toNat 7 = true → ∃ u, exec (.faultClear v) s = .next u ∧
      u.lamp.faultMap = [] ∧ u.lamp.faultNext = [] ∧ u = { s with lamp := u.lamp }) ∧
    (s.fs.emergPin = false → ∃ u, exec .emergNAsserted s = .next u ∧ u.fs.emergPin = true ∧ u.fs.raised = s.fs.raised) ∧
    exec .emergNDeasserted s = .next { s with fs := { s.fs with emergPin := false } }

/-- R321: a zone that has had no temperature source for TEMP_LOST_TIME goes into fallback with ZONE_TEMP_LOST, not before
its time; a zone that has a source stays as it is. -/
def Obligations.ZoneFallsBackWithoutTemperature : Prop :=
  ∀ (s : State) (n : Fin 128) (h : Nat) (d : Driver), (s.strand n).driver? h = some d → s.mode ≠ .shadow →
    (s.zoneSource n h d = none → (s.zone n h).lost = false → ∃ t, exec (.zoneTempLost n h) s = .next t ∧
      (t.zone n h).lost = true ∧ t.lamp.anyLost = true ∧ (s.regsOk → t.sees Ev.ZONE_TEMP_LOST = true) ∧
      ((s.zone n h).lastSourceMs + s.param P.TEMP_LOST_TIME * 1000) * 1000000 ≤ t.up) ∧
    ((s.zoneSource n h d).isSome = true → exec (.zoneTempLost n h) s = .next s)

/-! ### Engines, scheduler, locks, arbiter and journal (R335 to R375) -/

/-- R337 to R342: a submission takes the first free slot, and raises TASK_SLOTS_FULL once when there is none; a WAITING task
becomes READY; an idle engine is given the READY task that nothing else precedes, and a busy one is preempted by a task of
higher priority; DONE tasks keep their result until it is read; a task in service is cancelled at its next yield point. -/
def Obligations.TasksRunInPriorityOrder : Prop :=
  ∀ (s : State) (e : Fin 20) (g : Fin 21) (n : Fin 512) (prio : Fin 8) (targets : List (Fin 21)) (flow : Option (Fin 256))
    (wait : TaskWait) (v : Word) (k m : Nat), s.storesOk →
    (s.engineRuns e = true → s.freeSlot = some k → ∃ t, exec (.taskSubmit e prio targets flow wait) s = .next t ∧
      64 ≤ k ∧ (t.task k).st = (if wait = .now then .ready else .waiting) ∧ (t.task k).prio = prio.val ∧
      (t.task k).targets = targets.map (·.val) ∧ (t.task k).flow = flow.map (·.val) ∧ ∀ j, j ≠ k → t.task j = s.task j) ∧
    (s.engineRuns e = true → s.freeSlot = none → s.sched.refusing = false →
      ∃ t, exec (.taskSubmit e prio targets flow wait) s = .next t ∧ t.sched = { s.sched with refusing := true } ∧
        (s.regsOk → t.sees Ev.TASK_SLOTS_FULL = true)) ∧
    ((s.task n).st = .waiting → s.sys.inReset = false → ∃ t, exec (.taskReady n) s = .next t ∧
      (t.task n).st = .ready ∧ ∀ j, j ≠ n.val → t.task j = s.task j) ∧
    (s.engineRuns g = true → (g.val = 20 → s.dead = false) → (s.engine g).task = none → s.suspendedTask g = none →
      s.bestTask g = some k → (∃ t, exec (.taskDispatch g) s = .next t ∧ (t.engine g).task = some k ∧
        (t.task k).st = .dispatched ∧ (t.task k).engine = g.val) ∧ s.eligibleTask k = true ∧
        ∀ j, s.eligibleTask j = true → (s.task j).targets.contains g.val = true → (s.task j).before (s.task k) = false) ∧
    (s.engineRuns g = true → (g.val = 20 → s.dead = false) → (s.engine g).task = some m → (s.task m).cancelReq = false →
      s.bestTask g = some k → (s.task k).prio < (s.task m).prio → ∃ t, exec (.taskDispatch g) s = .next t ∧
        (t.engine g).task = some k ∧ (t.task k).st = .dispatched ∧ (t.task m).st = .suspended) ∧
    (s.engineRuns g = true → (s.engine g).task = some k → ∃ t, exec (.taskDone g) s = .next t ∧ (t.engine g).task = none ∧
      (t.task k).st = .done ∧ (t.task k).result = 0) ∧
    (((s.task (v.toNat % 512)).st = .waiting ∨ (s.task (v.toNat % 512)).st = .ready) → ∃ t,
      exec (.taskCancel v) s = .next t ∧ (t.task (v.toNat % 512)).st = .done ∧ (t.task (v.toNat % 512)).result = 1) ∧
    ((s.task (v.toNat % 512)).inService = true → ∃ t, exec (.taskCancel v) s = .next t ∧
      t.task (v.toNat % 512) = { s.task (v.toNat % 512) with cancelReq := true }) ∧
    ((s.task n).st = .done → ∃ t, exec (.completionRecordRead n) s = .next t ∧ (t.task n).st = .free)

/-- R345, R346, R349 to R352: an engine takes a free lock, waits in line for a held one, and hands it to the first that
waits; a try never waits. An engine that faults lets its locks go, its task becomes READY again after a first fault, and it
restarts in its time; holding a lock too long and running without a yield point are faults. -/
def Obligations.LocksAndEngineFaultsFollowTheirRules : Prop :=
  ∀ (s : State) (e : Fin 20) (n : Fin 64) (tryOnly : Bool) (cause : FaultCause) (pc : Word) (o k : Nat), s.storesOk →
    let free := fun (t : State) (h : Nat) => ∀ j, tryOnlyLock j = false → (t.lock j).owner ≠ some h
    let down := fun (t : State) (h : Nat) => free t h ∧ (t.engine h).task = none ∧
      ((t.engine h).restarting = true ∨ (t.engine h).halted = true) ∧ (s.regsOk → t.sees Ev.ENGINE_FAULT = true)
    (s.engineRuns e = true → s.lockBlocked e = false → (tryOnlyLock n = false → s.lockOrderOk e n = true) →
      ((s.lock n).owner = none → (tryOnlyLock n = true → tryOnly = true) → ∃ t, exec (.lockAcquire e n tryOnly) s = .next t ∧
        (t.lock n).owner = some e.val ∧ (tryOnly = true → t.ctrl.regOut = BitVec.ofNat 32 e) ∧ t.sched.tasks = s.sched.tasks) ∧
      ((s.lock n).owner = some o → tryOnlyLock n = false → ∃ t, exec (.lockAcquire e n false) s = .next t ∧
        t.lock n = { s.lock n with waiters := (s.lock n).waiters ++ [e.val] }) ∧
      ((s.lock n).owner = some o → exec (.lockAcquire e n true) s =
        .next { s with ctrl := { s.ctrl with regOut := BitVec.ofNat 32 o } })) ∧
    (s.engineRuns e = true → s.lockBlocked e = false → tryOnlyLock n = false → s.lockOrderOk e n = false →
      ∃ t, exec (.lockAcquire e n false) s = .next t ∧ down t e) ∧
    (s.engineRuns e = true → (s.lock n).owner = some e.val → ∃ t, exec (.lockRelease e n) s = .next t ∧
      (t.lock n).owner = (s.lock n).waiters.head? ∧ (t.lock n).waiters = (s.lock n).waiters.drop 1 ∧
      ∀ j, j ≠ n.val → t.lock j = s.lock j) ∧
    ((s.lock n).owner = some e.val → tryOnlyLock n = false → s.engineRuns e = true → ∃ t,
      exec (.lockHold n) s = .next t ∧ down t e ∧ (s.lock n).sinceUp + 20000 < t.up) ∧
    (s.engineRuns e = true → ∃ t, exec (.engineFault e cause pc) s = .next t ∧ down t e ∧
      (e.val ≠ 1 → (s.engine e).lastFaultUp = none → s.mode ≠ .boot → (s.engine e).task = some k →
        (s.task k).cancelReq = false → (s.task k).faults = 0 → (t.engine e).restarting = true ∧
        (t.task k).st = .ready ∧ (t.task k).faults = 1)) ∧
    ((s.engine e).task = some k → s.engineRuns e = true → ∃ t, exec (.taskWdt e) s = .next t ∧ down t e ∧
      (s.engine e).yieldUp + 5 * yieldNs e ≤ t.up) ∧
    ((s.engine e).restarting = true → ∃ t, exec (.engineRestarted e) s = .next t ∧
      (t.engine e).restarting = false ∧ (s.regsOk → t.sees Ev.ENGINE_RESTARTED = true) ∧
      ((s.engine e).lastFaultUp.getD 0) + restartNs e ≤ t.up ∧
      (e.val ≠ 0 → ∀ j, j ∈ sqStrands e → (t.strand j).engineDown = false))

/-- R355 to R360: each decision of a channel's arbiter grants a waiting class of the lowest rank, and requests are neither
lost nor made unless a lane reads ahead; while no wait has crossed its threshold the journal gets no entry; a withdrawn request is issued again no earlier than its cycle; a starved class is reported once; new ranks
leave the waiting requests as they are. -/
def Obligations.ArbiterServesTheLowestRank : Prop :=
  ∀ (s : State) (c : Fin 2) (k : Fin 8) (v : Word),
    let a := s.channelArb c
    (s.channelPopulated c = true → a.waiting ≠ [] → (∀ w ∈ a.waiting, w.1 < 8) → ∃ t, exec (.burstGrant c) s = .next t ∧
      (∀ w ∈ a.waiting, rankOf a.ranks (t.channelArb c).owner ≤ rankOf a.ranks w.1) ∧
      a.waits (t.channelArb c).owner = true ∧
      (t.anvil.readAhead = s.anvil.readAhead →
        (t.channelArb c).waiting.length + (t.channelArb c).withdrawn.length + 1 = a.waiting.length + a.withdrawn.length ∧
        ∀ d, d ≠ c → t.channelArb d.val = s.channelArb d.val) ∧
      (∀ w ∈ (t.channelArb c).withdrawn, w ∉ a.withdrawn → 5 ≤ w.1) ∧
      ((∀ w ∈ a.waiting, w.1 ∈ a.warned ∨ s.arbCycle a < w.2 + s.starveLimit c w.1) → t.jnl = s.jnl) ∧
      t.strands = s.strands ∧ t.mode = s.mode) ∧
    (∀ due rest, takeRequest k a.withdrawn = some (due, rest) → ∃ t now, exec (.turnForecastReissue c k) s = .next t ∧
      due ≤ now ∧ (t.channelArb c).waiting = a.waiting ++ [(k.val, now)] ∧ (t.channelArb c).withdrawn = rest ∧
      (t.channelArb c).cycle = now) ∧
    (a.waits k = true → k.val ∉ a.warned → ∃ t, exec (.starveWarn c k) s = .next t ∧
      (t.channelArb c).warned = a.warned ++ [k.val] ∧ (t.channelArb c).waiting = a.waiting ∧
      (s.regsOk → t.sees Ev.STARVE_WARN = true) ∧ (∀ j, exec (.starveWarn c k) t = .next j → j = t)) ∧
    (∃ t, exec (.arbRank c v) s = .next t ∧ t.channelArb c = { a with ranks := v.toNat % 2 ^ 24 } ∧
      ∀ d, d ≠ c → t.channelArb d.val = s.channelArb d.val)

/-- R363, R367, R368, R371 to R373: an entry waits behind the others of its source, a full buffer drops it and counts; an urgent
one goes ahead of those that are not; a spill moves 256 entries to the DRAM ring and loses none of the on-chip ones; the
stream sends waiting entries in order; the entry numbers read in two halves that belong together. -/
def Obligations.JournalKeepsEntriesInOrder : Prop :=
  ∀ (s : State) (src : Fin 48) (kind : Fin 6) (code : BitVec 16) (payload : BitVec 64) (v : Word),
    let e : JEntry := ⟨s.short, src, kind, code.toNat, payload.toNat⟩
    let b := s.jSource src
    let normal := b.wait.filter fun x => !x.urgent && decide (x.kind ≠ Kind.LOSS)
    let first := s.jnl.next - s.jnl.unspilled
    let w := s.streamWaiting.take s.dgramMax
    (s.jnl.started = true → s.jnl.frozen = false →
      (e.urgent = false → normal.length < 4 → b.dropped = 0 → ∃ t, exec (.journalEntry src kind code payload) s = .next t ∧
        (t.jSource src).wait = b.wait ++ [e] ∧ ∀ j, j ≠ src.val → t.jSource j = s.jSource j) ∧
      (e.urgent = false → 4 ≤ normal.length → ∃ t, exec (.journalEntry src kind code payload) s = .next t ∧
        (t.jSource src).wait = b.wait ∧ (t.jSource src).dropped = b.dropped + 1) ∧
      (e.urgent = true → ∃ t, exec (.journalEntry src kind code payload) s = .next t ∧
        (t.jSource src).wait = b.wait.takeWhile (·.urgent) ++ [e] ++ b.wait.dropWhile (·.urgent))) ∧
    ((s.jnl.started = false ∨ s.jnl.frozen = true) → exec (.journalEntry src kind code payload) s = .next s) ∧
    (s.jnl.frozen = false → 256 ≤ s.jnl.unspilled → ∃ t, exec .journalSpill s = .next t ∧
      t.jnl.unspilled = s.jnl.unspilled - 256 ∧ t.jnl.ring = s.jnl.ring ∧ t.jnl.next = s.jnl.next ∧
      ∀ i, i < 256 → ∀ x, s.jAt (first + i) = some x → (first + i, x) ∈ t.jnl.dram) ∧
    (s.streamOn = true → s.sys.inReset = false → w ≠ [] → ∃ t, exec .journalDatagram s = .next t ∧
      (∀ p ∈ w, p.1 < t.jnl.streamNext) ∧ (∃ p ∈ w, t.jnl.streamNext = p.1 + 1) ∧
      ((s.mac s.streamEgress).up = true → ∃ f, (t.mac s.streamEgress).own = (s.mac s.streamEgress).own ++ [f] ∧
        f.dst = s.paramBytes P.JNL_STREAM_DEST ∧ f.payload.drop 24 = w.flatMap fun p => p.2.bytes)) ∧
    (s.jnl.started = true → s.jnl.frozen = false → 2 ≤ s.jnl.ringCap → s.jnl.ring.length ≤ s.jnl.next → ∃ t i,
      exec (.jnlMark v) s = .next t ∧ s.jnl.next ≤ i ∧ t.jAt i = some ⟨s.short, 0x0A, 4, 8, v.toNat * 2 ^ 32⟩) ∧
    (∃ t, exec .jnlNextHi s = .next t ∧
      (s.jnl.next < 2 ^ 64 → t.ctrl.regOut.toNat * 2 ^ 32 + t.jnl.latchNext = s.jnl.next)) ∧
    (∃ t, exec .jnlOldestHi s = .next t ∧
      (s.jnl.next < 2 ^ 64 → t.ctrl.regOut.toNat * 2 ^ 32 + t.jnl.latchOldest = s.jOldest))

/-! ### Host window, registers and mailbox commands (R19, R376 to R412) -/

/-- R376 to R379, R382, R383, R372: a write with the device's ID, or with ID 7 while broadcasts are enabled, takes its words
one by one from its address on; a read with the device's ID answers one word for each word asked and changes nothing that a
command has put in place; any other ID finds no device. SUBMIT copies the request buffer, or is an overrun when it may not;
reading MBX_RSP to its end reads the selected response; ones clear IRQ_STATUS, and EVENT and FATAL stand while their cause
does; a write of JW_FIRST_LO selects journal entries. -/
def Obligations.HostTransactionsReachTheWindow : Prop :=
  ∀ (s : State) (id : Fin 8) (a : BitVec 16) (w v : Word) (ws : List Word) (n : Nat) (x : Slot),
    let base := a.toNat / 4 * 4
    let mine := s.sys.inReset = false ∧ id.val = s.sys.idStrap
    let heard := s.sys.inReset = false ∧ (id.val = s.sys.idStrap ∨ (id.val = 7 ∧ s.ctrl.bcastEn = true))
    let quiet := fun (t : State) => t = { s with ctrl := { s.ctrl with spiAnswered := false, spiOut := [] } }
    let buffer := bytesOfWords ((List.range 256).map fun i => SMap.get (fun _ => 0) s.ctrl.mbxReq i)
    let q := buffer.take (16 + field buffer 10 2)
    let free := s.served = true ∧ s.ctrl.reqFree = true ∧ s.inFlight0 < 4
    (heard → exec (.write id a (w :: ws)) s = .next (((s.winWrite base w).winWrites ((base + 4) % 65536) ws).answerSpi true []) ∧
      exec (.qwrite id a (w :: ws)) s = exec (.write id a (w :: ws)) s) ∧
    (¬heard → ∃ t, exec (.write id a ws) s = .next t ∧ exec (.qwrite id a ws) s = .next t ∧ quiet t) ∧
    (heard → s.mode ≠ .boot → s.ctrl.reqFree = true → 0x1000 ≤ base → base < 0x1400 → w ≠ 0 →
      ∃ t, exec (.write id a [w]) s = .next t ∧ (t.winRead base).2 = w ∧ t = { s with ctrl := t.ctrl }) ∧
    (mine → ∃ t, exec (.read id a n) s = .next t ∧ exec (.qread id a n) s = .next t ∧
      t = { s with ctrl := t.ctrl, hearth := t.hearth } ∧ t.ctrl.staged = s.ctrl.staged ∧
      t.ctrl.waiting = s.ctrl.waiting ∧ t.ctrl.submitted = s.ctrl.submitted ∧ t.ctrl.spiAnswered = true ∧
      t.ctrl.spiOut.length = n ∧ t.hearth.timing = s.hearth.timing) ∧
    (¬mine → ∃ t, exec (.read id a n) s = .next t ∧ exec (.qread id a n) s = .next t ∧ quiet t) ∧
    (mine → base = 0 → exec (.read id a 1) s = .next (s.answerSpi true [0x48560960])) ∧
    (s.firmwareUp = true → v.getLsbD 0 = true → free →
      (∀ y ∈ (s.ctrl.submitted ++ [q]).head?, rowless y = false) → ∃ t, exec (.mbxCtrl v) s = .next t ∧
        t.ctrl.submitted = s.ctrl.submitted ++ [q] ∧ bit t.ctrl.irq Irq.REQ_FREE = true ∧ t.ctrl.overrun = s.ctrl.overrun) ∧
    (s.firmwareUp = true → v.getLsbD 0 = true → ¬free → ∃ t, exec (.mbxCtrl v) s = .next t ∧ t.ctrl.overrun = true ∧
      t.ctrl.submitted = s.ctrl.submitted) ∧
    (s.firmwareUp = true → s.ctrl.ch0.holds s.ctrl.mbxSel = some x → x.done = true → x.acked = false →
      x.payload.length ≤ 1008 → ∃ t, exec .mbxRsp s = .next t ∧
        t.ctrl.spiOut = wordsOf (s.ctrl.ch0.responseBytes x) (4 + ceilDiv x.payload.length 4) ∧
        t.ctrl.ch0.holds s.ctrl.mbxSel = some { x with seen := true }) ∧
    (s.sys.inReset = false → ∃ t, exec (.irqStatus v) s = .next t ∧ t = { s with ctrl := { s.ctrl with irq := t.ctrl.irq } } ∧
      ∀ b, bit t.ctrl.irq b = (bit s.ctrl.irq b && (!bit v.toNat b || (decide (b = Irq.EVENT) && !s.ctrl.ch0.queue.isEmpty) ||
        (decide (b = Irq.FATAL) && s.sched.fatal)))) ∧
    (s.firmwareUp = true → exec (.jwFirstLo v) s =
      .next { s with jnl := { s.jnl with jwLo := v.toNat, jwSel := some (s.jnl.jwHi * 2 ^ 32 + v.toNat) } })

/-- R19, with R34 and R129: a register takes a write bit by bit as its access codes say: RW bits, and RWL bits of an unlocked
accessor, take the value, W1C bits clear where a one is written, and all others stay; a write that RWL refuses is ignored and
journalled; a read returns what stands there, 0 in write-only bits, and clears the RC bits to their reset values; the low word
of a byte counter latches the high one, and reading that clears both. Registers whose description has a rule of its own are
told apart by `plain` and `State.view`; those rules have statements of their own. What an engine writes to the DRAM or to an engine's local memory it reads back, and
an unmapped word reads 0. -/
def Obligations.RegistersFollowTheirAccessCodes : Prop :=
  (∀ (s : State) (a v : Word), s.sys.inReset = false →
    let place := placeOf (cpAddress a.toNat)
    ((place = .dram ∨ place = .cpLocal ∨ place = .scLocal ∨ (∃ e, place = .peLocal e) ∨ ∃ e, place = .sqLocal e) →
      ∃ t u, exec (.registerWrite .engine a v) s = .next t ∧ t = { s with memory := t.memory } ∧
        exec (.counterRead a) t = .next u ∧ u.ctrl.regOut = v) ∧
    (0xC0000000 ≤ a.toNat → place = .dram) ∧
    (place = .unmapped → ∃ t, exec (.counterRead a) s = .next t ∧ t.ctrl.regOut = 0)) ∧
  ∀ (s : State) (a v : Word) (by_ : Accessor) (r : RegRow), s.regsOk → s.sys.inReset = false → regRow a.toNat = some r →
    let plain := s.writeOwn by_ a.toNat v = none ∧ queueDoneOf a.toNat = none
    let pairHigh := a.toNat = Reg.TIME_SEC_HI ∨ a.toNat = Reg.TICK_INDEX_HI ∨ a.toNat = Reg.JNL_NEXT_HI ∨
      a.toNat = Reg.JNL_OLDEST_HI
    (∀ (o : Bool) (old : Nat) (b : Nat), (r.written o old v.toNat).testBit b =
      ((if (r.rw ||| (if o then r.rwl else 0)).testBit b then v.toNat.testBit b else old.testBit b) &&
        !(v.toNat.testBit b && r.w1c.testBit b))) ∧
    (plain → s.rwlRefuses r by_ = false → ignoresWrite a.toNat v.toNat = false → macCtrlPort a.toNat = none →
      queueSetOf a.toNat = none → lbStrandOf a.toNat = none → a.toNat ≠ Reg.PPS_CTRL → a.toNat ≠ Reg.TICK_OD_CTRL → ∃ t, exec (.registerWrite by_ a v) s = .next t ∧
        t.regN a.toNat = r.written (s.unlocked by_) (s.regN a.toNat) v.toNat % 2 ^ 32 ∧
        (∀ c, c ≠ a.toNat → t.reg c = s.reg c) ∧ t = { s with regs := t.regs }) ∧
    (plain → r.rwl ≠ 0 → s.unlocked by_ = false → ∃ t, exec (.registerWrite by_ a v) s = .next t ∧ s.sameButRecords t ∧
      t.reg a.toNat = s.reg a.toNat ∧
      (s.jnl.started = true → s.jnl.frozen = false → s.jSource Src.CP = {} → s.jnl.next < t.jnl.next)) ∧
    (s.view a.toNat = none → ¬pairHigh → a.toNat ≠ Reg.DIE_TEMP → byteLow a.toNat = false → byteHigh a.toNat = false → ∃ t,
      exec (.counterRead a) s = .next t ∧ t.ctrl.regOut.toNat = (s.regN a.toNat &&& r.dfd) &&& (2 ^ 32 - 1 - r.wo) ∧
      (∀ b, (t.regN a.toNat).testBit b =
        if r.rc.testBit b then (regReset a.toNat).toNat.testBit b else (s.regN a.toNat).testBit b) ∧
      ∀ c, c ≠ a.toNat → t.reg c = s.reg c) ∧
    (byteLow a.toNat = true → ∃ t u, exec (.counterRead a) s = .next t ∧ t.ctrl.regOut = s.reg a.toNat ∧
      exec (.byteCounterHiRead (a + 4)) t = .next u ∧ u.ctrl.regOut = s.reg (a.toNat + 4) ∧ u.reg a.toNat = 0 ∧
      u.reg (a.toNat + 4) = 0)

/-- R371, R406, R408, R410: what the commands answer that read registers, counters, the journal and events out: as many words
as asked; the entries of the journal from FIRST on that KINDS selects; the oldest entries of the channel's own queue, which
leave it. -/
def Obligations.ReadoutCommandsAnswer : Prop :=
  ∀ (s u : State) (r : Request),
    let p := r.payload
    let c := u.client r.chan r.from_
    let max := byteAt p 1
    let rest := { c with queue := c.queue.drop max, overflow := false }
    (s.begun Op.REG_READ r = some u → regRangeOk (field p 0 4) (field p 4 2) 252 = true →
      let x := u.regReadWords (field p 0 4) (field p 4 2)
      exec (.regRead r) s = .next (x.1.replied Op.REG_READ r (.done Status.OK (bytesOfWords x.2))) ∧ x.2.length = field p 4 2) ∧
    (s.begun Op.REG_READ r = some u → regRangeOk (field p 0 4) (field p 4 2) 252 = false →
      exec (.regRead r) s = .next (u.replied Op.REG_READ r (.plain Status.BAD_PARAM))) ∧
    (s.begun Op.REG_WRITE r = some u → regRangeOk (field p 0 4) (field p 4 2) 250 = true →
      let x := u.regWriteWords (.client r.chan r.from_) (field p 0 4) (wordsOf (p.drop 8) (field p 4 2))
      exec (.regWrite r) s = .next (x.1.replied Op.REG_WRITE r (.done Status.OK (beBytes 2 x.2.1 ++ beBytes 2 x.2.2))) ∧
        x.2.1 + x.2.2 ≤ field p 4 2) ∧
    (s.begun Op.COUNTERS_READ r = some u → counterInstanceOk (byteAt p 0) (byteAt p 1) = true →
      let x := u.readCounters (counterWords (byteAt p 0) (byteAt p 1))
      exec (.countersRead r) s = .next (x.1.replied Op.COUNTERS_READ r (.done Status.OK
        (beBytes 1 (byteAt p 0) ++ beBytes 1 (byteAt p 1) ++ beBytes 2 x.2.length ++ bytesOfWords x.2))) ∧
        x.2.length = (counterWords (byteAt p 0) (byteAt p 1)).length) ∧
    (∀ l, s.begun Op.JOURNAL_READ r = some u → 1 ≤ byteAt p 8 → byteAt p 8 ≤ 61 → byteAt p 9 ≤ 1 → bit (byteAt p 10) 0 = false →
      u.jSourceEntries (decide (byteAt p 9 = 1)) = some l →
      exec (.journalRead r) s = .next (({ u with draws := u.draws + 1 } : State).replied Op.JOURNAL_READ r
        (.done Status.OK (u.journalReply l (field p 0 8) (byteAt p 8) (field p 12 4)))) ∧
      (field p 0 8 < 2 ^ 64 - 1 → (u.journalReply l (field p 0 8) (byteAt p 8) (field p 12 4)).drop 24 =
        ((l.filter fun e => decide (field p 0 8 ≤ e.1) && kindSelected (field p 12 4) e.2).take (byteAt p 8)).flatMap
          fun e => e.2.bytes)) ∧
    (s.begun Op.EVENTS_READ r = some u → max ≤ 62 → bit (byteAt p 0) 0 = false → exec (.eventsRead r) s =
      .next ((u.setClient r.chan r.from_ rest).replied Op.EVENTS_READ r (.done Status.OK
        (beBytes 1 (min max c.queue.length) ++ beBytes 1 (b2n c.overflow) ++ List.replicate 6 0 ++
          (c.queue.take max).flatMap fun e => e.bytes)))) ∧
    (s.begun Op.EVENTS_READ r = some u → max ≤ 62 → bit (byteAt p 0) 0 = true → ∃ rep, exec (.eventsRead r) s =
      .next ((u.setClient r.chan r.from_ { rest with kinds := field p 4 4, sources := field p 8 8 }).replied Op.EVENTS_READ r rep))

/-- R159 to R161, R389, R393 to R397: HELLO offers the highest common version, and a control host, which names none,
gets UNSUPPORTED_VERSION (log 35); a session takes a free scope with a handle of its
own, holds the scope's lock and runs out at its lease, and a busy scope is refused; closing it, or its expiry, frees the
lock; KEEPALIVE answers the lease; RESPONSE_ACK takes no slot, sends nothing and discards the response of the slot that its
SEQ names, and leaves every slot as it is where its judgement fails, no slot holds that SEQ, or its response is not
complete; in either case it restarts its session's lease. -/
def Obligations.SessionsHoldTheirScope : Prop :=
  ∀ (s u : State) (r : Request) (x : Session) (k : Fin 5) (y : Slot),
    let p := r.payload
    let v := selectedVersion (byteAt p 1)
    let lease := if field p 2 2 = 0 then u.param P.SESSION_LEASE else field p 2 2
    let a := (s.popSubmitted Op.RESPONSE_ACK r).admits r
    (s.begun Op.HELLO r = some u → byteAt p 0 = 0 → exec (.hello r) s =
      .next (u.replied Op.HELLO r (.done Status.UNSUPPORTED_VERSION (u.helloReply 0 r.chan)))) ∧
    (s.begun Op.HELLO r = some u → byteAt p 0 ≠ 0 → ∃ t : State, exec (.hello r) s =
      .next (t.replied Op.HELLO r (.done (if v = 0 then Status.UNSUPPORTED_VERSION else Status.OK) (u.helloReply v r.chan))) ∧
        byteAt (u.helloReply v r.chan) 1 = v ∧ u.sameButRecords { t with draws := u.draws } ∧
        (v ≠ 0 → bit (byteAt p 1) v = true) ∧ ∀ w, 1 ≤ w → w ≤ 3 → v < w → bit (byteAt p 1) w = false) ∧
    (s.begun Op.SESSION_OPEN r = some u → byteAt p 0 ≤ 4 → 5 ≤ lease → lease ≤ 300 → u.scopeFree (byteAt p 0) = true →
      u.ctrl.sessions.length ≤ 4 → ∃ (t : State) (h : Nat), exec (.sessionOpen r) s =
        .next (t.replied Op.SESSION_OPEN r (.done Status.OK (beBytes 2 h ++ beBytes 2 lease))) ∧ h ≠ 0 ∧
        (∀ z ∈ u.ctrl.sessions, z.handle ≠ h) ∧ (t.lock (40 + byteAt p 0)).owner = some 0 ∧ t.ctrl.sessions =
          u.ctrl.sessions ++ [⟨byteAt p 0, r.chan, r.from_, h, lease, u.up + lease * 1000000000, false⟩]) ∧
    (s.begun Op.SESSION_OPEN r = some u → byteAt p 0 ≤ 4 → 5 ≤ lease → lease ≤ 300 → u.scopeFree (byteAt p 0) = false →
      ∃ t : State, exec (.sessionOpen r) s = .next (t.replied Op.SESSION_OPEN r (.done Status.DENIED_LOCK (u.lockDetail (byteAt p 0)))) ∧
        u.sameButRecords t ∧ (u.regsOk → t.sees Ev.SESSION_DENIED = true)) ∧
    (s.begun Op.SESSION_CLOSE r = some u → u.storesOk → u.session r.chan r.from_ r.client.toNat = some x →
      u.sessionBusy x.handle = false → ∃ t : State, exec (.sessionClose r) s = .next (t.replied Op.SESSION_CLOSE r (.plain Status.OK)) ∧
        t.ctrl.sessions = u.ctrl.sessions.filter (fun z => decide (z.handle ≠ x.handle)) ∧
        (t.lock (40 + x.scope)).owner = none) ∧
    (s.begun Op.KEEPALIVE r = some u → u.session r.chan r.from_ r.client.toNat = some x → r.client ≠ 0 →
      exec (.keepalive r) s = .next (u.replied Op.KEEPALIVE r (.done Status.OK
        (beBytes 4 (x.lease * 1000) ++ beBytes 1 u.mode.code ++ [0, 0, 0])))) ∧
    (s.served = true → s.channelOn r.chan = true → r.chan ≠ .c3 → a.2 = true → (a.1.client r.chan r.from_).holds r.seq = some y →
      y.done = true → a.1.judge Op.RESPONSE_ACK r = none → exec (.responseAck r) s = .next (((a.1.setClient r.chan r.from_
        ((a.1.client r.chan r.from_).setSlot r.seq (some { y with acked := true, payload := [] }))).restartLease
          r.client.toNat).afterRequest r.chan)) ∧
    (s.served = true → s.channelOn r.chan = true → r.chan ≠ .c3 → a.2 = true →
      a.1.judge Op.RESPONSE_ACK r ≠ none ∨ (∀ z, (a.1.client r.chan r.from_).holds r.seq = some z → z.done = false) →
      exec (.responseAck r) s = .next ((a.1.restartLease r.client.toNat).afterRequest r.chan)) ∧
    (s.storesOk → s.sessionOf k = some x → s.sessionBusy x.handle = false → s.firmwareUp = true → ∃ t,
      exec (.sessionExpired k) s = .next t ∧ x.until_ ≤ t.up ∧ (∀ z ∈ t.ctrl.sessions, z.handle ≠ x.handle) ∧
      (t.lock (40 + k)).owner = none ∧ (s.regsOk → t.sees Ev.SESSION_EXPIRED = true))

/-- R400 to R403, R454, R455, R457: PARAM_GET shows values; PARAM_SET stages valid records for its own channel and applies
nothing; PARAM_COMMIT hands what is staged to the next tick; STORE erases the copy that it will write, and its completion
writes it; FACTORY_RESET erases what it names and, where no reset is due yet, resets the device 100 ms later. -/
def Obligations.ParametersAreStagedCommittedAndStored : Prop :=
  ∀ (s u : State) (r : Request) (l recs : List (Nat × List Byte)) (e : Nat × Nat) (b : Bool) (c : Settings),
    let p := r.payload
    let me := u.client r.chan r.from_
    let out := (requestIds p).flatMap (u.getRecord me (bit (field p 0 2) 0))
    let asks := s.begun Op.PARAM_SET r = some u ∧
      parseRecords (r.len.toNat / 4 + 1) (p.take r.len.toNat) = some recs
    let kept := u.setClient r.chan r.from_ { me with staging := [] }
    let target := u.nvm.storeTarget
    (s.begun Op.PARAM_GET r = some u → 1 ≤ (requestIds p).length → (requestIds p).length ≤ 250 →
      (∀ i ∈ requestIds p, (paramRow i).isSome = true) → out.length ≤ 1008 →
      exec (.paramGet r) s = .next (u.replied Op.PARAM_GET r (.done Status.OK out))) ∧
    (asks → stageAll me.staging recs = .ok l → exec (.paramSet r) s =
      .next ((u.setClient r.chan r.from_ { me with staging := l }).replied Op.PARAM_SET r (.plain Status.OK)) ∧
      stagedBytes l ≤ max 4096 (stagedBytes me.staging) ∧ (∀ q ∈ recs, paramOk q.1 q.2 = true) ∧
      ∀ i, (∀ q ∈ recs, q.1 ≠ i) → ({ me with staging := l } : Client).staged i = me.staged i) ∧
    (asks → stageAll me.staging recs = .error e →
      exec (.paramSet r) s = .next (u.replied Op.PARAM_SET r (.done e.1 (beBytes 2 e.2)))) ∧
    (s.begun Op.PARAM_COMMIT r = some u → bit (byteAt p 0) 0 = false → me.staging ≠ [] → u.commitRefused me.staging = none →
      exec (.paramCommit r) s = .next ((kept.stage (.commit me.staging (u.startsRetime me.staging))).replied Op.PARAM_COMMIT r
        (.wait (.change u.ctrl.stagedId)))) ∧
    (∀ d, s.begun Op.PARAM_COMMIT r = some u → bit (byteAt p 0) 0 = false → me.staging ≠ [] →
      u.commitRefused me.staging = some d →
      exec (.paramCommit r) s = .next (u.replied Op.PARAM_COMMIT r (.done d.1 d.2))) ∧
    (s.begun Op.STORE r = some u → u.work.storing = none → u.work.resetDue = none → ∃ t : State,
      exec (.store r) s = .next (t.replied Op.STORE r (.wait .store)) ∧
      t.work.storing = some (target.1, ⟨target.2, u.sys.fwVersion, u.settingsRecords⟩) ∧
      (target.1 = true → t.nvm = { u.nvm with copyB := none }) ∧ (target.1 = false → t.nvm = { u.nvm with copyA := none })) ∧
    (s.work.storing = some (b, c) → ∃ t, exec .storeComplete s = .next t ∧ t.work.storing = none ∧
      t.nvm = (if b then { s.nvm with copyB := some c } else { s.nvm with copyA := some c })) ∧
    (s.begun Op.FACTORY_RESET r = some u → byteAt p 0 % 4 ≠ 0 → u.work.resetDue = none → ∃ t : State,
      exec (.factoryReset r) s = .next (t.replied Op.FACTORY_RESET r (.plain Status.OK)) ∧
      t.work.resetDue = some (3, u.up + 100000000) ∧
      (bit (byteAt p 0) 0 = true → t.nvm.copyA = none ∧ t.nvm.copyB = none) ∧
      (bit (byteAt p 0) 0 = false → t.nvm.copyA = u.nvm.copyA ∧ t.nvm.copyB = u.nvm.copyB) ∧
      (bit (byteAt p 0) 1 = true → t.nvm.level = 0 ∧ t.nvm.key = none ∧ t.nvm.pwDigest = none) ∧
      (bit (byteAt p 0) 1 = false → t.nvm.level = u.nvm.level ∧ t.nvm.key = u.nvm.key))

/-- R6 to R9, R66, R79 to R82, R408, R409, R416, R430, R444: the commands of modes, time and roles answer at once or wait for their
tick: a MODE_SET that may be ordered waits, a TIMING_SET schedules its retime, a DOMAIN_SELECT waits for the new domain, a
ROLE_SET waits, and a SWITCHOVER schedules tick X on both members. -/
def Obligations.ModeTimeAndRoleCommands : Prop :=
  ∀ (s u : State) (r : Request) (m : Mode) (x : Role) (d : Bool),
    let p := r.payload
    let t := requestTiming p
    let f : Flavour := if bit (byteAt p 1) 0 then .warm else .hot
    (s.begun Op.MODE_GET r = some u → exec (.modeGet r) s = .next (u.replied Op.MODE_GET r (.done Status.OK
      (beBytes 1 u.mode.code ++ beBytes 1 u.ctrl.prevMode.code ++ beBytes 1 (u.param P.HOLD_POLICY) ++ beBytes 1 u.modeFlags ++
        beBytes 8 u.ctrl.modeNs ++ u.paramBytes P.DEVICE_LABEL)))) ∧
    (s.begun Op.MODE_SET r = some u → modeOf (byteAt p 0) = some m → u.modeSetWaits = false → (u.mode = .hold → m ≠ .live) →
      exec (.modeSet r) s = .next (u.replied Op.MODE_SET r
        (if u.modeSetOk m then .wait (.modeSet m) else .plain Status.DENIED_MODE))) ∧
    (s.begun Op.MODE_SET r = some u → (modeOf (byteAt p 0)).isSome = true → u.modeSetWaits = true →
      exec (.modeSet r) s = .next (u.replied Op.MODE_SET r (.plain Status.BUSY))) ∧
    (s.begun Op.TIME_GET r = some u → ∃ out, exec (.timeGet r) s = .next (u.replied Op.TIME_GET r (.done Status.OK out)) ∧
      out.length = 48 ∧ field out 0 8 = u.nowNs % 2 ^ 64 ∧ field out 8 4 = u.nowNs % 2 ^ 32 ∧ byteAt out 12 = u.hearth.servo.code) ∧
    (s.begun Op.TIMING_SET r = some u → (requestTiming p).ok = true → u.hearth.gap = 0 → u.tooSoon (namedTime p) = false →
      u.timingCapacity t = none → u.retimeBusy = false →
      let y := u.retimeAt t (u.retimeIndex (namedTime p))
      exec (.timingSet r) s = .next (({ u with hearth := { u.hearth with retime := some y } } : State).replied Op.TIMING_SET r
        (.done Status.OK (beBytes 8 y.tNs ++ beBytes 8 y.uNs)))) ∧
    (s.begun Op.TIMING_SET r = some u → (requestTiming p).ok = false →
      exec (.timingSet r) s = .next (u.replied Op.TIMING_SET r (.plain Status.BAD_PARAM))) ∧
    (s.begun Op.DOMAIN_SELECT r = some u → u.domOf (byteAt p 0) = some d → exec (.domainSelect r) s =
      .next (u.replied Op.DOMAIN_SELECT r (if u.hearth.secondActive = d then .plain Status.OK
        else if (u.dom d).st = .locked then .wait (.domain d) else .plain Status.NO_RESOURCE))) ∧
    (s.begun Op.ROLE_GET r = some u → ∃ out, exec (.roleGet r) s = .next (u.replied Op.ROLE_GET r (.done Status.OK out)) ∧
      byteAt out 0 = u.red.role.code ∧ byteAt out 2 = (if u.red.peerHeard then u.red.peerRole.code else 255) ∧
      field out 12 8 = u.red.expiry % 2 ^ 64) ∧
    (s.begun Op.ROLE_SET r = some u → bit (byteAt p 1) 1 = true →
      exec (.roleSet r) s = .next (u.replied Op.ROLE_SET r (.wait (.roleSet u.red.role f true)))) ∧
    (s.begun Op.ROLE_SET r = some u → bit (byteAt p 1) 1 = false → roleOf (byteAt p 0) = some x →
      (u.roleSetOk x = false → exec (.roleSet r) s = .next (u.replied Op.ROLE_SET r (.plain Status.DENIED_MODE))) ∧
      (u.roleSetOk x = true → (x = .standby → u.peerRefused = none) →
        exec (.roleSet r) s = .next (u.replied Op.ROLE_SET r (.wait (.roleSet x f false))))) ∧
    (∀ k ns, s.begun Op.SWITCHOVER r = some u → u.switchTick (field p 0 8) = some (k, ns, false) → u.switchReady = true →
      ∃ v : State, exec (.switchover r) s = .next (v.replied Op.SWITCHOVER r (.done Status.OK (beBytes 8 ns))) ∧
        v.red.switchX = some k ∧ v.red.role = u.red.role ∧ v.mode = u.mode ∧
        (r.chan ≠ .c3 → ∃ h q, h.length = 16 ∧ q.length = 16 ∧
          v.red.mirrorSent = ⟨5, h, .bytes (q ++ beBytes 8 ns)⟩ :: u.red.mirrorSent))

/-! ### The redundant pair (R413 to R449) -/

/-- R414, R417, R421, R423, R428 to R431: an electing device sends LINK_HELLO every 10 ms, and the peer's LINK_HELLO or
renewal, or the end of its wait, ends the election; a renewal moves the lease, a RELEASE ends it, and a heartbeat of another
pair is only counted; an active that finds OWN_IL pulled by its active peer lets it go and becomes the standby. A frame of the
mirror link passes queue set 3 and changes nothing else on its way. -/
def Obligations.PeerIsHeardAndElectionEnds : Prop :=
  ∀ (s : State) (h : HelloFrame) (byHb : Bool) (serial expiry last n : Nat) (reason : Fin 4) (level : Bool),
    let wins := if s.red.roleStrap = h.roleStrap then decide (s.nvm.serial < h.serial) else s.red.roleStrap
    let wait := s.param P.ELECT_WAIT * 1000000
    let heard := s.firmwareUp = true ∧ (byHb = false → s.red.mirrorUp = true)
    s.sameButQueues (s.mirrorBase n) ∧
    (s.firmwareUp = true → s.red.role = .electing → ∃ t, exec .linkHelloSend s = .next t ∧
      s.red.helloUp + 10000000 ≤ t.red.helloUp ∧ t.red.helloUp = t.up ∧
      (s.red.mirrorUp = true → ∃ f, t.red.mirrorSent = f :: s.red.mirrorSent ∧ f.type = 1 ∧
        f.payload = .bytes t.helloBytes)) ∧
    (s.firmwareUp = true → s.red.mirrorUp = true → s.mirrorOpen 64 = true → h.mirrorVersion = s.mirrorVersion →
      ∃ t, exec (.linkHello h) s = .next t ∧
      t.red.peerHeard = true ∧ t.red.peerRole = h.role ∧ t.red.peerSerial = h.serial ∧ t.red.peerAddr = h.portA ∧
      (s.red.role = .electing → h.role = .active → t.red.role = .standby) ∧
      (s.red.role = .electing → h.role = .electing → t.red.role = if wins then .active else .standby) ∧
      (s.red.role ≠ .electing → t.red.role = s.red.role)) ∧
    (s.firmwareUp = true → s.red.mirrorUp = true → s.mirrorOpen 64 = true → h.mirrorVersion ≠ s.mirrorVersion →
      ∃ t, exec (.linkHello h) s = .next t ∧
      t.red = { s.red with versionOk := false, peerHeard := false } ∧ (s.regsOk → t.sees Ev.MIRROR_VERSION_MISMATCH = true)) ∧
    (s.firmwareUp = true → s.red.role = .electing → s.red.peerHeard = false → ∃ t, exec .electWait s = .next t ∧
      (s.red.roleStrap = true → t.red.role = .active ∧ s.red.electStartUp + wait ≤ t.up) ∧
      (s.red.roleStrap = false → s.red.electStartUp + 2 * wait ≤ t.up ∧
        (s.allSilent = true → s.arbMode = 0 → t.red.role = .active) ∧
        (s.allSilent = false → t.red.role = .standby ∧ t.red.stale = true ∧ (s.regsOk → t.sees Ev.BUS_CONFLICT = true)))) ∧
    (heard → s.foreign byHb serial = false → (byHb = false → s.mirrorOpen 8 = true) →
      ∃ t, exec (.renew byHb serial expiry) s = .next t ∧ t.red.expiry = expiry ∧
      t.red.releaseRx = false ∧ t.red.peerHeard = true ∧ (byHb = true → t.red.peerSerial = serial) ∧
      (s.red.role = .electing → t.red.role = .standby)) ∧
    (heard → s.foreign byHb serial = true → exec (.renew byHb serial expiry) s = .next (s.count Reg.HB_FOREIGN) ∧
      exec (.release byHb serial last reason) s = .next (s.count Reg.HB_FOREIGN)) ∧
    (heard → s.foreign byHb serial = false → (byHb = false → s.mirrorOpen 10 = true) →
      ∃ t, exec (.release byHb serial last reason) s = .next t ∧
      t.red.releaseRx = true ∧ t.red.role = s.red.role ∧ (s.regsOk → t.sees Ev.RELEASE_RX = true) ∧
      (s.red.role = .active → reason.val < 2 → s.red.peerHeard = true → s.red.peerRole = .standby →
        t.red.peerHeard = false ∧ (s.regsOk → t.sees Ev.PEER_LOST = true))) ∧
    ((level = true ∨ s.red.ownIlOut = false) → ∃ t, exec (.ownIl level) s = .next t ∧ t = { s with red := t.red } ∧
      t.red.ownIlIn = (level && !s.red.ownIlOut) ∧ t.red.role = s.red.role ∧ (level = false → t.red.ownIlHigh = false)) ∧
    (level = false → s.red.ownIlOut = true → s.red.ownIlCheck = true → s.up ≤ s.red.ownIlPullUp + 1000 →
      s.red.peerHeard = true → s.red.peerRole = .active → ∃ t, exec (.ownIl level) s = .next t ∧ t.red.role = .standby ∧
        t.red.ownIlOut = false ∧ (s.regsOk → t.sees Ev.OWN_IL_CONFLICT = true))

/-- R30, R431, R433, R435, R439, R441: a standby takes a record that is complete and whose CRC holds, and installs a full-state
copy when its last chunk is there; the active answers RESYNC_REQ with the first chunk of a copy, each acknowledgement of a
chunk brings the next, and the last one ends the copy; a forwarded mailbox command runs on the standby, and one that fails
there makes it stale. A frame whose CRC fails is only counted, and one that finds the SC halted waits in queue set 3. -/
def Obligations.StandbyFollowsItsPeer : Prop :=
  ∀ (s u : State) (f : RecordFrame) (r : TickRecord) (c : FullCopy) (off tick : Nat) (op : BitVec 16) (q : Request)
    (x : CopySend),
    let q3 := { q with chan := Chan.c3, from_ := ⟨[], 0⟩ }
    let rec0 := s.mirrorBase (4 + f.bytes)
    let ack0 := s.mirrorBase 4
    let ack1 := s.mirrorBase 8
    let box := s.mirrorBase (16 + q.len.toNat)
    let chunk := fun (t : State) (off n : Nat) (c : FullCopy) => ∃ h, t.red.mirrorSent = ⟨6, h, .state off n c⟩ :: s.red.mirrorSent
    s.firmwareUp = true → s.red.mirrorUp = true →
    (f.crcOk = false → exec (.record f) s = .next (s.count Reg.MR_CRC_ERR)) ∧
    (f.crcOk = true → s.mirrorOpen (4 + f.bytes) = true → s.red.role = .standby → f.complete = some r →
      exec (.record f) s = .next { rec0 with red := { s.red with pendingRecord := some r } }) ∧
    (f.crcOk = true → s.consumerAway 3 = true → ∃ t, exec (.record f) s = .next t ∧ s.sameButQueues t) ∧
    exec (.state off false (some c)) s = .next (s.count Reg.MR_CRC_ERR) ∧
    (s.mirrorOpen 8192 = true → s.red.role = .standby →
      (∃ t h, exec (.state off true none) s = .next t ∧ t.red = { s.red with
        mirrorSent := ⟨8, h, .bytes (beBytes 8 off)⟩ :: s.red.mirrorSent, mirrorSeq := (s.red.mirrorSeq + 1) % 2 ^ 32 }) ∧
      ∃ t h, exec (.state off true (some c)) s = .next t ∧ t.red.awaitDigest = true ∧
        t.red.resyncWanted = false ∧ t.lamp.faultMap = c.faultMap ∧ t.fs.buffers = c.buffers ∧ t.fs.safeImage = c.safeImage ∧
        t.fs.emergImage = c.emergImage ∧ t.red.mirrorSent = ⟨8, h, .bytes (beBytes 8 off)⟩ :: s.red.mirrorSent ∧
        t.mode = s.mode ∧ t.strands = s.strands) ∧
    (s.mirrorOpen 0 = true → s.red.role = .active → ∃ t y, exec .resyncReq s = .next t ∧ t.red.copy = some y ∧ y.next ≤ y.size ∧
      0 < y.next ∧ chunk t 0 y.next y.copy) ∧
    (s.mirrorOpen 4 = true → exec (.ack tick none) s = .next { ack0 with red := { s.red with recordAcked := true } }) ∧
    (s.mirrorOpen 8 = true → s.red.copy = some x →
      (x.next < x.size → ∃ t, exec (.ack tick (some off)) s = .next t ∧
        t.red.copy = some { x with next := x.next + min 8184 (x.size - x.next) } ∧
        chunk t x.next (min 8184 (x.size - x.next)) x.copy) ∧
      (x.size ≤ x.next → exec (.ack tick (some off)) s = .next { ack1 with red := { s.red with copy := none } })) ∧
    (s.mirrorOpen (16 + q.len.toNat) = true → exec (.mailbox true op q) s = .next box ∧
      (box.begun op.toNat q3 = some u → ∃ t, exec (.mailbox false op q) s = .next t ∧
        t = (bodyOf op.toNat u q3).1.replied op.toNat q3 (bodyOf op.toNat u q3).2 ∧
        (forwarded.contains op.toNat = true → (bodyOf op.toNat u q3).2.accepts = false → t.red.stale = true)))

/-- R423 to R425, R430: a takeover makes the standby the active one, in LIVE or HOLD as the last record showed, and drives every
strand that can be used; at the tick of a switchover the active hands its strands over and becomes the standby, and the
standby takes them, unless an edge shows that they are still driven. -/
def Obligations.TakeoverAndSwitchoverMoveTheOutput : Prop :=
  ∀ (s : State), s.storesOk → s.firmwareUp = true → (∀ w ∈ s.ctrl.waiting, ∀ op r, w.why ≠ .selfTest op r) →
    (s.arbMode = 0 ∨ s.red.ownIlIn = true ∨ s.red.ownIlPulled = true) →
    let taken := fun (t : State) => t.red.role = .active ∧
      t.mode = (if s.recordMode = some .hold then .hold else .live) ∧ t.red.lastSwapTick = s.hearth.k ∧
      t.red.takeoverNs = s.hearth.lastTickNs ∧ (s.regsOk → t.sees Ev.TAKEOVER = true) ∧
      (∀ n, n < 128 → (s.isNsp n = true ∨ s.isLegacy n = true) → s.bankOk n = true → s.dead = false →
        (t.strand n).driving = true)
    (s.red.takeoverDue = true → s.mode = .shadow → ∃ t, exec .takeover s = .next t ∧ taken t) ∧
    (s.red.switchX = some s.hearth.k → s.dead = false → s.red.role = .active → s.mayHandOver = false → ∃ t,
      exec .switchoverAtTick s = .next t ∧ t.red = { s.red with switchX := none } ∧ t.mode = s.mode ∧ t.strands = s.strands) ∧
    (s.red.switchX = some s.hearth.k → s.dead = false → s.red.role = .active → s.mayHandOver = true → ∃ t,
      exec .switchoverAtTick s = .next t ∧ t.red.role = .standby ∧ t.mode = .shadow ∧ t.red.peerRole = .active ∧
      t.red.switchX = none ∧ s.hearth.lastTickUp + s.swapWindowNs ≤ t.up ∧ ∀ n, n < 128 → (t.strand n).driving = false) ∧
    (s.red.switchX = some s.hearth.k → s.dead = false → s.red.role = .standby → s.mode = .shadow →
      let u := s.reach (s.hearth.lastTickUp + s.swapWindowNs)
      ∃ t, exec .switchoverAtTick s = .next t ∧ t.red.switchX = none ∧
        (u.edgeNear = false → taken t ∧ t.red.peerRole = .standby) ∧
        (u.edgeNear = true → t.red.role = .standby ∧ t.strands = s.strands ∧ (s.regsOk → t.sees Ev.BUS_CONFLICT = true)))

/-! ### Strands, content, stores, access, self-test and scan by command (05 to 08, 12, 13) -/

/-- R281, R282, R295 to R297: the commands of strands and drivers: an enumeration stops the NSP strands it names and waits, and
touches no other; STRAND_STATUS answers 16 bytes and 16 for each driver asked; a DRIVER_COMMAND queues its line, and an
RDM_REQUEST waits on its port, of four at most. -/
def Obligations.StrandCommandsQueueTheirWork : Prop :=
  ∀ (s u : State) (r : Request),
    let p := r.payload
    let named := allStrands.filter fun n => bit (field p 0 16) n
    let n := byteAt p 0
    let id := u.ctrl.commandId + 1
    let l := commandLine p id
    let none_ := ∀ m ∈ named, (u.strand m).enumerating = false
    (s.begun Op.STRAND_ENUMERATE r = some u → none_ → (∃ m ∈ named, u.isNsp m = true) → ∃ t : State,
      exec (.strandEnumerate r) s = .next (t.replied Op.STRAND_ENUMERATE r (.wait (.enumerate named))) ∧
      (∀ m ∈ named, u.isNsp m = true → (t.strand m).enumerating = true ∧ (t.strand m).scan = {} ∧
        (t.strand m).kind = .none) ∧
      (∀ m, m ∉ named → t.strand m = u.strand m)) ∧
    (s.begun Op.STRAND_ENUMERATE r = some u → none_ → (∀ m ∈ named, u.isNsp m = false) → exec (.strandEnumerate r) s =
      .next (u.replied Op.STRAND_ENUMERATE r (.done Status.OK (u.enumPayload named)))) ∧
    (s.begun Op.STRAND_STATUS r = some u → n ≤ 127 → byteAt p 1 ≤ 62 →
      field p 2 2 + byteAt p 1 ≤ (u.strand n).drivers.length → ∃ out, exec (.strandStatus r) s =
        .next (({ u with draws := u.draws + 1 } : State).replied Op.STRAND_STATUS r (.done Status.OK out)) ∧
        out.length = 16 + 16 * byteAt p 1 ∧ byteAt out 0 = n ∧ byteAt out 1 = u.coder n % 256) ∧
    (s.begun Op.DRIVER_COMMAND r = some u → n ≤ 127 → u.isNsp n = true → l.driver < (u.strand n).drivers.length →
      lineCountOk l.raw l.words.length = true → ∃ t : State, exec (.driverCommand r) s =
        .next (t.replied Op.DRIVER_COMMAND r (.wait (.driver n id))) ∧ t.ctrl.commandId = id ∧ l ∈ (t.strand n).cfg ∧
        (t.strand n).cfg.length = (u.strand n).cfg.length + 1 ∧ ∀ m, m ≠ n → t.strand m = u.strand m) ∧
    (s.begun Op.RDM_REQUEST r = some u → n ≤ 63 → u.isDmx (2 * n) = true → byteAt p 15 ≤ 231 →
      ((u.strand (2 * n)).rdm.length < 4 → ∃ t : State, exec (.rdmRequest r) s =
        .next (t.replied Op.RDM_REQUEST r (.wait (.rdm n))) ∧
        t.strand (2 * n) = { u.strand (2 * n) with rdm := (u.strand (2 * n)).rdm ++ [rdmOf r] } ∧
        ∀ m, m ≠ 2 * n → t.strand m = u.strand m) ∧
      (4 ≤ (u.strand (2 * n)).rdm.length →
        exec (.rdmRequest r) s = .next (u.replied Op.RDM_REQUEST r (.plain Status.BUSY))))

/-- R195 to R209, R218 to R222: the commands of content: a MAP_WRITE stages until its last part, whose checks let the map wait
for its tick or drop it; buffers are allocated under a handle of their own, written where they are not locked, and freed at
once or when no layer binds them; LAYER_SET, MARK_SET and REWIND wait for their tick. -/
def Obligations.ContentCommandsStageTheirChange : Prop :=
  ∀ (s u : State) (r : Request) (w : PixMap) (b : Buffer) (f : Nat),
    let p := r.payload
    let n := byteAt p 0
    let m := (u.stagedMap n).write p
    let id := u.ctrl.stagedId
    let q := requestLayer p
    let maps := s.begun Op.MAP_WRITE r = some u ∧ (u.mode ≠ .shadow ∨ r.chan = .c3) ∧ n ≤ 127
    let nb := requestBuffer p (u.bufferHandle r)
    let ws := wordsOf (p.drop 8) ((r.len.toNat - 8) / 4)
    let off := field p 4 4
    let h := field p 0 2
    let clear := bit (byteAt p 1) 1
    (maps → bit (byteAt p 1) 1 = false →
      exec (.mapWrite r) s = .next ((u.putStagedMap m).replied Op.MAP_WRITE r (.plain Status.OK))) ∧
    (maps → bit (byteAt p 1) 1 = true → m.whole u.planned = some w → u.mapChecks n w = none → ∃ (t : State) (rep : Reply),
      exec (.mapWrite r) s = .next (t.replied Op.MAP_WRITE r rep) ∧ rep.accepts = true ∧ t.anvil.maps = u.anvil.maps ∧
      t.anvil.acceptedMaps = u.anvil.acceptedMaps ++ [(n, w)] ∧
      (r.chan ≠ .c3 → t.ctrl.staged = u.ctrl.staged ++ [⟨id, false, .mapSwitch n⟩] ∧ rep = .wait (.change id))) ∧
    (maps → bit (byteAt p 1) 1 = true → m.whole u.planned = none →
      exec (.mapWrite r) s = .next ((u.dropStagedMap n).replied Op.MAP_WRITE r (.plain Status.BAD_PARAM))) ∧
    (s.begun Op.BUFFER_ALLOC r = some u → nb.sizeOk = true → byteAt p 4 ≤ 1 → u.buffer? nb.handle = none →
      u.fs.buffers.length < 64 → (u.planned.addBuffer nb).dramShort = false → ∃ t : State, exec (.bufferAlloc r) s =
        .next (t.replied Op.BUFFER_ALLOC r (.done Status.OK (beBytes 2 nb.handle))) ∧ t.buffer? nb.handle = some nb ∧
        t.fs.buffers = u.fs.buffers ++ [nb]) ∧
    (s.begun Op.BUFFER_WRITE r = some u → h < 0xFFFE → u.buffer? h = some b → off % 4 = 0 → off + 4 * ws.length ≤ 4 * b.words →
      (u.bufferLocked b = false → ∃ t : State, exec (.bufferWrite r) s = .next (t.replied Op.BUFFER_WRITE r (.plain Status.OK)) ∧
        t.buffer? h = some { b with data := putWords (fun _ => 0) b.data (off / 4) ws } ∧
        ∀ x, x ≠ h → t.buffer? x = u.buffer? x) ∧
      (u.bufferLocked b = true →
        exec (.bufferWrite r) s = .next (u.replied Op.BUFFER_WRITE r (.plain Status.BUFFER_IN_USE)))) ∧
    (s.begun Op.BUFFER_WRITE r = some u → h = 0xFFFE ∨ h = 0xFFFF → u.atRest = true → off % 4 = 0 →
      off + 4 * ws.length ≤ 4 * u.mappedPixels → exec (.bufferWrite r) s =
        .next ((u.writeImage (decide (h = 0xFFFF)) (off / 4) ws).replied Op.BUFFER_WRITE r (.plain Status.OK))) ∧
    (s.begun Op.BUFFER_FREE r = some u → u.buffer? h = some b → b.freeDeferred = false → ∃ t : State, exec (.bufferFree r) s =
      .next (t.replied Op.BUFFER_FREE r (.done Status.OK (if u.bound h then [1] else [0]))) ∧
      (u.bound h = true → t.buffer? h = some { b with freeDeferred := true }) ∧
      (u.bound h = false → t.buffer? h = none) ∧ ∀ x, x ≠ h → t.buffer? x = u.buffer? x) ∧
    (s.begun Op.LAYER_SET r = some u → (q.layer = 1 ∨ q.layer = 2) → u.layerRefused q = none → exec (.layerSet r) s =
      .next ((u.stage (.layer q)).replied Op.LAYER_SET r (.wait (.change id)))) ∧
    (s.begun Op.LAYER_SET r = some u → q.layer = 3 → layer3Ok q = true → exec (.layerSet r) s =
      .next ((u.stage (.layer q)).replied Op.LAYER_SET r (.wait (.change id)))) ∧
    (s.begun Op.MARK_SET r = some u → n ≤ 63 → u.enabled n = true → u.layerOf n = 0 → u.markedFrame p = some f →
      (clear = true ∨ (u.stream n).keeps f = true) → ∃ t : State, exec (.markSet r) s =
        .next (t.replied Op.MARK_SET r (.wait (.change id))) ∧ t.ctrl.staged = u.ctrl.staged ++
          [⟨id, false, .mark ⟨n, bit (byteAt p 1) 0, clear, bit (byteAt p 1) 2, f⟩⟩] ∧ t.fs = u.fs) ∧
    (s.begun Op.REWIND r = some u → n ≤ 63 → (u.stream n).mark.isSome = true → u.mode = .live → (u.stream n).play = none →
      exec (.rewind r) s = .next ((u.stage (.rewind n)).replied Op.REWIND r (.wait (.change id))))

/-- R242 to R247, R475 to R478: the commands of calibration and of stored images: CAL_BEGIN opens the inactive plane, CAL_WRITE
writes its records, CAL_COMMIT lets the switch wait for its tick; a table is staged until its last part, whose CRC lets it
wait or drops it; CAL_STORE writes the bank that is not active, an image or a library entry, or reads one back, and its
completion says what was written; while BANK runs, CAL_BEGIN, CAL_COMMIT and COLOUR_TABLE_WRITE are BUSY. -/
def Obligations.CalibrationIsStagedAndStored : Prop :=
  ∀ (s u : State) (r : Request) (b : Buffer) (x : LibEntry) (y : Waiting) (bk : FlashBank) (size : Nat),
    let p := r.payload
    let id := u.ctrl.stagedId
    let n := byteAt p 0
    let open_ := { u.endCopy with anvil := { u.endCopy.anvil with staging := true, calMoved := false } }
    let recs := (List.range (field p 4 2)).map fun i => field p (8 + 16 * i) 16
    let ws := wordsOf (p.drop 12) (field p 4 2)
    let m := putWords (u.tableDefault n) (u.stagedTable n) (field p 2 2) ws
    let table := s.begun Op.COLOUR_TABLE_WRITE r = some u ∧ u.work.bankNew = none ∧ tableEntries n = some size ∧
      field p 4 2 ≤ 248 ∧ field p 2 2 + ws.length ≤ size ∧ (∀ v ∈ ws, v.toNat ≤ tableMax n)
    let row := fun (k : Nat) => s.begun Op.CAL_STORE (r.withOp k) = some u
    let name := fun (k : Nat) => field (r.withOp k).payload 2 2
    let e := fun (k : Nat) => byteAt (r.withOp k).payload 4
    let old := if s.nvm.activeBankB then s.nvm.bankB else s.nvm.bankA
    (s.begun Op.CAL_BEGIN r = some u → u.work.bankNew = none → u.anvil.calPending = false → bit (byteAt p 0) 0 = false → exec (.calBegin r) s =
      .next (open_.replied Op.CAL_BEGIN r (.done Status.OK (beBytes 1 (b2n (!u.anvil.activeB)))))) ∧
    (s.begun Op.CAL_BEGIN r = some u → u.work.bankNew = none → u.anvil.calPending = false → bit (byteAt p 0) 0 = true → exec (.calBegin r) s =
      .next ((({ open_ with anvil := { open_.anvil with copying := true } } : State).issue 7).replied Op.CAL_BEGIN r
        (.wait .calCopy))) ∧
    (s.begun Op.CAL_WRITE r = some u → u.anvil.calPending = false → u.anvil.staging = true → n ≤ 127 → 1 ≤ field p 4 2 →
      field p 4 2 ≤ 62 → field p 2 2 + field p 4 2 ≤ (u.map n).pixels → ∃ t : State, exec (.calWrite r) s =
        .next (t.replied Op.CAL_WRITE r (.plain Status.OK)) ∧ t.plane u.anvil.activeB = u.plane u.anvil.activeB ∧
        t.plane (!u.anvil.activeB) = (u.plane (!u.anvil.activeB)).writeRecords (!u.anvil.activeB)
          (u.recordBase n + field p 2 2) recs ∧ t.anvil.activeB = u.anvil.activeB) ∧
    (s.begun Op.CAL_COMMIT r = some u → u.work.bankNew = none → u.anvil.staging = true → u.anvil.calPending = false → u.anvil.copying = false →
      u.mode ≠ .shadow → u.anvil.calMoved = false → ∃ t : State, exec (.calCommit r) s =
        .next (t.replied Op.CAL_COMMIT r (.wait (.change id))) ∧ t.anvil = { u.anvil with calPending := true } ∧
        t.ctrl.staged = u.ctrl.staged ++ [⟨id, false, .calSwitch (u.planeCrc (!u.anvil.activeB))⟩]) ∧
    (u.work.bankNew = some bk →
      (s.begun Op.CAL_BEGIN r = some u → exec (.calBegin r) s = .next (u.replied Op.CAL_BEGIN r (.plain Status.BUSY))) ∧
      (s.begun Op.CAL_COMMIT r = some u → exec (.calCommit r) s = .next (u.replied Op.CAL_COMMIT r (.plain Status.BUSY))) ∧
      (s.begun Op.COLOUR_TABLE_WRITE r = some u →
        exec (.colourTableWrite r) s = .next (u.replied Op.COLOUR_TABLE_WRITE r (.plain Status.BUSY)))) ∧
    (s.anvil.copying = true → ∃ t, exec .calCopyDone s = .next t ∧ t.anvil.copying = false ∧ t.anvil.activeB = s.anvil.activeB ∧
      t.plane (!s.anvil.activeB) = s.plane s.anvil.activeB ∧ t.plane s.anvil.activeB = s.plane s.anvil.activeB) ∧
    (table → bit (byteAt p 1) 0 = false → exec (.colourTableWrite r) s =
      .next ((u.putStagedTable n m).replied Op.COLOUR_TABLE_WRITE r (.plain Status.OK))) ∧
    (table → bit (byteAt p 1) 0 = true → entriesCrc size (SMap.get (u.tableDefault n) m) = field p 8 4 → ∃ (t : State) (rep : Reply),
      exec (.colourTableWrite r) s = .next (t.replied Op.COLOUR_TABLE_WRITE r rep) ∧ rep.accepts = true ∧
      t.anvil.acceptedTables = u.anvil.acceptedTables ++ [(n, m)] ∧ t.activeTable n = u.activeTable n) ∧
    (table → bit (byteAt p 1) 0 = true → entriesCrc size (SMap.get (u.tableDefault n) m) ≠ field p 8 4 → ∃ t : State,
      exec (.colourTableWrite r) s = .next (t.replied Op.COLOUR_TABLE_WRITE r (.plain Status.CHECK_FAILED)) ∧
      t.activeTable n = u.activeTable n ∧ (u.regsOk → t.sees Ev.TABLE_CHECK_FAIL = true)) ∧
    (row 0 → u.work.bankNew = none → bit (byteAt (r.withOp 0).payload 1) 0 = false → ∃ t : State, exec (.bank r) s =
      .next (t.replied Op.CAL_STORE (r.withOp 0) (.wait .bankStore)) ∧ t.work.bankNew = some u.bankImage ∧
      t.nvm.otherBank = none ∧ t.nvm.activeBank = u.nvm.activeBank ∧ t.nvm.activeBankB = u.nvm.activeBankB) ∧
    (s.work.bankNew = some bk → ∃ t, exec .bankStoreComplete s = .next t ∧ t.work.bankNew = none ∧
      t.nvm.activeBankB = !s.nvm.activeBankB ∧ t.nvm.activeBank = some bk ∧ t.nvm.otherBank = old ∧ t.nvm.calCkpt = none) ∧
    (row 1 → exec (.safe r) s = .next (({ u with nvm := { u.nvm with safe := u.nvm.safe.map FlashImage.erase } } : State).replied
      Op.CAL_STORE (r.withOp 1) (.wait (.imageWrite 1 0 (u.imageBuffer false))))) ∧
    (row 2 → exec (.emergency r) s = .next (({ u with nvm := { u.nvm with emerg := u.nvm.emerg.map FlashImage.erase } } : State).replied
      Op.CAL_STORE (r.withOp 2) (.wait (.imageWrite 2 0 (u.imageBuffer true))))) ∧
    (row 3 → u.buffer? (name 3) = some b → e 3 ≤ 7 → b.words ≤ 1048576 → ∃ t : State, exec (.libSave r) s =
      .next (t.replied Op.CAL_STORE (r.withOp 3) (.wait (.imageWrite 3 (e 3) b))) ∧
      ∀ z ∈ u.nvm.library, z.entry ≠ e 3 → z ∈ t.nvm.library) ∧
    (row 4 → (u.nvm.library.find? fun z => decide (z.entry = e 4) && decide (z.width ≠ 0)) = some x → u.buffer? (name 4) = some b →
      x.width = b.width → x.height = b.height → x.rgba16 = b.rgba16 → exec (.libLoad r) s = .next (u.replied Op.CAL_STORE
        (r.withOp 4) (if u.bufferLocked b then .plain Status.BUFFER_IN_USE else .wait (.imageWrite 4 (e 4) b)))) ∧
    (∀ op k rest, s.ctrl.waiting = y :: rest → y.why = .imageWrite op k b → 1 ≤ op → op ≤ 3 → ∃ t,
      exec .imageWriteComplete s = .next t ∧ y ∉ t.ctrl.waiting ∧
      (op = 1 → t.nvm.safe.map FlashImage.data = some b.data ∧ t.nvm.emerg = s.nvm.emerg) ∧
      (op = 2 → t.nvm.emerg.map FlashImage.data = some b.data ∧ t.nvm.safe = s.nvm.safe) ∧
      (op = 3 → ∃ z ∈ t.nvm.library, z.entry = k ∧ z.data = b.data ∧ z.width = b.width ∧ z.height = b.height))

/-- R464 to R473: the update: UPD_OPEN judges the manifest, in order, and clears the target slot; UPD_BLOCK takes bytes from
NEXT_OFFSET on; UPD_FINISH starts the read-back when every block is there; the read-back makes the image READY or gives it
up; UPD_ACTIVATE arms one trial and, where no reset is due yet, resets 100 ms later; a confirmation, by command or by time,
makes the trial slot the active one and never lowers the security floor. -/
def Obligations.UpdatesAreVerifiedBeforeTheyAct : Prop :=
  ∀ (s u : State) (r : Request) (m : Manifest) (st : Nat),
    let p := r.payload
    let new := parseManifest ((p.drop 4).take 256)
    let fresh := bit (byteAt p 0) 0 = false
    let data := (p.take r.len.toNat).drop 4
    let whole := u.work.partial_ ++ data
    let start := u.work.nextOffset + data.length - whole.length
    let sec := fun (x : State) => (x.work.running.map (·.security)).getD 0
    let confirmed := fun (x t : State) => t.nvm.activeSlotB = x.nvm.trialSlotB ∧ t.nvm.trialState = 0 ∧
      t.nvm.secFloor = max x.nvm.secFloor (sec x) ∧ t.work.upd = (if x.nvm.ckptHead.isSome then .suspended else .none) ∧
      (x.regsOk → t.sees Ev.CONFIRMED = true)
    (s.begun Op.UPD_OPEN r = some u → u.judgeOpen new (bit (byteAt p 0) 0) = some st →
      exec (.updOpen r) s = .next (u.replied Op.UPD_OPEN r (.plain st))) ∧
    (s.begun Op.UPD_OPEN r = some u → fresh → u.judgeOpen new false = none → ∃ t : State, exec (.updOpen r) s =
      .next (t.replied Op.UPD_OPEN r (.done Status.OK (beBytes 4 256 ++ beBytes 4 0))) ∧ t.work.upd = .receiving ∧
      t.work.manifest = some new ∧ t.nvm.partBlocks = [] ∧ t.nvm.ckpt = none ∧ new.verifies = true ∧
      u.nvm.secFloor ≤ new.security ∧ (u.nvm.activeSlotB = true → t.nvm.slotA = none ∧ t.nvm.slotB = u.nvm.slotB) ∧
      (u.nvm.activeSlotB = false → t.nvm.slotB = none ∧ t.nvm.slotA = u.nvm.slotA)) ∧
    (s.begun Op.UPD_BLOCK r = some u → u.work.upd = .receiving → u.work.manifest = some m → u.work.nextOffset = field p 0 4 →
      8 ≤ whole.length → recordHeadOk m u.nvm.partBlocks.length start whole = true →
      (whole.length < 12 ∨ whole.length < field whole 4 4 → ∃ t : State, exec (.updBlock r) s =
        .next (t.replied Op.UPD_BLOCK r (.done Status.OK t.updReply)) ∧ t.nvm = u.nvm ∧ t.work.partial_ = whole ∧
        t.work.nextOffset = u.work.nextOffset + data.length) ∧
      (∀ out, 12 ≤ whole.length → whole.length = field whole 4 4 → u.buildBlock m whole = .ok out → ∃ t : State,
        exec (.updBlock r) s = .next (t.replied Op.UPD_BLOCK r (.done Status.OK t.updReply)) ∧
        t.nvm.partBlocks = u.nvm.partBlocks ++ [out] ∧ t.work.partial_ = [] ∧
        t.work.nextOffset = u.work.nextOffset + data.length)) ∧
    (s.begun Op.UPD_BLOCK r = some u → u.work.upd = .receiving → u.work.manifest = some m → u.work.nextOffset < field p 0 4 →
      exec (.updBlock r) s = .next (u.replied Op.UPD_BLOCK r (.plain Status.BAD_PARAM))) ∧
    (s.begun Op.UPD_FINISH r = some u → u.work.upd = .receiving → u.work.manifest = some m →
      (u.nvm.partBlocks.length = m.blocks → exec (.updFinish r) s =
        .next (({ u with work := { u.work with upd := .verifying } } : State).replied Op.UPD_FINISH r (.wait .verify))) ∧
      (u.nvm.partBlocks.length ≠ m.blocks →
        exec (.updFinish r) s = .next (u.replied Op.UPD_FINISH r (.plain Status.BAD_PARAM)))) ∧
    (s.work.upd = .verifying → s.work.manifest = some m → ∃ t, exec .verifyComplete s = .next t ∧
      (sha384 s.nvm.partBlocks.flatten = m.imageDigest → t.work.upd = .ready ∧
        t.nvm = s.nvm.setTarget (some ⟨m, s.nvm.partBlocks⟩)) ∧
      (sha384 s.nvm.partBlocks.flatten ≠ m.imageDigest → t.work.upd = .none ∧
        t.nvm = ({ s.nvm with ckpt := none, ckptHead := none } : Nvm).logHead 0 [])) ∧
    (s.begun Op.UPD_ACTIVATE r = some u → u.work.upd = .ready → u.work.resetDue = none → ∃ t : State, exec (.updActivate r) s =
      .next (t.replied Op.UPD_ACTIVATE r (.plain Status.OK)) ∧
        t.nvm = ({ u.nvm with trialSlotB := !u.nvm.activeSlotB, trialState := 1 } : Nvm).logBoot ∧
      t.work.resetDue = some (2, u.up + 100000000)) ∧
    (s.begun Op.UPD_ACTIVATE r = some u → u.work.upd ≠ .ready →
      exec (.updActivate r) s = .next (u.replied Op.UPD_ACTIVATE r (.plain Status.DENIED_MODE))) ∧
    (s.begun Op.UPD_CONFIRM r = some u → u.work.upd = .trial → ∃ t : State, exec (.updConfirm r) s =
      .next (t.replied Op.UPD_CONFIRM r (.plain Status.OK)) ∧ confirmed u t) ∧
    (s.work.upd = .trial → s.firmwareUp = true → s.paramOn P.AUTO_CONFIRM = true → s.work.engineFaulted = false →
      s.sched.fatal = false → s.sys.degraded = false → s.sys.dramFail = false → ∃ t, exec .autoConfirm s = .next t ∧
        confirmed s t ∧ s.work.idleUp + s.param P.AUTO_CONFIRM_DELAY * 1000000000 ≤ t.up) ∧
    (s.begun Op.UPD_STATUS r = some u → ∃ out, exec (.updStatus r) s = .next (u.replied Op.UPD_STATUS r (.done Status.OK out)) ∧
      out.length = 12 ∧ byteAt out 0 = u.work.upd.code)

/-- R482 to R487: keys, passwords and unlocks: each operation of OWNER_KEY_SET at the levels that allow it; a challenge is a
nonce of 32 bytes and the serial, valid for 60 s and for one response; the right answer grants rights and clears the
failures, a wrong one counts, and from the fifth on starts the lockout, during which everything is refused; grants,
lockout and nonce end by time. -/
def Obligations.AccessFollowsKeysAndFailures : Prop :=
  ∀ (s u : State) (r : Request) (n : List Byte),
    let p := r.payload
    let row := fun (k : Nat) => s.begun Op.OWNER_KEY_SET (r.withOp k) = some u
    let op := Op.OWNER_KEY_SET
    let key := keyData (r.withOp 0)
    let pw := keyData (r.withOp 1)
    let rights := byteAt p 0
    let minutes := field p 2 2
    let mac := hmacSha256 (u.nvm.key.getD []) (n ++ beBytes 8 u.nvm.serial ++ p.take 4)
    let ranged := rights ≤ 31 ∧ minutes ≤ 1440
    let granted := fun (t : State) => t.nvm.failures = 0 ∧
      (r.chan = .c0 → t.ctrl.ch0.rights = rights ∧ t.ctrl.ch0.rightsUntil = (if minutes = 0 then 0 else u.up + minutes * 60000000000)) ∧
      (u.regsOk → t.sees Ev.UNLOCKED = true)
    let failed := fun (t : State) => t.nvm.failures = u.nvm.failures + 1 ∧ t.ctrl.ch0.rights = u.ctrl.ch0.rights ∧
      (4 ≤ u.nvm.failures → t.work.lockout = true ∧
        t.work.lockoutUntil = u.up + min (2 ^ (u.nvm.failures - 4)) 1440 * 60000000000) ∧
      (u.nvm.failures < 4 → t.work.lockout = u.work.lockout) ∧ (u.regsOk → t.sees Ev.UNLOCK_FAILED = true)
    let c := s.client .c0 ⟨[], 0⟩
    (row 0 → key.length = 32 → ∃ t : State, exec (.setKey r) s = .next (t.replied op (r.withOp 0) (.plain Status.OK)) ∧
      t.nvm = { u.nvm with key := some key, level := if u.nvm.level = 0 then 1 else u.nvm.level }) ∧
    (row 1 → u.nvm.level ≠ 0 → 8 ≤ pw.length → pw.length ≤ 64 → byteAt (r.withOp 1).payload 1 ≤ 7 → ∃ t : State,
      exec (.setPassword r) s = .next (t.replied op (r.withOp 1) (.plain Status.OK)) ∧ t.nvm.pwSalt.length = 16 ∧
      t.nvm.pwDigest = some (passwordDigest t.nvm.pwSalt pw) ∧ t.nvm.pwRights = byteAt (r.withOp 1).payload 1 ∧
      t.nvm.level = u.nvm.level) ∧
    (row 2 → 1 ≤ u.nvm.level → keyData (r.withOp 2) = [] → exec (.clearPassword r) s = .next
      (({ u with nvm := { u.nvm with pwSalt := [], pwDigest := none, pwRights := 0 } } : State).replied op (r.withOp 2)
        (.plain Status.OK))) ∧
    (row 3 → u.nvm.level = 1 → keyData (r.withOp 3) = [] → ∃ t : State, exec (.sealLevel r) s =
      .next (t.replied op (r.withOp 3) (.plain Status.OK)) ∧ t.nvm = { u.nvm with level := 2 }) ∧
    (row 4 → u.nvm.level = 2 → keyData (r.withOp 4) = [] → ∃ t : State, exec (.unsealLevel r) s =
      .next (t.replied op (r.withOp 4) (.plain Status.OK)) ∧ t.nvm = { u.nvm with level := 1 }) ∧
    (row 5 → keyData (r.withOp 5) = [] → exec (.permitDownload r) s =
      .next (({ u with nvm := { u.nvm with permit := true } } : State).replied op (r.withOp 5) (.plain Status.OK))) ∧
    (s.begun Op.UNLOCK_CHALLENGE r = some u → u.work.lockout = false → u.nvm.key.isSome = true → ∃ (t : State) (x : List Byte),
      exec (.unlockChallenge r) s = .next (t.replied Op.UNLOCK_CHALLENGE r (.done Status.OK (x ++ beBytes 8 u.nvm.serial))) ∧
      x.length = 32 ∧ t.work.nonce = some x ∧ t.work.nonceUp = u.up) ∧
    (s.begun Op.UNLOCK_RESPONSE r = some u → u.work.lockout = false → u.validNonce = some n → ranged →
      u.nvm.key.isSome = true → ∃ (t : State) (rep : Reply), exec (.unlockResponse r) s =
        .next (t.replied Op.UNLOCK_RESPONSE r rep) ∧ t.work.nonce = none ∧
        ((p.drop 4).take 32 = mac → granted t ∧ rep.accepts = true) ∧
        ((p.drop 4).take 32 ≠ mac → failed t ∧ rep = .plain Status.CHECK_FAILED)) ∧
    (s.begun Op.UNLOCK_PASSWORD r = some u → u.work.lockout = false → ranged → ∃ (t : State) (rep : Reply),
      exec (.unlockPassword r) s = .next (t.replied Op.UNLOCK_PASSWORD r rep) ∧
      (u.nvm.pwDigest = some (passwordDigest u.nvm.pwSalt ((p.drop 8).take (byteAt p 4))) →
        rights &&& u.nvm.pwRights = rights → granted t ∧ rep.accepts = true) ∧
      (u.nvm.pwDigest ≠ some (passwordDigest u.nvm.pwSalt ((p.drop 8).take (byteAt p 4))) →
        failed t ∧ rep = .plain Status.CHECK_FAILED)) ∧
    (s.begun Op.UNLOCK_RESPONSE r = some u → u.work.lockout = true → ∃ t : State, exec (.unlockResponse r) s =
      .next (t.replied Op.UNLOCK_RESPONSE r (.plain Status.DENIED_ACCESS)) ∧ t = { u with regs := t.regs }) ∧
    (s.begun Op.RELOCK r = some u → r.chan = .c0 → ∃ t : State, exec (.relock r) s =
      .next (t.replied Op.RELOCK r (.plain Status.OK)) ∧ t.ctrl.ch0.rights = 0 ∧ (u.regsOk → t.sees Ev.RELOCKED = true)) ∧
    (s.firmwareUp = true → c.rights ≠ 0 → c.rightsUntil ≠ 0 → ∃ t, exec (.unlockExpired .c0 ⟨[], 0⟩) s = .next t ∧
      t.ctrl.ch0.rights = 0 ∧ c.rightsUntil ≤ t.up ∧ (s.regsOk → t.sees Ev.UNLOCK_EXPIRED = true) ∧
      (bit c.rights 2 = true → s.mode = .service → t.ctrl.serviceEnds = true)) ∧
    (s.work.lockout = true → ∃ t, exec .lockoutEnd s = .next t ∧ t.work.lockout = false ∧ s.work.lockoutUntil ≤ t.up) ∧
    (s.work.nonce.isSome = true → ∃ t, exec .nonceExpiry s = .next t ∧ t.work.nonce = none ∧
      s.work.nonceUp + 60000000000 ≤ t.up)

/-- R503 to R515, R519: a test that may run is queued under a new ID, starts when its block and the power allow it, and ends
with a result that is kept; the reload after a DRAM test clears the overlay content; TRIM_RUN makes class 2 due, a slice of
it runs once a tick, and its figures wait for the tick; the reports show what is there. -/
def Obligations.TestsAndCalibrationRunInOrder : Prop :=
  ∀ (s u : State) (r : Request) (t : Test) (d : TestDone) (id dur detail : Nat) (res : TestResult)
    (f : Class2Figures) (ch : Fin 2),
    let p := r.payload
    let target := byteAt p 0
    let index := byteAt p 1
    let named := field p 0 2
    let new : Test := ⟨u.bist.nextId, target, index, field p 4 4, false, 0⟩
    let fits := u.testOk target index (field p 4 4) = true ∧ u.blockIdle target index = true ∧
      testCost target ≤ u.param P.BIST_POWER_BUDGET
    (s.begun Op.BIST_RUN r = some u → fits → u.testsWaiting.length < 8 → ∃ (v : State) (out : List Byte),
      exec (.bistRun r) s = .next (v.replied Op.BIST_RUN r (.done Status.OK (beBytes 2 u.bist.nextId ++ out))) ∧
      v.bist.tests = u.bist.tests ++ [new] ∧ v.bist.nextId = (if u.bist.nextId = 65534 then 0 else u.bist.nextId + 1)) ∧
    (s.begun Op.BIST_RUN r = some u → fits → 8 ≤ u.testsWaiting.length →
      exec (.bistRun r) s = .next (u.replied Op.BIST_RUN r (.plain Status.BUSY))) ∧
    (s.nextTest = some t → s.testStarts t.target t.index = true → ∃ v, exec .bistStart s = .next v ∧
      v.bist.tests = s.bist.tests.map (fun x => if x.id = t.id then { x with running := true, startUp := s.up } else x) ∧
      (t.target = 6 → v.bist.dramTested = true ∧ v.anvil.rendering = false)) ∧
    ((s.bist.tests.find? fun x => x.running && decide (x.id = id)) = some t → dur ≤ testMaxUs t.target →
      (∀ w ∈ s.ctrl.waiting, ∀ op q, w.why ≠ .selfTest op q) → ∃ v, exec (.bistDone id res dur detail) s = .next v ∧
        t.startUp + dur * 1000 ≤ v.up ∧ v.bist.results.getLast? = some ⟨id, resultCode res, dur, detail⟩ ∧
        v.bist.results.length ≤ 16 ∧ (∀ x ∈ v.bist.tests, x.id ≠ id) ∧ (s.regsOk → v.sees Ev.BIST_DONE = true) ∧
        (res = .fail → s.regsOk → v.sees Ev.BIST_FAIL = true)) ∧
    (s.begun Op.BIST_RESULT r = some u → named ≠ 0xFFFF → (u.bist.tests.find? fun x => decide (x.id = named)) = none →
      (u.bist.results.reverse.find? fun x => decide (x.id = named)) = some d → exec (.bistResult r) s =
        .next (u.replied Op.BIST_RESULT r (.done Status.OK
          (beBytes 2 named ++ [2] ++ beBytes 1 d.result ++ beBytes 4 d.durationUs ++ beBytes 8 d.detail)))) ∧
    (s.bist.reloading = true → ∃ v, exec .reloadComplete s = .next v ∧ v.bist.reloading = false ∧ v.bist.dramTested = false ∧
      v.fs.buffers = [] ∧ v.fs.layer1 = {} ∧ v.fs.layer2 = {} ∧ v.fs.lastEntry = [] ∧ v.mode = s.mode) ∧
    (s.begun Op.TRIM_RUN r = some u → named < 256 → ∃ v : State, exec (.trimRun r) s =
      .next (v.replied Op.TRIM_RUN r (.wait (.trim named))) ∧ (16 ≤ named → v.trim.due = true) ∧
      (named < 16 → v.trim = u.trim) ∧ (bit named 0 = true → v.macA.up = false) ∧ (bit named 1 = true → v.macB.up = false)) ∧
    (s.begun Op.TRIM_REPORT r = some u → ∃ out, exec (.trimReport r) s =
      .next (u.replied Op.TRIM_REPORT r (.done Status.OK out)) ∧ field out 0 2 = satSigned 16 u.trim.lastTemp) ∧
    (s.firmwareUp = true → s.trim.due = true → s.calibrationBlocked = false → exec (.class2Calibration f) s =
      .next { s with trim := { s.trim with pending := some f, due := false, slices := 0, lastTemp := s.lamp.die } }) ∧
    (s.sliceOk ch = true → ∃ v, exec (.retrainSlice ch) s = .next v ∧ v.trim.slices = s.trim.slices + 1 ∧
      v.sliceOk ch = false ∧ v = { s with trim := v.trim })

/-- R492, R517, R518: the TAP selects an instruction that is available and BYPASS in place of one that is not; EXTEST and
SAMPLE_PRELOAD load the boundary register, IDCODE shows 0x0960_13C5, the debug port is there with access only; leaving an
instruction that held the pins resets the device. -/
def Obligations.ScanSelectsWhatIsAvailable : Prop :=
  ∀ (s : State) (bs : List Bool) (e : Nat) (v : Word) (ir : BitVec 8),
    let rest := s.mode = .boot ∨ s.mode = .idle ∨ s.mode = .service
    let debug := rest ∧ s.sys.inReset = false ∧ (s.nvm.level ≠ 2 ∨ s.debugRight = true)
    let sel := fun (i : Instr) (k : Nat) (ok : Prop) => ∃ t, exec i s = .next t ∧ (ok → t.tap.ir = k) ∧ (¬ok → t.tap.ir = 0xFF) ∧
      t.nvm = s.nvm ∧ (s.tap.holdsPins = false → t = { s with tap := t.tap })
    sel (.extest bs) 0x00 rest ∧ sel (.samplePreload bs) 0x01 True ∧ sel .idcode 0x02 True ∧ sel .clamp 0x03 rest ∧
    sel .highz 0x04 rest ∧ sel .extestPulse 0x05 rest ∧ sel .extestTrain 0x06 rest ∧ sel (.dbgSelect e) 0x10 debug ∧
    sel (.dbgData v) 0x11 debug ∧ sel .repairRead 0x12 True ∧ sel .trstN 0x02 True ∧
    (rest → ∃ t, exec (.extest bs) s = .next t ∧ t.tap.boundary = bs) ∧
    (∃ t, exec (.samplePreload bs) s = .next t ∧ t.tap.boundary = bs ∧ t.tap.captured.length = bs.length) ∧
    (∃ t, exec .idcode s = .next t ∧ t.tap.tdo = 0x096013C5) ∧
    (debug → ∃ t, exec (.dbgSelect e) s = .next t ∧ t.tap.dbgEngine = e) ∧
    (s.scanAvailable ir.toNat = false → sel (.bypass ir) 0xFF True) ∧
    (s.tap.holdsPins = true → ∃ t, exec .scanExit s = .next t ∧ t.tap.ir = 0xFF ∧ t.nvm = s.nvm ∧
      (s.sys.inReset = false → t.blocksReset 5)) ∧
    (s.tap.holdsPins = false → exec .scanExit s = .next s)

/-! ### Reset, start-up and download boot (R490 to R500, R525) -/

/-- R490 to R492, R473, R525: a low level of 1 µs or more on a reset pin, an undervoltage of the same length, the reset that
follows a response, and the end of the CONFIRM_WINDOW of this boot each enter reset: every block is reset but the counter (R49), and the
non-volatile stores stay. PORST_N stops the counter at 0 and clears the journal; a shorter pulse does nothing. RESET_CAUSE
of an undervoltage is open (log 11). -/
def Obligations.ResetEntryResetsEveryBlock : Prop :=
  ∀ (s : State) (ns mv : Nat),
    (1000 ≤ ns → ∃ t, exec (.porstN ns) s = .next t ∧ t.blocksReset 0 ∧ t.time = {} ∧ t.sys.clockRuns = false ∧
      t.jnl = {} ∧ t.nvm = s.nvm ∧ t.pending = s.pending) ∧
    (1000 ≤ ns → s.sys.inReset = false → ∃ t, exec (.sysrstN ns) s = .next t ∧ t.blocksReset 1 ∧ t.time = s.time ∧
      t.sys.clockRuns = s.sys.clockRuns ∧ t.nvm = s.nvm ∧ t.jnl.flight = s.jnl.flight ∧
      (s.jnl.frozen = true → t.jnl = s.jnl)) ∧
    (30 < mv → 1000 ≤ ns → s.sys.inReset = false → ∃ t c, exec (.supervisorUndervoltage mv ns) s = .next t ∧
      t.blocksReset c ∧ t.sys.supervisor = true ∧ t.time = s.time ∧ t.nvm = s.nvm) ∧
    (∀ cause due, s.work.resetDue = some (cause, due) → ∃ t, exec .resetAfterResponse s = .next t ∧ t.blocksReset cause ∧
      due ≤ t.up ∧ t.nvm = s.nvm) ∧
    (s.work.upd = .trial → s.firmwareUp = true → ∃ t, exec .confirmWindow s = .next t ∧ t.blocksReset 4 ∧
      s.work.bootEndUp + s.work.confirmWindow * 1000000000 ≤ t.up ∧ t.nvm = s.nvm) ∧
    (ns < 1000 → exec (.porstN ns) s = .next s ∧ exec (.sysrstN ns) s = .next s ∧
      exec (.supervisorUndervoltage mv ns) s = .next s)

/-- R493 to R496, R525: a release runs the start-up. Without a valid slot, with critical memory beyond repair, or with less
than 512 MB of DRAM it ends in FAILED with FAULT_N low; BOOT_STRAP 0b11 holds the device in BOOT with FAULT_N released;
with BOOT_STRAP 0 the device comes up in IDLE with FAULT_N released. The return of the supply releases the device in the
same way, with the board as its last release showed it (log 31). In IDLE with AUTO_LIVE set, on a device that is not
STANDBY and whose servo is locked, AUTO_LIVE makes the change to LIVE due at the next tick, once for each BOOT (R405). -/
def Obligations.ReleaseRunsTheStartUp : Prop :=
  ∀ (s : State) (b : BootInputs), s.sys.inReset = true →
    let some_ := (s.nvm.slotIfValid false).isSome ∨ (s.nvm.slotIfValid true).isSome
    let dram := (b.ch0 = true ∨ b.ch1 = true) ∧ 512 ≤ b.mb
    let outcome := fun (t : State) =>
      (¬some_ → t.sys.phase = 7 ∧ t.sys.noSlot = true ∧ t.mode = .boot ∧ t.sys.faultN = true) ∧
      (some_ → b.critical = true → t.sys.phase = 7 ∧ t.sys.criticalMem = true ∧ t.mode = .boot ∧ t.sys.faultN = true) ∧
      (some_ → b.critical = false → ¬dram → t.sys.phase = 7 ∧ t.mode = .boot ∧ t.sys.faultN = true) ∧
      (some_ → b.critical = false → dram → b.bootStrap = 3 → t.sys.phase = 6 ∧ t.mode = .boot ∧ t.sys.faultN = false) ∧
      (some_ → b.critical = false → dram → b.bootStrap = 0 → t.sys.phase = 5 ∧ t.mode = .idle ∧ t.sys.faultN = false ∧
        t.ctrl.reqFree = true ∧ t.sys.strap = 0)
    (s.sys.supervisor = false → ∃ t, exec (.resetRelease b) s = .next t ∧ outcome t) ∧
    (s.sys.supervisor = true → s.sys.boot = some b → ∃ t, exec .supplyReturn s = .next t ∧ outcome t) ∧
    (∀ v : State, v.mode = .idle → v.ctrl.autoLiveArmed = true → v.paramOn P.AUTO_LIVE = true → v.red.role ≠ .standby →
      v.hearth.servo = .locked → ∃ t, exec .autoLive v = .next t ∧
        t = { v with ctrl := { v.ctrl with autoLiveArmed := false, autoLiveDue := true } } ∧ exec .autoLive t = .next t)

/-- R497 to R500: in the download window a buffer or a datagram whose offset lies past DL_NEXT is ignored; bytes at DL_NEXT
are taken; the one that completes an image whose digest is its manifest's boots it; and 1,000 ms after the release the slot of step 3 boots with DL_TIMEOUT. -/
def Obligations.DownloadWindowTakesBytesInOrder : Prop :=
  ∀ (s : State) (len : Nat) (src : Endpoint) (off : Nat) (data : List Byte) (m : Manifest), s.sys.phase = 3 →
    let buffer := bytesOfWords ((List.range 256).map fun i => SMap.get (fun _ => 0) s.sys.dl.buf i)
    let taken := fun (l : List Byte) => { s.sys.dl with
      st := dlReceiving, bytes := s.sys.dl.bytes ++ l, next := s.sys.dl.next + l.length }
    let runs := fun (t : State) => t.sys.phase = 5 ∧ t.mode = .idle ∧ t.work.downloaded = true ∧ t.work.running = some m ∧
      t.sys.fwVersion = m.fwVersion ∧ t.sys.faultN = false
    (s.sys.strap = 1 → 1 ≤ len → len ≤ 1024 → s.sys.dl.st ≠ dlAccepted → s.sys.dl.next < s.sys.dl.offset.toNat →
      exec (.dlCtrl (BitVec.ofNat 32 (len * 65536 + 1))) s = .next s) ∧
    (s.sys.strap = 1 → 1 ≤ len → len < 256 → s.sys.dl.offset.toNat = s.sys.dl.next → s.sys.dl.manifest = none →
      s.sys.dl.bytes = [] → ∃ t, exec (.dlCtrl (BitVec.ofNat 32 (len * 65536 + 1))) s = .next t ∧
        t.sys.dl.next = s.sys.dl.next + len ∧ t.sys.dl.bytes.length = len ∧ t.sys.dl.st = dlReceiving ∧ t.nvm = s.nvm) ∧
    (s.sys.strap = 2 → off < 2 ^ 32 → 1 ≤ data.length → data.length < 256 → s.sys.dl.next = off →
      s.sys.dl.manifest = none → s.sys.dl.bytes = [] →
      ∃ t, exec (.downloadDatagram true src (beBytes 2 0x444C ++ [0, 0] ++ beBytes 4 off ++ data)) s = .next t ∧
        t.sys.dl.bytes = data ∧ t.sys.dl.next = off + data.length ∧ t.nvm = s.nvm ∧
        t.macSv.sent.head? = some (dlAnswer t.sys.dl src)) ∧
    (s.sys.strap = 2 → off < 2 ^ 32 → 1 ≤ data.length → data.length ≤ 1024 → s.sys.dl.next = off → s.sys.boot.isSome = true →
      (s.dlRun 1024 (taken data)).verdict.st = dlAccepted → (s.dlRun 1024 (taken data)).verdict.manifest = some m → ∃ t,
        exec (.downloadDatagram true src (beBytes 2 0x444C ++ [0, 0] ++ beBytes 4 off ++ data)) s = .next t ∧ runs t) ∧
    (s.sys.strap = 1 → 1 ≤ len → len ≤ 1024 → s.sys.dl.offset.toNat = s.sys.dl.next → s.sys.boot.isSome = true →
      (s.dlRun 1024 (taken (buffer.take len))).verdict.st = dlAccepted →
      (s.dlRun 1024 (taken (buffer.take len))).verdict.manifest = some m →
      ∃ t, exec (.dlCtrl (BitVec.ofNat 32 (len * 65536 + 1))) s = .next t ∧ runs t) ∧
    (s.sys.boot.isSome = true → ∃ t, exec .dlWindowClose s = .next t ∧ t.sys.dlTimeout = true ∧
      t.sys.phase = 5 ∧ t.mode = .idle ∧ s.sys.releaseUp + 1000000000 ≤ t.up)
end

