-- ==== Sys2Proof/Laws/Mailbox.lean ====
section
/-! SUPPORT. One lemma for the mailbox: what a command does once its request has begun. -/

set_option Elab.async false

namespace Sys2Proof.Machine

/-- R392: without an aborted session, `takeAborted` leaves the state as it is. -/
theorem State.takeAborted_fst (s : State) (r : Request) (h : (s.takeAborted r).2 = false) : (s.takeAborted r).1 = s := by
  unfold State.takeAborted at h ⊢
  split at h
  · split at h <;> simp_all
  · rfl

/-- R388: a request with a new SEQ and a free slot takes its slot and is judged. -/
theorem State.sequence_fresh {s : State} {op : Nat} {r : Request} (h : s.freshSeq r = true) (body : Body) :
    s.sequence op r body = (s.takeSlot op r).execute op r body := by
  unfold State.freshSeq at h
  simp only [Bool.and_eq_true, Option.isNone_iff_eq_none, Bool.not_eq_true'] at h
  simp [State.sequence, h]

/-- R392: a request that no step refuses runs its command. -/
theorem State.execute_passes {s : State} {op : Nat} {r : Request} (h : s.passes op r = true) (body : Body) :
    s.execute op r body = (((body s r).1.forward op r (body s r).2).answer op r (body s r).2) := by
  unfold State.passes at h
  simp only [Bool.and_eq_true, Option.isNone_iff_eq_none, Bool.not_eq_true', Bool.or_eq_true, decide_eq_true_eq] at h
  have hab := State.takeAborted_fst _ _ h.2
  have hbt : (if r.chan = .c3 then none else s.blockTest op r) = none := by
    split
    · rfl
    · rename_i hc
      exact h.1.2.resolve_left hc
  simp only [State.execute, h.1.1, hbt, h.2, hab, Bool.false_eq_true, if_false]

/-- A request that has begun runs its command in that state and answers what the command answers. -/
theorem State.mailbox_begun {s u : State} {op : Nat} {r : Request} (h : s.begun op r = some u) (body : Body) :
    s.mailbox op r body = (body u r).1.replied op r (body u r).2 := by
  unfold State.begun at h
  split at h
  · rename_i hs
    injection h with h
    subst h
    simp only [Bool.and_eq_true] at hs
    obtain ⟨⟨⟨⟨h1, h2⟩, h3⟩, h4⟩, h5⟩ := hs
    have e := (State.sequence_fresh h4 body).trans (State.execute_passes h5 body)
    simp only [State.mailbox, h1, h2, h3, Bool.true_eq_false, if_false]
    exact congrArg (fun x : State => x.afterRequest r.chan) e
  · cases h

end Sys2Proof.Machine
end

