-- ==== Sys2Proof/Laws/Store.lean ====
section
/-! SUPPORT. The laws of the sparse stores: what is read after a write, and that a write keeps the canonical form. -/

set_option Elab.async false

namespace Sys2Proof.SMap

variable {α : Type} {d : Nat → α} {m : SMap α} {j k : Nat} {v : α}

theorem get_insert_same (d : Nat → α) (m : SMap α) (k : Nat) (v : α) : get d (insert m k v) k = v := by
  induction m with
  | nil => simp [insert, get]
  | cons p m ih =>
    obtain ⟨i, w⟩ := p
    unfold insert
    split
    · simp [get]
    · split
      · simp [get]
      · simp [get, *]

theorem get_insert_other (d : Nat → α) (m : SMap α) (v : α) (h : j ≠ k) : get d (insert m k v) j = get d m j := by
  induction m with
  | nil => simp [insert, get, h]
  | cons p m ih =>
    obtain ⟨i, w⟩ := p
    unfold insert
    split
    · simp [get, h]
    · split
      · simp_all [get]
      · simp [get, ih]

theorem get_erase_other (d : Nat → α) (m : SMap α) (h : j ≠ k) : get d (erase m k) j = get d m j := by
  induction m with
  | nil => rfl
  | cons p m ih =>
    obtain ⟨i, w⟩ := p
    unfold erase
    split
    · simp_all [get]
    · simp [get, ih]

/-- A write leaves every other key as it is. -/
theorem get_set_other [DecidableEq α] (d : Nat → α) (m : SMap α) (v : α) (h : j ≠ k) : get d (set d m k v) j = get d m j := by
  unfold set
  split
  · exact get_erase_other d m h
  · exact get_insert_other d m v h

/-- A key above the first of a canonical store is not below it. -/
theorem get_of_above [DecidableEq α] (h : wf d m = true) (ha : above k m = true) (hj : j ≤ k) : get d m j = d j := by
  induction m generalizing k with
  | nil => rfl
  | cons p m ih =>
    obtain ⟨i, w⟩ := p
    simp only [above, decide_eq_true_eq] at ha
    simp only [wf, Bool.and_eq_true] at h
    have hne : j ≠ i := by omega
    simp only [get, hne, if_false]
    exact ih h.2 h.1.2 (by omega)

theorem get_erase_same [DecidableEq α] (h : wf d m = true) : get d (erase m k) k = d k := by
  induction m with
  | nil => rfl
  | cons p m ih =>
    obtain ⟨i, w⟩ := p
    simp only [wf, Bool.and_eq_true] at h
    unfold erase
    split
    · rename_i hk
      subst hk
      exact get_of_above h.2 h.1.2 (Nat.le_refl _)
    · rename_i hk
      simp only [get, hk, if_false]
      exact ih h.2

/-- A write to a canonical store is read back. -/
theorem get_set_same [DecidableEq α] (h : wf d m = true) (k : Nat) (v : α) : get d (set d m k v) k = v := by
  unfold set
  split
  · rename_i hv
    rw [hv]
    exact get_erase_same h
  · exact get_insert_same d m k v

/-- A write of anything but the value of an unlisted key is read back from every store. -/
theorem get_set_same_ne [DecidableEq α] (d : Nat → α) (m : SMap α) (h : v ≠ d k) : get d (set d m k v) k = v := by
  simp only [set, h, if_false]
  exact get_insert_same d m k v

theorem above_trans (h : above k m = true) (hj : j ≤ k) : above j m = true := by
  cases m with
  | nil => rfl
  | cons p m =>
    simp only [above, decide_eq_true_eq] at *
    omega

theorem above_insert (h : above j m = true) (hj : j < k) : above j (insert m k v) = true := by
  cases m with
  | nil => simpa [insert, above] using hj
  | cons p m =>
    unfold insert
    split
    · simpa [above] using hj
    · split
      · simpa [above] using hj
      · simpa [above] using h

theorem above_erase [DecidableEq α] (hw : wf d m = true) (h : above j m = true) : above j (erase m k) = true := by
  cases m with
  | nil => rfl
  | cons p m =>
    obtain ⟨i, w⟩ := p
    simp only [wf, Bool.and_eq_true] at hw
    simp only [above, decide_eq_true_eq] at h
    unfold erase
    split
    · exact above_trans hw.1.2 (by omega)
    · simpa [above] using h

theorem wf_insert [DecidableEq α] (h : wf d m = true) (hv : v ≠ d k) : wf d (insert m k v) = true := by
  induction m with
  | nil => simp [insert, wf, above, hv]
  | cons p m ih =>
    obtain ⟨i, w⟩ := p
    have h' := h
    simp only [wf, Bool.and_eq_true] at h'
    unfold insert
    split
    · rename_i hk
      simp only [wf, Bool.and_eq_true]
      exact ⟨⟨by simpa using hv, by simpa [above] using hk⟩, h'⟩
    · split
      · rename_i hk
        subst hk
        simp [wf, hv, h']
      · simp only [wf, Bool.and_eq_true]
        exact ⟨⟨h'.1.1, above_insert h'.1.2 (by omega)⟩, ih h'.2⟩

theorem wf_erase [DecidableEq α] (h : wf d m = true) : wf d (erase m k) = true := by
  induction m with
  | nil => rfl
  | cons p m ih =>
    obtain ⟨i, w⟩ := p
    simp only [wf, Bool.and_eq_true] at h
    unfold erase
    split
    · exact h.2
    · simp only [wf, Bool.and_eq_true]
      exact ⟨⟨h.1.1, above_erase h.2 h.1.2⟩, ih h.2⟩

/-- A write keeps the canonical form. -/
theorem wf_set [DecidableEq α] (h : wf d m = true) (k : Nat) (v : α) : wf d (set d m k v) = true := by
  unfold set
  split
  · exact wf_erase h
  · rename_i hv
    exact wf_insert h hv

end Sys2Proof.SMap
end

