-- ==== Sys2Proof/Laws/State.lean ====
section
/-! SUPPORT. What each named update of the state leaves as it is, field by field, and what it stores. -/

set_option Elab.async false

namespace Sys2Proof.Machine

/-! ### `State.setReg` -/

@[simp] theorem State.setReg_mode (s : State) (a : Nat) (v : Word) : (s.setReg a v).mode = s.mode := rfl
@[simp] theorem State.setReg_time (s : State) (a : Nat) (v : Word) : (s.setReg a v).time = s.time := rfl
@[simp] theorem State.setReg_up (s : State) (a : Nat) (v : Word) : (s.setReg a v).up = s.up := rfl
@[simp] theorem State.setReg_sys (s : State) (a : Nat) (v : Word) : (s.setReg a v).sys = s.sys := rfl
@[simp] theorem State.setReg_hearth (s : State) (a : Nat) (v : Word) : (s.setReg a v).hearth = s.hearth := rfl
@[simp] theorem State.setReg_macA (s : State) (a : Nat) (v : Word) : (s.setReg a v).macA = s.macA := rfl
@[simp] theorem State.setReg_macB (s : State) (a : Nat) (v : Word) : (s.setReg a v).macB = s.macB := rfl
@[simp] theorem State.setReg_macSv (s : State) (a : Nat) (v : Word) : (s.setReg a v).macSv = s.macSv := rfl
@[simp] theorem State.setReg_ip (s : State) (a : Nat) (v : Word) : (s.setReg a v).ip = s.ip := rfl
@[simp] theorem State.setReg_ipSv (s : State) (a : Nat) (v : Word) : (s.setReg a v).ipSv = s.ipSv := rfl
@[simp] theorem State.setReg_groups (s : State) (a : Nat) (v : Word) : (s.setReg a v).groups = s.groups := rfl
@[simp] theorem State.setReg_reports (s : State) (a : Nat) (v : Word) : (s.setReg a v).reports = s.reports := rfl
@[simp] theorem State.setReg_ingress (s : State) (a : Nat) (v : Word) : (s.setReg a v).ingress = s.ingress := rfl
@[simp] theorem State.setReg_fs (s : State) (a : Nat) (v : Word) : (s.setReg a v).fs = s.fs := rfl
@[simp] theorem State.setReg_anvil (s : State) (a : Nat) (v : Word) : (s.setReg a v).anvil = s.anvil := rfl
@[simp] theorem State.setReg_strands (s : State) (a : Nat) (v : Word) : (s.setReg a v).strands = s.strands := rfl
@[simp] theorem State.setReg_banks (s : State) (a : Nat) (v : Word) : (s.setReg a v).banks = s.banks := rfl
@[simp] theorem State.setReg_lamp (s : State) (a : Nat) (v : Word) : (s.setReg a v).lamp = s.lamp := rfl
@[simp] theorem State.setReg_sched (s : State) (a : Nat) (v : Word) : (s.setReg a v).sched = s.sched := rfl
@[simp] theorem State.setReg_arb (s : State) (a : Nat) (v : Word) : (s.setReg a v).arb = s.arb := rfl
@[simp] theorem State.setReg_jnl (s : State) (a : Nat) (v : Word) : (s.setReg a v).jnl = s.jnl := rfl
@[simp] theorem State.setReg_ctrl (s : State) (a : Nat) (v : Word) : (s.setReg a v).ctrl = s.ctrl := rfl
@[simp] theorem State.setReg_red (s : State) (a : Nat) (v : Word) : (s.setReg a v).red = s.red := rfl
@[simp] theorem State.setReg_nvm (s : State) (a : Nat) (v : Word) : (s.setReg a v).nvm = s.nvm := rfl
@[simp] theorem State.setReg_work (s : State) (a : Nat) (v : Word) : (s.setReg a v).work = s.work := rfl
@[simp] theorem State.setReg_bist (s : State) (a : Nat) (v : Word) : (s.setReg a v).bist = s.bist := rfl
@[simp] theorem State.setReg_trim (s : State) (a : Nat) (v : Word) : (s.setReg a v).trim = s.trim := rfl
@[simp] theorem State.setReg_tap (s : State) (a : Nat) (v : Word) : (s.setReg a v).tap = s.tap := rfl
@[simp] theorem State.setReg_byteLatch (s : State) (a : Nat) (v : Word) : (s.setReg a v).byteLatch = s.byteLatch := rfl
@[simp] theorem State.setReg_draws (s : State) (a : Nat) (v : Word) : (s.setReg a v).draws = s.draws := rfl
@[simp] theorem State.setReg_memory (s : State) (a : Nat) (v : Word) : (s.setReg a v).memory = s.memory := rfl
@[simp] theorem State.setReg_shadows (s : State) (a : Nat) (v : Word) : (s.setReg a v).shadows = s.shadows := rfl
@[simp] theorem State.setReg_pending (s : State) (a : Nat) (v : Word) : (s.setReg a v).pending = s.pending := rfl

/-! ### `State.setRegN` -/

@[simp] theorem State.setRegN_mode (s : State) (a n : Nat) : (s.setRegN a n).mode = s.mode := rfl
@[simp] theorem State.setRegN_time (s : State) (a n : Nat) : (s.setRegN a n).time = s.time := rfl
@[simp] theorem State.setRegN_up (s : State) (a n : Nat) : (s.setRegN a n).up = s.up := rfl
@[simp] theorem State.setRegN_sys (s : State) (a n : Nat) : (s.setRegN a n).sys = s.sys := rfl
@[simp] theorem State.setRegN_hearth (s : State) (a n : Nat) : (s.setRegN a n).hearth = s.hearth := rfl
@[simp] theorem State.setRegN_macA (s : State) (a n : Nat) : (s.setRegN a n).macA = s.macA := rfl
@[simp] theorem State.setRegN_macB (s : State) (a n : Nat) : (s.setRegN a n).macB = s.macB := rfl
@[simp] theorem State.setRegN_macSv (s : State) (a n : Nat) : (s.setRegN a n).macSv = s.macSv := rfl
@[simp] theorem State.setRegN_ip (s : State) (a n : Nat) : (s.setRegN a n).ip = s.ip := rfl
@[simp] theorem State.setRegN_ipSv (s : State) (a n : Nat) : (s.setRegN a n).ipSv = s.ipSv := rfl
@[simp] theorem State.setRegN_groups (s : State) (a n : Nat) : (s.setRegN a n).groups = s.groups := rfl
@[simp] theorem State.setRegN_reports (s : State) (a n : Nat) : (s.setRegN a n).reports = s.reports := rfl
@[simp] theorem State.setRegN_ingress (s : State) (a n : Nat) : (s.setRegN a n).ingress = s.ingress := rfl
@[simp] theorem State.setRegN_fs (s : State) (a n : Nat) : (s.setRegN a n).fs = s.fs := rfl
@[simp] theorem State.setRegN_anvil (s : State) (a n : Nat) : (s.setRegN a n).anvil = s.anvil := rfl
@[simp] theorem State.setRegN_strands (s : State) (a n : Nat) : (s.setRegN a n).strands = s.strands := rfl
@[simp] theorem State.setRegN_banks (s : State) (a n : Nat) : (s.setRegN a n).banks = s.banks := rfl
@[simp] theorem State.setRegN_lamp (s : State) (a n : Nat) : (s.setRegN a n).lamp = s.lamp := rfl
@[simp] theorem State.setRegN_sched (s : State) (a n : Nat) : (s.setRegN a n).sched = s.sched := rfl
@[simp] theorem State.setRegN_arb (s : State) (a n : Nat) : (s.setRegN a n).arb = s.arb := rfl
@[simp] theorem State.setRegN_jnl (s : State) (a n : Nat) : (s.setRegN a n).jnl = s.jnl := rfl
@[simp] theorem State.setRegN_ctrl (s : State) (a n : Nat) : (s.setRegN a n).ctrl = s.ctrl := rfl
@[simp] theorem State.setRegN_red (s : State) (a n : Nat) : (s.setRegN a n).red = s.red := rfl
@[simp] theorem State.setRegN_nvm (s : State) (a n : Nat) : (s.setRegN a n).nvm = s.nvm := rfl
@[simp] theorem State.setRegN_work (s : State) (a n : Nat) : (s.setRegN a n).work = s.work := rfl
@[simp] theorem State.setRegN_bist (s : State) (a n : Nat) : (s.setRegN a n).bist = s.bist := rfl
@[simp] theorem State.setRegN_trim (s : State) (a n : Nat) : (s.setRegN a n).trim = s.trim := rfl
@[simp] theorem State.setRegN_tap (s : State) (a n : Nat) : (s.setRegN a n).tap = s.tap := rfl
@[simp] theorem State.setRegN_byteLatch (s : State) (a n : Nat) : (s.setRegN a n).byteLatch = s.byteLatch := rfl
@[simp] theorem State.setRegN_draws (s : State) (a n : Nat) : (s.setRegN a n).draws = s.draws := rfl
@[simp] theorem State.setRegN_memory (s : State) (a n : Nat) : (s.setRegN a n).memory = s.memory := rfl
@[simp] theorem State.setRegN_shadows (s : State) (a n : Nat) : (s.setRegN a n).shadows = s.shadows := rfl
@[simp] theorem State.setRegN_pending (s : State) (a n : Nat) : (s.setRegN a n).pending = s.pending := rfl

/-! ### `State.count` -/

@[simp] theorem State.count_mode (s : State) (a : Nat) : (s.count a).mode = s.mode := rfl
@[simp] theorem State.count_time (s : State) (a : Nat) : (s.count a).time = s.time := rfl
@[simp] theorem State.count_up (s : State) (a : Nat) : (s.count a).up = s.up := rfl
@[simp] theorem State.count_sys (s : State) (a : Nat) : (s.count a).sys = s.sys := rfl
@[simp] theorem State.count_hearth (s : State) (a : Nat) : (s.count a).hearth = s.hearth := rfl
@[simp] theorem State.count_macA (s : State) (a : Nat) : (s.count a).macA = s.macA := rfl
@[simp] theorem State.count_macB (s : State) (a : Nat) : (s.count a).macB = s.macB := rfl
@[simp] theorem State.count_macSv (s : State) (a : Nat) : (s.count a).macSv = s.macSv := rfl
@[simp] theorem State.count_ip (s : State) (a : Nat) : (s.count a).ip = s.ip := rfl
@[simp] theorem State.count_ipSv (s : State) (a : Nat) : (s.count a).ipSv = s.ipSv := rfl
@[simp] theorem State.count_groups (s : State) (a : Nat) : (s.count a).groups = s.groups := rfl
@[simp] theorem State.count_reports (s : State) (a : Nat) : (s.count a).reports = s.reports := rfl
@[simp] theorem State.count_ingress (s : State) (a : Nat) : (s.count a).ingress = s.ingress := rfl
@[simp] theorem State.count_fs (s : State) (a : Nat) : (s.count a).fs = s.fs := rfl
@[simp] theorem State.count_anvil (s : State) (a : Nat) : (s.count a).anvil = s.anvil := rfl
@[simp] theorem State.count_strands (s : State) (a : Nat) : (s.count a).strands = s.strands := rfl
@[simp] theorem State.count_banks (s : State) (a : Nat) : (s.count a).banks = s.banks := rfl
@[simp] theorem State.count_lamp (s : State) (a : Nat) : (s.count a).lamp = s.lamp := rfl
@[simp] theorem State.count_sched (s : State) (a : Nat) : (s.count a).sched = s.sched := rfl
@[simp] theorem State.count_arb (s : State) (a : Nat) : (s.count a).arb = s.arb := rfl
@[simp] theorem State.count_jnl (s : State) (a : Nat) : (s.count a).jnl = s.jnl := rfl
@[simp] theorem State.count_ctrl (s : State) (a : Nat) : (s.count a).ctrl = s.ctrl := rfl
@[simp] theorem State.count_red (s : State) (a : Nat) : (s.count a).red = s.red := rfl
@[simp] theorem State.count_nvm (s : State) (a : Nat) : (s.count a).nvm = s.nvm := rfl
@[simp] theorem State.count_work (s : State) (a : Nat) : (s.count a).work = s.work := rfl
@[simp] theorem State.count_bist (s : State) (a : Nat) : (s.count a).bist = s.bist := rfl
@[simp] theorem State.count_trim (s : State) (a : Nat) : (s.count a).trim = s.trim := rfl
@[simp] theorem State.count_tap (s : State) (a : Nat) : (s.count a).tap = s.tap := rfl
@[simp] theorem State.count_byteLatch (s : State) (a : Nat) : (s.count a).byteLatch = s.byteLatch := rfl
@[simp] theorem State.count_draws (s : State) (a : Nat) : (s.count a).draws = s.draws := rfl
@[simp] theorem State.count_memory (s : State) (a : Nat) : (s.count a).memory = s.memory := rfl
@[simp] theorem State.count_shadows (s : State) (a : Nat) : (s.count a).shadows = s.shadows := rfl
@[simp] theorem State.count_pending (s : State) (a : Nat) : (s.count a).pending = s.pending := rfl

/-! ### `State.countBytes` -/

@[simp] theorem State.countBytes_mode (s : State) (a n : Nat) : (s.countBytes a n).mode = s.mode := (State.setRegN_mode _ _ _).trans (State.setRegN_mode _ _ _)
@[simp] theorem State.countBytes_time (s : State) (a n : Nat) : (s.countBytes a n).time = s.time := (State.setRegN_time _ _ _).trans (State.setRegN_time _ _ _)
@[simp] theorem State.countBytes_up (s : State) (a n : Nat) : (s.countBytes a n).up = s.up := (State.setRegN_up _ _ _).trans (State.setRegN_up _ _ _)
@[simp] theorem State.countBytes_sys (s : State) (a n : Nat) : (s.countBytes a n).sys = s.sys := (State.setRegN_sys _ _ _).trans (State.setRegN_sys _ _ _)
@[simp] theorem State.countBytes_hearth (s : State) (a n : Nat) : (s.countBytes a n).hearth = s.hearth := (State.setRegN_hearth _ _ _).trans (State.setRegN_hearth _ _ _)
@[simp] theorem State.countBytes_macA (s : State) (a n : Nat) : (s.countBytes a n).macA = s.macA := (State.setRegN_macA _ _ _).trans (State.setRegN_macA _ _ _)
@[simp] theorem State.countBytes_macB (s : State) (a n : Nat) : (s.countBytes a n).macB = s.macB := (State.setRegN_macB _ _ _).trans (State.setRegN_macB _ _ _)
@[simp] theorem State.countBytes_macSv (s : State) (a n : Nat) : (s.countBytes a n).macSv = s.macSv := (State.setRegN_macSv _ _ _).trans (State.setRegN_macSv _ _ _)
@[simp] theorem State.countBytes_ip (s : State) (a n : Nat) : (s.countBytes a n).ip = s.ip := (State.setRegN_ip _ _ _).trans (State.setRegN_ip _ _ _)
@[simp] theorem State.countBytes_ipSv (s : State) (a n : Nat) : (s.countBytes a n).ipSv = s.ipSv := (State.setRegN_ipSv _ _ _).trans (State.setRegN_ipSv _ _ _)
@[simp] theorem State.countBytes_groups (s : State) (a n : Nat) : (s.countBytes a n).groups = s.groups := (State.setRegN_groups _ _ _).trans (State.setRegN_groups _ _ _)
@[simp] theorem State.countBytes_reports (s : State) (a n : Nat) : (s.countBytes a n).reports = s.reports := (State.setRegN_reports _ _ _).trans (State.setRegN_reports _ _ _)
@[simp] theorem State.countBytes_ingress (s : State) (a n : Nat) : (s.countBytes a n).ingress = s.ingress := (State.setRegN_ingress _ _ _).trans (State.setRegN_ingress _ _ _)
@[simp] theorem State.countBytes_fs (s : State) (a n : Nat) : (s.countBytes a n).fs = s.fs := (State.setRegN_fs _ _ _).trans (State.setRegN_fs _ _ _)
@[simp] theorem State.countBytes_anvil (s : State) (a n : Nat) : (s.countBytes a n).anvil = s.anvil := (State.setRegN_anvil _ _ _).trans (State.setRegN_anvil _ _ _)
@[simp] theorem State.countBytes_strands (s : State) (a n : Nat) : (s.countBytes a n).strands = s.strands := (State.setRegN_strands _ _ _).trans (State.setRegN_strands _ _ _)
@[simp] theorem State.countBytes_banks (s : State) (a n : Nat) : (s.countBytes a n).banks = s.banks := (State.setRegN_banks _ _ _).trans (State.setRegN_banks _ _ _)
@[simp] theorem State.countBytes_lamp (s : State) (a n : Nat) : (s.countBytes a n).lamp = s.lamp := (State.setRegN_lamp _ _ _).trans (State.setRegN_lamp _ _ _)
@[simp] theorem State.countBytes_sched (s : State) (a n : Nat) : (s.countBytes a n).sched = s.sched := (State.setRegN_sched _ _ _).trans (State.setRegN_sched _ _ _)
@[simp] theorem State.countBytes_arb (s : State) (a n : Nat) : (s.countBytes a n).arb = s.arb := (State.setRegN_arb _ _ _).trans (State.setRegN_arb _ _ _)
@[simp] theorem State.countBytes_jnl (s : State) (a n : Nat) : (s.countBytes a n).jnl = s.jnl := (State.setRegN_jnl _ _ _).trans (State.setRegN_jnl _ _ _)
@[simp] theorem State.countBytes_ctrl (s : State) (a n : Nat) : (s.countBytes a n).ctrl = s.ctrl := (State.setRegN_ctrl _ _ _).trans (State.setRegN_ctrl _ _ _)
@[simp] theorem State.countBytes_red (s : State) (a n : Nat) : (s.countBytes a n).red = s.red := (State.setRegN_red _ _ _).trans (State.setRegN_red _ _ _)
@[simp] theorem State.countBytes_nvm (s : State) (a n : Nat) : (s.countBytes a n).nvm = s.nvm := (State.setRegN_nvm _ _ _).trans (State.setRegN_nvm _ _ _)
@[simp] theorem State.countBytes_work (s : State) (a n : Nat) : (s.countBytes a n).work = s.work := (State.setRegN_work _ _ _).trans (State.setRegN_work _ _ _)
@[simp] theorem State.countBytes_bist (s : State) (a n : Nat) : (s.countBytes a n).bist = s.bist := (State.setRegN_bist _ _ _).trans (State.setRegN_bist _ _ _)
@[simp] theorem State.countBytes_trim (s : State) (a n : Nat) : (s.countBytes a n).trim = s.trim := (State.setRegN_trim _ _ _).trans (State.setRegN_trim _ _ _)
@[simp] theorem State.countBytes_tap (s : State) (a n : Nat) : (s.countBytes a n).tap = s.tap := (State.setRegN_tap _ _ _).trans (State.setRegN_tap _ _ _)
@[simp] theorem State.countBytes_byteLatch (s : State) (a n : Nat) : (s.countBytes a n).byteLatch = s.byteLatch := (State.setRegN_byteLatch _ _ _).trans (State.setRegN_byteLatch _ _ _)
@[simp] theorem State.countBytes_draws (s : State) (a n : Nat) : (s.countBytes a n).draws = s.draws := (State.setRegN_draws _ _ _).trans (State.setRegN_draws _ _ _)
@[simp] theorem State.countBytes_memory (s : State) (a n : Nat) : (s.countBytes a n).memory = s.memory := (State.setRegN_memory _ _ _).trans (State.setRegN_memory _ _ _)
@[simp] theorem State.countBytes_shadows (s : State) (a n : Nat) : (s.countBytes a n).shadows = s.shadows := (State.setRegN_shadows _ _ _).trans (State.setRegN_shadows _ _ _)
@[simp] theorem State.countBytes_pending (s : State) (a n : Nat) : (s.countBytes a n).pending = s.pending := (State.setRegN_pending _ _ _).trans (State.setRegN_pending _ _ _)

/-! ### `State.setEv` -/

@[simp] theorem State.setEv_mode (s : State) (e : Ev) : (s.setEv e).mode = s.mode := rfl
@[simp] theorem State.setEv_time (s : State) (e : Ev) : (s.setEv e).time = s.time := rfl
@[simp] theorem State.setEv_up (s : State) (e : Ev) : (s.setEv e).up = s.up := rfl
@[simp] theorem State.setEv_sys (s : State) (e : Ev) : (s.setEv e).sys = s.sys := rfl
@[simp] theorem State.setEv_hearth (s : State) (e : Ev) : (s.setEv e).hearth = s.hearth := rfl
@[simp] theorem State.setEv_macA (s : State) (e : Ev) : (s.setEv e).macA = s.macA := rfl
@[simp] theorem State.setEv_macB (s : State) (e : Ev) : (s.setEv e).macB = s.macB := rfl
@[simp] theorem State.setEv_macSv (s : State) (e : Ev) : (s.setEv e).macSv = s.macSv := rfl
@[simp] theorem State.setEv_ip (s : State) (e : Ev) : (s.setEv e).ip = s.ip := rfl
@[simp] theorem State.setEv_ipSv (s : State) (e : Ev) : (s.setEv e).ipSv = s.ipSv := rfl
@[simp] theorem State.setEv_groups (s : State) (e : Ev) : (s.setEv e).groups = s.groups := rfl
@[simp] theorem State.setEv_reports (s : State) (e : Ev) : (s.setEv e).reports = s.reports := rfl
@[simp] theorem State.setEv_ingress (s : State) (e : Ev) : (s.setEv e).ingress = s.ingress := rfl
@[simp] theorem State.setEv_fs (s : State) (e : Ev) : (s.setEv e).fs = s.fs := rfl
@[simp] theorem State.setEv_anvil (s : State) (e : Ev) : (s.setEv e).anvil = s.anvil := rfl
@[simp] theorem State.setEv_strands (s : State) (e : Ev) : (s.setEv e).strands = s.strands := rfl
@[simp] theorem State.setEv_banks (s : State) (e : Ev) : (s.setEv e).banks = s.banks := rfl
@[simp] theorem State.setEv_lamp (s : State) (e : Ev) : (s.setEv e).lamp = s.lamp := rfl
@[simp] theorem State.setEv_sched (s : State) (e : Ev) : (s.setEv e).sched = s.sched := rfl
@[simp] theorem State.setEv_arb (s : State) (e : Ev) : (s.setEv e).arb = s.arb := rfl
@[simp] theorem State.setEv_jnl (s : State) (e : Ev) : (s.setEv e).jnl = s.jnl := rfl
@[simp] theorem State.setEv_ctrl (s : State) (e : Ev) : (s.setEv e).ctrl = s.ctrl := rfl
@[simp] theorem State.setEv_red (s : State) (e : Ev) : (s.setEv e).red = s.red := rfl
@[simp] theorem State.setEv_nvm (s : State) (e : Ev) : (s.setEv e).nvm = s.nvm := rfl
@[simp] theorem State.setEv_work (s : State) (e : Ev) : (s.setEv e).work = s.work := rfl
@[simp] theorem State.setEv_bist (s : State) (e : Ev) : (s.setEv e).bist = s.bist := rfl
@[simp] theorem State.setEv_trim (s : State) (e : Ev) : (s.setEv e).trim = s.trim := rfl
@[simp] theorem State.setEv_tap (s : State) (e : Ev) : (s.setEv e).tap = s.tap := rfl
@[simp] theorem State.setEv_byteLatch (s : State) (e : Ev) : (s.setEv e).byteLatch = s.byteLatch := rfl
@[simp] theorem State.setEv_draws (s : State) (e : Ev) : (s.setEv e).draws = s.draws := rfl
@[simp] theorem State.setEv_memory (s : State) (e : Ev) : (s.setEv e).memory = s.memory := rfl
@[simp] theorem State.setEv_shadows (s : State) (e : Ev) : (s.setEv e).shadows = s.shadows := rfl
@[simp] theorem State.setEv_pending (s : State) (e : Ev) : (s.setEv e).pending = s.pending := rfl

/-! ### `State.irq` -/

@[simp] theorem State.irq_mode (s : State) (b : Nat) : (s.irq b).mode = s.mode := rfl
@[simp] theorem State.irq_time (s : State) (b : Nat) : (s.irq b).time = s.time := rfl
@[simp] theorem State.irq_up (s : State) (b : Nat) : (s.irq b).up = s.up := rfl
@[simp] theorem State.irq_sys (s : State) (b : Nat) : (s.irq b).sys = s.sys := rfl
@[simp] theorem State.irq_hearth (s : State) (b : Nat) : (s.irq b).hearth = s.hearth := rfl
@[simp] theorem State.irq_macA (s : State) (b : Nat) : (s.irq b).macA = s.macA := rfl
@[simp] theorem State.irq_macB (s : State) (b : Nat) : (s.irq b).macB = s.macB := rfl
@[simp] theorem State.irq_macSv (s : State) (b : Nat) : (s.irq b).macSv = s.macSv := rfl
@[simp] theorem State.irq_ip (s : State) (b : Nat) : (s.irq b).ip = s.ip := rfl
@[simp] theorem State.irq_ipSv (s : State) (b : Nat) : (s.irq b).ipSv = s.ipSv := rfl
@[simp] theorem State.irq_groups (s : State) (b : Nat) : (s.irq b).groups = s.groups := rfl
@[simp] theorem State.irq_reports (s : State) (b : Nat) : (s.irq b).reports = s.reports := rfl
@[simp] theorem State.irq_ingress (s : State) (b : Nat) : (s.irq b).ingress = s.ingress := rfl
@[simp] theorem State.irq_fs (s : State) (b : Nat) : (s.irq b).fs = s.fs := rfl
@[simp] theorem State.irq_anvil (s : State) (b : Nat) : (s.irq b).anvil = s.anvil := rfl
@[simp] theorem State.irq_strands (s : State) (b : Nat) : (s.irq b).strands = s.strands := rfl
@[simp] theorem State.irq_banks (s : State) (b : Nat) : (s.irq b).banks = s.banks := rfl
@[simp] theorem State.irq_lamp (s : State) (b : Nat) : (s.irq b).lamp = s.lamp := rfl
@[simp] theorem State.irq_sched (s : State) (b : Nat) : (s.irq b).sched = s.sched := rfl
@[simp] theorem State.irq_arb (s : State) (b : Nat) : (s.irq b).arb = s.arb := rfl
@[simp] theorem State.irq_jnl (s : State) (b : Nat) : (s.irq b).jnl = s.jnl := rfl
@[simp] theorem State.irq_red (s : State) (b : Nat) : (s.irq b).red = s.red := rfl
@[simp] theorem State.irq_nvm (s : State) (b : Nat) : (s.irq b).nvm = s.nvm := rfl
@[simp] theorem State.irq_work (s : State) (b : Nat) : (s.irq b).work = s.work := rfl
@[simp] theorem State.irq_bist (s : State) (b : Nat) : (s.irq b).bist = s.bist := rfl
@[simp] theorem State.irq_trim (s : State) (b : Nat) : (s.irq b).trim = s.trim := rfl
@[simp] theorem State.irq_tap (s : State) (b : Nat) : (s.irq b).tap = s.tap := rfl
@[simp] theorem State.irq_regs (s : State) (b : Nat) : (s.irq b).regs = s.regs := rfl
@[simp] theorem State.irq_byteLatch (s : State) (b : Nat) : (s.irq b).byteLatch = s.byteLatch := rfl
@[simp] theorem State.irq_draws (s : State) (b : Nat) : (s.irq b).draws = s.draws := rfl
@[simp] theorem State.irq_memory (s : State) (b : Nat) : (s.irq b).memory = s.memory := rfl
@[simp] theorem State.irq_shadows (s : State) (b : Nat) : (s.irq b).shadows = s.shadows := rfl
@[simp] theorem State.irq_pending (s : State) (b : Nat) : (s.irq b).pending = s.pending := rfl

/-! ### `State.setJSource` -/

@[simp] theorem State.setJSource_mode (s : State) (src : Nat) (b : JSource) : (s.setJSource src b).mode = s.mode := rfl
@[simp] theorem State.setJSource_time (s : State) (src : Nat) (b : JSource) : (s.setJSource src b).time = s.time := rfl
@[simp] theorem State.setJSource_up (s : State) (src : Nat) (b : JSource) : (s.setJSource src b).up = s.up := rfl
@[simp] theorem State.setJSource_sys (s : State) (src : Nat) (b : JSource) : (s.setJSource src b).sys = s.sys := rfl
@[simp] theorem State.setJSource_hearth (s : State) (src : Nat) (b : JSource) : (s.setJSource src b).hearth = s.hearth := rfl
@[simp] theorem State.setJSource_macA (s : State) (src : Nat) (b : JSource) : (s.setJSource src b).macA = s.macA := rfl
@[simp] theorem State.setJSource_macB (s : State) (src : Nat) (b : JSource) : (s.setJSource src b).macB = s.macB := rfl
@[simp] theorem State.setJSource_macSv (s : State) (src : Nat) (b : JSource) : (s.setJSource src b).macSv = s.macSv := rfl
@[simp] theorem State.setJSource_ip (s : State) (src : Nat) (b : JSource) : (s.setJSource src b).ip = s.ip := rfl
@[simp] theorem State.setJSource_ipSv (s : State) (src : Nat) (b : JSource) : (s.setJSource src b).ipSv = s.ipSv := rfl
@[simp] theorem State.setJSource_groups (s : State) (src : Nat) (b : JSource) : (s.setJSource src b).groups = s.groups := rfl
@[simp] theorem State.setJSource_reports (s : State) (src : Nat) (b : JSource) : (s.setJSource src b).reports = s.reports := rfl
@[simp] theorem State.setJSource_ingress (s : State) (src : Nat) (b : JSource) : (s.setJSource src b).ingress = s.ingress := rfl
@[simp] theorem State.setJSource_fs (s : State) (src : Nat) (b : JSource) : (s.setJSource src b).fs = s.fs := rfl
@[simp] theorem State.setJSource_anvil (s : State) (src : Nat) (b : JSource) : (s.setJSource src b).anvil = s.anvil := rfl
@[simp] theorem State.setJSource_strands (s : State) (src : Nat) (b : JSource) : (s.setJSource src b).strands = s.strands := rfl
@[simp] theorem State.setJSource_banks (s : State) (src : Nat) (b : JSource) : (s.setJSource src b).banks = s.banks := rfl
@[simp] theorem State.setJSource_lamp (s : State) (src : Nat) (b : JSource) : (s.setJSource src b).lamp = s.lamp := rfl
@[simp] theorem State.setJSource_sched (s : State) (src : Nat) (b : JSource) : (s.setJSource src b).sched = s.sched := rfl
@[simp] theorem State.setJSource_arb (s : State) (src : Nat) (b : JSource) : (s.setJSource src b).arb = s.arb := rfl
@[simp] theorem State.setJSource_ctrl (s : State) (src : Nat) (b : JSource) : (s.setJSource src b).ctrl = s.ctrl := rfl
@[simp] theorem State.setJSource_red (s : State) (src : Nat) (b : JSource) : (s.setJSource src b).red = s.red := rfl
@[simp] theorem State.setJSource_nvm (s : State) (src : Nat) (b : JSource) : (s.setJSource src b).nvm = s.nvm := rfl
@[simp] theorem State.setJSource_work (s : State) (src : Nat) (b : JSource) : (s.setJSource src b).work = s.work := rfl
@[simp] theorem State.setJSource_bist (s : State) (src : Nat) (b : JSource) : (s.setJSource src b).bist = s.bist := rfl
@[simp] theorem State.setJSource_trim (s : State) (src : Nat) (b : JSource) : (s.setJSource src b).trim = s.trim := rfl
@[simp] theorem State.setJSource_tap (s : State) (src : Nat) (b : JSource) : (s.setJSource src b).tap = s.tap := rfl
@[simp] theorem State.setJSource_regs (s : State) (src : Nat) (b : JSource) : (s.setJSource src b).regs = s.regs := rfl
@[simp] theorem State.setJSource_byteLatch (s : State) (src : Nat) (b : JSource) : (s.setJSource src b).byteLatch = s.byteLatch := rfl
@[simp] theorem State.setJSource_draws (s : State) (src : Nat) (b : JSource) : (s.setJSource src b).draws = s.draws := rfl
@[simp] theorem State.setJSource_memory (s : State) (src : Nat) (b : JSource) : (s.setJSource src b).memory = s.memory := rfl
@[simp] theorem State.setJSource_shadows (s : State) (src : Nat) (b : JSource) : (s.setJSource src b).shadows = s.shadows := rfl
@[simp] theorem State.setJSource_pending (s : State) (src : Nat) (b : JSource) : (s.setJSource src b).pending = s.pending := rfl

/-! ### `State.setParam` -/

@[simp] theorem State.setParam_mode (s : State) (id : Nat) (v : List Byte) : (s.setParam id v).mode = s.mode := rfl
@[simp] theorem State.setParam_time (s : State) (id : Nat) (v : List Byte) : (s.setParam id v).time = s.time := rfl
@[simp] theorem State.setParam_up (s : State) (id : Nat) (v : List Byte) : (s.setParam id v).up = s.up := rfl
@[simp] theorem State.setParam_sys (s : State) (id : Nat) (v : List Byte) : (s.setParam id v).sys = s.sys := rfl
@[simp] theorem State.setParam_hearth (s : State) (id : Nat) (v : List Byte) : (s.setParam id v).hearth = s.hearth := rfl
@[simp] theorem State.setParam_macA (s : State) (id : Nat) (v : List Byte) : (s.setParam id v).macA = s.macA := rfl
@[simp] theorem State.setParam_macB (s : State) (id : Nat) (v : List Byte) : (s.setParam id v).macB = s.macB := rfl
@[simp] theorem State.setParam_macSv (s : State) (id : Nat) (v : List Byte) : (s.setParam id v).macSv = s.macSv := rfl
@[simp] theorem State.setParam_ip (s : State) (id : Nat) (v : List Byte) : (s.setParam id v).ip = s.ip := rfl
@[simp] theorem State.setParam_ipSv (s : State) (id : Nat) (v : List Byte) : (s.setParam id v).ipSv = s.ipSv := rfl
@[simp] theorem State.setParam_groups (s : State) (id : Nat) (v : List Byte) : (s.setParam id v).groups = s.groups := rfl
@[simp] theorem State.setParam_reports (s : State) (id : Nat) (v : List Byte) : (s.setParam id v).reports = s.reports := rfl
@[simp] theorem State.setParam_ingress (s : State) (id : Nat) (v : List Byte) : (s.setParam id v).ingress = s.ingress := rfl
@[simp] theorem State.setParam_fs (s : State) (id : Nat) (v : List Byte) : (s.setParam id v).fs = s.fs := rfl
@[simp] theorem State.setParam_anvil (s : State) (id : Nat) (v : List Byte) : (s.setParam id v).anvil = s.anvil := rfl
@[simp] theorem State.setParam_strands (s : State) (id : Nat) (v : List Byte) : (s.setParam id v).strands = s.strands := rfl
@[simp] theorem State.setParam_banks (s : State) (id : Nat) (v : List Byte) : (s.setParam id v).banks = s.banks := rfl
@[simp] theorem State.setParam_lamp (s : State) (id : Nat) (v : List Byte) : (s.setParam id v).lamp = s.lamp := rfl
@[simp] theorem State.setParam_sched (s : State) (id : Nat) (v : List Byte) : (s.setParam id v).sched = s.sched := rfl
@[simp] theorem State.setParam_arb (s : State) (id : Nat) (v : List Byte) : (s.setParam id v).arb = s.arb := rfl
@[simp] theorem State.setParam_jnl (s : State) (id : Nat) (v : List Byte) : (s.setParam id v).jnl = s.jnl := rfl
@[simp] theorem State.setParam_red (s : State) (id : Nat) (v : List Byte) : (s.setParam id v).red = s.red := rfl
@[simp] theorem State.setParam_nvm (s : State) (id : Nat) (v : List Byte) : (s.setParam id v).nvm = s.nvm := rfl
@[simp] theorem State.setParam_work (s : State) (id : Nat) (v : List Byte) : (s.setParam id v).work = s.work := rfl
@[simp] theorem State.setParam_bist (s : State) (id : Nat) (v : List Byte) : (s.setParam id v).bist = s.bist := rfl
@[simp] theorem State.setParam_trim (s : State) (id : Nat) (v : List Byte) : (s.setParam id v).trim = s.trim := rfl
@[simp] theorem State.setParam_tap (s : State) (id : Nat) (v : List Byte) : (s.setParam id v).tap = s.tap := rfl
@[simp] theorem State.setParam_regs (s : State) (id : Nat) (v : List Byte) : (s.setParam id v).regs = s.regs := rfl
@[simp] theorem State.setParam_byteLatch (s : State) (id : Nat) (v : List Byte) : (s.setParam id v).byteLatch = s.byteLatch := rfl
@[simp] theorem State.setParam_draws (s : State) (id : Nat) (v : List Byte) : (s.setParam id v).draws = s.draws := rfl
@[simp] theorem State.setParam_memory (s : State) (id : Nat) (v : List Byte) : (s.setParam id v).memory = s.memory := rfl
@[simp] theorem State.setParam_shadows (s : State) (id : Nat) (v : List Byte) : (s.setParam id v).shadows = s.shadows := rfl
@[simp] theorem State.setParam_pending (s : State) (id : Nat) (v : List Byte) : (s.setParam id v).pending = s.pending := rfl

/-! ### `State.setUnits` -/

@[simp] theorem State.setUnits_mode (s : State) (u : Nat) : (s.setUnits u).mode = s.mode := rfl
@[simp] theorem State.setUnits_up (s : State) (u : Nat) : (s.setUnits u).up = s.up := rfl
@[simp] theorem State.setUnits_sys (s : State) (u : Nat) : (s.setUnits u).sys = s.sys := rfl
@[simp] theorem State.setUnits_hearth (s : State) (u : Nat) : (s.setUnits u).hearth = s.hearth := rfl
@[simp] theorem State.setUnits_macA (s : State) (u : Nat) : (s.setUnits u).macA = s.macA := rfl
@[simp] theorem State.setUnits_macB (s : State) (u : Nat) : (s.setUnits u).macB = s.macB := rfl
@[simp] theorem State.setUnits_macSv (s : State) (u : Nat) : (s.setUnits u).macSv = s.macSv := rfl
@[simp] theorem State.setUnits_ip (s : State) (u : Nat) : (s.setUnits u).ip = s.ip := rfl
@[simp] theorem State.setUnits_ipSv (s : State) (u : Nat) : (s.setUnits u).ipSv = s.ipSv := rfl
@[simp] theorem State.setUnits_groups (s : State) (u : Nat) : (s.setUnits u).groups = s.groups := rfl
@[simp] theorem State.setUnits_reports (s : State) (u : Nat) : (s.setUnits u).reports = s.reports := rfl
@[simp] theorem State.setUnits_ingress (s : State) (u : Nat) : (s.setUnits u).ingress = s.ingress := rfl
@[simp] theorem State.setUnits_fs (s : State) (u : Nat) : (s.setUnits u).fs = s.fs := rfl
@[simp] theorem State.setUnits_anvil (s : State) (u : Nat) : (s.setUnits u).anvil = s.anvil := rfl
@[simp] theorem State.setUnits_strands (s : State) (u : Nat) : (s.setUnits u).strands = s.strands := rfl
@[simp] theorem State.setUnits_banks (s : State) (u : Nat) : (s.setUnits u).banks = s.banks := rfl
@[simp] theorem State.setUnits_lamp (s : State) (u : Nat) : (s.setUnits u).lamp = s.lamp := rfl
@[simp] theorem State.setUnits_sched (s : State) (u : Nat) : (s.setUnits u).sched = s.sched := rfl
@[simp] theorem State.setUnits_arb (s : State) (u : Nat) : (s.setUnits u).arb = s.arb := rfl
@[simp] theorem State.setUnits_jnl (s : State) (u : Nat) : (s.setUnits u).jnl = s.jnl := rfl
@[simp] theorem State.setUnits_ctrl (s : State) (u : Nat) : (s.setUnits u).ctrl = s.ctrl := rfl
@[simp] theorem State.setUnits_red (s : State) (u : Nat) : (s.setUnits u).red = s.red := rfl
@[simp] theorem State.setUnits_nvm (s : State) (u : Nat) : (s.setUnits u).nvm = s.nvm := rfl
@[simp] theorem State.setUnits_work (s : State) (u : Nat) : (s.setUnits u).work = s.work := rfl
@[simp] theorem State.setUnits_bist (s : State) (u : Nat) : (s.setUnits u).bist = s.bist := rfl
@[simp] theorem State.setUnits_trim (s : State) (u : Nat) : (s.setUnits u).trim = s.trim := rfl
@[simp] theorem State.setUnits_tap (s : State) (u : Nat) : (s.setUnits u).tap = s.tap := rfl
@[simp] theorem State.setUnits_regs (s : State) (u : Nat) : (s.setUnits u).regs = s.regs := rfl
@[simp] theorem State.setUnits_byteLatch (s : State) (u : Nat) : (s.setUnits u).byteLatch = s.byteLatch := rfl
@[simp] theorem State.setUnits_draws (s : State) (u : Nat) : (s.setUnits u).draws = s.draws := rfl
@[simp] theorem State.setUnits_memory (s : State) (u : Nat) : (s.setUnits u).memory = s.memory := rfl
@[simp] theorem State.setUnits_shadows (s : State) (u : Nat) : (s.setUnits u).shadows = s.shadows := rfl
@[simp] theorem State.setUnits_pending (s : State) (u : Nat) : (s.setUnits u).pending = s.pending := rfl

/-! ### `State.setClock` -/

@[simp] theorem State.setClock_mode (s : State) (u up : Nat) : (s.setClock u up).mode = s.mode := rfl
@[simp] theorem State.setClock_sys (s : State) (u up : Nat) : (s.setClock u up).sys = s.sys := rfl
@[simp] theorem State.setClock_hearth (s : State) (u up : Nat) : (s.setClock u up).hearth = s.hearth := rfl
@[simp] theorem State.setClock_macA (s : State) (u up : Nat) : (s.setClock u up).macA = s.macA := rfl
@[simp] theorem State.setClock_macB (s : State) (u up : Nat) : (s.setClock u up).macB = s.macB := rfl
@[simp] theorem State.setClock_macSv (s : State) (u up : Nat) : (s.setClock u up).macSv = s.macSv := rfl
@[simp] theorem State.setClock_ip (s : State) (u up : Nat) : (s.setClock u up).ip = s.ip := rfl
@[simp] theorem State.setClock_ipSv (s : State) (u up : Nat) : (s.setClock u up).ipSv = s.ipSv := rfl
@[simp] theorem State.setClock_groups (s : State) (u up : Nat) : (s.setClock u up).groups = s.groups := rfl
@[simp] theorem State.setClock_reports (s : State) (u up : Nat) : (s.setClock u up).reports = s.reports := rfl
@[simp] theorem State.setClock_ingress (s : State) (u up : Nat) : (s.setClock u up).ingress = s.ingress := rfl
@[simp] theorem State.setClock_fs (s : State) (u up : Nat) : (s.setClock u up).fs = s.fs := rfl
@[simp] theorem State.setClock_anvil (s : State) (u up : Nat) : (s.setClock u up).anvil = s.anvil := rfl
@[simp] theorem State.setClock_strands (s : State) (u up : Nat) : (s.setClock u up).strands = s.strands := rfl
@[simp] theorem State.setClock_banks (s : State) (u up : Nat) : (s.setClock u up).banks = s.banks := rfl
@[simp] theorem State.setClock_lamp (s : State) (u up : Nat) : (s.setClock u up).lamp = s.lamp := rfl
@[simp] theorem State.setClock_sched (s : State) (u up : Nat) : (s.setClock u up).sched = s.sched := rfl
@[simp] theorem State.setClock_arb (s : State) (u up : Nat) : (s.setClock u up).arb = s.arb := rfl
@[simp] theorem State.setClock_jnl (s : State) (u up : Nat) : (s.setClock u up).jnl = s.jnl := rfl
@[simp] theorem State.setClock_ctrl (s : State) (u up : Nat) : (s.setClock u up).ctrl = s.ctrl := rfl
@[simp] theorem State.setClock_red (s : State) (u up : Nat) : (s.setClock u up).red = s.red := rfl
@[simp] theorem State.setClock_nvm (s : State) (u up : Nat) : (s.setClock u up).nvm = s.nvm := rfl
@[simp] theorem State.setClock_work (s : State) (u up : Nat) : (s.setClock u up).work = s.work := rfl
@[simp] theorem State.setClock_bist (s : State) (u up : Nat) : (s.setClock u up).bist = s.bist := rfl
@[simp] theorem State.setClock_trim (s : State) (u up : Nat) : (s.setClock u up).trim = s.trim := rfl
@[simp] theorem State.setClock_tap (s : State) (u up : Nat) : (s.setClock u up).tap = s.tap := rfl
@[simp] theorem State.setClock_regs (s : State) (u up : Nat) : (s.setClock u up).regs = s.regs := rfl
@[simp] theorem State.setClock_byteLatch (s : State) (u up : Nat) : (s.setClock u up).byteLatch = s.byteLatch := rfl
@[simp] theorem State.setClock_draws (s : State) (u up : Nat) : (s.setClock u up).draws = s.draws := rfl
@[simp] theorem State.setClock_memory (s : State) (u up : Nat) : (s.setClock u up).memory = s.memory := rfl
@[simp] theorem State.setClock_shadows (s : State) (u up : Nat) : (s.setClock u up).shadows = s.shadows := rfl
@[simp] theorem State.setClock_pending (s : State) (u up : Nat) : (s.setClock u up).pending = s.pending := rfl

/-! ### `State.setMac` -/

@[simp] theorem State.setMac_mode (s : State) (p : Port) (m : Mac) : (s.setMac p m).mode = s.mode := by cases p <;> rfl
@[simp] theorem State.setMac_time (s : State) (p : Port) (m : Mac) : (s.setMac p m).time = s.time := by cases p <;> rfl
@[simp] theorem State.setMac_up (s : State) (p : Port) (m : Mac) : (s.setMac p m).up = s.up := by cases p <;> rfl
@[simp] theorem State.setMac_sys (s : State) (p : Port) (m : Mac) : (s.setMac p m).sys = s.sys := by cases p <;> rfl
@[simp] theorem State.setMac_hearth (s : State) (p : Port) (m : Mac) : (s.setMac p m).hearth = s.hearth := by cases p <;> rfl
@[simp] theorem State.setMac_ip (s : State) (p : Port) (m : Mac) : (s.setMac p m).ip = s.ip := by cases p <;> rfl
@[simp] theorem State.setMac_ipSv (s : State) (p : Port) (m : Mac) : (s.setMac p m).ipSv = s.ipSv := by cases p <;> rfl
@[simp] theorem State.setMac_groups (s : State) (p : Port) (m : Mac) : (s.setMac p m).groups = s.groups := by cases p <;> rfl
@[simp] theorem State.setMac_reports (s : State) (p : Port) (m : Mac) : (s.setMac p m).reports = s.reports := by cases p <;> rfl
@[simp] theorem State.setMac_ingress (s : State) (p : Port) (m : Mac) : (s.setMac p m).ingress = s.ingress := by cases p <;> rfl
@[simp] theorem State.setMac_fs (s : State) (p : Port) (m : Mac) : (s.setMac p m).fs = s.fs := by cases p <;> rfl
@[simp] theorem State.setMac_anvil (s : State) (p : Port) (m : Mac) : (s.setMac p m).anvil = s.anvil := by cases p <;> rfl
@[simp] theorem State.setMac_strands (s : State) (p : Port) (m : Mac) : (s.setMac p m).strands = s.strands := by cases p <;> rfl
@[simp] theorem State.setMac_banks (s : State) (p : Port) (m : Mac) : (s.setMac p m).banks = s.banks := by cases p <;> rfl
@[simp] theorem State.setMac_lamp (s : State) (p : Port) (m : Mac) : (s.setMac p m).lamp = s.lamp := by cases p <;> rfl
@[simp] theorem State.setMac_sched (s : State) (p : Port) (m : Mac) : (s.setMac p m).sched = s.sched := by cases p <;> rfl
@[simp] theorem State.setMac_arb (s : State) (p : Port) (m : Mac) : (s.setMac p m).arb = s.arb := by cases p <;> rfl
@[simp] theorem State.setMac_jnl (s : State) (p : Port) (m : Mac) : (s.setMac p m).jnl = s.jnl := by cases p <;> rfl
@[simp] theorem State.setMac_ctrl (s : State) (p : Port) (m : Mac) : (s.setMac p m).ctrl = s.ctrl := by cases p <;> rfl
@[simp] theorem State.setMac_red (s : State) (p : Port) (m : Mac) : (s.setMac p m).red = s.red := by cases p <;> rfl
@[simp] theorem State.setMac_nvm (s : State) (p : Port) (m : Mac) : (s.setMac p m).nvm = s.nvm := by cases p <;> rfl
@[simp] theorem State.setMac_work (s : State) (p : Port) (m : Mac) : (s.setMac p m).work = s.work := by cases p <;> rfl
@[simp] theorem State.setMac_bist (s : State) (p : Port) (m : Mac) : (s.setMac p m).bist = s.bist := by cases p <;> rfl
@[simp] theorem State.setMac_trim (s : State) (p : Port) (m : Mac) : (s.setMac p m).trim = s.trim := by cases p <;> rfl
@[simp] theorem State.setMac_tap (s : State) (p : Port) (m : Mac) : (s.setMac p m).tap = s.tap := by cases p <;> rfl
@[simp] theorem State.setMac_regs (s : State) (p : Port) (m : Mac) : (s.setMac p m).regs = s.regs := by cases p <;> rfl
@[simp] theorem State.setMac_byteLatch (s : State) (p : Port) (m : Mac) : (s.setMac p m).byteLatch = s.byteLatch := by cases p <;> rfl
@[simp] theorem State.setMac_draws (s : State) (p : Port) (m : Mac) : (s.setMac p m).draws = s.draws := by cases p <;> rfl
@[simp] theorem State.setMac_memory (s : State) (p : Port) (m : Mac) : (s.setMac p m).memory = s.memory := by cases p <;> rfl
@[simp] theorem State.setMac_shadows (s : State) (p : Port) (m : Mac) : (s.setMac p m).shadows = s.shadows := by cases p <;> rfl
@[simp] theorem State.setMac_pending (s : State) (p : Port) (m : Mac) : (s.setMac p m).pending = s.pending := by cases p <;> rfl

/-! ### `State.setDom` -/

@[simp] theorem State.setDom_mode (s : State) (b : Bool) (d : Domain) : (s.setDom b d).mode = s.mode := by cases b <;> rfl
@[simp] theorem State.setDom_time (s : State) (b : Bool) (d : Domain) : (s.setDom b d).time = s.time := by cases b <;> rfl
@[simp] theorem State.setDom_up (s : State) (b : Bool) (d : Domain) : (s.setDom b d).up = s.up := by cases b <;> rfl
@[simp] theorem State.setDom_sys (s : State) (b : Bool) (d : Domain) : (s.setDom b d).sys = s.sys := by cases b <;> rfl
@[simp] theorem State.setDom_macA (s : State) (b : Bool) (d : Domain) : (s.setDom b d).macA = s.macA := by cases b <;> rfl
@[simp] theorem State.setDom_macB (s : State) (b : Bool) (d : Domain) : (s.setDom b d).macB = s.macB := by cases b <;> rfl
@[simp] theorem State.setDom_macSv (s : State) (b : Bool) (d : Domain) : (s.setDom b d).macSv = s.macSv := by cases b <;> rfl
@[simp] theorem State.setDom_ip (s : State) (b : Bool) (d : Domain) : (s.setDom b d).ip = s.ip := by cases b <;> rfl
@[simp] theorem State.setDom_ipSv (s : State) (b : Bool) (d : Domain) : (s.setDom b d).ipSv = s.ipSv := by cases b <;> rfl
@[simp] theorem State.setDom_groups (s : State) (b : Bool) (d : Domain) : (s.setDom b d).groups = s.groups := by cases b <;> rfl
@[simp] theorem State.setDom_reports (s : State) (b : Bool) (d : Domain) : (s.setDom b d).reports = s.reports := by cases b <;> rfl
@[simp] theorem State.setDom_ingress (s : State) (b : Bool) (d : Domain) : (s.setDom b d).ingress = s.ingress := by cases b <;> rfl
@[simp] theorem State.setDom_fs (s : State) (b : Bool) (d : Domain) : (s.setDom b d).fs = s.fs := by cases b <;> rfl
@[simp] theorem State.setDom_anvil (s : State) (b : Bool) (d : Domain) : (s.setDom b d).anvil = s.anvil := by cases b <;> rfl
@[simp] theorem State.setDom_strands (s : State) (b : Bool) (d : Domain) : (s.setDom b d).strands = s.strands := by cases b <;> rfl
@[simp] theorem State.setDom_banks (s : State) (b : Bool) (d : Domain) : (s.setDom b d).banks = s.banks := by cases b <;> rfl
@[simp] theorem State.setDom_lamp (s : State) (b : Bool) (d : Domain) : (s.setDom b d).lamp = s.lamp := by cases b <;> rfl
@[simp] theorem State.setDom_sched (s : State) (b : Bool) (d : Domain) : (s.setDom b d).sched = s.sched := by cases b <;> rfl
@[simp] theorem State.setDom_arb (s : State) (b : Bool) (d : Domain) : (s.setDom b d).arb = s.arb := by cases b <;> rfl
@[simp] theorem State.setDom_jnl (s : State) (b : Bool) (d : Domain) : (s.setDom b d).jnl = s.jnl := by cases b <;> rfl
@[simp] theorem State.setDom_ctrl (s : State) (b : Bool) (d : Domain) : (s.setDom b d).ctrl = s.ctrl := by cases b <;> rfl
@[simp] theorem State.setDom_red (s : State) (b : Bool) (d : Domain) : (s.setDom b d).red = s.red := by cases b <;> rfl
@[simp] theorem State.setDom_nvm (s : State) (b : Bool) (d : Domain) : (s.setDom b d).nvm = s.nvm := by cases b <;> rfl
@[simp] theorem State.setDom_work (s : State) (b : Bool) (d : Domain) : (s.setDom b d).work = s.work := by cases b <;> rfl
@[simp] theorem State.setDom_bist (s : State) (b : Bool) (d : Domain) : (s.setDom b d).bist = s.bist := by cases b <;> rfl
@[simp] theorem State.setDom_trim (s : State) (b : Bool) (d : Domain) : (s.setDom b d).trim = s.trim := by cases b <;> rfl
@[simp] theorem State.setDom_tap (s : State) (b : Bool) (d : Domain) : (s.setDom b d).tap = s.tap := by cases b <;> rfl
@[simp] theorem State.setDom_regs (s : State) (b : Bool) (d : Domain) : (s.setDom b d).regs = s.regs := by cases b <;> rfl
@[simp] theorem State.setDom_byteLatch (s : State) (b : Bool) (d : Domain) : (s.setDom b d).byteLatch = s.byteLatch := by cases b <;> rfl
@[simp] theorem State.setDom_draws (s : State) (b : Bool) (d : Domain) : (s.setDom b d).draws = s.draws := by cases b <;> rfl
@[simp] theorem State.setDom_memory (s : State) (b : Bool) (d : Domain) : (s.setDom b d).memory = s.memory := by cases b <;> rfl
@[simp] theorem State.setDom_shadows (s : State) (b : Bool) (d : Domain) : (s.setDom b d).shadows = s.shadows := by cases b <;> rfl
@[simp] theorem State.setDom_pending (s : State) (b : Bool) (d : Domain) : (s.setDom b d).pending = s.pending := by cases b <;> rfl

/-! ### `State.setIp` -/

@[simp] theorem State.setIp_mode (s : State) (p : Port) (i : IpState) : (s.setIp p i).mode = s.mode := by cases p <;> rfl
@[simp] theorem State.setIp_time (s : State) (p : Port) (i : IpState) : (s.setIp p i).time = s.time := by cases p <;> rfl
@[simp] theorem State.setIp_up (s : State) (p : Port) (i : IpState) : (s.setIp p i).up = s.up := by cases p <;> rfl
@[simp] theorem State.setIp_sys (s : State) (p : Port) (i : IpState) : (s.setIp p i).sys = s.sys := by cases p <;> rfl
@[simp] theorem State.setIp_hearth (s : State) (p : Port) (i : IpState) : (s.setIp p i).hearth = s.hearth := by cases p <;> rfl
@[simp] theorem State.setIp_macA (s : State) (p : Port) (i : IpState) : (s.setIp p i).macA = s.macA := by cases p <;> rfl
@[simp] theorem State.setIp_macB (s : State) (p : Port) (i : IpState) : (s.setIp p i).macB = s.macB := by cases p <;> rfl
@[simp] theorem State.setIp_macSv (s : State) (p : Port) (i : IpState) : (s.setIp p i).macSv = s.macSv := by cases p <;> rfl
@[simp] theorem State.setIp_groups (s : State) (p : Port) (i : IpState) : (s.setIp p i).groups = s.groups := by cases p <;> rfl
@[simp] theorem State.setIp_reports (s : State) (p : Port) (i : IpState) : (s.setIp p i).reports = s.reports := by cases p <;> rfl
@[simp] theorem State.setIp_ingress (s : State) (p : Port) (i : IpState) : (s.setIp p i).ingress = s.ingress := by cases p <;> rfl
@[simp] theorem State.setIp_fs (s : State) (p : Port) (i : IpState) : (s.setIp p i).fs = s.fs := by cases p <;> rfl
@[simp] theorem State.setIp_anvil (s : State) (p : Port) (i : IpState) : (s.setIp p i).anvil = s.anvil := by cases p <;> rfl
@[simp] theorem State.setIp_strands (s : State) (p : Port) (i : IpState) : (s.setIp p i).strands = s.strands := by cases p <;> rfl
@[simp] theorem State.setIp_banks (s : State) (p : Port) (i : IpState) : (s.setIp p i).banks = s.banks := by cases p <;> rfl
@[simp] theorem State.setIp_lamp (s : State) (p : Port) (i : IpState) : (s.setIp p i).lamp = s.lamp := by cases p <;> rfl
@[simp] theorem State.setIp_sched (s : State) (p : Port) (i : IpState) : (s.setIp p i).sched = s.sched := by cases p <;> rfl
@[simp] theorem State.setIp_arb (s : State) (p : Port) (i : IpState) : (s.setIp p i).arb = s.arb := by cases p <;> rfl
@[simp] theorem State.setIp_jnl (s : State) (p : Port) (i : IpState) : (s.setIp p i).jnl = s.jnl := by cases p <;> rfl
@[simp] theorem State.setIp_ctrl (s : State) (p : Port) (i : IpState) : (s.setIp p i).ctrl = s.ctrl := by cases p <;> rfl
@[simp] theorem State.setIp_red (s : State) (p : Port) (i : IpState) : (s.setIp p i).red = s.red := by cases p <;> rfl
@[simp] theorem State.setIp_nvm (s : State) (p : Port) (i : IpState) : (s.setIp p i).nvm = s.nvm := by cases p <;> rfl
@[simp] theorem State.setIp_work (s : State) (p : Port) (i : IpState) : (s.setIp p i).work = s.work := by cases p <;> rfl
@[simp] theorem State.setIp_bist (s : State) (p : Port) (i : IpState) : (s.setIp p i).bist = s.bist := by cases p <;> rfl
@[simp] theorem State.setIp_trim (s : State) (p : Port) (i : IpState) : (s.setIp p i).trim = s.trim := by cases p <;> rfl
@[simp] theorem State.setIp_tap (s : State) (p : Port) (i : IpState) : (s.setIp p i).tap = s.tap := by cases p <;> rfl
@[simp] theorem State.setIp_regs (s : State) (p : Port) (i : IpState) : (s.setIp p i).regs = s.regs := by cases p <;> rfl
@[simp] theorem State.setIp_byteLatch (s : State) (p : Port) (i : IpState) : (s.setIp p i).byteLatch = s.byteLatch := by cases p <;> rfl
@[simp] theorem State.setIp_draws (s : State) (p : Port) (i : IpState) : (s.setIp p i).draws = s.draws := by cases p <;> rfl
@[simp] theorem State.setIp_memory (s : State) (p : Port) (i : IpState) : (s.setIp p i).memory = s.memory := by cases p <;> rfl
@[simp] theorem State.setIp_shadows (s : State) (p : Port) (i : IpState) : (s.setIp p i).shadows = s.shadows := by cases p <;> rfl
@[simp] theorem State.setIp_pending (s : State) (p : Port) (i : IpState) : (s.setIp p i).pending = s.pending := by cases p <;> rfl

/-! ### `State.setQset` -/

@[simp] theorem State.setQset_mode (s : State) (n : Nat) (q : QueueSet) : (s.setQset n q).mode = s.mode := by unfold State.setQset; split <;> rfl
@[simp] theorem State.setQset_time (s : State) (n : Nat) (q : QueueSet) : (s.setQset n q).time = s.time := by unfold State.setQset; split <;> rfl
@[simp] theorem State.setQset_up (s : State) (n : Nat) (q : QueueSet) : (s.setQset n q).up = s.up := by unfold State.setQset; split <;> rfl
@[simp] theorem State.setQset_sys (s : State) (n : Nat) (q : QueueSet) : (s.setQset n q).sys = s.sys := by unfold State.setQset; split <;> rfl
@[simp] theorem State.setQset_hearth (s : State) (n : Nat) (q : QueueSet) : (s.setQset n q).hearth = s.hearth := by unfold State.setQset; split <;> rfl
@[simp] theorem State.setQset_macA (s : State) (n : Nat) (q : QueueSet) : (s.setQset n q).macA = s.macA := by unfold State.setQset; split <;> rfl
@[simp] theorem State.setQset_macB (s : State) (n : Nat) (q : QueueSet) : (s.setQset n q).macB = s.macB := by unfold State.setQset; split <;> rfl
@[simp] theorem State.setQset_macSv (s : State) (n : Nat) (q : QueueSet) : (s.setQset n q).macSv = s.macSv := by unfold State.setQset; split <;> rfl
@[simp] theorem State.setQset_ip (s : State) (n : Nat) (q : QueueSet) : (s.setQset n q).ip = s.ip := by unfold State.setQset; split <;> rfl
@[simp] theorem State.setQset_ipSv (s : State) (n : Nat) (q : QueueSet) : (s.setQset n q).ipSv = s.ipSv := by unfold State.setQset; split <;> rfl
@[simp] theorem State.setQset_groups (s : State) (n : Nat) (q : QueueSet) : (s.setQset n q).groups = s.groups := by unfold State.setQset; split <;> rfl
@[simp] theorem State.setQset_reports (s : State) (n : Nat) (q : QueueSet) : (s.setQset n q).reports = s.reports := by unfold State.setQset; split <;> rfl
@[simp] theorem State.setQset_fs (s : State) (n : Nat) (q : QueueSet) : (s.setQset n q).fs = s.fs := by unfold State.setQset; split <;> rfl
@[simp] theorem State.setQset_anvil (s : State) (n : Nat) (q : QueueSet) : (s.setQset n q).anvil = s.anvil := by unfold State.setQset; split <;> rfl
@[simp] theorem State.setQset_strands (s : State) (n : Nat) (q : QueueSet) : (s.setQset n q).strands = s.strands := by unfold State.setQset; split <;> rfl
@[simp] theorem State.setQset_banks (s : State) (n : Nat) (q : QueueSet) : (s.setQset n q).banks = s.banks := by unfold State.setQset; split <;> rfl
@[simp] theorem State.setQset_lamp (s : State) (n : Nat) (q : QueueSet) : (s.setQset n q).lamp = s.lamp := by unfold State.setQset; split <;> rfl
@[simp] theorem State.setQset_sched (s : State) (n : Nat) (q : QueueSet) : (s.setQset n q).sched = s.sched := by unfold State.setQset; split <;> rfl
@[simp] theorem State.setQset_arb (s : State) (n : Nat) (q : QueueSet) : (s.setQset n q).arb = s.arb := by unfold State.setQset; split <;> rfl
@[simp] theorem State.setQset_jnl (s : State) (n : Nat) (q : QueueSet) : (s.setQset n q).jnl = s.jnl := by unfold State.setQset; split <;> rfl
@[simp] theorem State.setQset_ctrl (s : State) (n : Nat) (q : QueueSet) : (s.setQset n q).ctrl = s.ctrl := by unfold State.setQset; split <;> rfl
@[simp] theorem State.setQset_red (s : State) (n : Nat) (q : QueueSet) : (s.setQset n q).red = s.red := by unfold State.setQset; split <;> rfl
@[simp] theorem State.setQset_nvm (s : State) (n : Nat) (q : QueueSet) : (s.setQset n q).nvm = s.nvm := by unfold State.setQset; split <;> rfl
@[simp] theorem State.setQset_work (s : State) (n : Nat) (q : QueueSet) : (s.setQset n q).work = s.work := by unfold State.setQset; split <;> rfl
@[simp] theorem State.setQset_bist (s : State) (n : Nat) (q : QueueSet) : (s.setQset n q).bist = s.bist := by unfold State.setQset; split <;> rfl
@[simp] theorem State.setQset_trim (s : State) (n : Nat) (q : QueueSet) : (s.setQset n q).trim = s.trim := by unfold State.setQset; split <;> rfl
@[simp] theorem State.setQset_tap (s : State) (n : Nat) (q : QueueSet) : (s.setQset n q).tap = s.tap := by unfold State.setQset; split <;> rfl
@[simp] theorem State.setQset_regs (s : State) (n : Nat) (q : QueueSet) : (s.setQset n q).regs = s.regs := by unfold State.setQset; split <;> rfl
@[simp] theorem State.setQset_byteLatch (s : State) (n : Nat) (q : QueueSet) : (s.setQset n q).byteLatch = s.byteLatch := by unfold State.setQset; split <;> rfl
@[simp] theorem State.setQset_draws (s : State) (n : Nat) (q : QueueSet) : (s.setQset n q).draws = s.draws := by unfold State.setQset; split <;> rfl
@[simp] theorem State.setQset_memory (s : State) (n : Nat) (q : QueueSet) : (s.setQset n q).memory = s.memory := by unfold State.setQset; split <;> rfl
@[simp] theorem State.setQset_shadows (s : State) (n : Nat) (q : QueueSet) : (s.setQset n q).shadows = s.shadows := by unfold State.setQset; split <;> rfl
@[simp] theorem State.setQset_pending (s : State) (n : Nat) (q : QueueSet) : (s.setQset n q).pending = s.pending := by unfold State.setQset; split <;> rfl

/-! ### `State.setSources` -/

@[simp] theorem State.setSources_mode (s : State) (u : Nat) (l : List SacnSource) : (s.setSources u l).mode = s.mode := rfl
@[simp] theorem State.setSources_time (s : State) (u : Nat) (l : List SacnSource) : (s.setSources u l).time = s.time := rfl
@[simp] theorem State.setSources_up (s : State) (u : Nat) (l : List SacnSource) : (s.setSources u l).up = s.up := rfl
@[simp] theorem State.setSources_sys (s : State) (u : Nat) (l : List SacnSource) : (s.setSources u l).sys = s.sys := rfl
@[simp] theorem State.setSources_hearth (s : State) (u : Nat) (l : List SacnSource) : (s.setSources u l).hearth = s.hearth := rfl
@[simp] theorem State.setSources_macA (s : State) (u : Nat) (l : List SacnSource) : (s.setSources u l).macA = s.macA := rfl
@[simp] theorem State.setSources_macB (s : State) (u : Nat) (l : List SacnSource) : (s.setSources u l).macB = s.macB := rfl
@[simp] theorem State.setSources_macSv (s : State) (u : Nat) (l : List SacnSource) : (s.setSources u l).macSv = s.macSv := rfl
@[simp] theorem State.setSources_ip (s : State) (u : Nat) (l : List SacnSource) : (s.setSources u l).ip = s.ip := rfl
@[simp] theorem State.setSources_ipSv (s : State) (u : Nat) (l : List SacnSource) : (s.setSources u l).ipSv = s.ipSv := rfl
@[simp] theorem State.setSources_groups (s : State) (u : Nat) (l : List SacnSource) : (s.setSources u l).groups = s.groups := rfl
@[simp] theorem State.setSources_reports (s : State) (u : Nat) (l : List SacnSource) : (s.setSources u l).reports = s.reports := rfl
@[simp] theorem State.setSources_fs (s : State) (u : Nat) (l : List SacnSource) : (s.setSources u l).fs = s.fs := rfl
@[simp] theorem State.setSources_anvil (s : State) (u : Nat) (l : List SacnSource) : (s.setSources u l).anvil = s.anvil := rfl
@[simp] theorem State.setSources_strands (s : State) (u : Nat) (l : List SacnSource) : (s.setSources u l).strands = s.strands := rfl
@[simp] theorem State.setSources_banks (s : State) (u : Nat) (l : List SacnSource) : (s.setSources u l).banks = s.banks := rfl
@[simp] theorem State.setSources_lamp (s : State) (u : Nat) (l : List SacnSource) : (s.setSources u l).lamp = s.lamp := rfl
@[simp] theorem State.setSources_sched (s : State) (u : Nat) (l : List SacnSource) : (s.setSources u l).sched = s.sched := rfl
@[simp] theorem State.setSources_arb (s : State) (u : Nat) (l : List SacnSource) : (s.setSources u l).arb = s.arb := rfl
@[simp] theorem State.setSources_jnl (s : State) (u : Nat) (l : List SacnSource) : (s.setSources u l).jnl = s.jnl := rfl
@[simp] theorem State.setSources_ctrl (s : State) (u : Nat) (l : List SacnSource) : (s.setSources u l).ctrl = s.ctrl := rfl
@[simp] theorem State.setSources_red (s : State) (u : Nat) (l : List SacnSource) : (s.setSources u l).red = s.red := rfl
@[simp] theorem State.setSources_nvm (s : State) (u : Nat) (l : List SacnSource) : (s.setSources u l).nvm = s.nvm := rfl
@[simp] theorem State.setSources_work (s : State) (u : Nat) (l : List SacnSource) : (s.setSources u l).work = s.work := rfl
@[simp] theorem State.setSources_bist (s : State) (u : Nat) (l : List SacnSource) : (s.setSources u l).bist = s.bist := rfl
@[simp] theorem State.setSources_trim (s : State) (u : Nat) (l : List SacnSource) : (s.setSources u l).trim = s.trim := rfl
@[simp] theorem State.setSources_tap (s : State) (u : Nat) (l : List SacnSource) : (s.setSources u l).tap = s.tap := rfl
@[simp] theorem State.setSources_regs (s : State) (u : Nat) (l : List SacnSource) : (s.setSources u l).regs = s.regs := rfl
@[simp] theorem State.setSources_byteLatch (s : State) (u : Nat) (l : List SacnSource) : (s.setSources u l).byteLatch = s.byteLatch := rfl
@[simp] theorem State.setSources_draws (s : State) (u : Nat) (l : List SacnSource) : (s.setSources u l).draws = s.draws := rfl
@[simp] theorem State.setSources_memory (s : State) (u : Nat) (l : List SacnSource) : (s.setSources u l).memory = s.memory := rfl
@[simp] theorem State.setSources_shadows (s : State) (u : Nat) (l : List SacnSource) : (s.setSources u l).shadows = s.shadows := rfl
@[simp] theorem State.setSources_pending (s : State) (u : Nat) (l : List SacnSource) : (s.setSources u l).pending = s.pending := rfl

/-! ### `State.setClient` -/

@[simp] theorem State.setClient_mode (s : State) (ch : Chan) (ep : Endpoint) (c : Client) : (s.setClient ch ep c).mode = s.mode := by cases ch <;> rfl
@[simp] theorem State.setClient_time (s : State) (ch : Chan) (ep : Endpoint) (c : Client) : (s.setClient ch ep c).time = s.time := by cases ch <;> rfl
@[simp] theorem State.setClient_up (s : State) (ch : Chan) (ep : Endpoint) (c : Client) : (s.setClient ch ep c).up = s.up := by cases ch <;> rfl
@[simp] theorem State.setClient_sys (s : State) (ch : Chan) (ep : Endpoint) (c : Client) : (s.setClient ch ep c).sys = s.sys := by cases ch <;> rfl
@[simp] theorem State.setClient_hearth (s : State) (ch : Chan) (ep : Endpoint) (c : Client) : (s.setClient ch ep c).hearth = s.hearth := by cases ch <;> rfl
@[simp] theorem State.setClient_macA (s : State) (ch : Chan) (ep : Endpoint) (c : Client) : (s.setClient ch ep c).macA = s.macA := by cases ch <;> rfl
@[simp] theorem State.setClient_macB (s : State) (ch : Chan) (ep : Endpoint) (c : Client) : (s.setClient ch ep c).macB = s.macB := by cases ch <;> rfl
@[simp] theorem State.setClient_macSv (s : State) (ch : Chan) (ep : Endpoint) (c : Client) : (s.setClient ch ep c).macSv = s.macSv := by cases ch <;> rfl
@[simp] theorem State.setClient_ip (s : State) (ch : Chan) (ep : Endpoint) (c : Client) : (s.setClient ch ep c).ip = s.ip := by cases ch <;> rfl
@[simp] theorem State.setClient_ipSv (s : State) (ch : Chan) (ep : Endpoint) (c : Client) : (s.setClient ch ep c).ipSv = s.ipSv := by cases ch <;> rfl
@[simp] theorem State.setClient_groups (s : State) (ch : Chan) (ep : Endpoint) (c : Client) : (s.setClient ch ep c).groups = s.groups := by cases ch <;> rfl
@[simp] theorem State.setClient_reports (s : State) (ch : Chan) (ep : Endpoint) (c : Client) : (s.setClient ch ep c).reports = s.reports := by cases ch <;> rfl
@[simp] theorem State.setClient_ingress (s : State) (ch : Chan) (ep : Endpoint) (c : Client) : (s.setClient ch ep c).ingress = s.ingress := by cases ch <;> rfl
@[simp] theorem State.setClient_fs (s : State) (ch : Chan) (ep : Endpoint) (c : Client) : (s.setClient ch ep c).fs = s.fs := by cases ch <;> rfl
@[simp] theorem State.setClient_anvil (s : State) (ch : Chan) (ep : Endpoint) (c : Client) : (s.setClient ch ep c).anvil = s.anvil := by cases ch <;> rfl
@[simp] theorem State.setClient_strands (s : State) (ch : Chan) (ep : Endpoint) (c : Client) : (s.setClient ch ep c).strands = s.strands := by cases ch <;> rfl
@[simp] theorem State.setClient_banks (s : State) (ch : Chan) (ep : Endpoint) (c : Client) : (s.setClient ch ep c).banks = s.banks := by cases ch <;> rfl
@[simp] theorem State.setClient_lamp (s : State) (ch : Chan) (ep : Endpoint) (c : Client) : (s.setClient ch ep c).lamp = s.lamp := by cases ch <;> rfl
@[simp] theorem State.setClient_sched (s : State) (ch : Chan) (ep : Endpoint) (c : Client) : (s.setClient ch ep c).sched = s.sched := by cases ch <;> rfl
@[simp] theorem State.setClient_arb (s : State) (ch : Chan) (ep : Endpoint) (c : Client) : (s.setClient ch ep c).arb = s.arb := by cases ch <;> rfl
@[simp] theorem State.setClient_jnl (s : State) (ch : Chan) (ep : Endpoint) (c : Client) : (s.setClient ch ep c).jnl = s.jnl := by cases ch <;> rfl
@[simp] theorem State.setClient_red (s : State) (ch : Chan) (ep : Endpoint) (c : Client) : (s.setClient ch ep c).red = s.red := by cases ch <;> rfl
@[simp] theorem State.setClient_nvm (s : State) (ch : Chan) (ep : Endpoint) (c : Client) : (s.setClient ch ep c).nvm = s.nvm := by cases ch <;> rfl
@[simp] theorem State.setClient_work (s : State) (ch : Chan) (ep : Endpoint) (c : Client) : (s.setClient ch ep c).work = s.work := by cases ch <;> rfl
@[simp] theorem State.setClient_bist (s : State) (ch : Chan) (ep : Endpoint) (c : Client) : (s.setClient ch ep c).bist = s.bist := by cases ch <;> rfl
@[simp] theorem State.setClient_trim (s : State) (ch : Chan) (ep : Endpoint) (c : Client) : (s.setClient ch ep c).trim = s.trim := by cases ch <;> rfl
@[simp] theorem State.setClient_tap (s : State) (ch : Chan) (ep : Endpoint) (c : Client) : (s.setClient ch ep c).tap = s.tap := by cases ch <;> rfl
@[simp] theorem State.setClient_regs (s : State) (ch : Chan) (ep : Endpoint) (c : Client) : (s.setClient ch ep c).regs = s.regs := by cases ch <;> rfl
@[simp] theorem State.setClient_byteLatch (s : State) (ch : Chan) (ep : Endpoint) (c : Client) : (s.setClient ch ep c).byteLatch = s.byteLatch := by cases ch <;> rfl
@[simp] theorem State.setClient_draws (s : State) (ch : Chan) (ep : Endpoint) (c : Client) : (s.setClient ch ep c).draws = s.draws := by cases ch <;> rfl
@[simp] theorem State.setClient_memory (s : State) (ch : Chan) (ep : Endpoint) (c : Client) : (s.setClient ch ep c).memory = s.memory := by cases ch <;> rfl
@[simp] theorem State.setClient_shadows (s : State) (ch : Chan) (ep : Endpoint) (c : Client) : (s.setClient ch ep c).shadows = s.shadows := by cases ch <;> rfl
@[simp] theorem State.setClient_pending (s : State) (ch : Chan) (ep : Endpoint) (c : Client) : (s.setClient ch ep c).pending = s.pending := by cases ch <;> rfl

/-! ### `State.setStrand` -/

@[simp] theorem State.setStrand_mode (s : State) (n : Nat) (t : Strand) : (s.setStrand n t).mode = s.mode := rfl
@[simp] theorem State.setStrand_time (s : State) (n : Nat) (t : Strand) : (s.setStrand n t).time = s.time := rfl
@[simp] theorem State.setStrand_up (s : State) (n : Nat) (t : Strand) : (s.setStrand n t).up = s.up := rfl
@[simp] theorem State.setStrand_sys (s : State) (n : Nat) (t : Strand) : (s.setStrand n t).sys = s.sys := rfl
@[simp] theorem State.setStrand_hearth (s : State) (n : Nat) (t : Strand) : (s.setStrand n t).hearth = s.hearth := rfl
@[simp] theorem State.setStrand_macA (s : State) (n : Nat) (t : Strand) : (s.setStrand n t).macA = s.macA := rfl
@[simp] theorem State.setStrand_macB (s : State) (n : Nat) (t : Strand) : (s.setStrand n t).macB = s.macB := rfl
@[simp] theorem State.setStrand_macSv (s : State) (n : Nat) (t : Strand) : (s.setStrand n t).macSv = s.macSv := rfl
@[simp] theorem State.setStrand_ip (s : State) (n : Nat) (t : Strand) : (s.setStrand n t).ip = s.ip := rfl
@[simp] theorem State.setStrand_ipSv (s : State) (n : Nat) (t : Strand) : (s.setStrand n t).ipSv = s.ipSv := rfl
@[simp] theorem State.setStrand_groups (s : State) (n : Nat) (t : Strand) : (s.setStrand n t).groups = s.groups := rfl
@[simp] theorem State.setStrand_reports (s : State) (n : Nat) (t : Strand) : (s.setStrand n t).reports = s.reports := rfl
@[simp] theorem State.setStrand_ingress (s : State) (n : Nat) (t : Strand) : (s.setStrand n t).ingress = s.ingress := rfl
@[simp] theorem State.setStrand_fs (s : State) (n : Nat) (t : Strand) : (s.setStrand n t).fs = s.fs := rfl
@[simp] theorem State.setStrand_anvil (s : State) (n : Nat) (t : Strand) : (s.setStrand n t).anvil = s.anvil := rfl
@[simp] theorem State.setStrand_banks (s : State) (n : Nat) (t : Strand) : (s.setStrand n t).banks = s.banks := rfl
@[simp] theorem State.setStrand_lamp (s : State) (n : Nat) (t : Strand) : (s.setStrand n t).lamp = s.lamp := rfl
@[simp] theorem State.setStrand_sched (s : State) (n : Nat) (t : Strand) : (s.setStrand n t).sched = s.sched := rfl
@[simp] theorem State.setStrand_arb (s : State) (n : Nat) (t : Strand) : (s.setStrand n t).arb = s.arb := rfl
@[simp] theorem State.setStrand_jnl (s : State) (n : Nat) (t : Strand) : (s.setStrand n t).jnl = s.jnl := rfl
@[simp] theorem State.setStrand_ctrl (s : State) (n : Nat) (t : Strand) : (s.setStrand n t).ctrl = s.ctrl := rfl
@[simp] theorem State.setStrand_red (s : State) (n : Nat) (t : Strand) : (s.setStrand n t).red = s.red := rfl
@[simp] theorem State.setStrand_nvm (s : State) (n : Nat) (t : Strand) : (s.setStrand n t).nvm = s.nvm := rfl
@[simp] theorem State.setStrand_work (s : State) (n : Nat) (t : Strand) : (s.setStrand n t).work = s.work := rfl
@[simp] theorem State.setStrand_bist (s : State) (n : Nat) (t : Strand) : (s.setStrand n t).bist = s.bist := rfl
@[simp] theorem State.setStrand_trim (s : State) (n : Nat) (t : Strand) : (s.setStrand n t).trim = s.trim := rfl
@[simp] theorem State.setStrand_tap (s : State) (n : Nat) (t : Strand) : (s.setStrand n t).tap = s.tap := rfl
@[simp] theorem State.setStrand_regs (s : State) (n : Nat) (t : Strand) : (s.setStrand n t).regs = s.regs := rfl
@[simp] theorem State.setStrand_byteLatch (s : State) (n : Nat) (t : Strand) : (s.setStrand n t).byteLatch = s.byteLatch := rfl
@[simp] theorem State.setStrand_draws (s : State) (n : Nat) (t : Strand) : (s.setStrand n t).draws = s.draws := rfl
@[simp] theorem State.setStrand_memory (s : State) (n : Nat) (t : Strand) : (s.setStrand n t).memory = s.memory := rfl
@[simp] theorem State.setStrand_shadows (s : State) (n : Nat) (t : Strand) : (s.setStrand n t).shadows = s.shadows := rfl
@[simp] theorem State.setStrand_pending (s : State) (n : Nat) (t : Strand) : (s.setStrand n t).pending = s.pending := rfl

/-! ### `State.setBank` -/

@[simp] theorem State.setBank_mode (s : State) (b : Nat) (k : Bank) : (s.setBank b k).mode = s.mode := rfl
@[simp] theorem State.setBank_time (s : State) (b : Nat) (k : Bank) : (s.setBank b k).time = s.time := rfl
@[simp] theorem State.setBank_up (s : State) (b : Nat) (k : Bank) : (s.setBank b k).up = s.up := rfl
@[simp] theorem State.setBank_sys (s : State) (b : Nat) (k : Bank) : (s.setBank b k).sys = s.sys := rfl
@[simp] theorem State.setBank_hearth (s : State) (b : Nat) (k : Bank) : (s.setBank b k).hearth = s.hearth := rfl
@[simp] theorem State.setBank_macA (s : State) (b : Nat) (k : Bank) : (s.setBank b k).macA = s.macA := rfl
@[simp] theorem State.setBank_macB (s : State) (b : Nat) (k : Bank) : (s.setBank b k).macB = s.macB := rfl
@[simp] theorem State.setBank_macSv (s : State) (b : Nat) (k : Bank) : (s.setBank b k).macSv = s.macSv := rfl
@[simp] theorem State.setBank_ip (s : State) (b : Nat) (k : Bank) : (s.setBank b k).ip = s.ip := rfl
@[simp] theorem State.setBank_ipSv (s : State) (b : Nat) (k : Bank) : (s.setBank b k).ipSv = s.ipSv := rfl
@[simp] theorem State.setBank_groups (s : State) (b : Nat) (k : Bank) : (s.setBank b k).groups = s.groups := rfl
@[simp] theorem State.setBank_reports (s : State) (b : Nat) (k : Bank) : (s.setBank b k).reports = s.reports := rfl
@[simp] theorem State.setBank_ingress (s : State) (b : Nat) (k : Bank) : (s.setBank b k).ingress = s.ingress := rfl
@[simp] theorem State.setBank_fs (s : State) (b : Nat) (k : Bank) : (s.setBank b k).fs = s.fs := rfl
@[simp] theorem State.setBank_anvil (s : State) (b : Nat) (k : Bank) : (s.setBank b k).anvil = s.anvil := rfl
@[simp] theorem State.setBank_strands (s : State) (b : Nat) (k : Bank) : (s.setBank b k).strands = s.strands := rfl
@[simp] theorem State.setBank_lamp (s : State) (b : Nat) (k : Bank) : (s.setBank b k).lamp = s.lamp := rfl
@[simp] theorem State.setBank_sched (s : State) (b : Nat) (k : Bank) : (s.setBank b k).sched = s.sched := rfl
@[simp] theorem State.setBank_arb (s : State) (b : Nat) (k : Bank) : (s.setBank b k).arb = s.arb := rfl
@[simp] theorem State.setBank_jnl (s : State) (b : Nat) (k : Bank) : (s.setBank b k).jnl = s.jnl := rfl
@[simp] theorem State.setBank_ctrl (s : State) (b : Nat) (k : Bank) : (s.setBank b k).ctrl = s.ctrl := rfl
@[simp] theorem State.setBank_red (s : State) (b : Nat) (k : Bank) : (s.setBank b k).red = s.red := rfl
@[simp] theorem State.setBank_nvm (s : State) (b : Nat) (k : Bank) : (s.setBank b k).nvm = s.nvm := rfl
@[simp] theorem State.setBank_work (s : State) (b : Nat) (k : Bank) : (s.setBank b k).work = s.work := rfl
@[simp] theorem State.setBank_bist (s : State) (b : Nat) (k : Bank) : (s.setBank b k).bist = s.bist := rfl
@[simp] theorem State.setBank_trim (s : State) (b : Nat) (k : Bank) : (s.setBank b k).trim = s.trim := rfl
@[simp] theorem State.setBank_tap (s : State) (b : Nat) (k : Bank) : (s.setBank b k).tap = s.tap := rfl
@[simp] theorem State.setBank_regs (s : State) (b : Nat) (k : Bank) : (s.setBank b k).regs = s.regs := rfl
@[simp] theorem State.setBank_byteLatch (s : State) (b : Nat) (k : Bank) : (s.setBank b k).byteLatch = s.byteLatch := rfl
@[simp] theorem State.setBank_draws (s : State) (b : Nat) (k : Bank) : (s.setBank b k).draws = s.draws := rfl
@[simp] theorem State.setBank_memory (s : State) (b : Nat) (k : Bank) : (s.setBank b k).memory = s.memory := rfl
@[simp] theorem State.setBank_shadows (s : State) (b : Nat) (k : Bank) : (s.setBank b k).shadows = s.shadows := rfl
@[simp] theorem State.setBank_pending (s : State) (b : Nat) (k : Bank) : (s.setBank b k).pending = s.pending := rfl

/-! ### `State.setStream` -/

@[simp] theorem State.setStream_mode (s : State) (i : Nat) (t : Stream) : (s.setStream i t).mode = s.mode := rfl
@[simp] theorem State.setStream_time (s : State) (i : Nat) (t : Stream) : (s.setStream i t).time = s.time := rfl
@[simp] theorem State.setStream_up (s : State) (i : Nat) (t : Stream) : (s.setStream i t).up = s.up := rfl
@[simp] theorem State.setStream_sys (s : State) (i : Nat) (t : Stream) : (s.setStream i t).sys = s.sys := rfl
@[simp] theorem State.setStream_hearth (s : State) (i : Nat) (t : Stream) : (s.setStream i t).hearth = s.hearth := rfl
@[simp] theorem State.setStream_macA (s : State) (i : Nat) (t : Stream) : (s.setStream i t).macA = s.macA := rfl
@[simp] theorem State.setStream_macB (s : State) (i : Nat) (t : Stream) : (s.setStream i t).macB = s.macB := rfl
@[simp] theorem State.setStream_macSv (s : State) (i : Nat) (t : Stream) : (s.setStream i t).macSv = s.macSv := rfl
@[simp] theorem State.setStream_ip (s : State) (i : Nat) (t : Stream) : (s.setStream i t).ip = s.ip := rfl
@[simp] theorem State.setStream_ipSv (s : State) (i : Nat) (t : Stream) : (s.setStream i t).ipSv = s.ipSv := rfl
@[simp] theorem State.setStream_groups (s : State) (i : Nat) (t : Stream) : (s.setStream i t).groups = s.groups := rfl
@[simp] theorem State.setStream_reports (s : State) (i : Nat) (t : Stream) : (s.setStream i t).reports = s.reports := rfl
@[simp] theorem State.setStream_ingress (s : State) (i : Nat) (t : Stream) : (s.setStream i t).ingress = s.ingress := rfl
@[simp] theorem State.setStream_anvil (s : State) (i : Nat) (t : Stream) : (s.setStream i t).anvil = s.anvil := rfl
@[simp] theorem State.setStream_strands (s : State) (i : Nat) (t : Stream) : (s.setStream i t).strands = s.strands := rfl
@[simp] theorem State.setStream_banks (s : State) (i : Nat) (t : Stream) : (s.setStream i t).banks = s.banks := rfl
@[simp] theorem State.setStream_lamp (s : State) (i : Nat) (t : Stream) : (s.setStream i t).lamp = s.lamp := rfl
@[simp] theorem State.setStream_sched (s : State) (i : Nat) (t : Stream) : (s.setStream i t).sched = s.sched := rfl
@[simp] theorem State.setStream_arb (s : State) (i : Nat) (t : Stream) : (s.setStream i t).arb = s.arb := rfl
@[simp] theorem State.setStream_jnl (s : State) (i : Nat) (t : Stream) : (s.setStream i t).jnl = s.jnl := rfl
@[simp] theorem State.setStream_ctrl (s : State) (i : Nat) (t : Stream) : (s.setStream i t).ctrl = s.ctrl := rfl
@[simp] theorem State.setStream_red (s : State) (i : Nat) (t : Stream) : (s.setStream i t).red = s.red := rfl
@[simp] theorem State.setStream_nvm (s : State) (i : Nat) (t : Stream) : (s.setStream i t).nvm = s.nvm := rfl
@[simp] theorem State.setStream_work (s : State) (i : Nat) (t : Stream) : (s.setStream i t).work = s.work := rfl
@[simp] theorem State.setStream_bist (s : State) (i : Nat) (t : Stream) : (s.setStream i t).bist = s.bist := rfl
@[simp] theorem State.setStream_trim (s : State) (i : Nat) (t : Stream) : (s.setStream i t).trim = s.trim := rfl
@[simp] theorem State.setStream_tap (s : State) (i : Nat) (t : Stream) : (s.setStream i t).tap = s.tap := rfl
@[simp] theorem State.setStream_regs (s : State) (i : Nat) (t : Stream) : (s.setStream i t).regs = s.regs := rfl
@[simp] theorem State.setStream_byteLatch (s : State) (i : Nat) (t : Stream) : (s.setStream i t).byteLatch = s.byteLatch := rfl
@[simp] theorem State.setStream_draws (s : State) (i : Nat) (t : Stream) : (s.setStream i t).draws = s.draws := rfl
@[simp] theorem State.setStream_memory (s : State) (i : Nat) (t : Stream) : (s.setStream i t).memory = s.memory := rfl
@[simp] theorem State.setStream_shadows (s : State) (i : Nat) (t : Stream) : (s.setStream i t).shadows = s.shadows := rfl
@[simp] theorem State.setStream_pending (s : State) (i : Nat) (t : Stream) : (s.setStream i t).pending = s.pending := rfl

/-! ### `State.setChannelArb` -/

@[simp] theorem State.setChannelArb_mode (s : State) (c : Nat) (x : ArbChannel) : (s.setChannelArb c x).mode = s.mode := by unfold State.setChannelArb; split <;> rfl
@[simp] theorem State.setChannelArb_time (s : State) (c : Nat) (x : ArbChannel) : (s.setChannelArb c x).time = s.time := by unfold State.setChannelArb; split <;> rfl
@[simp] theorem State.setChannelArb_up (s : State) (c : Nat) (x : ArbChannel) : (s.setChannelArb c x).up = s.up := by unfold State.setChannelArb; split <;> rfl
@[simp] theorem State.setChannelArb_sys (s : State) (c : Nat) (x : ArbChannel) : (s.setChannelArb c x).sys = s.sys := by unfold State.setChannelArb; split <;> rfl
@[simp] theorem State.setChannelArb_hearth (s : State) (c : Nat) (x : ArbChannel) : (s.setChannelArb c x).hearth = s.hearth := by unfold State.setChannelArb; split <;> rfl
@[simp] theorem State.setChannelArb_macA (s : State) (c : Nat) (x : ArbChannel) : (s.setChannelArb c x).macA = s.macA := by unfold State.setChannelArb; split <;> rfl
@[simp] theorem State.setChannelArb_macB (s : State) (c : Nat) (x : ArbChannel) : (s.setChannelArb c x).macB = s.macB := by unfold State.setChannelArb; split <;> rfl
@[simp] theorem State.setChannelArb_macSv (s : State) (c : Nat) (x : ArbChannel) : (s.setChannelArb c x).macSv = s.macSv := by unfold State.setChannelArb; split <;> rfl
@[simp] theorem State.setChannelArb_ip (s : State) (c : Nat) (x : ArbChannel) : (s.setChannelArb c x).ip = s.ip := by unfold State.setChannelArb; split <;> rfl
@[simp] theorem State.setChannelArb_ipSv (s : State) (c : Nat) (x : ArbChannel) : (s.setChannelArb c x).ipSv = s.ipSv := by unfold State.setChannelArb; split <;> rfl
@[simp] theorem State.setChannelArb_groups (s : State) (c : Nat) (x : ArbChannel) : (s.setChannelArb c x).groups = s.groups := by unfold State.setChannelArb; split <;> rfl
@[simp] theorem State.setChannelArb_reports (s : State) (c : Nat) (x : ArbChannel) : (s.setChannelArb c x).reports = s.reports := by unfold State.setChannelArb; split <;> rfl
@[simp] theorem State.setChannelArb_ingress (s : State) (c : Nat) (x : ArbChannel) : (s.setChannelArb c x).ingress = s.ingress := by unfold State.setChannelArb; split <;> rfl
@[simp] theorem State.setChannelArb_fs (s : State) (c : Nat) (x : ArbChannel) : (s.setChannelArb c x).fs = s.fs := by unfold State.setChannelArb; split <;> rfl
@[simp] theorem State.setChannelArb_anvil (s : State) (c : Nat) (x : ArbChannel) : (s.setChannelArb c x).anvil = s.anvil := by unfold State.setChannelArb; split <;> rfl
@[simp] theorem State.setChannelArb_strands (s : State) (c : Nat) (x : ArbChannel) : (s.setChannelArb c x).strands = s.strands := by unfold State.setChannelArb; split <;> rfl
@[simp] theorem State.setChannelArb_banks (s : State) (c : Nat) (x : ArbChannel) : (s.setChannelArb c x).banks = s.banks := by unfold State.setChannelArb; split <;> rfl
@[simp] theorem State.setChannelArb_lamp (s : State) (c : Nat) (x : ArbChannel) : (s.setChannelArb c x).lamp = s.lamp := by unfold State.setChannelArb; split <;> rfl
@[simp] theorem State.setChannelArb_sched (s : State) (c : Nat) (x : ArbChannel) : (s.setChannelArb c x).sched = s.sched := by unfold State.setChannelArb; split <;> rfl
@[simp] theorem State.setChannelArb_jnl (s : State) (c : Nat) (x : ArbChannel) : (s.setChannelArb c x).jnl = s.jnl := by unfold State.setChannelArb; split <;> rfl
@[simp] theorem State.setChannelArb_ctrl (s : State) (c : Nat) (x : ArbChannel) : (s.setChannelArb c x).ctrl = s.ctrl := by unfold State.setChannelArb; split <;> rfl
@[simp] theorem State.setChannelArb_red (s : State) (c : Nat) (x : ArbChannel) : (s.setChannelArb c x).red = s.red := by unfold State.setChannelArb; split <;> rfl
@[simp] theorem State.setChannelArb_nvm (s : State) (c : Nat) (x : ArbChannel) : (s.setChannelArb c x).nvm = s.nvm := by unfold State.setChannelArb; split <;> rfl
@[simp] theorem State.setChannelArb_work (s : State) (c : Nat) (x : ArbChannel) : (s.setChannelArb c x).work = s.work := by unfold State.setChannelArb; split <;> rfl
@[simp] theorem State.setChannelArb_bist (s : State) (c : Nat) (x : ArbChannel) : (s.setChannelArb c x).bist = s.bist := by unfold State.setChannelArb; split <;> rfl
@[simp] theorem State.setChannelArb_trim (s : State) (c : Nat) (x : ArbChannel) : (s.setChannelArb c x).trim = s.trim := by unfold State.setChannelArb; split <;> rfl
@[simp] theorem State.setChannelArb_tap (s : State) (c : Nat) (x : ArbChannel) : (s.setChannelArb c x).tap = s.tap := by unfold State.setChannelArb; split <;> rfl
@[simp] theorem State.setChannelArb_regs (s : State) (c : Nat) (x : ArbChannel) : (s.setChannelArb c x).regs = s.regs := by unfold State.setChannelArb; split <;> rfl
@[simp] theorem State.setChannelArb_byteLatch (s : State) (c : Nat) (x : ArbChannel) : (s.setChannelArb c x).byteLatch = s.byteLatch := by unfold State.setChannelArb; split <;> rfl
@[simp] theorem State.setChannelArb_draws (s : State) (c : Nat) (x : ArbChannel) : (s.setChannelArb c x).draws = s.draws := by unfold State.setChannelArb; split <;> rfl
@[simp] theorem State.setChannelArb_memory (s : State) (c : Nat) (x : ArbChannel) : (s.setChannelArb c x).memory = s.memory := by unfold State.setChannelArb; split <;> rfl
@[simp] theorem State.setChannelArb_shadows (s : State) (c : Nat) (x : ArbChannel) : (s.setChannelArb c x).shadows = s.shadows := by unfold State.setChannelArb; split <;> rfl
@[simp] theorem State.setChannelArb_pending (s : State) (c : Nat) (x : ArbChannel) : (s.setChannelArb c x).pending = s.pending := by unfold State.setChannelArb; split <;> rfl

/-! ### `State.setLock` -/

@[simp] theorem State.setLock_mode (s : State) (n : Nat) (l : Lock) : (s.setLock n l).mode = s.mode := rfl
@[simp] theorem State.setLock_time (s : State) (n : Nat) (l : Lock) : (s.setLock n l).time = s.time := rfl
@[simp] theorem State.setLock_up (s : State) (n : Nat) (l : Lock) : (s.setLock n l).up = s.up := rfl
@[simp] theorem State.setLock_sys (s : State) (n : Nat) (l : Lock) : (s.setLock n l).sys = s.sys := rfl
@[simp] theorem State.setLock_hearth (s : State) (n : Nat) (l : Lock) : (s.setLock n l).hearth = s.hearth := rfl
@[simp] theorem State.setLock_macA (s : State) (n : Nat) (l : Lock) : (s.setLock n l).macA = s.macA := rfl
@[simp] theorem State.setLock_macB (s : State) (n : Nat) (l : Lock) : (s.setLock n l).macB = s.macB := rfl
@[simp] theorem State.setLock_macSv (s : State) (n : Nat) (l : Lock) : (s.setLock n l).macSv = s.macSv := rfl
@[simp] theorem State.setLock_ip (s : State) (n : Nat) (l : Lock) : (s.setLock n l).ip = s.ip := rfl
@[simp] theorem State.setLock_ipSv (s : State) (n : Nat) (l : Lock) : (s.setLock n l).ipSv = s.ipSv := rfl
@[simp] theorem State.setLock_groups (s : State) (n : Nat) (l : Lock) : (s.setLock n l).groups = s.groups := rfl
@[simp] theorem State.setLock_reports (s : State) (n : Nat) (l : Lock) : (s.setLock n l).reports = s.reports := rfl
@[simp] theorem State.setLock_ingress (s : State) (n : Nat) (l : Lock) : (s.setLock n l).ingress = s.ingress := rfl
@[simp] theorem State.setLock_fs (s : State) (n : Nat) (l : Lock) : (s.setLock n l).fs = s.fs := rfl
@[simp] theorem State.setLock_anvil (s : State) (n : Nat) (l : Lock) : (s.setLock n l).anvil = s.anvil := rfl
@[simp] theorem State.setLock_strands (s : State) (n : Nat) (l : Lock) : (s.setLock n l).strands = s.strands := rfl
@[simp] theorem State.setLock_banks (s : State) (n : Nat) (l : Lock) : (s.setLock n l).banks = s.banks := rfl
@[simp] theorem State.setLock_lamp (s : State) (n : Nat) (l : Lock) : (s.setLock n l).lamp = s.lamp := rfl
@[simp] theorem State.setLock_arb (s : State) (n : Nat) (l : Lock) : (s.setLock n l).arb = s.arb := rfl
@[simp] theorem State.setLock_jnl (s : State) (n : Nat) (l : Lock) : (s.setLock n l).jnl = s.jnl := rfl
@[simp] theorem State.setLock_ctrl (s : State) (n : Nat) (l : Lock) : (s.setLock n l).ctrl = s.ctrl := rfl
@[simp] theorem State.setLock_red (s : State) (n : Nat) (l : Lock) : (s.setLock n l).red = s.red := rfl
@[simp] theorem State.setLock_nvm (s : State) (n : Nat) (l : Lock) : (s.setLock n l).nvm = s.nvm := rfl
@[simp] theorem State.setLock_work (s : State) (n : Nat) (l : Lock) : (s.setLock n l).work = s.work := rfl
@[simp] theorem State.setLock_bist (s : State) (n : Nat) (l : Lock) : (s.setLock n l).bist = s.bist := rfl
@[simp] theorem State.setLock_trim (s : State) (n : Nat) (l : Lock) : (s.setLock n l).trim = s.trim := rfl
@[simp] theorem State.setLock_tap (s : State) (n : Nat) (l : Lock) : (s.setLock n l).tap = s.tap := rfl
@[simp] theorem State.setLock_regs (s : State) (n : Nat) (l : Lock) : (s.setLock n l).regs = s.regs := rfl
@[simp] theorem State.setLock_byteLatch (s : State) (n : Nat) (l : Lock) : (s.setLock n l).byteLatch = s.byteLatch := rfl
@[simp] theorem State.setLock_draws (s : State) (n : Nat) (l : Lock) : (s.setLock n l).draws = s.draws := rfl
@[simp] theorem State.setLock_memory (s : State) (n : Nat) (l : Lock) : (s.setLock n l).memory = s.memory := rfl
@[simp] theorem State.setLock_shadows (s : State) (n : Nat) (l : Lock) : (s.setLock n l).shadows = s.shadows := rfl
@[simp] theorem State.setLock_pending (s : State) (n : Nat) (l : Lock) : (s.setLock n l).pending = s.pending := rfl

/-! ### `State.setTask` -/

@[simp] theorem State.setTask_mode (s : State) (n : Nat) (t : Task) : (s.setTask n t).mode = s.mode := rfl
@[simp] theorem State.setTask_time (s : State) (n : Nat) (t : Task) : (s.setTask n t).time = s.time := rfl
@[simp] theorem State.setTask_up (s : State) (n : Nat) (t : Task) : (s.setTask n t).up = s.up := rfl
@[simp] theorem State.setTask_sys (s : State) (n : Nat) (t : Task) : (s.setTask n t).sys = s.sys := rfl
@[simp] theorem State.setTask_hearth (s : State) (n : Nat) (t : Task) : (s.setTask n t).hearth = s.hearth := rfl
@[simp] theorem State.setTask_macA (s : State) (n : Nat) (t : Task) : (s.setTask n t).macA = s.macA := rfl
@[simp] theorem State.setTask_macB (s : State) (n : Nat) (t : Task) : (s.setTask n t).macB = s.macB := rfl
@[simp] theorem State.setTask_macSv (s : State) (n : Nat) (t : Task) : (s.setTask n t).macSv = s.macSv := rfl
@[simp] theorem State.setTask_ip (s : State) (n : Nat) (t : Task) : (s.setTask n t).ip = s.ip := rfl
@[simp] theorem State.setTask_ipSv (s : State) (n : Nat) (t : Task) : (s.setTask n t).ipSv = s.ipSv := rfl
@[simp] theorem State.setTask_groups (s : State) (n : Nat) (t : Task) : (s.setTask n t).groups = s.groups := rfl
@[simp] theorem State.setTask_reports (s : State) (n : Nat) (t : Task) : (s.setTask n t).reports = s.reports := rfl
@[simp] theorem State.setTask_ingress (s : State) (n : Nat) (t : Task) : (s.setTask n t).ingress = s.ingress := rfl
@[simp] theorem State.setTask_fs (s : State) (n : Nat) (t : Task) : (s.setTask n t).fs = s.fs := rfl
@[simp] theorem State.setTask_anvil (s : State) (n : Nat) (t : Task) : (s.setTask n t).anvil = s.anvil := rfl
@[simp] theorem State.setTask_strands (s : State) (n : Nat) (t : Task) : (s.setTask n t).strands = s.strands := rfl
@[simp] theorem State.setTask_banks (s : State) (n : Nat) (t : Task) : (s.setTask n t).banks = s.banks := rfl
@[simp] theorem State.setTask_lamp (s : State) (n : Nat) (t : Task) : (s.setTask n t).lamp = s.lamp := rfl
@[simp] theorem State.setTask_arb (s : State) (n : Nat) (t : Task) : (s.setTask n t).arb = s.arb := rfl
@[simp] theorem State.setTask_jnl (s : State) (n : Nat) (t : Task) : (s.setTask n t).jnl = s.jnl := rfl
@[simp] theorem State.setTask_ctrl (s : State) (n : Nat) (t : Task) : (s.setTask n t).ctrl = s.ctrl := rfl
@[simp] theorem State.setTask_red (s : State) (n : Nat) (t : Task) : (s.setTask n t).red = s.red := rfl
@[simp] theorem State.setTask_nvm (s : State) (n : Nat) (t : Task) : (s.setTask n t).nvm = s.nvm := rfl
@[simp] theorem State.setTask_work (s : State) (n : Nat) (t : Task) : (s.setTask n t).work = s.work := rfl
@[simp] theorem State.setTask_bist (s : State) (n : Nat) (t : Task) : (s.setTask n t).bist = s.bist := rfl
@[simp] theorem State.setTask_trim (s : State) (n : Nat) (t : Task) : (s.setTask n t).trim = s.trim := rfl
@[simp] theorem State.setTask_tap (s : State) (n : Nat) (t : Task) : (s.setTask n t).tap = s.tap := rfl
@[simp] theorem State.setTask_regs (s : State) (n : Nat) (t : Task) : (s.setTask n t).regs = s.regs := rfl
@[simp] theorem State.setTask_byteLatch (s : State) (n : Nat) (t : Task) : (s.setTask n t).byteLatch = s.byteLatch := rfl
@[simp] theorem State.setTask_draws (s : State) (n : Nat) (t : Task) : (s.setTask n t).draws = s.draws := rfl
@[simp] theorem State.setTask_memory (s : State) (n : Nat) (t : Task) : (s.setTask n t).memory = s.memory := rfl
@[simp] theorem State.setTask_shadows (s : State) (n : Nat) (t : Task) : (s.setTask n t).shadows = s.shadows := rfl
@[simp] theorem State.setTask_pending (s : State) (n : Nat) (t : Task) : (s.setTask n t).pending = s.pending := rfl

/-! ### `State.setEngine` -/

@[simp] theorem State.setEngine_mode (s : State) (n : Nat) (e : Engine) : (s.setEngine n e).mode = s.mode := rfl
@[simp] theorem State.setEngine_time (s : State) (n : Nat) (e : Engine) : (s.setEngine n e).time = s.time := rfl
@[simp] theorem State.setEngine_up (s : State) (n : Nat) (e : Engine) : (s.setEngine n e).up = s.up := rfl
@[simp] theorem State.setEngine_sys (s : State) (n : Nat) (e : Engine) : (s.setEngine n e).sys = s.sys := rfl
@[simp] theorem State.setEngine_hearth (s : State) (n : Nat) (e : Engine) : (s.setEngine n e).hearth = s.hearth := rfl
@[simp] theorem State.setEngine_macA (s : State) (n : Nat) (e : Engine) : (s.setEngine n e).macA = s.macA := rfl
@[simp] theorem State.setEngine_macB (s : State) (n : Nat) (e : Engine) : (s.setEngine n e).macB = s.macB := rfl
@[simp] theorem State.setEngine_macSv (s : State) (n : Nat) (e : Engine) : (s.setEngine n e).macSv = s.macSv := rfl
@[simp] theorem State.setEngine_ip (s : State) (n : Nat) (e : Engine) : (s.setEngine n e).ip = s.ip := rfl
@[simp] theorem State.setEngine_ipSv (s : State) (n : Nat) (e : Engine) : (s.setEngine n e).ipSv = s.ipSv := rfl
@[simp] theorem State.setEngine_groups (s : State) (n : Nat) (e : Engine) : (s.setEngine n e).groups = s.groups := rfl
@[simp] theorem State.setEngine_reports (s : State) (n : Nat) (e : Engine) : (s.setEngine n e).reports = s.reports := rfl
@[simp] theorem State.setEngine_ingress (s : State) (n : Nat) (e : Engine) : (s.setEngine n e).ingress = s.ingress := rfl
@[simp] theorem State.setEngine_fs (s : State) (n : Nat) (e : Engine) : (s.setEngine n e).fs = s.fs := rfl
@[simp] theorem State.setEngine_anvil (s : State) (n : Nat) (e : Engine) : (s.setEngine n e).anvil = s.anvil := rfl
@[simp] theorem State.setEngine_strands (s : State) (n : Nat) (e : Engine) : (s.setEngine n e).strands = s.strands := rfl
@[simp] theorem State.setEngine_banks (s : State) (n : Nat) (e : Engine) : (s.setEngine n e).banks = s.banks := rfl
@[simp] theorem State.setEngine_lamp (s : State) (n : Nat) (e : Engine) : (s.setEngine n e).lamp = s.lamp := rfl
@[simp] theorem State.setEngine_arb (s : State) (n : Nat) (e : Engine) : (s.setEngine n e).arb = s.arb := rfl
@[simp] theorem State.setEngine_jnl (s : State) (n : Nat) (e : Engine) : (s.setEngine n e).jnl = s.jnl := rfl
@[simp] theorem State.setEngine_ctrl (s : State) (n : Nat) (e : Engine) : (s.setEngine n e).ctrl = s.ctrl := rfl
@[simp] theorem State.setEngine_red (s : State) (n : Nat) (e : Engine) : (s.setEngine n e).red = s.red := rfl
@[simp] theorem State.setEngine_nvm (s : State) (n : Nat) (e : Engine) : (s.setEngine n e).nvm = s.nvm := rfl
@[simp] theorem State.setEngine_work (s : State) (n : Nat) (e : Engine) : (s.setEngine n e).work = s.work := rfl
@[simp] theorem State.setEngine_bist (s : State) (n : Nat) (e : Engine) : (s.setEngine n e).bist = s.bist := rfl
@[simp] theorem State.setEngine_trim (s : State) (n : Nat) (e : Engine) : (s.setEngine n e).trim = s.trim := rfl
@[simp] theorem State.setEngine_tap (s : State) (n : Nat) (e : Engine) : (s.setEngine n e).tap = s.tap := rfl
@[simp] theorem State.setEngine_regs (s : State) (n : Nat) (e : Engine) : (s.setEngine n e).regs = s.regs := rfl
@[simp] theorem State.setEngine_byteLatch (s : State) (n : Nat) (e : Engine) : (s.setEngine n e).byteLatch = s.byteLatch := rfl
@[simp] theorem State.setEngine_draws (s : State) (n : Nat) (e : Engine) : (s.setEngine n e).draws = s.draws := rfl
@[simp] theorem State.setEngine_memory (s : State) (n : Nat) (e : Engine) : (s.setEngine n e).memory = s.memory := rfl
@[simp] theorem State.setEngine_shadows (s : State) (n : Nat) (e : Engine) : (s.setEngine n e).shadows = s.shadows := rfl
@[simp] theorem State.setEngine_pending (s : State) (n : Nat) (e : Engine) : (s.setEngine n e).pending = s.pending := rfl

/-! ### What the updates store -/

@[simp] theorem State.setMac_mac (s : State) (p : Port) (m : Mac) : (s.setMac p m).mac p = m := by cases p <;> rfl

theorem State.setMac_mac_other (s : State) {p q : Port} (m : Mac) (h : q ≠ p) : (s.setMac p m).mac q = s.mac q := by
  cases p <;> cases q <;> first | rfl | exact absurd rfl h

@[simp] theorem State.setDom_dom (s : State) (b : Bool) (d : Domain) : (s.setDom b d).dom b = d := by cases b <;> rfl

@[simp] theorem State.setDom_dom_other (s : State) (b : Bool) (d : Domain) : (s.setDom b d).dom (!b) = s.dom (!b) := by
  cases b <;> rfl

theorem State.reg_setReg_other (s : State) {a b : Nat} (v : Word) (h : b ≠ a) : (s.setReg a v).reg b = s.reg b :=
  SMap.get_set_other regReset s.regs v h

theorem State.reg_setReg_same {s : State} (h : s.regsOk) (a : Nat) (v : Word) : (s.setReg a v).reg a = v :=
  SMap.get_set_same h a v

/-- A write of a register keeps the canonical form of the store. -/
theorem State.setReg_regsOk {s : State} (h : s.regsOk) (a : Nat) (v : Word) : (s.setReg a v).regsOk :=
  SMap.wf_set h a v

theorem State.setRegN_regsOk {s : State} (h : s.regsOk) (a n : Nat) : (s.setRegN a n).regsOk := State.setReg_regsOk h a _

theorem State.count_regsOk {s : State} (h : s.regsOk) (a : Nat) : (s.count a).regsOk := State.setReg_regsOk h a _

theorem State.strand_setStrand_other (s : State) {n m : Nat} (t : Strand) (h : m ≠ n) :
    (s.setStrand n t).strand m = s.strand m := SMap.get_set_other _ s.strands t h

theorem State.strand_setStrand_same {s : State} (h : s.storesOk) (n : Nat) (t : Strand) : (s.setStrand n t).strand n = t :=
  SMap.get_set_same h.2.2.2.1 n t

theorem State.stream_setStream_other (s : State) {i j : Nat} (t : Stream) (h : j ≠ i) :
    (s.setStream i t).stream j = s.stream j := SMap.get_set_other _ s.fs.streams t h

theorem State.stream_setStream_same {s : State} (h : s.storesOk) (i : Nat) (t : Stream) : (s.setStream i t).stream i = t :=
  SMap.get_set_same h.2.2.2.2.1 i t

theorem State.task_setTask_other (s : State) {n m : Nat} (t : Task) (h : m ≠ n) : (s.setTask n t).task m = s.task m :=
  SMap.get_set_other _ s.sched.tasks t h

theorem State.task_setTask_same {s : State} (h : s.storesOk) (n : Nat) (t : Task) : (s.setTask n t).task n = t :=
  SMap.get_set_same h.1 n t

theorem State.lock_setLock_other (s : State) {n m : Nat} (l : Lock) (h : m ≠ n) : (s.setLock n l).lock m = s.lock m :=
  SMap.get_set_other _ s.sched.locks l h

theorem State.lock_setLock_same {s : State} (h : s.storesOk) (n : Nat) (l : Lock) : (s.setLock n l).lock n = l :=
  SMap.get_set_same h.2.1 n l

theorem State.engine_setEngine_other (s : State) {n m : Nat} (e : Engine) (h : m ≠ n) :
    (s.setEngine n e).engine m = s.engine m := SMap.get_set_other _ s.sched.engines e h

theorem State.engine_setEngine_same {s : State} (h : s.storesOk) (n : Nat) (e : Engine) : (s.setEngine n e).engine n = e :=
  SMap.get_set_same h.2.2.1 n e

end Sys2Proof.Machine
end

