-- ==== Sys2Proof/Laws/Ops.lean ====
section
/-! SUPPORT. One lemma for each shared operation that says what it can do: a journal entry and an event touch only records,
and keep the register store canonical; time passes without breaking the counter. -/

set_option Elab.async false

namespace Sys2Proof.Machine

/-! ### Records -/

theorem State.sameButRecords_refl (s : State) : s.sameButRecords s := rfl

theorem State.sameButRecords_trans {s t u : State} (h1 : s.sameButRecords t) (h2 : t.sameButRecords u) : s.sameButRecords u := by
  unfold State.sameButRecords at h1 h2
  rw [h1] at h2
  exact h2

theorem State.setReg_sameButRecords (s : State) (a : Nat) (v : Word) : s.sameButRecords (s.setReg a v) := by
  unfold State.sameButRecords State.setReg
  rfl

theorem State.count_sameButRecords (s : State) (a : Nat) : s.sameButRecords (s.count a) := State.setReg_sameButRecords s a _

theorem State.offer_sameButRecords (s : State) (e : JEntry) : s.sameButRecords (s.offer e) := by
  unfold State.offer
  split
  · dsimp only
    split <;> exact rfl
  · exact rfl

theorem State.streamLoses_sameButRecords (s : State) (n : Nat) (e : Option JEntry) : s.sameButRecords (s.streamLoses n e) := by
  unfold State.streamLoses
  split
  · exact State.sameButRecords_trans (t := { s with jnl := _ }) rfl (State.count_sameButRecords _ _)
  · exact rfl

theorem State.jAppend_sameButRecords (s : State) (e : JEntry) : s.sameButRecords (s.jAppend e) := by
  unfold State.jAppend
  split
  · exact rfl
  · refine State.sameButRecords_trans ?_ (State.offer_sameButRecords _ e)
    split
    · refine State.sameButRecords_trans ?_ (State.count_sameButRecords _ _)
      exact State.sameButRecords_trans (t := { s with jnl := _ }) rfl (State.streamLoses_sameButRecords _ _ _)
    · exact rfl

theorem State.jOverflow_sameButRecords (s : State) (t : Word) : s.sameButRecords (s.jOverflow t) :=
  State.sameButRecords_trans (State.setReg_sameButRecords s _ _) (State.jAppend_sameButRecords _ _)

theorem State.jAccept_sameButRecords (s : State) (e : JEntry) : s.sameButRecords (s.jAccept e) := by
  unfold State.jAccept
  split
  · exact State.sameButRecords_trans (State.jAppend_sameButRecords s e) (State.jOverflow_sameButRecords _ _)
  · exact State.jAppend_sameButRecords s e

theorem State.jAcceptPair_sameButRecords (s : State) (e f : JEntry) : s.sameButRecords (s.jAcceptPair e f) := by
  have h := State.sameButRecords_trans (State.jAppend_sameButRecords s e) (State.jAppend_sameButRecords (s.jAppend e) f)
  unfold State.jAcceptPair
  dsimp only
  split <;> split
  · exact State.sameButRecords_trans (State.sameButRecords_trans h (State.jOverflow_sameButRecords _ _))
      (State.jOverflow_sameButRecords _ _)
  · exact State.sameButRecords_trans h (State.jOverflow_sameButRecords _ _)
  · exact State.sameButRecords_trans h (State.jOverflow_sameButRecords _ _)
  · exact h

theorem State.foldl_jAccept_sameButRecords (l : List JEntry) (s : State) : s.sameButRecords (l.foldl State.jAccept s) := by
  induction l generalizing s with
  | nil => exact rfl
  | cons e l ih => exact State.sameButRecords_trans (State.jAccept_sameButRecords s e) (ih _)

theorem State.jDrain_sameButRecords (s : State) (src : Nat) (f : JEntry → Bool) : s.sameButRecords (s.jDrain src f) := by
  unfold State.jDrain
  refine State.sameButRecords_trans ?_ (State.foldl_jAccept_sameButRecords _ _)
  split <;> exact rfl

/-- A journal entry of the device's own touches only records. -/
theorem State.emit_sameButRecords (s : State) (src kind code payload : Nat) : s.sameButRecords (s.emit src kind code payload) :=
  State.sameButRecords_trans (State.jDrain_sameButRecords _ _ _) (State.jAccept_sameButRecords _ _)

/-- A turn of the journal touches only records. -/
theorem State.journalTurn_sameButRecords (s : State) : s.sameButRecords s.journalTurn := by
  unfold State.journalTurn
  split
  · split
    · exact State.sameButRecords_trans (t := { s with jnl := _ }) rfl (State.jAccept_sameButRecords _ _)
    · exact rfl
  · exact rfl

theorem State.journalTurns_sameButRecords (n : Nat) (s : State) : s.sameButRecords (State.journalTurns n s) := by
  induction n generalizing s with
  | zero => exact rfl
  | succ n ih => exact State.sameButRecords_trans (State.journalTurn_sameButRecords s) (ih _)

theorem State.takeWaiting_sameButRecords (s : State) (n : Nat) : s.sameButRecords (s.takeWaiting n) :=
  State.journalTurns_sameButRecords _ s

/-! ### The register store -/

theorem State.offer_regs (s : State) (e : JEntry) : (s.offer e).regs = s.regs := by
  unfold State.offer
  split
  · dsimp only
    split <;> rfl
  · rfl

/-- The canonical form looks at the register store alone. -/
theorem State.regsOk_of_regs {s t : State} (e : t.regs = s.regs) (h : s.regsOk) : t.regsOk := by
  unfold State.regsOk at h ⊢
  rw [e]
  exact h

theorem State.streamLoses_regsOk {s : State} (h : s.regsOk) (n : Nat) (e : Option JEntry) : (s.streamLoses n e).regsOk := by
  unfold State.streamLoses
  split
  · exact State.count_regsOk (s := { s with jnl := _ }) h _
  · exact h

theorem State.jAppend_regsOk {s : State} (h : s.regsOk) (e : JEntry) : (s.jAppend e).regsOk := by
  unfold State.jAppend
  split
  · exact h
  · apply State.regsOk_of_regs (State.offer_regs _ _ : _ = _)
    split
    · apply State.count_regsOk
      apply State.streamLoses_regsOk
      exact h
    · exact h

theorem State.jOverflow_regsOk {s : State} (h : s.regsOk) (t : Word) : (s.jOverflow t).regsOk :=
  State.jAppend_regsOk (State.setReg_regsOk h _ _) _

theorem State.jAccept_regsOk {s : State} (h : s.regsOk) (e : JEntry) : (s.jAccept e).regsOk := by
  unfold State.jAccept
  split
  · exact State.jOverflow_regsOk (State.jAppend_regsOk h e) _
  · exact State.jAppend_regsOk h e

theorem State.jAcceptPair_regsOk {s : State} (h : s.regsOk) (e f : JEntry) : (s.jAcceptPair e f).regsOk := by
  have h' := State.jAppend_regsOk (State.jAppend_regsOk h e) f
  unfold State.jAcceptPair
  dsimp only
  split <;> split
  · exact State.jOverflow_regsOk (State.jOverflow_regsOk h' _) _
  · exact State.jOverflow_regsOk h' _
  · exact State.jOverflow_regsOk h' _
  · exact h'

theorem State.foldl_jAccept_regsOk (l : List JEntry) {s : State} (h : s.regsOk) : (l.foldl State.jAccept s).regsOk := by
  induction l generalizing s with
  | nil => exact h
  | cons e l ih => exact ih (State.jAccept_regsOk h e)

theorem State.jDrain_regsOk {s : State} (h : s.regsOk) (src : Nat) (f : JEntry → Bool) : (s.jDrain src f).regsOk := by
  unfold State.jDrain
  refine State.foldl_jAccept_regsOk _ ?_
  split
  · exact h
  · exact State.regsOk_of_regs (s := s) rfl h

/-- A journal entry of the device's own keeps the register store canonical. -/
theorem State.emit_regsOk {s : State} (h : s.regsOk) (src kind code payload : Nat) : (s.emit src kind code payload).regsOk :=
  State.jAccept_regsOk (State.jDrain_regsOk h _ _) _

/-- A turn of the journal keeps the register store canonical. -/
theorem State.journalTurn_regsOk {s : State} (h : s.regsOk) : s.journalTurn.regsOk := by
  unfold State.journalTurn
  split
  · split
    · apply State.jAccept_regsOk
      exact h
    · exact h
  · exact h

theorem State.journalTurns_regsOk (n : Nat) {s : State} (h : s.regsOk) : (State.journalTurns n s).regsOk := by
  induction n generalizing s with
  | zero => exact h
  | succ n ih => exact ih (State.journalTurn_regsOk h)

theorem State.takeWaiting_regsOk {s : State} (h : s.regsOk) (n : Nat) : (s.takeWaiting n).regsOk :=
  State.journalTurns_regsOk _ h

/-- An event keeps the register store canonical. -/
theorem State.raiseWith_regsOk {s : State} (h : s.regsOk) (e : Ev) (index detail : Nat) : (s.raiseWith e index detail).regsOk := by
  unfold State.raiseWith
  dsimp only
  split
  · exact State.setReg_regsOk h _ _
  · exact State.emit_regsOk (State.setReg_regsOk h _ _) _ _ _ _

/-! ### Time -/

theorem State.emit_time (s : State) (src kind code payload : Nat) : (s.emit src kind code payload).time = s.time := by
  have h := State.emit_sameButRecords s src kind code payload
  unfold State.sameButRecords at h
  rw [h]

theorem State.raiseWith_time (s : State) (e : Ev) (index detail : Nat) : (s.raiseWith e index detail).time = s.time := by
  unfold State.raiseWith
  dsimp only
  split
  · exact State.setEv_time s e
  · rw [State.emit_time, State.setEv_time]

theorem State.setUnits_timeOk (s : State) (u : Nat) : (s.setUnits u).timeOk := by
  simp only [State.timeOk, State.setUnits, Counter.atUnits]
  omega

theorem State.takeWaiting_time (s : State) (n : Nat) : (s.takeWaiting n).time = s.time := by
  have h := State.takeWaiting_sameButRecords s n
  unfold State.sameButRecords at h
  rw [h]

theorem State.journalTo_time (s : State) (u : Nat) : (s.journalTo u).time = s.time := State.takeWaiting_time s _

theorem State.journalTo_regsOk {s : State} (h : s.regsOk) (u : Nat) : (s.journalTo u).regsOk := State.takeWaiting_regsOk h _

theorem State.setClock_timeOk (s : State) (u up : Nat) : (s.setClock u up).timeOk := by
  simp only [State.timeOk, State.setClock, Counter.atUnits]
  omega

theorem State.setClock_inc (s : State) (u up : Nat) : (s.setClock u up).time.inc = s.time.inc := rfl

theorem State.setClock_regsOk {s : State} (h : s.regsOk) (u up : Nat) : (s.setClock u up).regsOk :=
  State.regsOk_of_regs (State.setClock_regs s u up) h

/-- Time passes: the counter stays legal. -/
theorem State.advanceTo_timeOk {s : State} (h : s.timeOk) (u : Nat) : (s.advanceTo u).timeOk := by
  unfold State.advanceTo
  split
  · exact h
  · exact State.setClock_timeOk _ _ _

theorem State.crossEpoch_inc (s : State) (b : Nat) : (s.crossEpoch b).time.inc = s.time.inc := by
  simp only [State.crossEpoch, State.emitEpoch, State.emit_time, State.setUnits, Counter.atUnits, State.journalTo_time]

theorem State.foldl_crossEpoch_inc (l : List Nat) (s : State) : (l.foldl State.crossEpoch s).time.inc = s.time.inc := by
  induction l generalizing s with
  | nil => rfl
  | cons b l ih => exact (ih _).trans (State.crossEpoch_inc s b)

/-- Time passes: the increment stays. -/
theorem State.advanceTo_inc (s : State) (u : Nat) : (s.advanceTo u).time.inc = s.time.inc := by
  unfold State.advanceTo
  split
  · rfl
  · rw [State.setClock_inc, State.journalTo_time, State.foldl_crossEpoch_inc]

theorem State.emitEpoch_regsOk {s : State} (h : s.regsOk) : s.emitEpoch.regsOk := State.emit_regsOk h _ _ _ _

theorem State.setUnits_regsOk {s : State} (h : s.regsOk) (u : Nat) : (s.setUnits u).regsOk :=
  State.regsOk_of_regs (State.setUnits_regs s u) h

theorem State.crossEpoch_regsOk {s : State} (h : s.regsOk) (b : Nat) : (s.crossEpoch b).regsOk :=
  State.emitEpoch_regsOk (State.setUnits_regsOk (State.journalTo_regsOk h _) _)

theorem State.foldl_crossEpoch_regsOk (l : List Nat) {s : State} (h : s.regsOk) : (l.foldl State.crossEpoch s).regsOk := by
  induction l generalizing s with
  | nil => exact h
  | cons b l ih => exact ih (State.crossEpoch_regsOk h b)

/-- Time passes: the register store stays canonical. -/
theorem State.advanceTo_regsOk {s : State} (h : s.regsOk) (u : Nat) : (s.advanceTo u).regsOk := by
  unfold State.advanceTo
  split
  · exact h
  · exact State.setClock_regsOk (State.journalTo_regsOk (State.foldl_crossEpoch_regsOk _ h) u) _ _

theorem State.pass_timeOk {s : State} (h : s.timeOk) (n : Nat) : (s.pass n).timeOk := State.advanceTo_timeOk h _

theorem State.pass_regsOk {s : State} (h : s.regsOk) (n : Nat) : (s.pass n).regsOk := State.advanceTo_regsOk h _

theorem State.reach_timeOk {s : State} (h : s.timeOk) (due : Nat) : (s.reach due).timeOk := by
  unfold State.reach
  split
  · exact State.pass_timeOk h _
  · exact h

theorem State.reach_inc (s : State) (due : Nat) : (s.reach due).time.inc = s.time.inc := by
  unfold State.reach
  split
  · exact State.advanceTo_inc s _
  · rfl

theorem State.reach_regsOk {s : State} (h : s.regsOk) (due : Nat) : (s.reach due).regsOk := by
  unfold State.reach
  split
  · exact State.pass_regsOk h _
  · exact h

/-- R48: a loaded increment is one of the range. -/
theorem State.loadInc_inc (s : State) (inc : Nat) : (s.loadInc inc).time.inc = max incMin (min incMax inc) := by
  unfold State.loadInc
  dsimp only
  split
  · rfl
  · rw [State.emit_time]

theorem State.loadInc_incOk (s : State) (inc : Nat) : (s.loadInc inc).incOk := by
  unfold State.incOk
  rw [State.loadInc_inc]
  have h : incMin ≤ incMax := by decide
  omega

theorem State.loadInc_regsOk {s : State} (h : s.regsOk) (inc : Nat) : (s.loadInc inc).regsOk := by
  unfold State.loadInc
  dsimp only
  split
  · exact State.regsOk_of_regs (s := s) rfl h
  · apply State.emit_regsOk
    exact State.regsOk_of_regs (s := s) rfl h

end Sys2Proof.Machine
end

