-- ==== Sys2Proof/WellFormed.lean ====
section
/-! DEFINITION. When a command is well formed: its operands lie in the ranges that its rule gives them. The meanings are
total and do not rest on it. -/

namespace Sys2Proof

open Machine

/-- R490: a reset pulse lasts at least 1 µs. -/
def wfPulse (ns : Nat) : Bool := decide (1000 ≤ ns)

/-- R385: a request of channel 1 or 2 comes from an IP address (16 bytes) and a UDP port; channels 0 and 3 have one
endpoint each. -/
def wfEndpoint (ch : Chan) (ep : Endpoint) : Bool :=
  match ch with
  | .c0 => decide (ep = ⟨[], 0⟩)
  | .c3 => decide (ep = ⟨[], 0⟩)
  | _ => decide (ep.addr.length = 16) && decide (ep.udp < 65536)

/-- R381, R386: the request comes from an endpoint of its channel and by a port that carries it. -/
def wfRequest (r : Request) : Bool :=
  wfEndpoint r.chan r.from_ && (match r.chan with
    | .c1 => decide (r.port ≠ .sv)
    | .c2 => decide (r.port = .sv)
    | _ => true)

/-- R475, R482: CAL_STORE and OWNER_KEY_SET carry the operation in their first byte; each row is one operation. -/
def wfOp (op : Nat) (r : Request) : Bool := wfRequest r && decide (byteAt r.payload 0 = op)

/-- R19: a register access is to a word. -/
def wfAddr (a : Word) : Bool := decide (a.toNat % 4 = 0)

/-- R129: the address is a counter's. -/
def wfCounter (a : Word) : Bool :=
  match regRow a.toNat with
  | some r => decide (r.rc ≠ 0)
  | none => false

/-- R450: an Ethernet address has 6 bytes. -/
def wfMacAddr (m : List Byte) : Bool := decide (m.length = 6)

/-- An IP address in the 16-byte form of R401. -/
def wfIp (a : List Byte) : Bool := decide (a.length = 16)

/-- R59: PTP domain numbers and log intervals. -/
def wfDomain (d : Nat) : Bool := decide (d ≤ 127)
def wfInterval (i : Int) : Bool := decide (-7 ≤ i) && decide (i ≤ 1)

/-- R280: a chain has at most 512 drivers. -/
def wfDriver (d : Nat) : Bool := decide (d < 512)

/-- R131: the carrier's addresses. -/
def wfCarrier : Carrier → Bool
  | .udp ip p => wfIp ip && decide (p < 65536)
  | .raw => true

/-- R515 to R524: the board inputs name existing strands and give one figure for each bank and link. -/
def wfBoot (b : BootInputs) : Bool :=
  b.lostStrands.all (· < 128) && decide (b.vddio.length = 8) && decide (b.eyes.length = 4)

/-- R97, R99: the speed code of MAC_STATUS, or of SGMII on the service port; the mirror link has one speed. -/
def wfSpeed (l : Link) (sp : Nat) : Bool :=
  match l with
  | .sv => decide (sp ≤ 2)
  | .mirror => decide (sp = 0)
  | _ => decide (sp = 1) || decide (sp = 2)

/-- The operands of a command lie in their ranges. -/
def WellFormed (i : Instr) : Bool :=
  match i with
  | .porstN ns | .sysrstN ns => wfPulse ns
  | .supervisorUndervoltage mv ns => decide (30 < mv) && wfPulse ns
  | .resetRelease b => wfBoot b
  | .downloadDatagram _ src _ => wfIp src.addr
  | .sync m => wfDomain m.domain && wfInterval m.logInterval
  | .followUp d _ _ _ _ => wfDomain d
  | .delayResp d _ _ _ => wfDomain d
  | .pdelayReq _ m => wfDomain m.domain && decide (m.requester.length = 10)
  | .announce m => wfDomain m.domain
  | .linkUp l sp => wfSpeed l sp
  | .multicastQuery _ g _ => (match g with
    | some a => wfIp a
    | none => true)
  | .membershipReport g => wfIp g
  | .arpRequest _ _ m _ => wfMacAddr m
  | .neighbourSolicitation _ t s => wfIp t && wfIp s
  | .echoRequest _ d s _ => wfIp d && wfIp s
  | .hptPacket _ c m _ => wfCarrier c && wfMacAddr m
  | .zoneTempLost _ d => wfDriver d
  | .unlockExpired ch ep => wfEndpoint ch ep
  | .mailbox _ _ r => decide (r.chan = .c3)
  | .timeSecWrite _ _ _ | .timeNs _ _ | .timeIncHi _ _ => true
  | .counterRead a => wfCounter a
  | .byteCounterHiRead a => wfCounter a
  | .registerWrite _ a _ => wfAddr a
  | .bank r => wfOp 0 r
  | .safe r => wfOp 1 r
  | .emergency r => wfOp 2 r
  | .libSave r => wfOp 3 r
  | .libLoad r => wfOp 4 r
  | .setKey r => wfOp 0 r
  | .setPassword r => wfOp 1 r
  | .clearPassword r => wfOp 2 r
  | .sealLevel r => wfOp 3 r
  | .unsealLevel r => wfOp 4 r
  | .permitDownload r => wfOp 5 r
  | .hello r | .sessionOpen r | .sessionClose r | .keepalive r | .responseAck r | .paramGet r | .paramSet r
  | .paramCommit r | .store r | .factoryReset r | .modeGet r | .modeSet r | .timeGet r | .timingSet r
  | .domainSelect r | .strandEnumerate r | .strandStatus r | .driverCommand r | .rdmRequest r | .mapWrite r
  | .bufferAlloc r | .bufferWrite r | .bufferFree r | .layerSet r | .markSet r | .rewind r | .calBegin r
  | .calWrite r | .calCommit r | .colourTableWrite r | .updOpen r | .updBlock r | .updFinish r | .updActivate r
  | .updConfirm r | .updStatus r | .bistRun r | .bistResult r | .countersRead r | .journalRead r | .eventsRead r
  | .trimRun r | .trimReport r | .roleGet r | .roleSet r | .switchover r | .unlockChallenge r | .unlockResponse r
  | .unlockPassword r | .relock r | .regRead r | .regWrite r => wfRequest r
  | _ => true

end Sys2Proof
end

