-- ==== Sys2Proof/Tests/Slice0.lean ====
section
/-! SUPPORT. The model's own tests: an ill-formed term for each check of WellFormed, one step on a small state here and there
with the result that the spec gives, and for each obligation with hypotheses a state and operands that meet them. -/

open Sys2Proof Sys2Proof.Machine

set_option Elab.async false

namespace Sys2Proof.Tests

/-! ### Helpers -/

/-- A device that has come up: out of reset, in IDLE, with the journal running. -/
def up : State := { State.reset with
  mode := .idle, sys := { inReset := false, clockRuns := true, phase := 5, faultN := false }
  jnl := { started := true }, ctrl := { reqFree := true } }

/-- The next state; the state itself where there is none. -/
def after (i : Instr) (s : State) : State :=
  match exec i s with
  | .next t => t
  | _ => s

/-- A request of channel 0 with sequence number 1. -/
def req (payload : List Byte) (client : BitVec 16 := 0) : Request :=
  { chan := .c0, from_ := ⟨[], 0⟩, port := .a, flags := 0, seq := 1, len := BitVec.ofNat 32 payload.length, client := client
    payload := payload }

/-- The command of `op` begins with request `r` in a state that meets `p`. -/
def begins (s : State) (op : Nat) (r : Request) (p : State → Bool := fun _ => true) : Bool := (s.begun op r).any p

/-- `up` with a session of every scope on channel 0, of handles 1 to 5. -/
def ses : State := { up with ctrl := { up.ctrl with
  sessions := (List.range 5).map fun k => ⟨k, .c0, ⟨[], 0⟩, k + 1, 30, 30000000000, false⟩ } }

/-- A board of a device that comes up. -/
def boot : BootInputs :=
  { idStrap := 0, roleStrap := false, bootStrap := 0, lpddr4x := false, tickOd := false, ioHigh := false, ch0 := true, ch1 := false, mb := 512, rate := 6400
    critical := false, lostStrands := [], set2Lost := false, set3Lost := false, journalLost := [], sparesUsed := 0
    vddio := List.replicate 8 1800, zcalOk := true, eyes := List.replicate 4 500 }

/-- The status in the slot of sequence number 1. -/
def status (s : State) : Option Nat := (s.ctrl.ch0.holds 1).bind fun t => if t.done then some t.status else none

/-! ### Well-formed commands: each check refuses a term -/

theorem test_wf_pulse : WellFormed (.porstN 999) = false ∧ WellFormed (.porstN 1000) = true := by decide
theorem test_wf_undervoltage : WellFormed (.supervisorUndervoltage 30 1000) = false := by decide
theorem test_wf_endpoint : WellFormed (.hello { req [] with from_ := ⟨[1], 0⟩ }) = false := by decide
theorem test_wf_channel1 : WellFormed (.hello { req [] with chan := .c1, from_ := ⟨List.replicate 16 0, 1⟩, port := .sv }) = false := by
  decide
theorem test_wf_op : WellFormed (.sealLevel (req [2, 0])) = false ∧ WellFormed (.sealLevel (req [3, 0])) = true := by decide
theorem test_wf_addr : WellFormed (.registerWrite .engine 2 0) = false := by decide
theorem test_wf_counter : WellFormed (.counterRead 0x40010000) = false ∧ WellFormed (.counterRead 0x40000800) = true := by
  decide +kernel
theorem test_wf_mac : WellFormed (.arpRequest .a 0 [0, 0, 0, 0, 0] 0) = false := by decide
theorem test_wf_ip : WellFormed (.membershipReport [1, 2, 3, 4]) = false := by decide
theorem test_wf_domain : WellFormed (.followUp 128 .a 0 0 0) = false := by decide
theorem test_wf_interval : WellFormed (.sync ⟨0, .a, .ethernet, 0, 0, false, 0, 0, 0, 2⟩) = false := by decide
theorem test_wf_driver : WellFormed (.zoneTempLost 0 512) = false := by decide
theorem test_wf_carrier : WellFormed (.hptPacket .a (.udp [1] 0) [0, 0, 0, 0, 0, 0] []) = false := by decide
theorem test_wf_speed : WellFormed (.linkUp .a 0) = false ∧ WellFormed (.linkUp .sv 3) = false := by decide
theorem test_wf_mirror : WellFormed (.mailbox true 0 (req [])) = false := by decide

theorem test_wf_boot : WellFormed (.resetRelease boot) = true ∧ WellFormed (.resetRelease { boot with vddio := [] }) = false := by
  decide

/-- No row of the table has bits, so no word spells a command. -/
theorem test_no_word_decodes : decodeTableWord 16 0x1234 = none := by decide

/-! ### The queue, the clock and the records -/

/-- R47, R48: one idle cycle adds the increment of 2 ns. -/
theorem test_idle_cycle : (∃ t, step up = .next t ∧ t.time.ns = 2 ∧ t.time.frac = 0) := ⟨_, rfl, by decide, by decide⟩

theorem witness_IdleCycleAdvancesCounter :
    (up.pending = [] ∧ (up.time.ns < 1000000000 ∧ up.time.frac < 2 ^ 32) ∧ up.time.sec < 2 ^ 47 ∧ 0 < up.time.inc ∧
      up.time.inc < 2 ^ 34 ∧ up.jnl.sources = [] ∧ up.nowNs / 2 ^ 30 = (up.time.units + up.time.inc) / 2 ^ 32 / 2 ^ 30) ∧
    up.sys.clockRuns = true ∧ State.reset.sys.clockRuns = false := by decide +kernel

theorem witness_EveryStepKeepsCounterLegal : up.timeOk ∧ up.incOk ∧ ∃ t, step up = .next t :=
  ⟨by unfold State.timeOk; decide, by unfold State.incOk; decide, _, rfl⟩

theorem witness_EveryStepKeepsRegistersCanonical : up.regsOk ∧ ∃ t, step up = .next t :=
  ⟨by unfold State.regsOk; decide +kernel, _, rfl⟩

/-- `ses` while bank 0 is under a strand test. -/
def testing : State := { ses with bist := { tests := [⟨7, 1, 0, 0, true, 0⟩] } }

/-- A REG_READ of STR0_STATUS, whose bank is under test; `d` is DEFER. -/
def readBank (d : BitVec 16) : Request := { req [0x40, 6, 0, 0, 0, 1, 0, 0] with flags := d }

theorem witness_RequestHeaderReadsBack :
    ((readBank 0).chan = .c0 ∧ (readBank 0).from_ = ⟨[], 0⟩ ∧ (readBank 0).port = .a) ∧
    1008 < (BitVec.ofNat 32 0x10000).toNat ∧
    (testing.judge Op.REG_READ (readBank 1)).isNone = true ∧ (testing.blockTest Op.REG_READ (readBank 1)).isSome = true ∧
    status (after (.regRead (readBank 0)) testing) = some Status.BUSY_SELFTEST ∧
    status (after (.regRead (readBank 1)) testing) = none := by decide +kernel

theorem witness_RaisingAnEventTouchesOnlyRecords :
    (SMap.wf regReset up.regs = true ∧ Ev.TIME_UNLOCKED.bit < 32 ∧ Ev.TIME_UNLOCKED.reg ≠ Reg.JNL_OVERWRITTEN) ∧
    up.jnl.started = true ∧ up.jnl.frozen = false ∧ blockOf Ev.TIME_UNLOCKED.reg ≠ 6 ∧
    up.jSource (blockOf Ev.TIME_UNLOCKED.reg) = {} ∧
    ((up.raise Ev.TIME_UNLOCKED).sees Ev.TIME_UNLOCKED = true ∧ (up.raise Ev.TIME_UNLOCKED).jnl.next = 1) := by decide +kernel

/-- `up` after a MODE_GET of sequence number 1. -/
def asked : State := after (.modeGet (req [])) up

theorem witness_SequenceNumbersGuardExecution :
    let u (s : State) (q : Word) := s.received Op.MODE_GET { req [] with seq := q }
    let c (s : State) (q : Word) := (u s q).client .c0 ⟨[], 0⟩
    let acked := after (.responseAck (req [])) asked
    let open_ : State := up.setClient .c0 ⟨[], 0⟩ { s1 := some (newSlot Op.STORE 1), high := some 5 }
    (asked.served = true ∧ asked.channelOn .c0 = true ∧ ((asked.popSubmitted Op.MODE_GET (req [])).admits (req [])).2 = true) ∧
    ((c acked 1).holds 1).map (·.acked) = some true ∧
    ((c asked 1).holds 1).map (·.acked) = some false ∧
    ((c asked 0xFFFFFFFD).holds 0xFFFFFFFD = none ∧ (c asked 0xFFFFFFFD).staleSeq 0xFFFFFFFD = true ∧
      (c asked 0xFFFFFFFE).staleSeq 0xFFFFFFFE = false) ∧
    ((c open_ 5).holds 5 = none ∧ (c open_ 5).staleSeq 5 = false ∧ (c open_ 5).slotBusy 5 = true) ∧
    (u asked 2).freshSeq { req [] with seq := 2 } = true := by decide +kernel

theorem witness_RequestsAreJudgedInOrder :
    let long : Request := { req [] with len := 1009 }
    let sealed_ : State := { up with nvm := { up.nvm with level := 2 } }
    let fatal : State := { up with sched := { up.sched with fatal := true } }
    (1008 < long.len.toNat) ∧
    (opServed .c0 0x00FF = false) ∧
    (opServed .c0 Op.HELLO = true ∧ lenOk Op.HELLO 1 [0] = false) ∧
    (lenOk Op.TIME_GET 0 [] = true ∧ fatal.sched.fatal = true ∧ servedFatal.contains Op.TIME_GET = false) ∧
    (up.sched.fatal = false ∧ bit (((cmdRow Op.REWIND).map (·.modes)).getD 0) Mode.service.code = false) ∧
    (sealed_.accessOk Op.FACTORY_RESET (req [1, 0, 0, 0]) = false) ∧
    (up.accessOk Op.CAL_BEGIN (req [0, 0, 0, 0]) = true ∧ (scopeOf Op.CAL_BEGIN (req [0, 0, 0, 0])).isSome = true ∧
      up.session .c0 ⟨[], 0⟩ 0 = none) ∧
    (testing.blockTest Op.REG_READ (readBank 0)).isSome = true ∧
    status (after (.timeGet (req [])) fatal) = some Status.DENIED_MODE ∧
    status (after (.factoryReset (req [1, 0, 0, 0])) sealed_) = some Status.DENIED_ACCESS ∧
    status (after (.calBegin (req [0, 0, 0, 0])) up) = some Status.DENIED_LOCK ∧
    status (after (.calBegin (req [0, 0, 0, 0] 1)) ses) = some Status.OK := by decide +kernel

/-! ### Time and ticks -/

theorem witness_TickGridAdvances :
    let live : State := { up with mode := .live, hearth := { up.hearth with timing := ⟨60, 1, 2, 500, 500, 0, 0⟩ } }
    up.firmwareUp = true ∧ up.nextTickUnits < unitsEnd ∧
    (live.firmwareUp = true ∧ live.hearth.gap ≠ 1 ∧ live.hearth.subTick < 1 ∧ 1 < live.hearth.timing.slots ∧
      live.hearth.timing.subUnits live.hearth.k 1 < unitsEnd) ∧
    (up.hearth.recordDone = false ∧ up.hearth.lastTickNs < up.recordPointNs ∧ up.recordPointNs * 2 ^ 32 < unitsEnd) ∧
    (after (.subTick 1) live).time.ns = 8333333 ∧ (after .recordPoint up).time.ns = 16566666 := by decide +kernel

theorem witness_EpochEntryHoldsFullCount :
    (up.sys.clockRuns = true ∧ (up.nowNs / 2 ^ 30 + 1) * 2 ^ 30 * 2 ^ 32 < unitsEnd ∧ up.time.frac < 2 ^ 32 ∧
      up.jnl.started = true ∧ up.jnl.frozen = false ∧ up.jSource Src.SC = {} ∧ up.jnl.ring.length + 2 ≤ up.jnl.ringCap) ∧
    (after .epoch up).nowNs = 2 ^ 30 := by decide +kernel

/-- `up` with a selected grandmaster 9 on domain 0 and port A, in LOCKED. -/
def tracked : State := up.setDom false
  { st := .locked, port := some .a, gm := 9, masters := [⟨9, .a, [], true⟩], mpd := 100 }

theorem witness_SyncMeasuresTheOffset :
    let m : SyncMsg := ⟨tracked.domNumber false, .a, .ethernet, 9, 7, false, 1000, 1150, 65536, 0⟩
    let two : State := tracked.setDom false { tracked.dom false with pathA := { twoStep := some (7, 1150, 0) } }
    let twoB : State := tracked.setDom false { tracked.dom false with pathB := { twoStep := some (7, 1150, 0) } }
    (tracked.sys.inReset = false ∧ tracked.hearth.retime = none ∧ tracked.domOf m.domain = some false) ∧
    ((tracked.dom false).masters ≠ [] ∧ (tracked.dom false).gm = m.gm ∧ tracked.domMayUse false m.port = true ∧
      (tracked.portMove false m.port).1 = true) ∧
    (tracked.domMayUse false .b = true ∧ (tracked.portMove false .b).1 = false) ∧
    (((two.dom false).path .a).twoStep = some (7, 1150, 0) ∧ (two.portMove false .a).1 = true) ∧
    (((twoB.dom false).path .b).twoStep = some (7, 1150, 0) ∧ (twoB.portMove false .b).1 = false) ∧
    (((after (.sync { m with port := .b }) tracked).dom false).path .b).t2mt1 = some 149 ∧
    (((after (.sync { m with twoStep := true }) tracked).dom false).path .a).twoStep = some (7, 1150, 65536) := by decide +kernel

theorem witness_PathDelayIsHalfTheRoundTrip :
    let link (s : State) : State := { s with macA := { s.macA with up := true } }
    let e2e : State := (link tracked).setDom false { tracked.dom false with pathA := { t2mt1 := some 150 } }
    let p2p : State := (link tracked).setReg (Reg.DOM_CFG 0) 0x8500
    let sent : State := e2e.setDom false { e2e.dom false with pathA := { t2mt1 := some 150, req := some (0, 2000) } }
    let asks : State := p2p.setDom false { p2p.dom false with pathA := { req := some (0, 2000) } }
    (e2e.sys.inReset = false ∧ e2e.domEnabled false = true ∧ e2e.domMayUse false .a = true ∧ e2e.domP2p false = false ∧
      ((e2e.dom false).path .a).t2mt1 ≠ none ∧ (e2e.mac .a).up = true) ∧
    (p2p.domEnabled false = true ∧ p2p.domMayUse false .a = true ∧ p2p.domP2p false = true ∧ p2p.p2pOn .a = true) ∧
    (sent.domOf (sent.domNumber false) = some false ∧ ((sent.dom false).path .a).req = some (0, 2000) ∧
      ((sent.dom false).path .a).t2mt1 = some 150) ∧
    (asks.domP2p false = true ∧ ((asks.dom false).path .a).req = some (0, 2000)) ∧ (1000 : Nat) * 65536 < 2 ^ 63 ∧
    ((after (.delayReqSend false ⟨.a, 2000⟩) e2e).dom false).pathA.req = some (0, 2000) ∧
    ((after (.delayResp (sent.domNumber false) 0 ⟨.a, 2250⟩ 0) sent).dom false).mpd = 200 ∧
    ((after (.delayResp (asks.domNumber false) 0 ⟨.a, 2250⟩ (50 * 65536)) asks).dom false).mpd = 100 ∧
    (after (.pdelayReq .a ⟨.ethernet, 0, 5, List.replicate 10 0, 1000⟩) p2p).macA.own.length = 1 := by decide +kernel

theorem witness_MastersAndDomainsAreSelected :
    let locked : State := { tracked with hearth := { tracked.hearth with servo := .locked } }
    let fixed : State := locked.setReg (Reg.DOM_CFG 0) 0x8100
    let both : State := fixed.setDom true { st := .locked }
    (up.sys.inReset = false ∧ up.domOf (up.domNumber false) = some false ∧ Port.a ≠ .sv) ∧
    (both.hearth.secondActive = false ∧ (both.dom false).delivers = true ∧ both.domPortSel false ≠ 0 ∧
      (both.dom true).st = .locked) ∧
    ((fixed.dom true).st ≠ .locked ∧ (fixed.dom false).delivers = true ∧ fixed.domPortSel false ≠ 0 ∧
      fixed.hearth.sourcePps = false ∧ fixed.hearth.servo = .locked) ∧
    (after .syncLoss fixed).hearth.servo = .holdover := by decide +kernel

theorem witness_PulseAndTickPins :
    let monitor : State := up.setReg Reg.PPS_CTRL 5
    let out : State := { monitor with hearth := { monitor.hearth with ppsOutLevel := true } }
    let od : State := up.setReg Reg.TICK_OD_CTRL 0x1401
    let with_ (o : TickOd) : State := { od with hearth := { od.hearth with od := o } }
    let skewed : State := with_ { od.hearth.od with skewRun := 3, silent := 16 }
    let drives : State := with_ { od.hearth.od with driving := true }
    let hold : State := { od with hearth := { od.hearth with servo := .holdover } }
    (monitor.sys.inReset = false ∧ monitor.ppsInMode = 1 ∧ 1000 < (ppsErrorOf 1001).natAbs ∧
      (ppsErrorOf 999999000).natAbs ≤ 1000) ∧ up.ppsInMode = 0 ∧ monitor.hearth.ppsLost = false ∧
    (monitor.ppsOutSel = 1 ∧ monitor.hearth.ppsOutLevel = false ∧ monitor.time.units + 1000000000 * 2 ^ 32 < unitsEnd ∧
      monitor.hearth.ppsRise = monitor.time.units) ∧ out.hearth.ppsOutLevel = true ∧
    (od.odEn = true ∧ od.mode ≠ .boot ∧ od.hearth.od.driving = false ∧ od.odTolerance = 200 ∧ od.hearth.servo ≠ .holdover) ∧
    hold.hearth.servo = .holdover ∧ drives.hearth.od.driving = true ∧
    (skewed.hearth.od.driving = false ∧ 3 ≤ skewed.hearth.od.skewRun) ∧
    silentNeeded skewed.sys.idStrap skewed.hearth.od.master ≤ skewed.hearth.od.silent ∧
    (after (.ppsIn 1001) monitor).sees Ev.PPS_IN_ERROR = true ∧ (after (.ppsIn 1000) monitor).sees Ev.PPS_IN_ERROR = false ∧
    (after (.ppsIn 1001) up).sees Ev.PPS_IN_ERROR = false ∧ (after .ppsInLost up).sees Ev.PPS_IN_LOST = true ∧
    (after .ppsOut monitor).time.sec = 1 ∧
    (after (.tickOdEdge (-201)) od).hearth.od.skewRun = 1 ∧ (after (.tickOdEdge 200) od).hearth.od.edgeSeen = true ∧
    (after (.tickOdEdge 201) (with_ { od.hearth.od with skewRun := 1, measured := true })).hearth.od.skewRun = 1 := by
  decide +kernel

theorem witness_PulseAndTickPins_timeOk : (up.setReg Reg.PPS_CTRL 5).timeOk := by unfold State.timeOk; decide +kernel

theorem witness_CounterRegistersLoadAndLatch :
    let staged : State := { up with hearth := { up.hearth with stageSecLo := 5 } }.setReg Reg.TIME_CTRL 0
    let sealed_ : State := { up with nvm := { up.nvm with level := 2 } }
    (staged.unlocked .engine = true ∧ staged.mode = .idle ∧ staged.servoEn = false ∧ staged.hearth.retime = none ∧
      staged.hearth.stageSecHi < 65536 ∧ staged.hearth.stageSecLo < 2 ^ 32 ∧ (999999999 : Word).toNat < 1000000000) ∧
    (up.unlocked .engine = true ∧ up.servoEn = true) ∧ sealed_.unlocked (.client .c0 ⟨[], 0⟩) = false ∧
    (after (.timeNs .engine 999999999) staged).time.sec = 5 ∧ (after (.timeIncHi .engine 9) staged).time.inc = incMax ∧
    (after (.timeNs (.client .c0 ⟨[], 0⟩) 7) sealed_).time.ns = 0 := by decide +kernel

/-! ### Network ports and class queues -/

/-- Ports A and B are up. -/
def linked : State := { up with macA := { up.macA with up := true }, macB := { up.macB with up := true } }

/-- A frame from 02-00-00-00-00-01 of `n` bytes with destination, EtherType and first payload bytes given. -/
def frame (n dst type : Nat) (p : List Byte := []) : List Byte :=
  beBytes 6 dst ++ beBytes 6 0x020000000001 ++ beBytes 2 type ++ p ++ List.replicate (n - 14 - p.length) 0

theorem witness_ReceivedFramesAreJudgedInOrder :
    let s := linked
    let all := broadcastMac
    let f := frame 64 all 0x88B5
    let e : LineErrors := ⟨2, 0, 0⟩
    let own : State := { s with nvm := { s.nvm with macBase := 0x020000000001 } }
    let ip (p : List Byte) := frame 64 all 0x0800 p
    let full : State := s.setQset 0 { q3 := { frames := [⟨0, 1000000000, 0, []⟩], hPos := 65536, sPos := 900000000, tPos := 1000000000 } }
    let stuck : State := { full with macA := { full.macA with rxBlocked := some (3, 64) } }
    ((s.mac .a).up = true ∧ s.portEn .a = true) ∧ (frame 63 all 0).length = 63 ∧ f.length = 64 ∧
    s.maxLen .a (frame 9601 all 0) = 9600 ∧ innerType (frame 64 all 0x8808) = 0x8808 ∧ own.ownSource f = true ∧
    (s.r105 .a (dstMac (frame 64 0x020000000099 0x88B5))).1 = false ∧
    ((s.r105 .a (dstMac f)).1 = true ∧ s.vlanOk .a f = true ∧ Port.a ≠ .sv ∧ s.ownSource f = false) ∧
    ipVerdict (ip []) = .hdrErr ∧ ipVerdict (ip [0x45, 0, 0, 20, 0, 0, 0x20, 0, 0, 0, 0x9A, 0xEB]) = .frag ∧
    ipVerdict (ip [0x45, 0, 0, 28, 0, 0, 0, 0, 0, 17, 0xBA, 0xD2]) = .udpErr ∧
    (ipVerdict f = .pass ∧ s.classOf f = 1 ∧ s.rxFull .a = false ∧ ((s.qset 0).q 1).full f.length = false ∧ s.qEnabled 0 1 = true ∧
      (s.qset 0).stalled = false) ∧
    (full.classOf (frame 64 all 0x9999) = 3 ∧ ((full.qset 0).q 3).full 64 = true) ∧ (stuck.rxFull .a = true ∧ stuck.classOf f = 1) ∧
    (after (.receivedFrame .a (frame 63 all 0) ⟨.good, e⟩) s).regN (Reg.RX_RUNT 0) = 1 ∧
    (after (.receivedFrame .a f ⟨.bad, e⟩) s).regN (Reg.RX_FCS_ERR 0) = 1 ∧
    (after (.receivedFrame .a f ⟨.good, e⟩) s).regN (Reg.RX_SYMBOL_ERR 0) = 2 ∧
    (after (.receivedFrame .a f ⟨.good, e⟩) stuck).regN (Reg.RX_DROP_FIFO 0) = 1 ∧
    (((after (.receivedFrame .a f ⟨.good, e⟩) s).qset 0).q 1).frames.map (·.len) = [64] := by decide +kernel

theorem witness_ClassQueuesKeepOrder :
    let q : State := up.setQset 0 { q1 := { frames := [⟨0, 64, 5, []⟩, ⟨64, 65, 6, []⟩], hPos := 129, sPos := 129, tPos := 129 } }
    let a : Word := BitVec.ofNat 32 (queueAddr 0 1 0)
    ((q.qset 0).stalled = false ∧ (q.qset 0).popped.length < 8 ∧ q.consumerAway 0 = false ∧ q.popClass 0 = some 1 ∧
      ((q.qset 0).q 1).frames ≠ []) ∧ queueAddr 0 1 0 ≠ queueAddr 0 1 64 ∧
    ((after (.qsPop 0 false) q).qset 0).popped.map (·.1) = [1] ∧ (after (.qsPop 0 true) q).ctrl.regOut = 0 ∧
    (((after (.qsDone 0 a) (after (.qsPop 0 false) q)).qset 0).popped = []) ∧
    (((after (.headRefill 0 1) q).qset 0).q 1).frames.length = 2 := by decide +kernel

theorem witness_ClassQueuesKeepOrder_regsOk : up.regsOk := by unfold State.regsOk; decide +kernel

theorem witness_EgressForwardsInOrder :
    let s := linked.setReg (Reg.MAC_CTRL 1) 0x51
    let f := frame 64 0x020000000099 0x88B5
    let x : FwdFrame := ⟨[1], 1, false, false, 0, none⟩
    let tight : State := s.setMac .b { s.macB with fwd := [{ x with bytes := List.replicate 32701 0, keep := 32701 }] }
    let g : OwnFrame := ownAnswer .udp [] [] none none
    let own (c : Bool) : State := s.setMac .b { s.macB with own := [{ g with cls0 := c }], fwd := [x], tx := some (.fwd x) }
    let alone : State := s.setMac .b { s.macB with own := [{ g with cls0 := false }] }
    (Port.other .a = some .b ∧ s.forwards .a .b f = true ∧ f.length ≤ s.maxLen .a f ∧ f.length ≤ 32768 - fifoLevel (s.mac .b) ∧
      64 ≤ 32768 - fifoLevel (s.mac .b)) ∧
    (tight.forwards .a .b f = true ∧ 32768 - fifoLevel (tight.mac .b) < 64) ∧
    ((own true).macB.up = true ∧ (own true).macB.own.map (·.cls0) = [true]) ∧
    (((own false).macB.own.all fun g => !g.cls0 && decide (g.waited < 8)) = true ∧ (own false).macB.fwd = [x]) ∧
    (alone.macB.fwd = [] ∧ alone.macB.own.length = 1 ∧ (alone.macB.own.all fun g => !g.cls0 && decide (g.waited < 8)) = true) ∧
    (after (.forwarding .a f .bad 0) s).macB.fwd.map (·.stomp) = [true] ∧
    (after (.forwarding .a f .good 0) tight).regN (Reg.FWD_DROP 1) = 1 ∧
    (after (.frameBoundary .b) (own true)).macB.fwd.length = 1 ∧ (after (.frameBoundary .b) (own true)).macB.sentFwd = [x] ∧
    (after (.frameBoundary .b) (own false)).macB.fwd = [] ∧ (after (.frameBoundary .b) alone).macB.tx.isSome = true := by
  decide +kernel

theorem witness_LinksComeUpAndGoDown :
    let m : Mac := { trained := true, blockLock := true, aligned := true }
    let s : State := { up with macA := m, macSv := { m with sgmii := 2 } }
    let bound : State := linked.setStream 3 { bound := some .a }
    let standby : State := { up with red := { up.red with mirrorUp := true, role := .standby } }
    let locked : State := { up with red := { up.red with mirrorLock := true } }
    (Link.port .a = some .a ∧ s.macA.up = false ∧ s.testing 0 0 = false ∧ s.macA.trained = true ∧ s.portEn .a = true ∧
      s.speedOk .a 2 = true ∧ s.lockHolds .a = true) ∧
    (s.macSv.trained = true ∧ s.portEn .sv = true ∧ s.speedOk .sv 2 = true ∧ s.lockHolds .sv = true ∧ s.testing 0 2 = false) ∧
    (bound.macA.up = true ∧ (bound.stream 3).bound = some .a) ∧ s.speedSel .a = 0 ∧
    (standby.red.mirrorUp = true ∧ standby.red.role = .standby) ∧
    (locked.firmwareUp = true ∧ locked.red.mirrorUp = false ∧ locked.red.mirrorLock = true ∧ locked.red.mirrorHiBer = false ∧
      locked.sys.set3Lost = false ∧ locked.testing 0 3 = false) ∧
    (after (.searchWindow .a) s).macA.win25 = false ∧ (after (.hiBer .a true) s).macA.hiBer = true ∧
    (after (.blockLock .a true) { s with macA := { trained := true } }).macA.aligned = true ∧
    ((after (.linkDown .a) bound).stream 3).bound = none ∧ (after (.linkDown .mirror) standby).red.stale = true := by
  decide +kernel

theorem witness_GroupsAreReported :
    let g := mapped4 0xE0000001
    let s : State := { linked with groups := [g], reports := [(g, 1000000000)] }
    (s.firmwareUp = true ∧ (s.reports.find? fun x => decide (x.1 = g)) = some (g, 1000000000)) ∧
    (Port.a ∈ s.reportPorts ∧ (s.mac .a).up = true) ∧ (Port.sv ∉ s.reportPorts ∨ (s.mac .sv).up = false) ∧
    (after (.membershipReport g) s).macB.own.length = 1 ∧ (after (.membershipReport g) s).up = 1000000000 ∧
    (after (.multicastQuery .a none 1000) s).macA.own.length = 1 ∧
    (after (.multicastQuery .a (some (mapped4 0xE0000002)) 1000) s).macA.own = [] := by decide +kernel

theorem witness_FirmwareAnswersForItsAddresses :
    let s : State := { linked with ip := { up.ip with addr := 0x0A000001 } }
    let d : State := ({ linked with ip := { up.ip with requested := true } } : State).setParam P.IP_MODE [1]
    let leased (n : Nat) : State := { d with ip := { d.ip with addr := 7, leaseUntil := n } }
    (s.firmwareUp = true ∧ (s.mac .a).up = true ∧ (s.ipOf .a).addr = 0x0A000001) ∧ (s.ipOf .a).addr ≠ 0x0A000002 ∧
    mapped4 0x0A000001 ∈ s.ownAddrs .a ∧ s.linkLocal .a ∈ s.ownAddrs .a ∧
    (List.replicate 16 (9 : Byte) ≠ s.linkLocal .a ∧ List.replicate 16 (9 : Byte) ≠ s.global6 .a) ∧
    (d.dhcpOn .a = true ∧ (d.ipOf .a).requested = true ∧ (d.ipOf .a).addr = 0) ∧
    (((leased 0).ipOf .a).leaseUntil ≤ (leased 0).up ∧ ((leased 1).ipOf .a).addr ≠ 0 ∧ (leased 1).up < ((leased 1).ipOf .a).leaseUntil) ∧
    (after (.arpRequest .a 0x0A000001 [2, 0, 0, 0, 0, 1] 0x0A000002) s).macA.own.map (·.kind) = [.arp] ∧
    (after (.neighbourSolicitation .a (s.linkLocal .a) (mapped4 1)) s).macA.own.length = 1 ∧
    (after (.echoRequest .a (mapped4 0x0A000001) (mapped4 0x0A000002) [1, 2]) s).macA.own.map (·.payload) = [[0, 0, 0, 0, 1, 2]] ∧
    (after (.dhcpv4 .a (.ack 7 8 9 1)) d).ip.addr = 7 ∧ (after (.dhcpv4 .a .timer) (leased 0)).ip.addr = 0 ∧
    (after (.dhcpv4 .a .timer) (leased 1)).ip.addr = 7 := by decide +kernel

/-! ### Pixel transport and the frame store -/

/-- A device in LIVE whose stream 0 carries STREAM_ID 7 on a rectangle of 4 by 1 pixels at (2, 1) of layer 0. -/
def streaming : State :=
  ({ linked with mode := .live } : State).setParam (P.STREAM 0) ([0, 7, 1, 0, 0, 2, 0, 1, 0, 4, 0, 1] ++ List.replicate 36 0)

/-- An HPT v2 DATA packet of STREAM_ID 7 with FORMAT 0 (RGB8): FRAME and SEQ `n`, PT 0.1 s, X, COUNT and pixels. -/
def pixels (n x count : Nat) (p : List Byte) : List Byte :=
  [0x48, 0x58, 2, 1, 0, 7, 0, 0] ++ beBytes 4 n ++ beBytes 4 100000000 ++ beBytes 2 x ++ [0, 0] ++ beBytes 2 count ++ [0, 0] ++
    beBytes 4 n ++ p

def udp : Carrier := .udp (mapped4 0x0A000002) 47810

/-- The same packet in HPT v3, outside any parity group, for slot 0 and the layer given. -/
def pixels3 (n layer : Nat) (p : List Byte) : List Byte :=
  let h := [0x48, 0x58, 3, 1, 0, 7, 0, 0] ++ beBytes 4 n ++ beBytes 4 100000000 ++ [0, 0, 0, 0, 0, 1, 0, BitVec.ofNat 8 layer] ++
    beBytes 4 n ++ [0, 0]
  h ++ beBytes 2 (crc16 h).toNat ++ p

theorem witness_RejectedPacketsMoveOneCounter :
    let s := streaming
    let off : State := s.setReg Reg.ING_CTRL 0
    let d := pixels 5 0 1 [1, 2, 3]
    let v3 := pixels3 5 1 [1, 2, 3]
    let a := sourceOf udp []
    let owned : State := s.setStream 0 { up := true, owner := some a, high := some 5000, seen := [5000] }
    let foreign : State := s.setStream 0 { up := true, owner := some [9] }
    (s.ingressOn .a = true ∧ bit (off.regN Reg.ING_CTRL) 0 = false ∧ bit (s.regN Reg.ING_CTRL) 0 = true) ∧
    hptEarly (d.take 20) = some Reg.HPT_BAD_LENGTH ∧ hptEarly (0 :: d) = some Reg.HPT_BAD_MAGIC ∧
    (hptEarly d = none ∧ s.hptStream udp 7 = some 0 ∧ s.hptStream (.udp (mapped4 0x0A000002) 1) 7 = none) ∧
    (s.srcRefused 0 udp [] = false ∧ (foreign.hptSource 0 .a a false).2 = false ∧ (owned.hptSource 0 .a a false).2 = true) ∧
    (hptEarly v3 = none ∧ (parseHpt v3).version = 3 ∧ (parseHpt v3).slotLayer = 1 ∧ (s.hptSource 0 .a a false).1.slotLayer 0 = 0) ∧
    (hptEarly (pixels3 5 0 []) = none ∧ (parseHpt (pixels3 5 0 [])).slotLayer = 0) ∧
    (owned.stream 0).judgeSeq 5000 = .dup ∧ (owned.stream 0).judgeSeq 903 = .old ∧ (owned.stream 0).judgeSeq 904 = .pass ∧
    (owned.stream 0).judgeSeq 70536 = .pass ∧ (owned.stream 0).judgeSeq 70537 = .newSpace ∧
    (after (.hptPacket .a udp [] v3) s).regN Reg.HPT_BAD_BINDING = 1 ∧
    (after (.hptPacket .a udp [] d) foreign).regN Reg.HPT_FOREIGN = 1 ∧
    (after (.hptPacket .a udp [] (pixels 5000 0 1 [1, 2, 3])) owned).regN Reg.HPT_DUP = 1 := by decide +kernel

theorem witness_RejectedPacketsMoveOneCounter_srcRefused :
    let s := streaming.setParam (P.STREAM 0) ([0, 7, 3, 0, 0, 2, 0, 1, 0, 4, 0, 1] ++ List.replicate 35 0 ++ [5])
    s.ingressOn .a = true ∧ s.hptStream udp 7 = some 0 ∧ s.srcRefused 0 udp [] = true := by decide +kernel

theorem witness_AcceptedPacketWritesItsPixels :
    let s := streaming
    let d := pixels 5 1 2 [1, 2, 3, 4, 5, 6]
    let h := parseHpt d
    let t := after (.hptPacket .a udp [] d) s
    let s1 := (s.hptSource 0 .a (sourceOf udp []) (decide (h.version = 1))).1
    (s.ingressOn .a = true ∧ bit (s.regN Reg.ING_CTRL) 0 = true ∧ hptEarly d = none ∧ s.hptStream udp h.sid = some 0 ∧
      s.srcRefused 0 udp [] = false ∧ (s.hptSource 0 .a (sourceOf udp []) (decide (h.version = 1))).2 = true ∧ h.version = 2 ∧
      h.type = 1 ∧ h.inGroup = false ∧ (s1.stream 0).judgeSeq h.seq = .pass ∧ s1.hptTail 0 h (d.drop 28) = none ∧
      s.layerOf 0 = 0 ∧ s.rectX 0 + s.rectW 0 ≤ 2 ^ 14 ∧ s.rectY 0 + s.rectH 0 ≤ 2 ^ 14 ∧
      (s1.hptWrite 0 h (d.drop 28)).2 = none ∧ s.regN Reg.HPT_ACCEPTED < 2 ^ 32 - 1) ∧
    t.regN Reg.HPT_ACCEPTED = 1 ∧ ((t.stream 0).frameOf 5).map (fun p => (t.ringAt p.entry 3 1, t.ringAt p.entry 4 1)) =
      some (mkPixel 0x0101 0x0202 0x0303 0, mkPixel 0x0404 0x0505 0x0606 0) := by decide +kernel

theorem witness_AcceptedPacketWritesItsPixels_regsOk : streaming.regsOk := by unfold State.regsOk; decide +kernel

theorem witness_SilentStreamsFailOverAndGoDown :
    let s (o : Option (List Byte)) (b : Option Port) (n m : Nat) : State :=
      streaming.setStream 3 { up := true, owner := o, bound := b, silentTicks := n, boundSilent := m }
    let n := streaming.param P.SOURCE_FAILOVER
    let m := streaming.param P.STREAM_TIMEOUT
    (((s (some [1]) none n 0).stream 3).owner.isSome = true ∧ 0 < n) ∧
    (((s none (some .a) 0 n).stream 3).bound.isSome = true ∧ ((s none (some .a) 0 n).stream 3).silentTicks < n) ∧
    (((s none none m 0).stream 3).up = true ∧ m ≤ ((s none none m 0).stream 3).silentTicks ∧ 0 < m) ∧
    ((after (.sourceFailover 3) (s (some [1]) none n 0)).stream 3).ownerReleased = true ∧
    ((after (.sourceFailover 3) (s none (some .a) 0 n)).stream 3).bound = none ∧
    ((after (.streamDown 3) (s none none m 0)).stream 3).up = false ∧
    ((after (.streamDown 3) (s none none (m - 1) 0)).stream 3).up = true := by decide +kernel

/-- An E1.31 data packet of universe 1. -/
def sacn : SacnMsg := ⟨true, 4, 2, 2, 0xA1, 0, 1, 1, 100, 0, false, false, 77, 10, [9, 8]⟩

/-- `linked` with E1.31 on and map 0 on universe 1, as DMX. -/
def mapped : State :=
  ({ linked with mode := .live } : State).setParam P.SACN_ENABLE [1] |>.setParam (P.SACN_MAP 0)
    ([0, 1, 0, 1, 2] ++ List.replicate 19 0)

/-- R125: a universe names no source, so its group is joined in EXCLUDE mode; record type 4 of RFC 3376. -/
theorem test_universe_group_is_excluded :
    let s : State := { mapped with groups := [sacnGroup 1] }
    (s.reportOf (sacnGroup 1) false).getD 8 0 = 4 ∧ s.joinSources (sacnGroup 1) = none := by decide +kernel

theorem witness_SacnSourcesAreTracked :
    let s := mapped
    let old : State := s.setSources 1 [⟨77, 10, 100, 0, [1], 0⟩]
    let eight : State := s.setSources 1 ((List.range 8).map fun k => ⟨k, 10, 100, 0, [1], 0⟩)
    (s.ingressOn .a = true ∧ s.paramOn P.SACN_ENABLE = true) ∧
    (sacnIsOther { sacn with rootVector := 8, framingVector := 1 } = true ∧ sacnIsOther { sacn with rootVector := 8, framingVector := 3 } = false) ∧
    (sacn.wellFormed = true ∧ sacnIsOther sacn = false ∧ sacnIsData sacn = true ∧ 1 ≤ sacn.univ ∧ sacn.univ ≤ 63999 ∧
      sacn.priority ≤ 200 ∧ sacn.preview = false ∧ sacn.startCode = 0 ∧ sacn.terminated = false) ∧
    ((s.mapOf 1).isSome = true ∧ s.mapOf 2 = none) ∧ (s.sources 1 = [] ∧ (old.sources 1).length = 1 ∧
      8 ≤ (eight.sources 1).length ∧ (eight.sources 1).find? (fun x => decide (x.cid = 77)) = none) ∧
    sacnOutOfOrder 10 10 = true ∧ sacnOutOfOrder 247 10 = true ∧ sacnOutOfOrder 246 10 = false ∧ sacnOutOfOrder 11 10 = false ∧
    (after (.sacnPacket .a { sacn with rootVector := 8, framingVector := 1, wellFormed := false }) s).regN Reg.SACN_BAD = 1 ∧
    (after (.sacnPacket .a { sacn with preview := true }) s).regN Reg.SACN_PREVIEW = 1 ∧
    (after (.sacnPacket .a { sacn with startCode := 5 }) s).regN Reg.SACN_ALT_START = 1 ∧
    (after (.sacnPacket .a { sacn with univ := 2 }) s).regN Reg.SACN_UNMAPPED = 1 ∧
    (after (.sacnPacket .a sacn) old).regN Reg.SACN_OUT_OF_ORDER = 1 ∧
    (after (.sacnPacket .a { sacn with terminated := true }) eight).regN Reg.SACN_SRC_OVERFLOW = 1 ∧
    ((after (.sacnPacket .a sacn) s).sources 1).map (·.slots) = [[9, 8]] ∧
    ((after (.sacnPacket .a { sacn with seq := 11 }) old).sources 1).map (·.slots) = [[9, 8]] ∧
    (after (.sacnPacket .a { sacn with seq := 11, terminated := true }) old).sources 1 = [] ∧
    (after (.sacnPacket .a { sacn with terminated := true }) s).sources 1 = [] ∧
    (after (.sacnSrcLost 1 77) old).up = old.param P.SACN_TIMEOUT * 1000000 := by decide +kernel

theorem witness_ConsolidationMovesEveryRegion :
    let p : Part := { entry := 2, st := .held, frame := 1, v1 := false, pt := 0, tick := some 1, format := 0, counts := []
                      chosen := true, byMark := false, former := false }
    let s : State := streaming.setStream 0 { copying := true, parts := [p], target := some 2 }
    ((s.stream 0).copying = true ∧ (s.stream 0).newestChosen = some p ∧ s.regions 0 ≠ []) ∧
    ((after (.consolidation 0) s).stream 0).copying = false := by decide +kernel

theorem witness_HoldKeepsTheFetchTable :
    let enter : State := { streaming with fs := { streaming.fs with holdDue := true } }
    let leave : State := { streaming with mode := .hold, fs := { streaming.fs with resumeDue := true } }
    (enter.mode = .live ∧ enter.fs.holdDue = true) ∧ (leave.mode = .hold ∧ leave.fs.resumeDue = true) ∧
    (after .holdEnter enter).mode = .hold ∧ (after .holdExit leave).mode = .live := by decide +kernel

/-! ### Anvil, strands and lamp control -/

/-- STRANDn_CFG of an NSP strand at rate code 5: 6 channels a line, 2 lines. -/
def nspCfg : List Byte := [1, 5, 6, 0, 8, 0, 0, 2, 0, 0, 0x9C, 0x40, 0, 0, 0x07, 0xD0, 0, 0, 0, 0]

/-- A driver of NSP v2 with one unit of 6 channels. -/
def driver : Driver :=
  { word1 := 0x2106, word2 := 0, minWdt := 0, minHbp := 0, uid := 1, lambda := 0, written := 0, status := 0, temp := 0x8000
    tempMs := 0, failed := 2, lost := false, sampledMs := 0 }

/-- A device in LIVE that drives NSP strand 5, with the strand as given. -/
def strand5 (t : Strand) : State :=
  ((({ linked with mode := .live } : State).setParam (P.STRAND_CFG 5) nspCfg).setBank 0 { vclass := 1, foundClass := 1 }).setStrand 5
    { t with driving := true, drivers := [driver, driver] }

/-- A map of two pixels of 3 emitters, one pixel to a line. -/
def map2 : PixMap := ⟨2, 1, 3, 0, false, 1, [⟨0, 0, 2, 0, false⟩]⟩

theorem witness_LaneRendersTheMostUrgentLine :
    let s : State := { strand5 { kind := .render, lines := 2 } with anvil := { rendering := true, maps := [(5, map2)] } }
    let t := after (.lineRender 0) s
    (s.anvil.rendering = true ∧ s.mostUrgent = some 5) ∧
    (t.strand 5).rendered = 1 ∧ (t.strand 5).buf.map (fun l => (l.1, l.2.length)) = [(0, 7)] := by decide +kernel

theorem witness_StagesAreExactAtTheirEnds :
    let v : Light := (maxL24, 5, 0)
    (v.1 ≤ maxL24 ∧ v.2.1 ≤ maxL24 ∧ v.2.2 ≤ maxL24) ∧ (calibrate identityRecord 0 v).1 = maxL24 ∧
      (blend 32768 v (0, 0, 0)).1 = 2 ^ 23 := by decide +kernel

theorem witness_SerialiserSendsLinesInOrder :
    let base : Strand := { kind := .render, lines := 2 }
    let line := strand5 { base with buf := [(0, List.replicate 7 0)] }
    let dark := strand5 { base with kind := .dark }
    let cfg := strand5 { base with sentLines := 2, cfg := [{ cls := 0, raw := false, driver := 1, words := [7, 8] }], cfgSent := 31 }
    let late : State := { strand5 base with anvil := { maps := [(5, map2)] } }
    (line.isNsp 5 = true ∧ (line.nextLine 5).isSome = true ∧ (dark.nextLine 5).isSome = true ∧ (line.strand 5).driving = true ∧
      (line.strand 5).eof = false ∧ (line.strand 5).enumerating = false ∧ (line.strand 5).underrun = false) ∧
    ((cfg.strand 5).cfg ≠ [] ∧ (cfg.strand 5).lines ≤ (cfg.strand 5).sentLines ∧ (cfg.strand 5).cfgSent < 32) ∧
    (late.nextLine 5 = none ∧ (late.strand 5).sentLines < (late.strand 5).lines) ∧
    (line.dead = false ∧ (line.strand 5).engineDown = false ∧ ((line.synBits 5)[(line.strand 5).synDone]?).isSome = true) ∧
    ((after (.dataLineSend 5) line).strand 5).sentLines = 1 ∧ ((after (.dataLineSend 5) cfg).strand 5).cfg = [] ∧
    ((after (.underrun 5) late).strand 5).underrun = true ∧ ((after (.syn 5) line).strand 5).synDone = 1 := by decide +kernel

/-- The HEAD word and payload of a reply, and its CRC. -/
def replyOf (head : Half) (words : List Half) : ReplyIn := ⟨head, words, crc16Words (head :: words), 0⟩

theorem witness_DriversAreAskedAndAnswer :
    let slot : RetSlot := { driver := 1, sense := false, forCommand := false }
    let cmd := strand5 { kind := .none, cfg := [{ cls := 0, raw := false, driver := 1, words := [7] }] }
    let gap : State := { cmd with hearth := { cmd.hearth with gap := 1 } }
    let eof := strand5 { kind := .render, eof := true, ret := [slot] }
    let wait := strand5 { kind := .render, eof := true, awaiting := some slot }
    let good := replyOf 0x0042 [9, 0x0100]
    (cmd.commandFrameOk 5 = true ∧ (cmd.strand 5).driver? 1 = some driver ∧ gap.commandFrameOk 5 = false) ∧
    (eof.isNsp 5 = true ∧ (eof.strand 5).ret = [slot] ∧ (eof.strand 5).awaiting = none ∧ (eof.strand 5).enumerating = false ∧
      (eof.slotStart 5 slot driver).isSome = true) ∧
    (crc16Words (good.head :: good.words) = good.crc ∧ bits good.head.toNat 15 6 = 1 ∧ bits good.head.toNat 5 3 = 0) ∧
    (replyOf 0x0082 [9, 0x0100]).head ≠ good.head ∧ driver.failed = 2 ∧
    (((after (.reply 5 good) wait).strand 5).driver? 1).map (fun d => (d.status, d.temp, d.failed)) = some (9, 0x0100, 0) ∧
    (((after (.reply 5 (replyOf 0x0082 [9, 0x0100])) wait).strand 5).driver? 1).map (·.lost) = some true ∧
    ((after (.commandFrame 5) cmd).strand 5).kind = .command ∧ ((after (.rts 5) eof).strand 5).awaiting = some slot ∧
    (((after (.replyTimeout 5) wait).strand 5).driver? 1).map (·.lost) = some true := by decide +kernel

theorem witness_EnumerationFillsTheStrand :
    let s := strand5 { enumerating := true, drivers := [] }
    let asked : State := s.setStrand 5 { s.strand 5 with scan := { sent := true, awaiting := true } }
    let done : State := s.setStrand 5 { s.strand 5 with scan := { ended := true, caps := [([0x2106, 3], 17)] } }
    let r := replyOf 0x0008 (List.replicate 8 3)
    (s.enumRuns 5 = true ∧ (s.strand 5).scan.awaiting = false ∧ (s.strand 5).scan.sent = false) ∧
    (asked.enumRuns 5 = true ∧ (asked.strand 5).scan.awaiting = true ∧ enumReplyOk (asked.strand 5).scan r = true ∧
      enumReplyOk (asked.strand 5).scan { r with crc := r.crc + 1 } = false) ∧
    ((5 : Fin 128) ∈ ([5] : List (Fin 128)) ∧ (done.strand 5).enumerating = true ∧ (done.strand 5).scan.ended = true) ∧ s.firmwareUp = true ∧
    ((after (.rts 5) s).strand 5).tx = [.enm 0, .rts 0 false 31] ∧
    ((after (.reply 5 r) asked).strand 5).scan.caps.length = 1 ∧ ((after (.replyTimeout 5) asked).strand 5).scan.failed = true ∧
    (((after (.enumerationComplete [5]) done).strand 5).driver? 0).map (·.word2) = some 3 ∧
    ((after (.busSense 5 false) s).strand 5).edgeJudged = true := by decide +kernel

theorem witness_LegacyAndDmxPortsSendFrames :
    let leg (n : Nat) : State := (strand5 { kind := .render, lines := 1, buf := List.replicate n (0, [1, 2]) }).setParam
      (P.STRAND_CFG 5) ([2, 6] ++ nspCfg.drop 2)
    let rdm : RdmReq := ⟨false, [0, 0, 0, 0, 0, 1], 0, 0x20, 0x60, [], .c0, ⟨[], 0⟩, 1⟩
    let dmx (t : Strand) : State := ((strand5 {}).setParam (P.STRAND_CFG 4) ([4, 6] ++ nspCfg.drop 2)).setStrand 4 t
    ((leg 1).isLegacy 5 = true ∧ ((leg 1).strand 5).lines ≠ 0 ∧ ((leg 1).strand 5).buf.length = ((leg 1).strand 5).lines ∧
      ((leg 1).strand 5).driving = true ∧ ((leg 1).strand 5).eof = false) ∧
    (((leg 0).strand 5).buf.length ≠ ((leg 0).strand 5).lines ∧ (leg 0).regN (Reg.LEG_SKIP 5) < 2 ^ 32 - 1) ∧
    ((dmx {}).dmxOn 2 = true ∧ ((dmx {}).strand 4).rdmNow = none ∧ ((dmx {}).strand 4).rdmEndUp ≤ (dmx {}).hearth.lastTickUp ∧
      ((dmx {}).strand 4).dmxFrame = []) ∧
    (((dmx { rdm := [rdm] }).strand 4).rdm = [rdm]) ∧ ((dmx { rdmNow := some rdm }).strand 4).rdmNow = some rdm ∧
    ((after (.legacyFrame 5) (leg 1)).strand 5).tx = [.legacy ((leg 1).legacyForm 5) [2]] ∧
    (after (.legacyFrame 5) (leg 0)).regN (Reg.LEG_SKIP 5) = 1 ∧ ((after (.dmxFrame 2) (dmx {})).strand 4).dmxFrame.length = 513 ∧
    ((after (.rdmTransaction 2) (dmx { rdm := [rdm] })).strand 4).rdmNow = some rdm ∧
    ((after (.rdmResponse 2 true ⟨false, []⟩) (dmx { rdmNow := some rdm })).strand 4).rdmNow = none := by decide +kernel

theorem witness_SensorsAndSuppliesAreWatched :
    let s := strand5 {}
    let shown : State := { s with lamp := { s.lamp with diode1 := some 5 } }
    let out : State := s.setBank 0 { vclass := 1, foundClass := 1, outRun := 1 }
    (s.firmwareUp = true ∧ s.testing 2 0 = false ∧ s.lamp.shutdown = false ∧ s.sched.fatal = false) ∧ shown.diode 1 ≠ none ∧
    ((s.bank 0).foundClass ≠ 0 ∧ (s.bank 0).vclass ≠ 0 ∧ vddioClass 1981 ≠ (s.bank 0).foundClass ∧ (s.bank 0).outRun = 0 ∧
      vddioClass 1980 = 1) ∧ (out.bank 0).outRun ≠ 0 ∧ (up.mode = .idle ∧ up.testing 2 0 = false ∧ up.firmwareUp = true) ∧
    bit 0x80 7 = true ∧ s.fs.emergPin = false ∧
    (after (.dieTemp 16639) s).lamp.shutdown = false ∧ (after (.dieTemp 16640) s).lamp.shutdown = true ∧
    (after (.dieTemp 14720) s).lamp.dieWarn = true ∧ (after (.dieTemp 14719) s).lamp.dieWarn = false ∧
    (after (.diodeMeasurement 1 (.temp 40)) s).diode 1 = some 40 ∧ (after (.diodeMeasurement 1 .openCircuit) shown).diode 1 = none ∧
    ((after (.vddioSample 0 1981) out).strand 5).driving = false ∧ (after .emergNAsserted s).fs.emergPin = true := by decide +kernel

theorem witness_ZoneFallsBackWithoutTemperature :
    let s := strand5 {}
    let warm : State := s.setStrand 5 { s.strand 5 with drivers := [driver, { driver with temp := 40 }] }
    ((s.strand 5).driver? 1 = some driver ∧ s.mode ≠ .shadow ∧ s.zoneSource 5 1 driver = none ∧ (s.zone 5 1).lost = false) ∧
    (warm.zoneSource 5 1 { driver with temp := 40 }).isSome = true ∧
    ((after (.zoneTempLost 5 1) s).zone 5 1).lost = true := by decide +kernel

/-! ### Engines, scheduler, locks, arbiter and journal -/

/-- `up` with task 70 as given and every slot from 64 to 511 in use where `full`. -/
def tasked (t : Task) (full : Bool := false) : State :=
  { up with sched := { up.sched with tasks := if full then (List.range 448).map fun k => (k + 64, t) else [(70, t)] } }

/-- Engine 5 runs task 71 of priority 6. -/
def busy (t : Task) : State :=
  ((tasked t).setTask 71 { st := .dispatched, prio := 6, targets := [5], engine := 5 }).setEngine 5 { task := some 71 }

theorem witness_TasksRunInPriorityOrder :
    let s := tasked { st := .ready, prio := 2, targets := [5] }
    let w := tasked { st := .waiting, prio := 2, targets := [5] }
    let d := tasked { st := .done, result := 1 }
    let b := busy { st := .ready, prio := 2, targets := [5] }
    (s.engineRuns 5 = true ∧ s.freeSlot = some 64 ∧ s.sched.refusing = false ∧ s.dead = false) ∧
    ((w.task 70).st = .waiting ∧ w.sys.inReset = false) ∧ ((s.engine 5).task = none ∧ s.suspendedTask 5 = none ∧ s.bestTask 5 = some 70) ∧
    ((b.engine 5).task = some 71 ∧ (b.task 71).cancelReq = false ∧ b.bestTask 5 = some 70 ∧ (b.task 70).prio < (b.task 71).prio) ∧
    (b.task 71).inService = true ∧ (d.task 70).st = .done ∧
    ((after (.taskSubmit 5 3 [5] none .now) s).task 64).st = .ready ∧ ((after (.taskReady 70) w).task 70).st = .ready ∧
    ((after (.taskDispatch 5) s).engine 5).task = some 70 ∧ ((after (.taskDispatch 5) b).task 71).st = .suspended ∧
    ((after (.taskDone 5) b).task 71).st = .done ∧ ((after (.taskCancel 70) w).task 70).result = 1 ∧
    ((after (.completionRecordRead 70) d).task 70).st = .free := by decide +kernel

theorem witness_TasksRunInPriorityOrder_storesOk :
    (tasked { st := .ready, prio := 2, targets := [5] }).storesOk ∧ (busy { st := .ready, prio := 2, targets := [5] }).storesOk := by
  unfold State.storesOk; decide +kernel

theorem witness_TasksRunInPriorityOrder_full :
    let full := tasked { st := .waiting } true
    full.engineRuns 5 = true ∧ full.freeSlot = none ∧ full.sched.refusing = false := by decide +kernel

theorem witness_LocksAndEngineFaultsFollowTheirRules :
    let held : State := (up.setLock 20 { owner := some 5 }).setEngine 5 { task := some 70 }
    let s : State := held.setTask 70 { st := .dispatched, prio := 2, targets := [5], engine := 5 }
    let down : State := up.setEngine 5 { restarting := true, lastFaultUp := some 0 }
    (up.engineRuns 5 = true ∧ up.lockBlocked 5 = false ∧ up.lockOrderOk 5 20 = true ∧ (up.lock 20).owner = none) ∧
    ((s.lock 20).owner = some 5 ∧ s.lockBlocked 6 = false ∧ s.lockOrderOk 6 20 = true ∧ tryOnlyLock 20 = false ∧
      tryOnlyLock 40 = true) ∧ (s.lockBlocked 5 = false ∧ s.lockOrderOk 5 19 = false) ∧
    ((s.engine 5).task = some 70 ∧ (s.engine 5).lastFaultUp = none ∧ s.mode ≠ .boot ∧
      (s.task 70).cancelReq = false ∧ (s.task 70).faults = 0 ∧ s.engineRuns 5 = true) ∧ (down.engine 5).restarting = true ∧
    ((after (.lockAcquire 5 20 true) up).lock 20).owner = some 5 ∧ (after (.lockAcquire 6 20 true) s).ctrl.regOut = 5 ∧
    ((after (.lockAcquire 6 20 false) s).lock 20).waiters = [6] ∧ ((after (.lockAcquire 5 19 false) s).engine 5).restarting = true ∧
    ((after (.lockRelease 5 20) s).lock 20).owner = none ∧ ((after (.lockHold 20) s).lock 20).owner = none ∧
    ((after (.engineFault 5 .busErr 0) s).task 70).st = .ready ∧ ((after (.engineFault 5 .busErr 0) s).lock 20).owner = none ∧
    ((after (.taskWdt 5) s).engine 5).task = none ∧ ((after (.engineRestarted 5) down).engine 5).restarting = false := by
  decide +kernel

theorem witness_LocksAndEngineFaultsFollowTheirRules_storesOk :
    up.storesOk ∧ (((up.setLock 20 { owner := some 5 }).setEngine 5 { task := some 70 }).setTask 70
      { st := .dispatched, prio := 2, targets := [5], engine := 5 }).storesOk ∧
    (up.setEngine 5 { restarting := true, lastFaultUp := some 0 }).storesOk := by
  unfold State.storesOk; decide +kernel

theorem witness_ArbiterServesTheLowestRank :
    let pop : State := { up with arb := { up.arb with pop0 := true, rate := 6400 } }
    let s : State := pop.setChannelArb 0 { waiting := [(6, 3), (1, 5)], withdrawn := [(7, 40)] }
    (s.channelPopulated 0 = true ∧ (s.channelArb 0).waiting ≠ [] ∧ ∀ w ∈ (s.channelArb 0).waiting, w.1 < 8) ∧
    (∀ w ∈ (s.channelArb 0).waiting, s.arbCycle (s.channelArb 0) < w.2 + s.starveLimit 0 w.1) ∧
    (after (.burstGrant 0) s).anvil.readAhead = s.anvil.readAhead ∧
    takeRequest 7 (s.channelArb 0).withdrawn = some (40, []) ∧ ((s.channelArb 0).waits 6 = true ∧ 6 ∉ (s.channelArb 0).warned) ∧
    ((after (.burstGrant 0) s).channelArb 0).owner = 1 ∧ ((after (.arbRank 0 0xFA_C6_88) s).channelArb 0).ranks = 0xFAC688 ∧
    ((after (.turnForecastReissue 0 7) s).channelArb 0).withdrawn = [] ∧
    ((after (.starveWarn 0 6) s).channelArb 0).warned = [6] := by decide +kernel

/-- The journal of `up` with 300 on-chip entries. -/
def logged : State := { up with jnl := { up.jnl with
  ring := List.replicate 300 ⟨0, 1, 1, 5, 7⟩, next := 300, unspilled := 300 } }

theorem witness_JournalKeepsEntriesInOrder :
    let e : JEntry := ⟨up.short, 3, 2, 5, 9⟩
    let f : JEntry := ⟨up.short, 3, 3, 5, 9⟩
    let four : State := up.setJSource 3 { wait := List.replicate 4 e }
    let stream : State := (({ linked with jnl := { up.jnl with ring := [e], next := 1, ringCap := 8 } } : State).setParam
      P.JNL_STREAM_ENABLE [1]).setParam P.JNL_STREAM_DEST (mapped4 0x0A000003) |>.setParam P.JNL_STREAM_KINDS [4]
    let frozen : State := { up with jnl := { up.jnl with frozen := true } }
    (up.jnl.started = true ∧ up.jnl.frozen = false ∧ e.urgent = false ∧ up.jSource 3 = {}) ∧ f.urgent = true ∧
    4 ≤ ((four.jSource 3).wait.filter fun x => !x.urgent && decide (x.kind ≠ Kind.LOSS)).length ∧ frozen.jnl.frozen = true ∧
    256 ≤ logged.jnl.unspilled ∧ (stream.streamOn = true ∧ stream.streamWaiting.take stream.dgramMax ≠ [] ∧
      (stream.mac stream.streamEgress).up = true) ∧ (2 ≤ up.jnl.ringCap ∧ up.jnl.ring.length ≤ up.jnl.next) ∧
    ((after (.journalEntry 3 2 5 9) up).jSource 3).wait = [e] ∧ ((after (.journalEntry 3 2 5 9) four).jSource 3).dropped = 1 ∧
    ((after (.journalEntry 3 3 5 9) four).jSource 3).wait.head? = some f ∧ (after .journalSpill logged).jnl.unspilled = 44 ∧
    (after .journalDatagram stream).jnl.streamNext = 1 ∧ (after (.journalEntry 3 2 5 9) frozen).jnl.sources = [] ∧
    (after (.jnlMark 7) up).jnl.next = 1 ∧ (after .jnlNextHi logged).jnl.latchNext = 300 ∧
    (after .jnlOldestHi logged).ctrl.regOut = 0 := by decide +kernel

/-! ### Host window, registers and mailbox commands -/

theorem witness_HostTransactionsReachTheWindow :
    let slot : Slot := ⟨1, Op.MODE_GET, 0, true, false, false, false, [1, 2, 3, 4], 9⟩
    let s : State := { up with ctrl := { up.ctrl with mbxSel := 1, ch0 := { s1 := some slot } } }
    let full : State := { up with ctrl := { up.ctrl with reqFree := false } }
    let put := after (.write 0 0x1000 [0x00010000]) up
    (up.sys.inReset = false ∧ (0 : Nat) = up.sys.idStrap) ∧ (up.ctrl.bcastEn = true) ∧ (up.served = true ∧ up.firmwareUp = true) ∧
    up.inFlight0 < 4 ∧ (up.mode ≠ .boot ∧ up.ctrl.reqFree = true) ∧ full.ctrl.reqFree = false ∧
    (s.firmwareUp = true ∧ s.ctrl.ch0.holds s.ctrl.mbxSel = some slot ∧ slot.done = true ∧ slot.acked = false) ∧
    rowless ((bytesOfWords ((List.range 256).map fun i => SMap.get (fun _ => 0) put.ctrl.mbxReq i)).take 16) = false ∧
    (after (.mbxCtrl 1) put).ctrl.submitted.length = 1 ∧
    (after (.read 0 0 1) up).ctrl.spiOut = [0x48560960] ∧ (after (.read 1 0 1) up).ctrl.spiAnswered = false ∧
    (after (.mbxCtrl 1) full).ctrl.overrun = true ∧ (after .mbxRsp s).ctrl.spiOut.length = 5 ∧
    (after (.qwrite 1 0x1000 [5]) up).ctrl.mbxReq = [] ∧ (after (.qread 0 0 1) up).ctrl.spiOut = [0x48560960] ∧
    (after (.irqStatus 1) up).ctrl.irq = 0 ∧
    (after (.jwFirstLo 7) up).jnl.jwSel = some 7 := by decide +kernel

theorem witness_RegistersFollowTheirAccessCodes :
    let s : State := { up with nvm := { up.nvm with level := 2 } }
    let c : Accessor := .client .c0 ⟨[], 0⟩
    let n : State := up.setReg 0x40020480 5 |>.setReg 0x40020484 1
    (placeOf (cpAddress 0x100C0010) = .peLocal 0 ∧ placeOf (cpAddress 0x10000000) = .cpLocal ∧ placeOf (cpAddress 0x10080000) = .scLocal ∧
      placeOf (cpAddress 0x101C0000) = .sqLocal 0 ∧ placeOf (cpAddress 0x30000000) = .unmapped) ∧
    (after (.counterRead 0x100C0010) (after (.registerWrite .engine 0x100C0010 77) up)).ctrl.regOut = 77 ∧
    (up.sys.inReset = false ∧ (regRow Reg.SLEW_LIMIT).isSome = true ∧ up.writeOwn c Reg.SLEW_LIMIT 100 = none ∧
      queueDoneOf Reg.SLEW_LIMIT = none ∧ ignoresWrite Reg.SLEW_LIMIT 100 = false ∧ macCtrlPort Reg.SLEW_LIMIT = none ∧
      queueSetOf Reg.SLEW_LIMIT = none ∧ lbStrandOf Reg.SLEW_LIMIT = none) ∧
    ((regRow Reg.TIME_CTRL).map (·.rwl) = some 3 ∧ s.writeOwn c Reg.TIME_CTRL 1 = none ∧ s.unlocked c = false ∧
      up.rwlRefuses ((regRow Reg.TIME_CTRL).getD ⟨0, 0, 0, 0, 0, 0, 0, 0, 0, 0, 0, 0⟩) c = false ∧ s.jSource Src.CP = {}) ∧
    (up.view Reg.HPT_DUP = none ∧ byteLow Reg.HPT_DUP = false ∧ byteHigh Reg.HPT_DUP = false) ∧ byteLow 0x40020480 = true ∧
    (after (.registerWrite c 0x40010000 2) up).regN Reg.TIME_CTRL = 2 ∧
    (after (.registerWrite c 0x40010000 2) s).regN Reg.TIME_CTRL = 3 ∧
    (after (.byteCounterHiRead 0x40020484) (after (.counterRead 0x40020480) n)).ctrl.regOut = 1 ∧
    (after (.byteCounterHiRead 0x40020484) (after (.counterRead 0x40020480) n)).reg 0x40020480 = 0 := by decide +kernel

theorem witness_RegistersFollowTheirAccessCodes_regsOk : up.regsOk := by unfold State.regsOk; decide +kernel

theorem witness_ReadoutCommandsAnswer :
    let e : JEntry := ⟨7, 1, 2, 5, 9⟩
    let s : State := { up with jnl := { up.jnl with ring := [e, e], next := 2 }, ctrl := { up.ctrl with ch0 := { queue := [e, e] } } }
    let rd := req [0x40, 1, 0, 0, 0, 2, 0, 0]
    let wr := req ([0x40, 1, 0, 0, 0, 1, 0, 0] ++ beBytes 4 3)
    let jr := req (beBytes 8 0 ++ [2, 0, 0, 0] ++ beBytes 4 0)
    let ev (f : Byte) := req ([f, 1, 0, 0] ++ beBytes 4 2 ++ beBytes 8 1)
    begins s Op.REG_READ rd = true ∧ regRangeOk 0x40010000 2 252 = true ∧ regRangeOk 0x40010001 1 252 = false ∧
    begins s Op.REG_READ (req [0x40, 1, 0, 1, 0, 1, 0, 0]) = true ∧
    begins s Op.REG_WRITE wr = true ∧ regRangeOk 0x40010000 1 250 = true ∧
    begins s Op.COUNTERS_READ (req [3, 0, 0, 0]) = true ∧ counterInstanceOk 3 0 = true ∧
    begins s Op.JOURNAL_READ jr (fun u => (u.jSourceEntries false).isSome) = true ∧
    begins s Op.EVENTS_READ (ev 0) = true ∧ begins s Op.EVENTS_READ (ev 1) = true ∧
    status (after (.regRead rd) s) = some 0 ∧ status (after (.regWrite wr) s) = some 0 ∧
    status (after (.journalRead jr) s) = some 0 ∧ (after (.eventsRead (ev 0)) s).ctrl.ch0.queue.length = 1 ∧
    (after (.eventsRead (ev 1)) s).ctrl.ch0.sources = 1 := by decide +kernel

theorem witness_SessionsHoldTheirScope :
    let hello (k v : Byte) := req ([k, v, 0, 0] ++ List.replicate 12 0)
    let open_ (k : Byte) := req [k, 0, 0, 30]
    let old : Slot := ⟨1, Op.MODE_GET, 0, true, false, false, false, [1, 2, 3, 4], 9⟩
    let s : State := { up with ctrl := { up.ctrl with ch0 := { s1 := some old } } }
    let one : State := { ses with ctrl := { ses.ctrl with sessions := ses.ctrl.sessions.take 1 } }
    let ack (s : State) (r : Request) := (s.popSubmitted Op.RESPONSE_ACK r).admits r
    let bad := { req [] with len := 1009 }
    begins up Op.HELLO (hello 0 0) = true ∧ begins up Op.HELLO (hello 1 6) = true ∧ selectedVersion 6 = 2 ∧
    begins up Op.HELLO (hello 1 0xF0) = true ∧ selectedVersion 0xF0 = 0 ∧
    begins up Op.SESSION_OPEN (open_ 2) (fun u => u.scopeFree 2 && decide (u.ctrl.sessions.length ≤ 4)) = true ∧
    begins one Op.SESSION_OPEN (open_ 0) (fun u => !u.scopeFree 0) = true ∧
    begins ses Op.SESSION_CLOSE (req [] 3) (fun u => ((u.session .c0 ⟨[], 0⟩ 3).map (·.scope)) == some 2 && !u.sessionBusy 3) = true ∧
    begins ses Op.KEEPALIVE (req [] 3) (fun u => (u.session .c0 ⟨[], 0⟩ 3).isSome) = true ∧
    (s.served = true ∧ s.channelOn .c0 = true ∧ (ack s (req [])).2 = true ∧
      ((ack s (req [])).1.client .c0 ⟨[], 0⟩).holds 1 = some old ∧ (ack s (req [])).1.judge Op.RESPONSE_ACK (req []) = none ∧
      ((ack up (req [])).1.client .c0 ⟨[], 0⟩).holds 1 = none) ∧
    ((ack s bad).2 = true ∧ (ack s bad).1.judge Op.RESPONSE_ACK bad ≠ none) ∧
    ((ses.sessionOf 2).map (·.handle) = some 3 ∧ ses.sessionBusy 3 = false ∧ ses.firmwareUp = true) ∧
    status (after (.hello (hello 0 0)) up) = some Status.UNSUPPORTED_VERSION ∧ status (after (.hello (hello 1 6)) up) = some Status.OK ∧
    ((after (.responseAck (req [])) s).ctrl.ch0.holds 1).map (·.acked) = some true ∧
    ((after (.responseAck bad) s).ctrl.ch0.holds 1).map (·.acked) = some false ∧
    status (after (.sessionOpen (open_ 2)) up) = some 0 ∧ (after (.sessionOpen (open_ 2)) up).ctrl.sessions.length = 1 ∧
    status (after (.sessionOpen (open_ 0)) one) = some Status.DENIED_LOCK ∧ status (after (.keepalive (req [] 3)) ses) = some 0 ∧
    (after (.sessionClose (req [] 3)) ses).ctrl.sessions.length = 4 ∧ (after (.sessionExpired 2) ses).ctrl.sessions.length = 4 := by
  decide +kernel

theorem witness_SessionsHoldTheirScope_storesOk :
    ses.storesOk ∧ begins ses Op.SESSION_CLOSE (req [] 3) (fun u => decide (u.strands = ses.strands ∧ u.sched = ses.sched)) = true := by
  unfold State.storesOk; decide +kernel

theorem witness_ParametersAreStagedCommittedAndStored :
    let get := req ([0, 0, 0, 1] ++ beBytes 2 P.SESSION_LEASE)
    let set (v : Nat) := req (beBytes 2 P.SESSION_LEASE ++ [4, 0] ++ beBytes 4 v)
    let recs (v : Nat) : List (Nat × List Byte) := [(P.SESSION_LEASE, beBytes 4 v)]
    let up : State := { up with arb := { up.arb with pop0 := true, rate := 6400, mb := 4096 } }
    let staged (l : List (Nat × List Byte)) : State := up.setClient .c0 ⟨[], 0⟩ { staging := l }
    let wait : State := { up with work := { up.work with storing := some (true, ⟨1, 0, []⟩) } }
    begins up Op.PARAM_GET get (fun u => decide ((u.getRecord {} false P.SESSION_LEASE).length ≤ 1008)) = true ∧
    requestIds get.payload = [P.SESSION_LEASE] ∧ (paramRow P.SESSION_LEASE).isSome = true ∧
    (begins up Op.PARAM_SET (set 60) = true ∧ parseRecords 3 (set 60).payload = some (recs 60) ∧ (stageAll [] (recs 60)).toOption = some (recs 60) ∧
      (stageAll [] (recs 3)).toOption = none) ∧
    begins (staged (recs 60)) Op.PARAM_COMMIT (req [0, 0, 0, 0])
      (fun u => (u.client .c0 ⟨[], 0⟩).staging == recs 60 && (u.commitRefused (recs 60)).isNone) = true ∧
    begins (staged [(P.TICK_RATE_N, beBytes 4 0)]) Op.PARAM_COMMIT (req [0, 0, 0, 0])
      (fun u => (u.commitRefused [(P.TICK_RATE_N, beBytes 4 0)]).isSome) = true ∧
    begins up Op.STORE (req []) (fun u => u.work.storing.isNone && u.work.resetDue.isNone) = true ∧ wait.work.storing.isSome = true ∧
    begins up Op.FACTORY_RESET (req [1, 0, 0, 0]) (·.work.resetDue.isNone) = true ∧ begins up Op.FACTORY_RESET (req [2, 0, 0, 0]) = true ∧
    status (after (.paramGet get) up) = some 0 ∧ status (after (.paramSet (set 3)) up) = some Status.BAD_PARAM ∧
    (after (.paramSet (set 60)) up).ctrl.ch0.staging = recs 60 ∧ (after (.paramCommit (req [0, 0, 0, 0])) (staged (recs 60))).ctrl.staged.length = 1 ∧
    (after .storeComplete wait).nvm.copyB = some ⟨1, 0, []⟩ := by decide +kernel

theorem witness_ModeTimeAndRoleCommands :
    let p := beBytes 4 60 ++ beBytes 4 1 ++ [2, 0, 0, 0] ++ beBytes 2 500 ++ beBytes 2 500 ++ List.replicate 12 0
    let up : State := { up with arb := { up.arb with pop0 := true, rate := 6400, mb := 4096 } }
    let live : State := { up with mode := .live }
    let hold : State := { up with mode := .hold }
    let moving : State := { up with ctrl := { up.ctrl with waiting := [⟨.c0, ⟨[], 0⟩, 9, Op.MODE_SET, 0, .modeSet .idle⟩] } }
    let pair : State := { live with red := { up.red with
      peerHeard := true, mirrorUp := true, role := .active, peerRole := .standby } }
    begins up Op.MODE_GET (req []) = true ∧
    begins up Op.MODE_SET (req [5, 0, 0, 0]) (fun u => !u.modeSetWaits && u.modeSetOk .service) = true ∧
    begins hold Op.MODE_SET (req [5, 0, 0, 0]) (fun u => !u.modeSetWaits && !u.modeSetOk .service) = true ∧
    begins moving Op.MODE_SET (req [5, 0, 0, 0]) (·.modeSetWaits) = true ∧ begins up Op.TIME_GET (req []) = true ∧
    begins up Op.TIMING_SET (req p) (fun u => (requestTiming p).ok && decide (u.hearth.gap = 0) && !u.tooSoon (namedTime p) &&
      (u.timingCapacity (requestTiming p)).isNone && !u.retimeBusy) = true ∧
    (requestTiming (List.replicate 28 0)).ok = false ∧
    begins up Op.DOMAIN_SELECT (req [BitVec.ofNat 8 (up.domNumber true), 0, 0, 0]) (fun u => decide ((u.dom true).st ≠ .locked)) = true ∧
    up.domOf (up.domNumber true) = some true ∧ begins up Op.ROLE_GET (req []) = true ∧
    begins live Op.ROLE_SET (req [0, 2, 0, 0]) = true ∧ roleOf 1 = some .active ∧
    begins live Op.ROLE_SET (req [1, 0, 0, 0]) (·.roleSetOk .active) = true ∧
    begins pair Op.ROLE_SET (req [1, 0, 0, 0]) (fun u => !u.roleSetOk .active) = true ∧
    begins pair Op.SWITCHOVER (req (List.replicate 8 0)) (fun u => u.switchReady && ((u.switchTick 0).map (·.2.2)) == some false) = true ∧
    (after (.modeSet (req [5, 0, 0, 0])) up).ctrl.waiting.map (·.why) = [.modeSet .service] ∧
    status (after (.modeSet (req [5, 0, 0, 0])) hold) = some Status.DENIED_MODE ∧
    ((after (.timingSet (req p)) up).hearth.retime.map (·.timing.slots)) = some 2 ∧
    (after (.switchover (req (List.replicate 8 0))) pair).red.switchX = some 4 := by decide +kernel

/-! ### The redundant pair -/

/-- `up` with the mirror link up and a pair of roles. -/
def paired (r p : Role) (heard : Bool := true) : State := { up with red := { up.red with
  pairEn := true, mirrorUp := true, role := r, peerRole := p, peerHeard := heard, peerSerial := 7 } }

theorem witness_PeerIsHeardAndElectionEnds :
    let e := paired .electing .solo false
    let h : HelloFrame := ⟨7, .active, false, 0, .hot, 0, [], []⟩
    let strap : State := { e with red := { e.red with roleStrap := true } }
    let edge : State := e.setStrand 5 { silent := false }
    let a := paired .active .standby
    let pull : State := { up with red := { (paired .standby .active).red with ownIlOut := true, ownIlCheck := true } }
    (e.firmwareUp = true ∧ e.red.role = .electing ∧ e.red.mirrorUp = true ∧ h.mirrorVersion = e.mirrorVersion ∧
      e.mirrorOpen 64 = true) ∧
    ({ h with mirrorVersion := 2 } : HelloFrame).mirrorVersion ≠ e.mirrorVersion ∧ (strap.red.roleStrap = true ∧
      e.red.roleStrap = false ∧ e.red.peerHeard = false ∧ e.allSilent = true ∧ e.arbMode = 0 ∧ edge.allSilent = false) ∧
    (a.foreign true 7 = false ∧ a.foreign true 8 = true ∧ a.foreign false 7 = false ∧ a.mirrorOpen 8 = true ∧
      a.mirrorOpen 10 = true ∧ a.red.role = .active ∧ a.red.peerRole = .standby ∧ a.red.peerHeard = true) ∧
    up.red.ownIlOut = false ∧ (pull.red.ownIlOut = true ∧ pull.red.peerHeard = true ∧
      pull.red.ownIlCheck = true ∧ pull.up ≤ pull.red.ownIlPullUp + 1000 ∧ pull.red.peerRole = .active) ∧
    (after .linkHelloSend e).red.mirrorSent.map (·.type) = [1] ∧ (after (.linkHello h) e).red.role = .standby ∧
    (after (.linkHello { h with mirrorVersion := 2 }) e).sees Ev.MIRROR_VERSION_MISMATCH = true ∧
    (after .electWait strap).red.role = .active ∧ (after .electWait edge).red.role = .standby ∧
    (after (.renew true 7 99) a).red.expiry = 99 ∧ (after (.renew true 8 99) a).regN Reg.HB_FOREIGN = 1 ∧
    (after (.release true 7 0 0) a).red.peerHeard = false ∧ (after (.release false 7 0 2) a).red.peerHeard = true ∧
    (after (.ownIl false) pull).red.ownIlOut = false := by decide +kernel

theorem witness_StandbyFollowsItsPeer :
    let s := paired .standby .active
    let a := paired .active .standby
    let c : FullCopy := ⟨[], [], [], [], [(3, 1)], [], [], [], [(0, 9)], []⟩
    let x : CopySend := ⟨c, 10000, 8184⟩
    let sends (n : Nat) : State := { a with red := { a.red with copy := some { x with next := n } } }
    let away := s.setEngine 1 { halted := true }
    let q := { req [0, 9] with chan := .c3 }
    let rec_ (t : Nat) : TickRecord := { tick := t, recordPointNs := 0, lagging := false, digest := [], size := 4, mode := .live
                                         shortRun := 0, goodRun := 0, holdTicks := 0, raise3 := false, brightStep := 0, selection := []
                                         flips := [], staged := [], retime := none, plan := [], planTiming := s.hearth.timing
                                         sensePos := 0, expiry := 0, role := .active, redundArb := 0, cfgQueue := [], zones := []
                                         latency := [], faultMap := [] }
    (s.firmwareUp = true ∧ s.red.mirrorUp = true ∧ s.red.role = .standby ∧ a.red.role = .active ∧ a.firmwareUp = true) ∧
    (s.mirrorOpen 12 = true ∧ s.mirrorOpen 8192 = true ∧ a.mirrorOpen 0 = true ∧ a.mirrorOpen 4 = true ∧ a.mirrorOpen 8 = true ∧
      s.mirrorOpen (16 + q.len.toNat) = true) ∧ (away.consumerAway 3 = true ∧ away.firmwareUp = true) ∧
    ((sends 8184).red.copy = some x ∧ x.next < x.size ∧ (sends 10000).red.copy = some { x with next := 10000 }) ∧
    begins (s.mirrorBase 18) Op.BUFFER_FREE { q with from_ := ⟨[], 0⟩ } = true ∧ forwarded.contains Op.BUFFER_FREE = true ∧
    (s.takeState 0 (some c)).fs.safeImage = [(0, 9)] ∧ (s.takeState 0 none).red.mirrorSent.map (·.type) = [8] ∧
    (after (.record ⟨5, 0, 8, true, some (rec_ 5)⟩) s).red.pendingRecord.map (·.tick) = some 5 ∧
    ((after .resyncReq a).red.mirrorSent.map (·.type)) = [6] ∧ (after (.ack 5 none) a).red.recordAcked = true ∧
    ((after (.ack 5 (some 0)) (sends 8184)).red.copy.map (·.next)) = some 10000 ∧
    (after (.ack 5 (some 8184)) (sends 10000)).red.copy = none ∧
    (after (.mailbox false 0x0502 q) s).red.stale = true ∧
    (after (.record ⟨5, 0, 8, false, none⟩) s).regN Reg.MR_CRC_ERR = 1 := by decide +kernel

theorem witness_TakeoverAndSwitchoverMoveTheOutput :
    let base (r p : Role) (m : Mode) : State := { strand5 {} with mode := m, red := { (paired r p).red with switchX := some 0 } }
    let b := base .standby .active .shadow
    let due : State := { b with red := { b.red with takeoverDue := true } }
    let a := base .active .standby .live
    let stays := base .active .standby .service
    let near : State := b.setStrand 5 { b.strand 5 with edgeUp := 1000000000 }
    (b.firmwareUp = true ∧ b.ctrl.waiting = [] ∧ (b.arbMode = 0) ∧ b.dead = false) ∧ (due.red.takeoverDue = true ∧ due.mode = .shadow) ∧
    (a.red.switchX = some a.hearth.k ∧ a.red.role = .active ∧ a.dead = false ∧ a.mayHandOver = true) ∧
    (stays.red.switchX = some stays.hearth.k ∧ stays.red.role = .active ∧ stays.mayHandOver = false) ∧
    (b.red.switchX = some b.hearth.k ∧
      b.red.role = .standby ∧ b.mode = .shadow ∧ (b.reach (b.hearth.lastTickUp + b.swapWindowNs)).edgeNear = false) ∧
    (near.reach (near.hearth.lastTickUp + near.swapWindowNs)).edgeNear = true ∧ (b.isNsp 5 = true ∧ b.bankOk 5 = true) ∧
    (after .takeover due).red.role = .active ∧ (after .takeover due).mode = .live ∧ ((after .takeover due).strand 5).driving = true ∧
    (after .switchoverAtTick a).mode = .shadow ∧ ((after .switchoverAtTick a).strand 5).driving = false ∧
    (after .switchoverAtTick stays).red.switchX = none ∧ (after .switchoverAtTick stays).mode = .service ∧
    (after .switchoverAtTick b).red.role = .active ∧ (after .switchoverAtTick near).red.role = .standby := by decide +kernel

theorem witness_TakeoverAndSwitchoverMoveTheOutput_stores : (strand5 {}).storesOk := by
  unfold State.storesOk; decide +kernel

/-! ### Strands, content, stores, access, self-test and scan by command -/

/-- `strand5` in the mode given, with DRAM, the sessions of `ses` and everything idle. -/
def ready (m : Mode := .idle) (t : Strand := {}) : State :=
  { strand5 t with mode := m, ctrl := { (strand5 {}).ctrl with sessions := ses.ctrl.sessions }
                   arb := { up.arb with pop0 := true, rate := 6400, mb := 4096 } }

theorem witness_StrandCommandsQueueTheirWork :
    let mask (n : Nat) := req (beBytes 16 (2 ^ n)) 3
    let s := ready
    let dmx (l : List RdmReq) : State := (s.setParam (P.STRAND_CFG 4) ([4, 6] ++ nspCfg.drop 2)).setStrand 4 { rdm := l }
    let rdm : RdmReq := ⟨false, [0, 0, 0, 0, 0, 1], 0, 0x20, 0x60, [], .c0, ⟨[], 0⟩, 1⟩
    let rq := req ([2, 0, 0, 0] ++ [0, 0, 0, 0, 0, 1] ++ [0, 0, 0x20, 0, 0x60, 0])
    let cmd := req [5, 0, 0, 1, 0, 2, 0, 0, 0, 7, 0, 8] 3
    begins s Op.STRAND_ENUMERATE (mask 5) (fun u => u.isNsp 5 && !(u.strand 5).enumerating) = true ∧
    begins s Op.STRAND_ENUMERATE (mask 6) (fun u => !u.isNsp 6) = true ∧
    begins s Op.STRAND_STATUS (req [5, 1, 0, 1]) (fun u => decide ((u.strand 5).drivers.length = 2) && decide (u.coder 5 % 256 = 1)) = true ∧
    begins (ready .service) Op.DRIVER_COMMAND cmd (fun u => u.isNsp 5 && decide (1 < (u.strand 5).drivers.length)) = true ∧ lineCountOk false 2 = true ∧
    ((commandLine cmd.payload 1).driver = 1 ∧ (commandLine cmd.payload 1).words.length = 2 ∧ (commandLine cmd.payload 1).raw = false) ∧
    begins (dmx []) Op.RDM_REQUEST rq (·.isDmx 4) = true ∧ begins (dmx (List.replicate 4 rdm)) Op.RDM_REQUEST rq (·.isDmx 4) = true ∧
    ((after (.strandEnumerate (mask 5)) s).strand 5).enumerating = true ∧ status (after (.strandEnumerate (mask 6)) s) = some 0 ∧
    ((after (.driverCommand cmd) (ready .service)).strand 5).cfg.length = 1 ∧
    ((after (.rdmRequest rq) (dmx [])).strand 4).rdm = [rdm] ∧
    status (after (.rdmRequest rq) (dmx (List.replicate 4 rdm))) = some Status.BUSY := by decide +kernel

theorem witness_ContentCommandsStageTheirChange :
    let s := ready
    let map (f : Byte) := req ([5, f, 0, 0, 0, 1, 0, 0] ++ [0, 2, 0, 1, 3, 0, 1] ++ List.replicate 9 0 ++ [0, 0, 0, 0, 0, 2, 0, 0]) 3
    let buf (h : Nat) : Buffer := ⟨h, 2, 1, false, [], false⟩
    let own : State := { s with fs := { s.fs with buffers := [buf 1, buf 2] } }
    let bound : State := { own with fs := { own.fs with layer1 := { front := 1, back := 2 } } }
    let part : Part := ⟨0, .complete, 7, false, 0, none, 0, [], false, false, false⟩
    let marked (m : Mode) : State := ((ready m).setParam (P.STREAM 0) ([0, 7, 1, 0, 0, 2, 0, 1, 0, 4, 0, 1] ++ List.replicate 36 0)).setStream 0
      { parts := [part], mark := some ⟨7, false, false⟩ }
    let alloc := req [0, 2, 0, 1, 0, 0, 0, 0] 4
    let write (h : Nat) := req (beBytes 2 h ++ [0, 0, 0, 0, 0, 0, 0, 0, 0, 9]) 4
    let layer (k : Byte) (f : Nat) := req ([k, 1, 1, 0, 0xFF, 0xFF, 0, 0, 0, 0] ++ beBytes 2 f ++ beBytes 2 (2 * f) ++ [0, 0]) 4
    begins s Op.MAP_WRITE (map 1) = true ∧ begins s Op.MAP_WRITE (map 3) (fun u =>
      (((u.stagedMap 5).write (map 3).payload).whole u.planned).any fun w => (u.mapChecks 5 w).isNone) = true ∧
    begins s Op.MAP_WRITE (req [5, 2, 0, 0, 0, 0, 0, 0] 3) (fun u => (((u.stagedMap 5).write [5, 2, 0, 0, 0, 0, 0, 0]).whole u.planned).isNone) = true ∧
    begins s Op.BUFFER_ALLOC alloc (fun u => !((u.planned.addBuffer (requestBuffer alloc.payload (u.bufferHandle alloc))).dramShort) &&
      (u.buffer? (u.bufferHandle alloc)).isNone) = true ∧
    begins own Op.BUFFER_WRITE (write 1) (fun u => !u.bufferLocked (buf 1) && u.buffer? 1 == some (buf 1)) = true ∧
    begins bound Op.BUFFER_WRITE (write 1) (fun u => u.bufferLocked (buf 1)) = true ∧
    begins (after (.mapWrite (map 3)) s) Op.BUFFER_WRITE { write 0xFFFF with seq := 2 } (·.atRest) = true ∧
    begins own Op.BUFFER_FREE (req [0, 1] 4) (fun u => !u.bound 1) = true ∧ begins bound Op.BUFFER_FREE (req [0, 1] 4) (·.bound 1) = true ∧
    begins own Op.LAYER_SET (layer 1 1) (fun u => (u.layerRefused (requestLayer (layer 1 1).payload)).isNone) = true ∧
    begins own Op.LAYER_SET (layer 3 0) = true ∧ layer3Ok (requestLayer (layer 3 0).payload) = true ∧
    begins (marked .idle) Op.MARK_SET (req [0, 4, 0, 0, 0, 0, 0, 7] 4) (fun u => u.enabled 0 && decide (u.layerOf 0 = 0) && (u.stream 0).keeps 7) = true ∧
    begins (marked .live) Op.REWIND (req [0, 0, 0, 0] 4) (fun u => (u.stream 0).mark.isSome && (u.stream 0).play.isNone) = true ∧
    (after (.mapWrite (map 3)) s).anvil.acceptedMaps.map (·.1) = [5] ∧ (after (.bufferAlloc alloc) s).fs.buffers.length = 1 ∧
    ((after (.bufferWrite (write 1)) own).buffer? 1).map (·.data) = some [(0, 9)] ∧
    status (after (.bufferWrite (write 1)) bound) = some Status.BUFFER_IN_USE ∧
    (after (.layerSet (layer 1 1)) own).ctrl.staged.length = 1 := by decide +kernel

/-- 773110802 is the CRC-32C of the table as the last request leaves it. -/
theorem witness_CalibrationIsStagedAndStored :
    let buf : Buffer := ⟨1, 2, 1, false, [(0, 9)], false⟩
    let s0 : State := { ready with anvil := { ready.anvil with maps := [(5, map2)] } }
    let s : State := { s0 with fs := { s0.fs with buffers := [buf] } }
    let open_ : State := { s with anvil := { s.anvil with staging := true } }
    let copy : State := { s with anvil := { s.anvil with copying := true } }
    let bank : FlashBank := ⟨1, true, [], [], []⟩
    let stored : State := { s with work := { s.work with bankNew := some bank } }
    let lib : State := { s with nvm := { s.nvm with library := [⟨3, false, 2, 1, [], 0⟩] } }
    let write (op : Nat) : State := { s with ctrl := { s.ctrl with waiting := [⟨.c0, ⟨[], 0⟩, 1, Op.CAL_STORE, 1, .imageWrite op 3 buf⟩] } }
    let tab (f : Byte) (crc : Nat) := req ([0x10, f, 0, 0, 0, 1, 0, 0] ++ beBytes 4 crc ++ beBytes 4 9) 1
    let cs (op : Byte) := req [op, 0, 0, 1, 3, 0, 0, 0] 1
    let still : State → Bool := fun u => u.work.bankNew.isNone && !u.anvil.calPending
    let storing : State → Bool := fun u => u.work.bankNew.isSome
    begins s Op.CAL_BEGIN (req [0, 0, 0, 0] 1) still = true ∧ begins s Op.CAL_BEGIN (req [1, 0, 0, 0] 1) still = true ∧
    begins stored Op.CAL_BEGIN (req [0, 0, 0, 0] 1) storing = true ∧ begins stored Op.CAL_COMMIT (req [] 1) storing = true ∧
    begins stored Op.COLOUR_TABLE_WRITE (tab 0 0) storing = true ∧ status (after (.calBegin (req [0, 0, 0, 0] 1)) stored) = some Status.BUSY ∧
    begins open_ Op.CAL_WRITE (req ([5, 0, 0, 0, 0, 1, 0, 0] ++ List.replicate 16 1) 1) (fun u => decide (1 ≤ (u.map 5).pixels)) = true ∧
    begins open_ Op.CAL_COMMIT (req [] 1) (fun u => still u && u.anvil.staging && !u.anvil.copying && !u.anvil.calMoved) = true ∧ copy.anvil.copying = true ∧
    begins s Op.COLOUR_TABLE_WRITE (tab 0 0) still = true ∧ begins s Op.COLOUR_TABLE_WRITE (tab 1 0) = true ∧ begins s Op.COLOUR_TABLE_WRITE (tab 1 773110802) = true ∧
    tableEntries 0x10 = some 64 ∧ tableMax 0x10 = 65535 ∧
    ([0, 1, 2, 3].all fun k => begins s Op.CAL_STORE ((cs 9).withOp k)) = true ∧
    begins lib Op.CAL_STORE ((cs 9).withOp 4) = true ∧ stored.work.bankNew = some bank ∧
    ((write 3).ctrl.waiting.map (·.why)) = [.imageWrite 3 3 buf] ∧
    (after (.calBegin (req [0, 0, 0, 0] 1)) s).anvil.staging = true ∧ (after (.calCommit (req [] 1)) open_).anvil.calPending = true ∧
    (after .bankStoreComplete stored).nvm.activeBank = some bank ∧
    (after .imageWriteComplete (write 1)).nvm.safe.map (·.data) = some [(0, 9)] ∧
    (after .imageWriteComplete (write 3)).nvm.library.map (·.entry) = [3] := by decide +kernel

/-- The manifest of a package of one block. -/
def manifest1 : List Byte := beBytes 4 0x4F5A4450 ++ [1, 0, 0, 0] ++ beBytes 8 3 ++ beBytes 4 2 ++ beBytes 4 1 ++ beBytes 4 1 ++
  beBytes 4 300 ++ List.replicate 224 0

theorem witness_UpdatesAreVerifiedBeforeTheyAct :
    let m := parseManifest manifest1
    let s (u : UpdState) : State := { ready with work := { ready.work with upd := u, manifest := some m, nextOffset := 256 } }
    let full : State := { s .receiving with nvm := { ready.nvm with partBlocks := [[]] } }
    let digest : State := { s .verifying with work := { (s .verifying).work with manifest := some { m with imageDigest := sha384 [] } } }
    let head := beBytes 4 0 ++ beBytes 4 20
    let data := head ++ beBytes 4 0 ++ List.replicate 8 0
    let busy : State := { ready with nvm := { ready.nvm with trialState := 1 } }
    begins busy Op.UPD_OPEN (req ([0, 0, 0, 0] ++ manifest1) 2) (fun u => u.judgeOpen m false == some Status.BUSY) = true ∧
    begins (s .receiving) Op.UPD_BLOCK (req (beBytes 4 256 ++ head) 2) (fun u => decide (u.work.nextOffset = 256)) = true ∧ recordHeadOk m 0 256 head = true ∧
    recordHeadOk m 0 256 data = true ∧
    begins (s .receiving) Op.UPD_BLOCK (req (beBytes 4 300 ++ head) 2) = true ∧
    begins (s .receiving) Op.UPD_FINISH (req [] 2) = true ∧ begins full Op.UPD_FINISH (req [] 2) (fun u => decide (u.nvm.partBlocks.length = m.blocks)) = true ∧
    (sha384 [] ≠ m.imageDigest) ∧
    begins { s .ready with mode := .service } Op.UPD_ACTIVATE (req [] 2) (·.work.resetDue.isNone) = true ∧
    begins { ready with mode := .service } Op.UPD_ACTIVATE (req [] 2) = true ∧
    begins (s .trial) Op.UPD_CONFIRM (req [] 2) = true ∧ (s .trial).firmwareUp = true ∧ (s .trial).paramOn P.AUTO_CONFIRM = true ∧
    begins ready Op.UPD_STATUS (req [] 2) = true ∧
    (after (.updBlock (req (beBytes 4 256 ++ head) 2)) (s .receiving)).work.nextOffset = 264 ∧
    (after .verifyComplete digest).work.upd = .ready ∧ (after .verifyComplete (s .verifying)).work.upd = .none ∧
    (after (.updActivate (req [] 2)) { s .ready with mode := .service }).nvm.trialState = 1 ∧
    ((s .trial).work.engineFaulted = false ∧ (s .trial).sched.fatal = false ∧ (s .trial).sys.degraded = false ∧ (s .trial).sys.dramFail = false) ∧
    status (after (.updActivate (req [] 2)) { ready with mode := .service }) = some Status.DENIED_MODE ∧
    (after (.updConfirm (req [] 2)) (s .trial)).work.upd = .none ∧ (after .autoConfirm (s .trial)).work.upd = .none := by decide +kernel

/-- The package opens where its signature holds, which is an unstated value of the board (Config.signatureOk). -/
theorem witness_UpdatesAreVerifiedBeforeTheyAct_open :
    Config.signatureOk (manifest1.take 160) (manifest1.drop 160) = true → ready.judgeOpen (parseManifest manifest1) false = none := by
  intro h
  have hv : (parseManifest manifest1).verifies = true := by
    have e : ((parseManifest manifest1).bytes.take 160) = manifest1.take 160 := by decide +kernel
    have e2 : ((parseManifest manifest1).bytes.drop 160) = manifest1.drop 160 := by decide +kernel
    simp only [Manifest.verifies, e, e2, h, Bool.and_true]
    decide +kernel
  simp only [State.judgeOpen, hv]
  decide +kernel

theorem witness_AccessFollowsKeysAndFailures :
    let s (n : Nvm) : State := { ready with nvm := n }
    let k := List.replicate 32 (7 : Byte)
    let key : Nvm := { level := 1, key := some k }
    let chal : State := { s key with work := { up.work with nonce := some (List.replicate 32 1) } }
    let locked : State := { s key with work := { up.work with lockout := true } }
    let c : Client := { up.ctrl.ch0 with rights := 4, rightsUntil := 50 }
    let granted : State := { s key with mode := .service, ctrl := { ready.ctrl with ch0 := c } }
    let set (op : Byte) (d : List Byte) := req ([op, 0] ++ beBytes 2 d.length ++ d) 5
    let ans (n : Nat) := req ([4, 0, 0, 1] ++ List.replicate n 0) 5
    begins (s {}) Op.OWNER_KEY_SET ((set 0 k).withOp 0) = true ∧
    begins (s key) Op.OWNER_KEY_SET ((set 1 (k.take 8)).withOp 1) = true ∧
    ([2, 3, 5].all fun op => begins (s key) Op.OWNER_KEY_SET ((set 0 []).withOp op)) = true ∧
    begins { granted with nvm := { key with level := 2 }, ctrl := { granted.ctrl with ch0 := { c with rights := 8 } } } Op.OWNER_KEY_SET
      ((set 4 []).withOp 4) = true ∧
    begins (s key) Op.UNLOCK_CHALLENGE (req [] 5) (fun u => !u.work.lockout && u.nvm.key.isSome) = true ∧
    begins chal Op.UNLOCK_RESPONSE (ans 32) (fun u => u.validNonce.isSome && u.nvm.key.isSome) = true ∧
    begins (s key) Op.UNLOCK_PASSWORD (req [4, 0, 0, 1, 0, 0, 0, 0] 5) = true ∧
    begins locked Op.UNLOCK_RESPONSE (ans 32) (·.work.lockout) = true ∧ begins (s key) Op.RELOCK (req [4, 0, 0, 0] 5) = true ∧
    (granted.firmwareUp = true ∧ (granted.client .c0 ⟨[], 0⟩).rights = 4 ∧ (granted.client .c0 ⟨[], 0⟩).rightsUntil = 50) ∧
    (after (.setKey (set 0 k)) (s {})).nvm.level = 1 ∧ (after (.sealLevel (set 3 [])) (s key)).nvm.level = 2 ∧
    (after (.permitDownload (set 5 [])) (s key)).nvm.permit = true ∧
    status (after (.unlockResponse (ans 32)) locked) = some Status.DENIED_ACCESS ∧ (after .lockoutEnd locked).work.lockout = false ∧
    (after .nonceExpiry chal).work.nonce = none ∧ (after (.unlockExpired .c0 ⟨[], 0⟩) granted).ctrl.serviceEnds = true := by decide +kernel

theorem witness_TestsAndCalibrationRunInOrder :
    let t (id : Nat) (run : Bool) : Test := ⟨id, 2, 0, 0, run, 0⟩
    let s (l : List Test) : State := { ready with bist := { tests := l } }
    let kept : State := { ready with bist := { results := [⟨4, 0, 10, 0⟩] } }
    let due : State := { ready with trim := { up.trim with due := true } }
    let reload : State := { ready with bist := { reloading := true, dramTested := true } }
    let run := req [2, 0, 0, 0, 0, 0, 0, 0]
    begins (s []) Op.BIST_RUN run (fun u => u.testOk 2 0 0 && u.blockIdle 2 0 && decide (testCost 2 ≤ u.param P.BIST_POWER_BUDGET)) = true ∧
    begins (s ((List.range 8).map fun i => t i false)) Op.BIST_RUN run (fun u => decide (8 ≤ u.testsWaiting.length)) = true ∧
    ((s [t 3 false]).nextTest = some (t 3 false) ∧ (s [t 3 false]).testStarts 2 0 = true) ∧
    (((s [t 3 true]).bist.tests.find? fun x => x.running && decide (x.id = 3)) = some (t 3 true) ∧ 10 ≤ testMaxUs 2 ∧
      (s [t 3 true]).ctrl.waiting = []) ∧ begins kept Op.BIST_RESULT (req [0, 4]) (fun u => u.bist.results.length == 1) = true ∧ reload.bist.reloading = true ∧
    begins ready Op.TRIM_RUN (req [0, 16, 0, 0]) = true ∧ begins ready Op.TRIM_REPORT (req []) = true ∧
    (due.firmwareUp = true ∧ due.calibrationBlocked = false ∧ due.trim.due = true ∧ due.sliceOk 0 = true) ∧
    (after (.bistRun run) (s [])).bist.tests.length = 1 ∧ (after .bistStart (s [t 3 false])).bist.tests = [t 3 true] ∧
    (after (.bistDone 3 .pass 10 0) (s [t 3 true])).bist.results = [⟨3, 0, 10, 0⟩] ∧
    (after .reloadComplete reload).bist.dramTested = false ∧ (after (.retrainSlice 0) due).trim.slices = 1 := by decide +kernel

theorem witness_ScanSelectsWhatIsAvailable :
    let s : State := { up with tap := { up.tap with ir := 3 } }
    let live : State := { up with mode := .live }
    (up.mode = .idle ∧ up.sys.inReset = false ∧ up.nvm.level ≠ 2) ∧ (live.mode ≠ .boot ∧ live.scanAvailable 0x10 = false) ∧
    s.tap.holdsPins = true ∧ up.tap.holdsPins = false ∧ up.scanAvailable 0x77 = false ∧
    (after .idcode up).tap.tdo = 0x096013C5 ∧ (after (.extest [true]) live).tap.ir = 0xFF ∧ (after .scanExit s).sys.cause = 5 := by
  decide +kernel

/-! ### Reset, start-up and download boot -/

theorem witness_ResetEntryResetsEveryBlock :
    let due : State := { up with work := { up.work with resetDue := some (3, 100) } }
    let trial : State := { up with work := { up.work with upd := .trial } }
    up.sys.inReset = false ∧ due.work.resetDue = some (3, 100) ∧ (trial.work.upd = .trial ∧ trial.firmwareUp = true) ∧
    (after (.porstN 999) up) = up ∧ (after (.porstN 1000) up).sys.inReset = true ∧ (after (.sysrstN 1000) up).sys.cause = 1 ∧
    (after .resetAfterResponse due).sys.cause = 3 ∧ (after .confirmWindow trial).sys.cause = 4 := by decide +kernel

theorem witness_ReleaseRunsTheStartUp :
    let off : State := { State.reset with sys := { supervisor := true, boot := some boot } }
    let auto : State := ({ up with ctrl := { up.ctrl with autoLiveArmed := true }, hearth := { up.hearth with servo := .locked } } :
      State).setParam P.AUTO_LIVE [1]
    (State.reset.sys.inReset = true ∧ State.reset.sys.supervisor = false) ∧ State.reset.nvm.slotIfValid false = none ∧
    State.reset.nvm.slotIfValid true = none ∧ (off.sys.supervisor = true ∧ off.sys.boot = some boot) ∧
    (auto.mode = .idle ∧ auto.ctrl.autoLiveArmed = true ∧ auto.paramOn P.AUTO_LIVE = true ∧ auto.red.role ≠ .standby) ∧
    (after (.resetRelease boot) State.reset).sys.phase = 7 ∧ (after .supplyReturn off).sys.noSlot = true ∧
    (after .autoLive auto).ctrl.autoLiveDue = true := by decide +kernel

theorem witness_DownloadWindowTakesBytesInOrder :
    let s (strap off : Nat) : State := { State.reset with sys := { State.reset.sys with
      inReset := false, phase := 3, strap := strap, boot := some boot, dl := { offset := BitVec.ofNat 32 off } } }
    let m : Manifest := { parseManifest manifest1 with blocks := 0, imageDigest := sha384 [] }
    let last (strap : Nat) : State := { s strap 0 with sys := { (s strap 0).sys with dl := { manifest := some m } } }
    let taken (d : Download) (l : List Byte) : Download := { d with st := dlReceiving, bytes := d.bytes ++ l, next := d.next + l.length }
    let gram := beBytes 2 0x444C ++ [0, 0] ++ beBytes 4 0 ++ [5, 6]
    ((s 1 9).sys.phase = 3 ∧ (s 1 9).sys.dl.next < (s 1 9).sys.dl.offset.toNat ∧ (s 1 9).sys.dl.st ≠ dlAccepted) ∧
    ((s 1 0).sys.dl.offset.toNat = (s 1 0).sys.dl.next ∧ (s 1 0).sys.dl.manifest = none ∧ (s 1 0).sys.dl.bytes = []) ∧
    ((s 2 0).sys.strap = 2 ∧ (s 2 0).sys.dl.next = 0) ∧ (s 1 0).sys.boot.isSome = true ∧
    (((last 2).dlRun 1024 (taken (last 2).sys.dl [5, 6])).verdict.st = dlAccepted ∧
      ((last 2).dlRun 1024 (taken (last 2).sys.dl [5, 6])).verdict.manifest = some m ∧ (last 2).sys.boot.isSome = true) ∧
    (((last 1).dlRun 1024 (taken (last 1).sys.dl [0, 0])).verdict.st = dlAccepted ∧
      (bytesOfWords ((List.range 256).map fun i => SMap.get (fun _ => 0) (last 1).sys.dl.buf i)).take 2 = [0, 0]) ∧
    (after (.dlCtrl (BitVec.ofNat 32 (8 * 65536 + 1))) (s 1 9)).sys.dl.next = 0 ∧
    (after (.dlCtrl (BitVec.ofNat 32 (8 * 65536 + 1))) (s 1 0)).sys.dl.next = 8 ∧
    (after (.downloadDatagram true ⟨[1], 0⟩ gram) (s 2 0)).sys.dl.bytes = [5, 6] ∧
    (after (.downloadDatagram true ⟨[1], 0⟩ gram) (last 2)).sys.phase = 5 ∧
    (after (.dlCtrl (BitVec.ofNat 32 (2 * 65536 + 1))) (last 1)).work.downloaded = true ∧
    (after .dlWindowClose (s 1 0)).sys.phase = 5 := by decide +kernel

/-- A slot whose signature holds, which is an unstated value of the board (Config.signatureOk), is valid. -/
theorem witness_ReleaseRunsTheStartUp_slot :
    let slot : FwSlot := ⟨{ parseManifest manifest1 with imageDigest := sha384 [] }, []⟩
    Config.signatureOk (manifest1.take 160) (manifest1.drop 160) = true →
      (({ slotA := some slot } : Nvm).slotIfValid false).isSome = true := by
  intro slot h
  have e : slot.manifest.bytes = manifest1 := by decide +kernel
  have d : (sha384 slot.blocks.flatten = slot.manifest.imageDigest) = True := eq_true (by decide +kernel)
  have k : (decide (field manifest1 0 4 = 0x4F5A4450) && decide (byteAt manifest1 4 = 1) && decide (slot.manifest.kind ≤ 1)) = true := by
    decide +kernel
  simp only [Nvm.slotIfValid, Bool.false_eq_true, if_false, Option.filter, FwSlot.valid, Manifest.verifies, e, h, d, k,
    decide_true, Bool.and_self, if_true, Option.isSome_some]

end Sys2Proof.Tests
end

section
/-! ## Register accesses: R19, R34, R129 -/

namespace Sys2Proof.Machine

/-! ### Bits of numbers whose parts share none -/

/-- Without a common bit no place carries. -/
theorem nat_add_eq_or {x y : Nat} (h : x &&& y = 0) : x + y = x ||| y := by
  induction x using Nat.div2Induction generalizing y with
  | ind x ih =>
    rcases Nat.eq_zero_or_pos x with rfl | hx
    · simp
    · have hhalf := ih hx (y := y / 2) (by rw [← Nat.and_div_two, h])
      have hlow : (x &&& y) % 2 = 0 := by rw [h]
      have hor : (x ||| y) / 2 = x / 2 ||| y / 2 := Nat.or_div_two
      have hor2 := Nat.or_mod_two_eq_one (a := x) (b := y)
      have hand2 := Nat.and_mod_two_eq_one (a := x) (b := y)
      omega

/-- Taking away the bits that a number shares with a mask flips just those bits. -/
theorem nat_sub_and (n m : Nat) : n - (n &&& m) = n ^^^ (n &&& m) := by
  have hdisjoint : (n ^^^ (n &&& m)) &&& (n &&& m) = 0 := by
    apply Nat.eq_of_testBit_eq
    intro b
    simp only [Nat.testBit_and, Nat.testBit_xor, Nat.zero_testBit]
    cases n.testBit b <;> cases m.testBit b <;> rfl
  have hor : (n ^^^ (n &&& m)) ||| (n &&& m) = n := by
    apply Nat.eq_of_testBit_eq
    intro b
    simp only [Nat.testBit_or, Nat.testBit_and, Nat.testBit_xor]
    cases n.testBit b <;> cases m.testBit b <;> rfl
  have hadd := nat_add_eq_or hdisjoint
  omega

theorem testBit_sub_and (n m b : Nat) : (n - (n &&& m)).testBit b = (n.testBit b && !m.testBit b) := by
  rw [nat_sub_and, Nat.testBit_xor, Nat.testBit_and]
  cases n.testBit b <;> cases m.testBit b <;> rfl

/-- The bits of `mask` come from `v`, the others stay as in `n`. -/
theorem testBit_replace_masked (n v mask b : Nat) :
    (n - (n &&& mask) + (v &&& mask)).testBit b = if mask.testBit b then v.testBit b else n.testBit b := by
  have hdisjoint : (n - (n &&& mask)) &&& (v &&& mask) = 0 := by
    apply Nat.eq_of_testBit_eq
    intro i
    simp only [Nat.testBit_and, testBit_sub_and, Nat.zero_testBit]
    cases mask.testBit i <;> simp
  rw [nat_add_eq_or hdisjoint, Nat.testBit_or, testBit_sub_and, Nat.testBit_and]
  cases mask.testBit b <;> simp

/-- R19, bit by bit: RW and open RWL bits take the value, W1C bits clear where a one is written. -/
theorem RegRow.testBit_written (r : RegRow) (o : Bool) (old v b : Nat) :
    (r.written o old v).testBit b =
      ((if (r.rw ||| (if o then r.rwl else 0)).testBit b then v.testBit b else old.testBit b) &&
        !(v.testBit b && r.w1c.testBit b)) := by
  unfold RegRow.written
  rw [testBit_sub_and, testBit_replace_masked, Nat.testBit_and]

/-! ### Where a register and a word of memory lie -/

theorem regRow_bounds {a : Nat} {r : RegRow} (h : regRow a = some r) : 0x40000000 ≤ a ∧ a < 0x40100000 := by
  refine Decidable.byContradiction fun hout => ?_
  have hrows : regRowsOf a = [] := by
    unfold regRowsOf
    exact if_pos (by omega)
  rw [regRow, hrows] at h
  cases h

/-- R34: a register lies outside the CP's DRAM windows. -/
theorem cpAddress_of_regRow {a : Nat} {r : RegRow} (h : regRow a = some r) : cpAddress a = a := by
  have hb := regRow_bounds h
  unfold cpAddress
  exact if_neg (by omega)

theorem placeOf_of_regRow {a : Nat} {r : RegRow} (h : regRow a = some r) : placeOf a = .registers := by
  have hb := regRow_bounds h
  simp (disch := omega) only [placeOf, if_neg, hb.1, hb.2, and_self, if_true]

/-- R34: the CP's windows show DRAM wherever the firmware has placed them. -/
theorem placeOf_cpAddress_of_window {a : Nat} (h : 0xC0000000 ≤ a) (ha : a < 2 ^ 32) : placeOf (cpAddress a) = .dram := by
  have hcp : cpAddress a = dramBase + Config.cpWindow ((a - 0xC0000000) / 2 ^ 28) % 16 * 2 ^ 28 + a % 2 ^ 28 := by
    unfold cpAddress
    exact if_pos (by omega)
  have hlow : dramBase ≤ cpAddress a := by omega
  have hhigh : cpAddress a < dramBase + 0x100000000 := by omega
  have hbase : dramBase = 0x100000000 := rfl
  simp (disch := omega) only [placeOf, if_neg, hlow, hhigh, and_self, if_true]

/-- R34: the rows of the address map that an engine both writes and reads: the DRAM and the engines' local memories. -/
def Place.isRam (p : Place) : Prop :=
  p = .dram ∨ p = .cpLocal ∨ p = .scLocal ∨ (∃ e, p = .peLocal e) ∨ ∃ e, p = .sqLocal e

theorem State.writeSystem_ram (s : State) (by_ : Accessor) {a : Nat} (v : Word) (h : (placeOf a).isRam) :
    s.writeSystem by_ a v = s.writeMemory a v := by
  unfold State.writeSystem
  rcases h with h | h | h | ⟨e, h⟩ | ⟨e, h⟩ <;> rw [h]

theorem State.readSystem_ram (s : State) {a n : Nat} (h : (placeOf a).isRam) (hm : s.memoryWord a = some n) :
    s.readSystem a = (s, BitVec.ofNat 32 n) := by
  have hknown : s.knownWord a = some n := by
    unfold State.knownWord
    rcases h with h | h | h | ⟨e, h⟩ | ⟨e, h⟩ <;> rw [h] <;> exact hm
  have hread : s.readMemory a = (s, BitVec.ofNat 32 n) := by rw [State.readMemory, hknown]
  unfold State.readSystem
  rcases h with h | h | h | ⟨e, h⟩ | ⟨e, h⟩ <;> rw [h] <;> exact hread

theorem State.memoryWord_writeMemory (s : State) (a : Nat) (v : Word) : (s.writeMemory a v).memoryWord a = some v.toNat := by
  have hget : SMap.get (fun _ => 0) (s.writeMemory a v).memory a = v.toNat + 1 :=
    SMap.get_set_same_ne (fun _ => 0) s.memory (Nat.succ_ne_zero _)
  rw [State.memoryWord, hget]

theorem State.readSystem_unmapped (s : State) {a : Nat} (h : placeOf a = .unmapped) :
    s.readSystem a = (s.unmapped (a % 2 ^ 32), 0) := by
  rw [State.readSystem, h]

/-! ### The three commands -/

theorem exec_registerWrite_engine {s : State} (a v : Word) (hr : s.sys.inReset = false) :
    exec (.registerWrite .engine a v) s = .next (s.writeSystem .engine (cpAddress a.toNat) v) :=
  if_neg (by simp [hr])

theorem exec_registerWrite_client {s : State} (ch : Chan) (ep : Endpoint) (a v : Word) (hr : s.sys.inReset = false) :
    exec (.registerWrite (.client ch ep) a v) s = .next (s.writeReg (.client ch ep) a.toNat v) :=
  if_neg (by simp [hr])

/-- Every accessor reaches a register alike. -/
theorem exec_registerWrite_of_regRow {s : State} {r : RegRow} (by_ : Accessor) {a : Word} (v : Word)
    (hr : s.sys.inReset = false) (h : regRow a.toNat = some r) :
    exec (.registerWrite by_ a v) s = .next (s.writeReg by_ a.toNat v) := by
  cases by_ with
  | engine => rw [exec_registerWrite_engine a v hr, State.writeSystem, cpAddress_of_regRow h, placeOf_of_regRow h]
  | client ch ep => exact exec_registerWrite_client ch ep a v hr

/-- The word read stands in the reader's output. -/
def State.readOut (x : State × Word) : State := { x.1 with ctrl := { x.1.ctrl with regOut := x.2 } }

@[simp] theorem State.readOut_regOut (x : State × Word) : (State.readOut x).ctrl.regOut = x.2 := rfl
@[simp] theorem State.readOut_reg (x : State × Word) (a : Nat) : (State.readOut x).reg a = x.1.reg a := rfl
@[simp] theorem State.readOut_regN (x : State × Word) (a : Nat) : (State.readOut x).regN a = x.1.regN a := rfl

theorem exec_counterRead {s : State} (a : Word) (hr : s.sys.inReset = false) :
    exec (.counterRead a) s = .next (State.readOut (s.readSystem (cpAddress a.toNat))) :=
  if_neg (by simp [hr])

theorem exec_counterRead_of_regRow {s : State} {a : Word} {r : RegRow} (hr : s.sys.inReset = false)
    (h : regRow a.toNat = some r) : exec (.counterRead a) s = .next (State.readOut (s.readReg a.toNat)) := by
  rw [exec_counterRead a hr, State.readSystem, cpAddress_of_regRow h, placeOf_of_regRow h]

theorem exec_byteCounterHiRead {s : State} {a : Word} (hr : s.sys.inReset = false) (h : byteHigh a.toNat = true) :
    exec (.byteCounterHiRead a) s = .next (State.readOut (s.readByteHigh a.toNat)) :=
  if_neg (by simp [hr, h])

/-! ### Writes -/

/-- R97: without a port at `a`, all bits of the value count. -/
theorem writeMask_of_macCtrlPort_none {a : Nat} (v old : Nat) (h : macCtrlPort a = none) : writeMask a v old = v := by
  have hne : a ≠ Reg.MAC_CTRL 2 := by
    rintro rfl
    revert h
    decide
  exact if_neg hne

/-- A register that no block watches sets nothing off. -/
theorem State.afterWrite_unwatched (s : State) {a : Nat} (old : Nat) (hmac : macCtrlPort a = none) (hq : queueSetOf a = none)
    (hlb : lbStrandOf a = none) (hpps : a ≠ Reg.PPS_CTRL) (hod : a ≠ Reg.TICK_OD_CTRL) : s.afterWrite a old = s := by
  simp [State.afterWrite, State.watermarks, hmac, hq, hlb, hpps, hod]

theorem State.writePlain_unwatched (s : State) (r : RegRow) (by_ : Accessor) {a v : Nat} (hig : ignoresWrite a v = false)
    (hmac : macCtrlPort a = none) (hq : queueSetOf a = none) (hlb : lbStrandOf a = none) (hpps : a ≠ Reg.PPS_CTRL)
    (hod : a ≠ Reg.TICK_OD_CTRL) : s.writePlain r by_ a v = s.setRegN a (r.written (s.unlocked by_) (s.regN a) v) := by
  simp [State.writePlain, hig, writeMask_of_macCtrlPort_none v _ hmac, State.afterWrite_unwatched _ _ hmac hq hlb hpps hod]

/-- R19: a register without a rule of its own takes the write, or RWL refuses it. -/
theorem State.writeReg_plain {s : State} {r : RegRow} {by_ : Accessor} {a : Nat} {v : Word} (h : regRow a = some r)
    (hown : s.writeOwn by_ a v = none) (hdone : queueDoneOf a = none) :
    s.writeReg by_ a v = if s.rwlRefuses r by_ then s.regDenied a v else s.writePlain r by_ a v.toNat := by
  simp [State.writeReg, h, hown, hdone]

theorem State.rwlRefuses_of_locked {s : State} {r : RegRow} {by_ : Accessor} (h : r.rwl ≠ 0) (hl : s.unlocked by_ = false) :
    s.rwlRefuses r by_ = true := by
  simp [State.rwlRefuses, h, hl]

theorem State.regN_setRegN_same {s : State} (h : s.regsOk) (a n : Nat) : (s.setRegN a n).regN a = n % 2 ^ 32 := by
  rw [State.regN, State.setRegN, State.reg_setReg_same h, BitVec.toNat_ofNat]

theorem State.reg_setRegN_other (s : State) {a b : Nat} (n : Nat) (h : b ≠ a) : (s.setRegN a n).reg b = s.reg b :=
  State.reg_setReg_other s _ h

/-! ### What a journal entry changes -/

/-- The registers that taking a journal entry can change: EVENT_OVERFLOW and the journal's two counters of losses. -/
def journalRegs : List Nat := [Reg.CTRL_EVENTS, Reg.JNL_OVERWRITTEN, Reg.JNL_STREAM_SKIPPED]

theorem State.offer_reg (s : State) (e : JEntry) (a : Nat) : (s.offer e).reg a = s.reg a := by
  rw [State.reg, State.offer_regs, ← State.reg]

theorem State.streamLoses_reg (s : State) (n : Nat) (e : Option JEntry) {a : Nat} (h : a ∉ journalRegs) :
    (s.streamLoses n e).reg a = s.reg a := by
  have hne : a ≠ Reg.JNL_STREAM_SKIPPED := fun heq => h (by simp [heq, journalRegs])
  unfold State.streamLoses
  split
  · exact State.reg_setRegN_other _ _ hne
  · rfl

theorem State.jAppend_reg (s : State) (e : JEntry) {a : Nat} (h : a ∉ journalRegs) : (s.jAppend e).reg a = s.reg a := by
  have hne : a ≠ Reg.JNL_OVERWRITTEN := fun heq => h (by simp [heq, journalRegs])
  unfold State.jAppend
  split
  · rfl
  · refine (State.offer_reg _ e a).trans ?_
    split
    · exact (State.reg_setRegN_other _ _ hne).trans (State.streamLoses_reg _ _ _ h)
    · rfl

theorem State.jOverflow_reg (s : State) (t : Word) {a : Nat} (h : a ∉ journalRegs) : (s.jOverflow t).reg a = s.reg a := by
  have hne : a ≠ Reg.CTRL_EVENTS := fun heq => h (by simp [heq, journalRegs])
  exact (State.jAppend_reg _ _ h).trans (State.reg_setReg_other s _ hne)

theorem State.jAccept_reg (s : State) (e : JEntry) {a : Nat} (h : a ∉ journalRegs) : (s.jAccept e).reg a = s.reg a := by
  unfold State.jAccept
  split
  · exact (State.jOverflow_reg _ _ h).trans (State.jAppend_reg s e h)
  · exact State.jAppend_reg s e h

theorem State.foldl_jAccept_reg (l : List JEntry) (s : State) {a : Nat} (h : a ∉ journalRegs) :
    (l.foldl State.jAccept s).reg a = s.reg a := by
  induction l generalizing s with
  | nil => rfl
  | cons e l ih => exact (ih _).trans (State.jAccept_reg s e h)

theorem State.jDrain_reg (s : State) (src : Nat) (f : JEntry → Bool) {a : Nat} (h : a ∉ journalRegs) :
    (s.jDrain src f).reg a = s.reg a := by
  unfold State.jDrain
  refine (State.foldl_jAccept_reg _ _ h).trans ?_
  split <;> rfl

/-- A journal entry of the device's own leaves every register but those of the journal and EVENT_OVERFLOW. -/
theorem State.emit_reg (s : State) (src kind code payload : Nat) {a : Nat} (h : a ∉ journalRegs) :
    (s.emit src kind code payload).reg a = s.reg a :=
  (State.jAccept_reg _ _ h).trans (State.jDrain_reg s _ _ h)

/-- The registers that a journal entry can change have no RWL field. -/
theorem not_mem_journalRegs_of_rwl {a : Nat} {r : RegRow} (h : regRow a = some r) (hrwl : r.rwl ≠ 0) : a ∉ journalRegs := by
  have hzero : ∀ c ∈ journalRegs, ∀ q ∈ regRow c, q.rwl = 0 := by decide
  exact fun hmem => hrwl (hzero a hmem r h)

theorem State.offer_jnl (s : State) (e : JEntry) : (s.offer e).jnl = s.jnl := by
  unfold State.offer
  split
  · dsimp only
    split <;> rfl
  · rfl

theorem State.streamLoses_next (s : State) (n : Nat) (e : Option JEntry) : (s.streamLoses n e).jnl.next = s.jnl.next := by
  unfold State.streamLoses
  split <;> rfl

/-- R368: a journal that runs gives the entry the next number; any other takes none. -/
theorem State.jAppend_next (s : State) (e : JEntry) :
    (s.jAppend e).jnl.next = if !s.jnl.started || s.jnl.frozen then s.jnl.next else s.jnl.next + 1 := by
  unfold State.jAppend
  split
  · rfl
  · refine (congrArg Journal.next (State.offer_jnl _ e)).trans ?_
    split
    · exact State.streamLoses_next _ _ _
    · rfl

theorem State.le_jOverflow_next (s : State) (t : Word) : s.jnl.next ≤ (s.jOverflow t).jnl.next := by
  unfold State.jOverflow
  rw [State.jAppend_next]
  split
  · exact Nat.le_refl _
  · exact Nat.le_succ _

theorem State.jAccept_next_lt {s : State} (e : JEntry) (hs : s.jnl.started = true) (hf : s.jnl.frozen = false) :
    s.jnl.next < (s.jAccept e).jnl.next := by
  have happend : (s.jAppend e).jnl.next = s.jnl.next + 1 := by simp [State.jAppend_next, hs, hf]
  unfold State.jAccept
  split
  · have := State.le_jOverflow_next (s.jAppend e) e.short
    omega
  · omega

/-- Nothing waits ahead in an empty buffer. -/
theorem State.jDrain_of_empty {s : State} {src : Nat} (f : JEntry → Bool) (h : s.jSource src = {}) : s.jDrain src f = s := by
  simp [State.jDrain, h]

/-- R368: a running journal takes an entry of a source with nothing waiting, which has a number of its own. -/
theorem State.emit_next_lt {s : State} {src : Nat} (kind code payload : Nat) (hs : s.jnl.started = true)
    (hf : s.jnl.frozen = false) (he : s.jSource src = {}) : s.jnl.next < (s.emit src kind code payload).jnl.next := by
  unfold State.emit
  dsimp only
  rw [State.jDrain_of_empty _ he]
  exact State.jAccept_next_lt _ hs hf

/-! ### Reads -/

theorem State.readReg_plain {s : State} {a : Nat} {r : RegRow} (h : regRow a = some r)
    (hpair : ¬(a = Reg.TIME_SEC_HI ∨ a = Reg.TICK_INDEX_HI ∨ a = Reg.JNL_NEXT_HI ∨ a = Reg.JNL_OLDEST_HI))
    (hlow : byteLow a = false) (hhigh : byteHigh a = false) :
    s.readReg a = ((s.clearRead r a).afterDraw a, BitVec.ofNat 32 (s.shown r a)) := by
  simp only [not_or] at hpair
  simp [State.readReg, h, hpair, hlow, hhigh]

theorem State.shown_of_store {s : State} {r : RegRow} {a : Nat} (h : s.view a = none) :
    s.shown r a = (s.regN a &&& r.dfd) &&& (2 ^ 32 - 1 - r.wo) := by
  rw [State.shown, h]

theorem State.regN_lt (s : State) (a : Nat) : s.regN a < 2 ^ 32 := (s.reg a).isLt

@[simp] theorem State.afterDraw_reg (s : State) (a c : Nat) : (s.afterDraw a).reg c = s.reg c := by
  unfold State.afterDraw
  split <;> rfl

theorem State.clearRead_reg_other (s : State) (r : RegRow) {a c : Nat} (h : c ≠ a) : (s.clearRead r a).reg c = s.reg c := by
  unfold State.clearRead
  split
  · rfl
  · split
    · rfl
    · exact State.reg_setRegN_other s _ h

/-- R19: the RC bits go to their reset values, the others stay. -/
theorem State.testBit_clearRead {s : State} (hs : s.regsOk) (r : RegRow) {a : Nat} (h : a ≠ Reg.DIE_TEMP) (b : Nat) :
    ((s.clearRead r a).regN a).testBit b = if r.rc.testBit b then (regReset a).toNat.testBit b else (s.regN a).testBit b := by
  by_cases hrc : r.rc = 0
  · simp [State.clearRead, hrc]
  · have hbits := testBit_replace_masked (s.regN a) (regReset a).toNat r.rc
    have hlt : s.regN a - (s.regN a &&& r.rc) + ((regReset a).toNat &&& r.rc) < 2 ^ 32 := by
      apply Nat.lt_pow_two_of_testBit
      intro i hi
      have hreset := Nat.testBit_lt_two_pow (Nat.lt_of_lt_of_le (regReset a).isLt (Nat.pow_le_pow_right Nat.two_pos hi))
      have hstore := Nat.testBit_lt_two_pow (Nat.lt_of_lt_of_le (s.regN_lt a) (Nat.pow_le_pow_right Nat.two_pos hi))
      simp [hbits i, hreset, hstore]
    rw [State.clearRead, if_neg hrc, if_neg h, State.regN_setRegN_same hs, Nat.mod_eq_of_lt hlt, hbits b]

/-! ### The byte counters -/

/-- R129: the low words of the byte counters lie apart from every register with a latch of its own. -/
theorem State.readReg_byteLow {s : State} {a : Nat} {r : RegRow} (h : regRow a = some r) (hlow : byteLow a = true) :
    s.readReg a = s.readByteLow a := by
  have hne : ∀ c ∈ [Reg.TIME_SEC_HI, Reg.TICK_INDEX_HI, Reg.JNL_NEXT_HI, Reg.JNL_OLDEST_HI], a ≠ c := by
    rintro c hc rfl
    have hnot : ∀ c ∈ [Reg.TIME_SEC_HI, Reg.TICK_INDEX_HI, Reg.JNL_NEXT_HI, Reg.JNL_OLDEST_HI], byteLow c = false := by decide
    rw [hnot _ hc] at hlow
    cases hlow
  simp only [List.mem_cons, List.not_mem_nil, or_false, forall_eq_or_imp, forall_eq] at hne
  simp [State.readReg, h, hne, hlow]

theorem byteHigh_add_four {a : Nat} (h : byteLow a = true) : byteHigh (a + 4) = true := by
  simp only [byteLow, byteHigh, Bool.and_eq_true, decide_eq_true_eq, List.contains_eq_mem, List.mem_cons,
    List.not_mem_nil, or_false] at h ⊢
  unfold blockOf at h ⊢
  omega

/-- R129: the high word that the read of its low word has latched comes back, and both words are cleared. -/
theorem State.readByteHigh_readByteLow (s : State) (a : Nat) :
    ∃ l, (State.readOut (s.readByteLow a)).readByteHigh (a + 4) =
      (({ State.readOut (s.readByteLow a) with byteLatch := l }.setRegN a 0).setRegN (a + 4) 0, s.reg (a + 4)) := by
  have hfind : (State.readOut (s.readByteLow a)).byteLatch.find? (fun q => decide (q.1 = a)) = some (a, s.reg (a + 4)) := by
    have hnone : (s.byteLatch.filter fun q => decide (q.1 ≠ a)).find? (fun q => decide (q.1 = a)) = none := by
      simp [List.find?_eq_none]
    have hlatch : (State.readOut (s.readByteLow a)).byteLatch =
        (s.byteLatch.filter fun q => decide (q.1 ≠ a)) ++ [(a, s.reg (a + 4))] := rfl
    rw [hlatch, List.find?_append, hnone]
    simp
  simp only [State.readByteHigh, Nat.add_sub_cancel, hfind]
  exact ⟨_, rfl⟩

/-! ### The obligation -/

/-- R34: a word that an engine writes to memory is read back. -/
theorem engine_reads_back_memory {s : State} (a v : Word) (hr : s.sys.inReset = false)
    (h : (placeOf (cpAddress a.toNat)).isRam) :
    ∃ t u, exec (.registerWrite .engine a v) s = .next t ∧ t = { s with memory := t.memory } ∧
      exec (.counterRead a) t = .next u ∧ u.ctrl.regOut = v := by
  have hword := State.memoryWord_writeMemory s (cpAddress a.toNat) v
  refine ⟨s.writeMemory (cpAddress a.toNat) v, _, ?_, rfl, exec_counterRead a hr, ?_⟩
  · rw [exec_registerWrite_engine a v hr, State.writeSystem_ram s .engine v h]
  · rw [State.readOut_regOut, State.readSystem_ram _ h hword, BitVec.ofNat_toNat, BitVec.setWidth_eq]

/-- R34: an unmapped word reads 0. -/
theorem counterRead_unmapped {s : State} (a : Word) (hr : s.sys.inReset = false)
    (h : placeOf (cpAddress a.toNat) = .unmapped) : ∃ t, exec (.counterRead a) s = .next t ∧ t.ctrl.regOut = 0 :=
  ⟨_, exec_counterRead a hr, by rw [State.readOut_regOut, State.readSystem_unmapped s h]⟩

section Register

variable {s : State} {a : Word} {r : RegRow}

/-- R19: the register takes the write by its access codes, and nothing else changes. -/
theorem registerWrite_plain (by_ : Accessor) (v : Word) (hs : s.regsOk) (hr : s.sys.inReset = false)
    (h : regRow a.toNat = some r) (hplain : s.writeOwn by_ a.toNat v = none ∧ queueDoneOf a.toNat = none)
    (hopen : s.rwlRefuses r by_ = false) (hig : ignoresWrite a.toNat v.toNat = false) (hmac : macCtrlPort a.toNat = none)
    (hq : queueSetOf a.toNat = none) (hlb : lbStrandOf a.toNat = none) (hpps : a.toNat ≠ Reg.PPS_CTRL)
    (hod : a.toNat ≠ Reg.TICK_OD_CTRL) :
    ∃ t, exec (.registerWrite by_ a v) s = .next t ∧
      t.regN a.toNat = r.written (s.unlocked by_) (s.regN a.toNat) v.toNat % 2 ^ 32 ∧
      (∀ c, c ≠ a.toNat → t.reg c = s.reg c) ∧ t = { s with regs := t.regs } := by
  refine ⟨s.setRegN a.toNat (r.written (s.unlocked by_) (s.regN a.toNat) v.toNat), ?_,
    State.regN_setRegN_same hs _ _, fun c hc => State.reg_setRegN_other s _ hc, rfl⟩
  rw [exec_registerWrite_of_regRow by_ v hr h, State.writeReg_plain h hplain.1 hplain.2, hopen,
    State.writePlain_unwatched s r by_ hig hmac hq hlb hpps hod]
  rfl

/-- R19: a write that RWL refuses is ignored and journalled. -/
theorem registerWrite_locked (by_ : Accessor) (v : Word) (hr : s.sys.inReset = false) (h : regRow a.toNat = some r)
    (hplain : s.writeOwn by_ a.toNat v = none ∧ queueDoneOf a.toNat = none) (hrwl : r.rwl ≠ 0)
    (hl : s.unlocked by_ = false) :
    ∃ t, exec (.registerWrite by_ a v) s = .next t ∧ s.sameButRecords t ∧ t.reg a.toNat = s.reg a.toNat ∧
      (s.jnl.started = true → s.jnl.frozen = false → s.jSource Src.CP = {} → s.jnl.next < t.jnl.next) := by
  refine ⟨s.regDenied a.toNat v, ?_, State.emit_sameButRecords s _ _ _ _,
    State.emit_reg s _ _ _ _ (not_mem_journalRegs_of_rwl h hrwl), State.emit_next_lt _ _ _⟩
  rw [exec_registerWrite_of_regRow by_ v hr h, State.writeReg_plain h hplain.1 hplain.2,
    State.rwlRefuses_of_locked hrwl hl]
  rfl

/-- R19, R20: a read shows the store without its write-only and reserved bits, and clears the RC bits. -/
theorem counterRead_store (hs : s.regsOk) (hr : s.sys.inReset = false) (h : regRow a.toNat = some r)
    (hview : s.view a.toNat = none) (hpair : ¬(a.toNat = Reg.TIME_SEC_HI ∨ a.toNat = Reg.TICK_INDEX_HI ∨
      a.toNat = Reg.JNL_NEXT_HI ∨ a.toNat = Reg.JNL_OLDEST_HI)) (hdie : a.toNat ≠ Reg.DIE_TEMP)
    (hlow : byteLow a.toNat = false) (hhigh : byteHigh a.toNat = false) :
    ∃ t, exec (.counterRead a) s = .next t ∧
      t.ctrl.regOut.toNat = (s.regN a.toNat &&& r.dfd) &&& (2 ^ 32 - 1 - r.wo) ∧
      (∀ b, (t.regN a.toNat).testBit b =
        if r.rc.testBit b then (regReset a.toNat).toNat.testBit b else (s.regN a.toNat).testBit b) ∧
      ∀ c, c ≠ a.toNat → t.reg c = s.reg c := by
  have hread := State.readReg_plain (s := s) h hpair hlow hhigh
  refine ⟨_, exec_counterRead_of_regRow hr h, ?_, fun b => ?_, fun c hc => ?_⟩
  · have hlt : (s.regN a.toNat &&& r.dfd) &&& (2 ^ 32 - 1 - r.wo) < 2 ^ 32 :=
      Nat.lt_of_le_of_lt (Nat.le_trans Nat.and_le_left Nat.and_le_left) (s.regN_lt _)
    rw [State.readOut_regOut, hread, State.shown_of_store hview, BitVec.toNat_ofNat, Nat.mod_eq_of_lt hlt]
  · rw [State.readOut_regN, hread, State.regN, State.afterDraw_reg]
    exact State.testBit_clearRead hs r hdie b
  · rw [State.readOut_reg, hread, State.afterDraw_reg, State.clearRead_reg_other s r hc]

/-- R129: the low word of a byte counter latches the high one, whose read clears both. -/
theorem counterRead_byteCounter (hs : s.regsOk) (hr : s.sys.inReset = false) (h : regRow a.toNat = some r)
    (hlow : byteLow a.toNat = true) :
    ∃ t u, exec (.counterRead a) s = .next t ∧ t.ctrl.regOut = s.reg a.toNat ∧
      exec (.byteCounterHiRead (a + 4)) t = .next u ∧ u.ctrl.regOut = s.reg (a.toNat + 4) ∧ u.reg a.toNat = 0 ∧
      u.reg (a.toNat + 4) = 0 := by
  have hnext : (a + 4).toNat = a.toNat + 4 := by
    have hb := regRow_bounds h
    bv_omega
  obtain ⟨l, hhi⟩ := State.readByteHigh_readByteLow s a.toNat
  have ht : ({ State.readOut (s.readByteLow a.toNat) with byteLatch := l } : State).regsOk := hs
  refine ⟨State.readOut (s.readByteLow a.toNat), _, ?_, rfl,
    exec_byteCounterHiRead hr (hnext ▸ byteHigh_add_four hlow), ?_⟩
  · rw [exec_counterRead_of_regRow hr h, State.readReg_byteLow h hlow]
  · rw [hnext, hhi]
    refine ⟨rfl, ?_, State.reg_setReg_same (State.setRegN_regsOk ht _ _) _ _⟩
    exact (State.reg_setRegN_other _ _ (by omega)).trans (State.reg_setReg_same ht _ _)

end Register

/-- Settles O43: memory by what a write stores; a register by the access codes of its row, each rule bit by bit. -/
theorem registersFollowTheirAccessCodes : Obligations.RegistersFollowTheirAccessCodes := by
  unfold Obligations.RegistersFollowTheirAccessCodes
  constructor
  · intro s a v hr
    exact ⟨engine_reads_back_memory a v hr, fun h => placeOf_cpAddress_of_window h a.isLt, counterRead_unmapped a hr⟩
  · intro s a v by_ r hs hr h
    exact ⟨fun o old b => r.testBit_written o old v.toNat b, registerWrite_plain by_ v hs hr h,
      registerWrite_locked by_ v hr h, counterRead_store hs hr h, counterRead_byteCounter hs hr h⟩

end Sys2Proof.Machine
end

section
/-! ## Class queues: R171 to R175 -/

namespace Sys2Proof.Machine

/-! ### Queue sets and their queues -/

@[simp] theorem State.qset_setQset_same (s : State) (n : Nat) (t : QueueSet) : (s.setQset n t).qset n = t := by
  match n with
  | 0 | 1 | 2 | _ + 3 => rfl

/-- The queue sets stand in the ingress part of the state alone. -/
theorem State.qset_of_ingress {s t : State} (h : t.ingress = s.ingress) (n : Nat) : t.qset n = s.qset n := by
  unfold State.qset
  rw [h]

@[simp] theorem QueueSet.q_setQ_same (t : QueueSet) (c : Nat) (q : ClassQueue) : (t.setQ c q).q c = q := by
  match c with
  | 0 | 1 | 2 | _ + 3 => rfl

/-- What a set keeps of its consumer stands beside its queues. -/
@[simp] theorem QueueSet.q_mk_queues (t : QueueSet) (ps : List (Nat × QFrame)) (l : Nat) (b : Bool) (c : Nat) :
    QueueSet.q { t with popped := ps, lowRun := l, stalled := b } c = t.q c := rfl

@[simp] theorem State.readAnswer_ingress (s : State) (v : Nat) : (s.readAnswer v).ingress = s.ingress := rfl
@[simp] theorem State.readAnswer_regs (s : State) (v : Nat) : (s.readAnswer v).regs = s.regs := rfl
@[simp] theorem State.readAnswer_regOut (s : State) (v : Nat) : (s.readAnswer v).ctrl.regOut = BitVec.ofNat 32 v := rfl

/-! ### Moves of bytes: what leaves every frame in its place -/

/-- The two sets hold the same frames in the same order, the same popped frames, and the same stall. -/
def QueueSet.sameFrames (t u : QueueSet) : Prop :=
  (∀ d, (u.q d).frames = (t.q d).frames) ∧ u.popped = t.popped ∧ u.stalled = t.stalled

theorem QueueSet.sameFrames_refl (t : QueueSet) : t.sameFrames t := ⟨fun _ => rfl, rfl, rfl⟩

theorem QueueSet.sameFrames_trans {t u v : QueueSet} (h1 : t.sameFrames u) (h2 : u.sameFrames v) : t.sameFrames v := by
  obtain ⟨hf1, hp1, hs1⟩ := h1
  obtain ⟨hf2, hp2, hs2⟩ := h2
  exact ⟨fun d => (hf2 d).trans (hf1 d), hp2.trans hp1, hs2.trans hs1⟩

/-- A queue that keeps its frames may move its bytes between tail, spill ring and head: each queue of the set is either the
one that changed or untouched. -/
theorem QueueSet.sameFrames_setQ (t : QueueSet) (c : Nat) {q : ClassQueue} (h : q.frames = (t.q c).frames) :
    t.sameFrames (t.setQ c q) := by
  unfold QueueSet.sameFrames QueueSet.setQ
  unfold QueueSet.q at h ⊢
  split at h <;> refine ⟨fun d => ?_, rfl, rfl⟩ <;> split <;> simp only [h]

@[simp] theorem ClassQueue.pass_frames (q : ClassQueue) (lim : Nat) : (q.pass lim).frames = q.frames := by
  unfold ClassQueue.pass
  split <;> rfl

@[simp] theorem ClassQueue.spillOut_frames (q : ClassQueue) : q.spillOut.frames = q.frames := rfl
@[simp] theorem ClassQueue.refill_frames (q : ClassQueue) (lim : Nat) : (q.refill lim).frames = q.frames := rfl

theorem State.issueOn_ingress (s : State) (cls c : Nat) : (s.issueOn cls c).ingress = s.ingress := by
  unfold State.issueOn State.setChannelArb
  split
  · dsimp only
    split <;> rfl
  · rfl

theorem State.issue_ingress (s : State) (cls : Nat) : (s.issue cls).ingress = s.ingress :=
  (State.issueOn_ingress _ cls 1).trans (State.issueOn_ingress s cls 0)

theorem State.foldl_issue_ingress (l : List Nat) (cls : Nat) (s : State) :
    (l.foldl (fun s _ => s.issue cls) s).ingress = s.ingress := by
  induction l generalizing s with
  | nil => rfl
  | cons b l ih => exact (ih _).trans (State.issue_ingress s cls)

theorem State.emit_ingress (s : State) (src kind code payload : Nat) : (s.emit src kind code payload).ingress = s.ingress := by
  have h := State.emit_sameButRecords s src kind code payload
  unfold State.sameButRecords at h
  rw [h]

theorem State.raiseAt_ingress (s : State) (e : Ev) (index : Nat) : (s.raiseAt e index).ingress = s.ingress := by
  unfold State.raiseAt State.raiseWith
  dsimp only
  split
  · exact State.setEv_ingress s e
  · rw [State.emit_ingress, State.setEv_ingress]

/-- R171: settling a queue moves bytes and no frame. -/
theorem State.settleQueue_sameFrames (s : State) (n c : Nat) : (s.qset n).sameFrames ((s.settleQueue n c).qset n) := by
  have hin : (s.settleQueue n c).ingress =
      (s.setQset n ((s.qset n).setQ c (((s.qset n).q c).pass ((s.qset n).oldest c + headBytes)).spillOut)).ingress := by
    unfold State.settleQueue
    dsimp only
    split
    · exact (State.raiseAt_ingress _ _ _).trans (State.foldl_issue_ingress _ _ _)
    · exact State.foldl_issue_ingress _ _ _
  rw [State.qset_of_ingress hin, State.qset_setQset_same]
  exact QueueSet.sameFrames_setQ _ c ((ClassQueue.spillOut_frames _).trans (ClassQueue.pass_frames _ _))

theorem State.foldl_settleQueue_sameFrames (l : List Nat) (s : State) (n : Nat) :
    (s.qset n).sameFrames ((l.foldl (fun s c => s.settleQueue n c) s).qset n) := by
  induction l generalizing s with
  | nil => exact QueueSet.sameFrames_refl _
  | cons c l ih => exact QueueSet.sameFrames_trans (State.settleQueue_sameFrames s n c) (ih _)

/-- Without a stalled read no frame is taken. -/
theorem State.wakePop_of_not_stalled {s : State} {n : Nat} (h : (s.qset n).stalled = false) : s.wakePop n = s :=
  if_neg (by simp [h])

/-! ### HEAD_REFILL and QS_DONE -/

/-- R171: the head of a queue has taken blocks from its spill ring. -/
def State.refillHead (s : State) (n c : Nat) : State :=
  s.setQset n ((s.qset n).setQ c (((s.qset n).q c).refill ((s.qset n).oldest c + headBytes)))

theorem State.refillHead_sameFrames (s : State) (n c : Nat) : (s.qset n).sameFrames ((s.refillHead n c).qset n) := by
  rw [State.refillHead, State.qset_setQset_same]
  exact QueueSet.sameFrames_setQ _ c (ClassQueue.refill_frames _ _)

/-- R171: a refill leaves every frame of the set in its place. -/
theorem headRefill_sameFrames (s : State) (n c : Fin 4) (hst : (s.qset n).stalled = false) :
    ∃ t, exec (.headRefill n c) s = .next t ∧ (s.qset n).sameFrames (t.qset n) := by
  have hsame := QueueSet.sameFrames_trans (s.refillHead_sameFrames n c) ((s.refillHead n c).settleQueue_sameFrames n c)
  refine ⟨(s.refillHead n c).settleQueue n c, ?_, hsame⟩
  obtain ⟨-, -, hstall⟩ := hsame
  exact congrArg Host.Outcome.next (State.wakePop_of_not_stalled (hstall.trans hst))

/-- R174: a set without the popped frames at `addr`. -/
def QueueSet.release (t : QueueSet) (n addr : Nat) : QueueSet :=
  { t with popped := t.popped.filter fun p => decide (queueAddr n p.1 p.2.pos ≠ addr) }

/-- R174: DONE takes the popped frame at its address out of the set, and leaves every other frame in its place. -/
theorem State.popDone_sameFrames {s : State} {n : Nat} (addr : Nat) (hst : (s.qset n).stalled = false) :
    ((s.qset n).release n addr).sameFrames ((s.popDone n addr).qset n) := by
  have hsame := State.foldl_settleQueue_sameFrames [0, 1, 2, 3] (s.setQset n ((s.qset n).release n addr)) n
  rw [State.qset_setQset_same] at hsame
  have ⟨_, _, hstall⟩ := hsame
  have hwake : s.popDone n addr = [0, 1, 2, 3].foldl (fun s c => s.settleQueue n c) (s.setQset n ((s.qset n).release n addr)) :=
    State.wakePop_of_not_stalled (hstall.trans hst)
  rw [hwake]
  exact hsame

/-! ### QS_POP -/

/-- R173: the class that is next is one of the four. -/
theorem State.popClass_lt {s : State} {n d : Nat} (h : s.popClass n = some d) : d < 4 := by
  unfold State.popClass at h
  dsimp only at h
  split at h
  · cases h
    decide
  · have hmem := List.mem_of_find?_eq_some h
    simp only [List.mem_cons, List.not_mem_nil, or_false] at hmem
    omega

/-- R34: the class queues' SRAM lies below 2^32. -/
theorem queueAddr_lt {n d : Nat} (hn : n < 4) (hd : d < 4) (pos : Nat) : queueAddr n d pos < 2 ^ 32 := by
  have hpos : pos % headBytes < 65536 := Nat.mod_lt _ (by decide)
  unfold queueAddr
  omega

theorem exec_qsPop_byRegRead (s : State) (n : Fin 4) : exec (.qsPop n true) s = .next (s.readAnswer 0) := rfl

theorem exec_qsPop_consumer {s : State} {n : Fin 4} {d : Nat} (hlen : (s.qset n).popped.length < 8)
    (haway : s.consumerAway n = false) (hnext : s.popClass n = some d) :
    exec (.qsPop n false) s = .next (s.popFrom n d) := by
  have hpop : s.consumerPop n = s.popFrom n d := by simp [State.consumerPop, hlen, hnext]
  rw [← hpop]
  exact if_neg (by simp [haway])

section PopFrom

variable {s : State} {n d : Nat} {f : QFrame} {fs : List QFrame} (hq : ((s.qset n).q d).frames = f :: fs)
include hq

/-- R173: the oldest frame leaves its queue and is remembered as popped. -/
theorem State.popFrom_qset :
    (((s.popFrom n d).qset n).q d).frames = fs ∧ ((s.popFrom n d).qset n).popped = (s.qset n).popped ++ [(d, f)] := by
  unfold State.popFrom
  simp only [hq]
  rw [State.qset_of_ingress (State.readAnswer_ingress _ _), State.qset_of_ingress (State.setReg_ingress _ _ _),
    State.qset_of_ingress (State.setRegN_ingress _ _ _), State.qset_setQset_same]
  exact ⟨by simp, rfl⟩

theorem State.popFrom_regOut : (s.popFrom n d).ctrl.regOut = BitVec.ofNat 32 (popWord d f.len) := by
  simp [State.popFrom, hq]

/-- R173: the frame's address and stamp are latched. -/
theorem State.popFrom_latches (hs : s.regsOk) (hn : n < 4) (hd : d < 4) :
    (s.popFrom n d).regN (Reg.Q_POP_ADDR n) = queueAddr n d f.pos ∧ (s.popFrom n d).reg (Reg.Q_POP_STAMP n) = f.stamp := by
  have hok : ∀ t, (s.setQset n t).regsOk := fun t => State.regsOk_of_regs (State.setQset_regs s n t) hs
  have hne : Reg.Q_POP_ADDR n ≠ Reg.Q_POP_STAMP n := by
    unfold Reg.Q_POP_ADDR Reg.Q_POP_STAMP
    omega
  unfold State.popFrom
  simp only [hq]
  constructor
  · calc
      _ = ((s.setQset n _).setRegN (Reg.Q_POP_ADDR n) (queueAddr n d f.pos)).regN (Reg.Q_POP_ADDR n) :=
        congrArg BitVec.toNat (State.reg_setReg_other _ _ hne)
      _ = queueAddr n d f.pos % 2 ^ 32 := State.regN_setRegN_same (hok _) _ _
      _ = queueAddr n d f.pos := Nat.mod_eq_of_lt (queueAddr_lt hn hd _)
  · exact State.reg_setReg_same (State.setRegN_regsOk (hok _) _ _) _ _

end PopFrom

/-- Settles O19: settling a queue moves bytes and no frame; a pop takes the head of the list of frames. -/
theorem classQueuesKeepOrder : Obligations.ClassQueuesKeepOrder := by
  unfold Obligations.ClassQueuesKeepOrder
  intro s n c a
  refine ⟨exec_qsPop_byRegRead s n, fun hst => ⟨?refill, fun d f fs hlen haway hnext hq => ?pop, ?done⟩⟩
  case refill =>
    obtain ⟨t, hrun, hframes, hpopped, -⟩ := headRefill_sameFrames s n c hst
    exact ⟨t, hrun, hframes c, hpopped⟩
  case pop =>
    obtain ⟨hframes, hpopped⟩ := State.popFrom_qset hq
    exact ⟨s.popFrom n d, exec_qsPop_consumer hlen haway hnext, hframes, hpopped, State.popFrom_regOut hq,
      fun hs => State.popFrom_latches hq hs n.isLt (State.popClass_lt hnext)⟩
  case done =>
    obtain ⟨hframes, hpopped, -⟩ := State.popDone_sameFrames a.toNat hst
    exact ⟨s.popDone n a.toNat, rfl, hpopped, hframes c⟩

end Sys2Proof.Machine
end

section
/-! ## The request header: R386 -/

namespace Sys2Proof.Machine

/-! ### Big-endian fields -/

@[simp] theorem length_beBytes (k n : Nat) : (beBytes k n).length = k := by
  induction k with
  | zero => rfl
  | succ k ih => simp [beBytes, ih]

/-- `k` bytes spell the number modulo 256^k. -/
theorem beNat_beBytes (k n : Nat) : beNat (beBytes k n) = n % 256 ^ k := by
  induction k with
  | zero => simp [beBytes, beNat, Nat.mod_one]
  | succ k ih =>
    have hbyte : (BitVec.ofNat 8 (n / 256 ^ k)).toNat = n / 256 ^ k % 256 := BitVec.toNat_ofNat _ _
    rw [beBytes, beNat, length_beBytes, ih, hbyte, Nat.pow_succ, Nat.mod_mul, Nat.mul_comm, Nat.add_comm]

/-- The field that starts a payload. -/
theorem field_beBytes_append (k n : Nat) (p : List Byte) : field (beBytes k n ++ p) 0 k = n % 256 ^ k := by
  simp [field, beNat_beBytes]

theorem field_beBytes_append_of_lt {k n : Nat} (h : n < 256 ^ k) (p : List Byte) : field (beBytes k n ++ p) 0 k = n := by
  rw [field_beBytes_append, Nat.mod_eq_of_lt h]

/-- A field behind the first one is a field of the rest. -/
theorem field_append_of_le {l : List Byte} {off : Nat} (h : l.length ≤ off) (p : List Byte) (size : Nat) :
    field (l ++ p) off size = field p (off - l.length) size := by
  simp [field, List.drop_append, List.drop_eq_nil_of_le h]

/-! ### The bytes of a request -/

/-- R386: the request as fields in a row. -/
theorem Request.bytes_eq (r : Request) (op : Nat) :
    r.bytes op = beBytes 2 op ++ (beBytes 2 r.flags.toNat ++ (beBytes 4 r.seq.toNat ++ (beBytes 4 r.len.toNat ++
      (beBytes 2 r.client.toNat ++ (beBytes 2 0 ++ r.payload))))) := by
  simp [Request.bytes, beBytes]

/-- R386: the table of the header. -/
theorem Request.bytes_fields (r : Request) {op : Nat} (hop : op < 2 ^ 16) :
    field (r.bytes op) 0 2 = op ∧ field (r.bytes op) 2 2 = r.flags.toNat ∧ field (r.bytes op) 4 4 = r.seq.toNat ∧
      field (r.bytes op) 8 4 = r.len.toNat ∧ field (r.bytes op) 12 2 = r.client.toNat ∧ field (r.bytes op) 14 2 = 0 ∧
      (r.bytes op).drop 16 = r.payload := by
  rw [Request.bytes_eq]
  have hflags := r.flags.isLt
  have hseq := r.seq.isLt
  have hlen := r.len.isLt
  have hclient := r.client.isLt
  refine ⟨field_beBytes_append_of_lt (by omega) _, ?_, ?_, ?_, ?_, ?_, ?payload⟩
  case payload => simp [List.drop_append, List.drop_eq_nil_of_le]
  all_goals
    simp (disch := simp) only [field_append_of_le, length_beBytes, Nat.reduceSub]
    exact field_beBytes_append_of_lt (by omega) _

/-- R382, R386: what the CP copies from channel 0 is the request that the host wrote. -/
theorem submittedRequest_bytes {r : Request} {op : Nat} (hop : op < 2 ^ 16) (hchan : r.chan = .c0)
    (hfrom : r.from_ = ⟨[], 0⟩) (hport : r.port = .a) : submittedRequest (r.bytes op) = r := by
  obtain ⟨-, hflags, hseq, hlen, hclient, -, hpayload⟩ := r.bytes_fields hop
  simp [submittedRequest, hflags, hseq, hlen, hclient, hpayload, ← hchan, ← hfrom, ← hport]

/-! ### LEN and DEFER -/

/-- R392: step 1 refuses a payload of more than 1,008 bytes. -/
theorem State.judge_of_long (s : State) (op : Nat) {r : Request} (h : 1008 < r.len.toNat) :
    s.judge op r = some (Status.BAD_LENGTH, []) := by
  have hheader : judgeHeader op r = some Status.BAD_LENGTH := if_pos (.inl h)
  rw [State.judge, hheader]

/-- R392: step 8, at a block under self-test. -/
theorem State.execute_of_blockTest {s : State} {op : Nat} {r : Request} {t : Test} (body : Body) (hchan : r.chan ≠ .c3)
    (hjudge : s.judge op r = none) (htest : s.blockTest op r = some t) :
    s.execute op r body = if r.flags.getLsbD 0 then s.defer op r
      else s.answer op r (.done Status.BUSY_SELFTEST (beBytes 4 (s.testLeft t))) := by
  simp only [State.execute, hjudge, if_neg hchan, htest]

/-- Settles O7: each field of the header is read from where the one before it ends. -/
theorem requestHeaderReadsBack : Obligations.RequestHeaderReadsBack := by
  unfold Obligations.RequestHeaderReadsBack
  intro op r hop
  exact ⟨r.bytes_fields hop, submittedRequest_bytes hop, fun s => s.judge_of_long op,
    fun s body t => State.execute_of_blockTest body⟩

end Sys2Proof.Machine
end

section
/-! ## Sessions: R159 to R161, R389, R393 to R397 -/

namespace Sys2Proof.Machine

/-! ### What an event touches and what it leaves set -/

theorem State.raiseWith_sameButRecords (s : State) (e : Ev) (index detail : Nat) :
    s.sameButRecords (s.raiseWith e index detail) := by
  have hset : s.sameButRecords (s.setEv e) := State.setReg_sameButRecords s _ _
  unfold State.raiseWith
  dsimp only
  split
  · exact hset
  · exact State.sameButRecords_trans hset (State.emit_sameButRecords _ _ _ _ _)

theorem State.sees_of_reg {s t : State} {e : Ev} (h : t.reg e.reg = s.reg e.reg) : t.sees e = s.sees e := by
  rw [State.sees, State.sees, h]

theorem State.setEv_sees {s : State} (hs : s.regsOk) {e : Ev} (hbit : e.bit < 32) : (s.setEv e).sees e = true := by
  rw [State.sees, State.setEv, State.reg_setReg_same hs, BitVec.getLsbD_or, BitVec.getLsbD_ofNat, Nat.testBit_two_pow_self]
  simp [hbit]

section Event

variable {s : State} {e : Ev} (hover : e.reg ≠ Reg.JNL_OVERWRITTEN) (hskip : e.reg ≠ Reg.JNL_STREAM_SKIPPED)
include hover hskip

/-- A journal that takes an entry changes no register but its two counters of losses. -/
theorem State.jAppend_sees (s : State) (x : JEntry) : (s.jAppend x).sees e = s.sees e := by
  have hloses : ∀ (t : State) n y, (t.streamLoses n y).reg e.reg = t.reg e.reg := fun t n y => by
    unfold State.streamLoses
    split
    · exact State.reg_setRegN_other _ _ hskip
    · rfl
  apply State.sees_of_reg
  unfold State.jAppend
  split
  · rfl
  · refine (State.offer_reg _ x _).trans ?_
    split
    · exact (State.reg_setRegN_other _ _ hover).trans (hloses _ _ _)
    · rfl

/-- R411: EVENT_OVERFLOW joins the other events of its register. -/
theorem State.jOverflow_sees (hs : s.regsOk) (h : s.sees e = true) (short : Word) : (s.jOverflow short).sees e = true := by
  unfold State.jOverflow
  dsimp only
  rw [State.jAppend_sees hover hskip, State.sees]
  by_cases heq : e.reg = Reg.CTRL_EVENTS
  · rw [State.sees, heq] at h
    rw [heq, State.reg_setReg_same hs, BitVec.getLsbD_or, h, Bool.true_or]
  · rw [State.reg_setReg_other _ _ heq]
    exact h

theorem State.jAccept_sees (hs : s.regsOk) (h : s.sees e = true) (x : JEntry) : (s.jAccept x).sees e = true := by
  have happend : (s.jAppend x).sees e = true := (State.jAppend_sees hover hskip s x).trans h
  unfold State.jAccept
  split
  · exact State.jOverflow_sees hover hskip (State.jAppend_regsOk hs x) happend _
  · exact happend

theorem State.foldl_jAccept_sees (l : List JEntry) (hs : s.regsOk) (h : s.sees e = true) :
    (l.foldl State.jAccept s).sees e = true := by
  induction l generalizing s with
  | nil => exact h
  | cons x l ih => exact ih (State.jAccept_regsOk hs x) (State.jAccept_sees hover hskip hs h x)

theorem State.emit_sees (hs : s.regsOk) (h : s.sees e = true) (src kind code payload : Nat) :
    (s.emit src kind code payload).sees e = true := by
  have hdrain : ∀ f, (s.jDrain src f).sees e = true := fun f => by
    unfold State.jDrain
    refine State.foldl_jAccept_sees hover hskip _ ?_ ?_ <;> split
    · exact hs
    · exact State.regsOk_of_regs (s := s) rfl hs
    · exact h
    · exact h
  exact State.jAccept_sees hover hskip (State.jDrain_regsOk hs _ _) (hdrain _) _

/-- R19: an event that is raised shows. -/
theorem State.raiseWith_sees (hs : s.regsOk) (hbit : e.bit < 32) (index detail : Nat) :
    (s.raiseWith e index detail).sees e = true := by
  have hset := State.setEv_sees hs hbit
  unfold State.raiseWith
  dsimp only
  split
  · exact hset
  · exact State.emit_sees hover hskip (State.setReg_regsOk hs _ _) hset _ _ _ _

end Event

/-! ### Time runs to the end of a lease -/

theorem State.sched_of_sameButRecords {s t : State} (h : s.sameButRecords t) : t.sched = s.sched := by
  unfold State.sameButRecords at h
  rw [h]

theorem State.journalTo_sched (s : State) (u : Nat) : (s.journalTo u).sched = s.sched :=
  State.sched_of_sameButRecords (State.takeWaiting_sameButRecords s _)

theorem State.crossEpoch_sched (s : State) (b : Nat) : (s.crossEpoch b).sched = s.sched := by
  rw [State.crossEpoch, State.emitEpoch, State.sched_of_sameButRecords (State.emit_sameButRecords _ _ _ _ _),
    State.setUnits_sched, State.journalTo_sched]

theorem State.foldl_crossEpoch_sched (l : List Nat) (s : State) : (l.foldl State.crossEpoch s).sched = s.sched := by
  induction l generalizing s with
  | nil => rfl
  | cons b l ih => exact (ih _).trans (State.crossEpoch_sched s b)

theorem State.advanceTo_sched (s : State) (u : Nat) : (s.advanceTo u).sched = s.sched := by
  unfold State.advanceTo
  split
  · rfl
  · rw [State.setClock_sched, State.journalTo_sched, State.foldl_crossEpoch_sched]

/-- Waiting moves no lock and no task. -/
theorem State.reach_sched (s : State) (due : Nat) : (s.reach due).sched = s.sched := by
  unfold State.reach
  split
  · exact State.advanceTo_sched s _
  · rfl

theorem State.advanceTo_up (s : State) {u : Nat} (h : s.time.units < u) :
    (s.advanceTo u).up = s.up + (u / 2 ^ 32 - s.nowNs) := by
  simp only [State.advanceTo, Nat.not_le.mpr h, if_false, State.setClock]

theorem State.le_pass_up (s : State) (n : Nat) : s.up + n ≤ (s.pass n).up := by
  rcases Nat.eq_zero_or_pos n with rfl | hn
  · simp [State.pass, State.advanceTo]
  · have hunits : s.time.units = s.nowNs * 2 ^ 32 + s.time.frac := rfl
    rw [State.pass, State.advanceTo_up s (by omega)]
    omega

/-- A timer runs out no earlier than its time. -/
theorem State.le_reach_up (s : State) (due : Nat) : due ≤ (s.reach due).up := by
  have hpass := s.le_pass_up (due - s.up)
  unfold State.reach
  split <;> omega

/-! ### HELLO: R160 -/

/-- R160: the selected version is the highest one in the bitmap, 0 when there is none. -/
theorem selectedVersion_cases (n : Nat) :
    (selectedVersion n = 3 ∧ bit n 3 = true) ∨ (selectedVersion n = 2 ∧ bit n 2 = true ∧ bit n 3 = false) ∨
      (selectedVersion n = 1 ∧ bit n 1 = true ∧ bit n 2 = false ∧ bit n 3 = false) ∨
      (selectedVersion n = 0 ∧ bit n 1 = false ∧ bit n 2 = false ∧ bit n 3 = false) := by
  unfold selectedVersion
  cases bit n 3 <;> cases bit n 2 <;> cases bit n 1 <;> decide

theorem selectedVersion_le (n : Nat) : selectedVersion n ≤ 3 := by
  rcases selectedVersion_cases n with ⟨hv, -⟩ | ⟨hv, -⟩ | ⟨hv, -⟩ | ⟨hv, -⟩ <;> omega

theorem bit_selectedVersion {n : Nat} (h : selectedVersion n ≠ 0) : bit n (selectedVersion n) = true := by
  rcases selectedVersion_cases n with ⟨hv, hbit⟩ | ⟨hv, hbit, -⟩ | ⟨hv, hbit, -⟩ | ⟨hv, -⟩
  · exact hv ▸ hbit
  · exact hv ▸ hbit
  · exact hv ▸ hbit
  · exact absurd hv h

theorem le_selectedVersion {n w : Nat} (hhigh : w ≤ 3) (h : bit n w = true) : w ≤ selectedVersion n := by
  have hne : ∀ v, bit n v = false → w ≠ v := by
    rintro v hv rfl
    exact Bool.false_ne_true (hv.symm.trans h)
  rcases selectedVersion_cases n with ⟨hv, -⟩ | ⟨hv, -, h3⟩ | ⟨hv, -, h2, h3⟩ | ⟨hv, h1, h2, h3⟩
  · omega
  · have := hne 3 h3
    omega
  · have := hne 2 h2
    have := hne 3 h3
    omega
  · have := hne 1 h1
    have := hne 2 h2
    have := hne 3 h3
    omega

theorem byteAt_helloReply (s : State) (ch : Chan) {v : Nat} (h : v ≤ 3) : byteAt (s.helloReply v ch) 1 = v := by
  simp only [byteAt, State.helloReply, State.offerBytes, List.append_assoc]
  rw [field_append_of_le (by simp), List.length_singleton, Nat.sub_self, field_beBytes_append]
  omega

theorem State.journalSource_sameButRecords (s : State) (name : Nat) :
    ({ s with draws := s.draws + 1 } : State).sameButRecords (s.journalSource name) :=
  State.emit_sameButRecords _ _ _ _ _

theorem State.sameButRecords_of_draws {s t : State} {n : Nat} (h : ({ s with draws := n } : State).sameButRecords t) :
    s.sameButRecords { t with draws := s.draws } := by
  unfold State.sameButRecords at h
  have hdraws := congrArg (fun x : State => { x with draws := s.draws }) h
  exact hdraws

/-- The OFFER speaks of nothing that a record touches. -/
theorem State.helloReply_of_sameButRecords {s t : State} (h : s.sameButRecords t) (v : Nat) (ch : Chan) :
    t.helloReply v ch = s.helloReply v ch := by
  unfold State.sameButRecords at h
  rw [h]
  rfl

theorem State.helloReply_journalSource (s : State) (name v : Nat) (ch : Chan) :
    (s.journalSource name).helloReply v ch = s.helloReply v ch :=
  State.helloReply_of_sameButRecords (State.journalSource_sameButRecords s name) v ch

theorem State.mailbox_begun_of_body {s t u : State} {op : Nat} {r : Request} {body : Body} {rep : Reply}
    (h : s.begun op r = some u) (hbody : body u r = (t, rep)) : s.mailbox op r body = t.replied op r rep := by
  rw [State.mailbox_begun h, hbody]

/-- R160: a control host names no version. -/
theorem bodyHello_controlHost {u : State} {r : Request} (h : byteAt r.payload 0 = 0) :
    bodyHello u r = (u, .done Status.UNSUPPORTED_VERSION (u.helloReply 0 r.chan)) := by
  simp [bodyHello, helloSelected, h]

theorem bodyHello_pixelSource {u : State} {r : Request} (h : byteAt r.payload 0 ≠ 0) :
    bodyHello u r = (u.journalSource (field r.payload 8 8),
      .done (if selectedVersion (byteAt r.payload 1) = 0 then Status.UNSUPPORTED_VERSION else Status.OK)
        (u.helloReply (selectedVersion (byteAt r.payload 1)) r.chan)) := by
  simp [bodyHello, helloSelected, h, State.helloReply_journalSource]

/-! ### SESSION_OPEN: R393, R394 -/

/-- The handles of the open sessions. -/
def State.handles (s : State) : List Nat := s.ctrl.sessions.map (·.handle)

/-- R394: handles count up to 65,535 and start again at 1. -/
def nextHandle (h : Nat) : Nat := if 65535 ≤ h then 1 else h + 1

theorem State.handleAfter_succ (s : State) (h fuel : Nat) :
    s.handleAfter h (fuel + 1) = if nextHandle h ∈ s.handles then s.handleAfter (nextHandle h) fuel else nextHandle h := by
  simp [State.handleAfter, State.handles, nextHandle]

/-- The handle of try `i` after `h`, counted from 0. -/
def handleTry (h i : Nat) : Nat := (min h 65535 + i) % 65535 + 1

theorem handleTry_zero (h : Nat) : handleTry h 0 = nextHandle h := by
  unfold handleTry nextHandle
  split <;> omega

theorem handleTry_succ (h i : Nat) : handleTry h (i + 1) = handleTry (nextHandle h) i := by
  unfold handleTry nextHandle
  split <;> omega

/-- 65,535 tries go by before one comes again. -/
theorem handleTry_inj {h i j : Nat} (hi : i < 65535) (hj : j < 65535) (heq : handleTry h i = handleTry h j) : i = j := by
  unfold handleTry at heq
  omega

theorem nextHandle_ne_zero (h : Nat) : nextHandle h ≠ 0 := by
  unfold nextHandle
  split <;> omega

/-- R394: 0 is no handle. -/
theorem State.handleAfter_succ_ne_zero (s : State) (h fuel : Nat) : s.handleAfter h (fuel + 1) ≠ 0 := by
  induction fuel generalizing h with
  | zero =>
    rw [State.handleAfter_succ]
    split <;> exact nextHandle_ne_zero h
  | succ fuel ih =>
    rw [State.handleAfter_succ]
    split
    · exact ih _
    · exact nextHandle_ne_zero h

/-- The search ends at the first handle that is free. -/
theorem State.handleAfter_not_mem {s : State} {h fuel i : Nat} (hi : i < fuel) (hfree : handleTry h i ∉ s.handles) :
    s.handleAfter h fuel ∉ s.handles := by
  induction fuel generalizing h i with
  | zero => omega
  | succ fuel ih =>
    rw [State.handleAfter_succ]
    split
    next hmem =>
      cases i with
      | zero => exact absurd (handleTry_zero h ▸ hmem) hfree
      | succ i => exact ih (Nat.lt_of_succ_lt_succ hi) (handleTry_succ h i ▸ hfree)
    next hmem => exact hmem

/-- A list that holds `n` different numbers has `n` members. -/
theorem le_length_of_inj {f : Nat → Nat} {l : List Nat} {n : Nat} (hinj : ∀ i j, i < n → j < n → f i = f j → i = j)
    (hmem : ∀ i, i < n → f i ∈ l) : n ≤ l.length := by
  induction n generalizing l with
  | zero => exact Nat.zero_le _
  | succ n ih =>
    have hlast : f n ∈ l := hmem n (Nat.lt_succ_self n)
    have hrest : n ≤ (l.erase (f n)).length := by
      refine ih (fun i j hi hj => hinj i j (by omega) (by omega)) fun i hi => ?_
      have hne : f i ≠ f n := fun heq => Nat.ne_of_lt hi (hinj i n (by omega) (by omega) heq)
      exact (List.mem_erase_of_ne hne).mpr (hmem i (by omega))
    have hpos := List.length_pos_of_mem hlast
    rw [List.length_erase_of_mem hlast] at hrest
    omega

/-- R394: with fewer open sessions than tries, the handle is new: the tries are all different. -/
theorem State.handleAfter_new {s : State} (h : Nat) {fuel : Nat} (hfew : s.ctrl.sessions.length < fuel)
    (hfuel : fuel ≤ 65535) : s.handleAfter h fuel ∉ s.handles := by
  refine Decidable.byContradiction fun htaken => ?_
  have hall : ∀ i, i < fuel → handleTry h i ∈ s.handles := fun i hi =>
    Decidable.byContradiction fun hfree => htaken (State.handleAfter_not_mem hi hfree)
  have hlen : fuel ≤ s.handles.length :=
    le_length_of_inj (fun i j hi hj => handleTry_inj (by omega) (by omega)) hall
  rw [State.handles, List.length_map] at hlen
  omega

/-- R394: the lease that a request names, or SESSION_LEASE. -/
def State.namedLease (s : State) (r : Request) : Nat :=
  if field r.payload 2 2 = 0 then s.param P.SESSION_LEASE else field r.payload 2 2

section Open

variable {u : State} {r : Request} (hscope : byteAt r.payload 0 ≤ 4) (hlow : 5 ≤ u.namedLease r)
  (hhigh : u.namedLease r ≤ 300)
include hscope hlow hhigh

theorem bodySessionOpen_free (hfree : u.scopeFree (byteAt r.payload 0) = true) :
    bodySessionOpen u r = (u.openSession r (byteAt r.payload 0) (u.namedLease r),
      .done Status.OK (beBytes 2 (u.handleAfter u.ctrl.lastHandle 8) ++ beBytes 2 (u.namedLease r))) := by
  unfold bodySessionOpen
  exact (if_neg (by unfold State.namedLease at hlow hhigh; omega)).trans (if_pos hfree)

theorem bodySessionOpen_busy (hbusy : u.scopeFree (byteAt r.payload 0) = false) :
    bodySessionOpen u r =
      (u.sessionDenied r (byteAt r.payload 0), .done Status.DENIED_LOCK (u.lockDetail (byteAt r.payload 0))) := by
  unfold bodySessionOpen
  exact (if_neg (by unfold State.namedLease at hlow hhigh; omega)).trans (if_neg (by simp [hbusy]))

end Open

theorem State.openSession_owner (s : State) (r : Request) (scope lease : Nat) :
    ((s.openSession r scope lease).lock (40 + scope)).owner = some 0 := by
  have hget := SMap.get_set_same_ne (fun _ => ({} : Lock)) s.sched.locks (k := 40 + scope)
    (v := { owner := some 0, waiters := [], sinceUp := s.up }) (by simp)
  exact congrArg Lock.owner hget

theorem State.sessionDenied_sees {s : State} (hs : s.regsOk) (r : Request) (scope : Nat) :
    (s.sessionDenied r scope).sees Ev.SESSION_DENIED = true :=
  State.raiseWith_sees (by decide) (by decide) hs (by decide) _ _

/-! ### SESSION_CLOSE, KEEPALIVE: R395 to R397 -/

/-- R393: staged work lies with the calibration, the maps, the update and the nonce. -/
theorem State.discardStaged_eq (s : State) (scope : Nat) :
    s.discardStaged scope = { s with anvil := (s.discardStaged scope).anvil, work := (s.discardStaged scope).work } := by
  have hforget : ∀ t : State, t.forgetInactive = { t with anvil := t.forgetInactive.anvil } := fun t => by
    unfold State.forgetInactive
    split <;> rfl
  unfold State.discardStaged
  split
  · dsimp only
    split
    · rw [hforget]
    · rfl
  · split <;> rfl
  all_goals rfl

theorem State.closeSession_eq (s : State) (x : Session) :
    s.closeSession x = { s.setLock (40 + x.scope) { s.lock (40 + x.scope) with owner := none } with
      anvil := (s.closeSession x).anvil, work := (s.closeSession x).work
      ctrl := { s.ctrl with sessions := s.ctrl.sessions.filter fun y => decide (y.handle ≠ x.handle) } } := by
  unfold State.closeSession
  dsimp only
  rw [State.discardStaged_eq]
  split <;> rfl

theorem State.closeSession_sessions (s : State) (x : Session) :
    (s.closeSession x).ctrl.sessions = s.ctrl.sessions.filter fun y => decide (y.handle ≠ x.handle) := by
  rw [State.closeSession_eq]

theorem State.closeSession_up (s : State) (x : Session) : (s.closeSession x).up = s.up := by
  rw [State.closeSession_eq]
  rfl

theorem State.closeSession_regs (s : State) (x : Session) : (s.closeSession x).regs = s.regs := by
  rw [State.closeSession_eq]
  rfl

/-- R397: the scope's lock is free again. -/
theorem State.closeSession_owner {s : State} (h : SMap.wf (fun _ => ({} : Lock)) s.sched.locks = true) (x : Session) :
    ((s.closeSession x).lock (40 + x.scope)).owner = none := by
  rw [State.closeSession_eq]
  exact congrArg Lock.owner (SMap.get_set_same h (40 + x.scope) { s.lock (40 + x.scope) with owner := none })

theorem bodySessionClose_idle {u : State} {r : Request} {x : Session} (hx : u.session r.chan r.from_ r.client.toNat = some x)
    (hidle : u.sessionBusy x.handle = false) : bodySessionClose u r = (u.closeSession x, .plain Status.OK) := by
  simp [bodySessionClose, hx, hidle]

/-- R396, R408: the whole lease is left, in milliseconds. -/
theorem bodyKeepalive_session {u : State} {r : Request} {x : Session} (hx : u.session r.chan r.from_ r.client.toNat = some x)
    (hclient : r.client ≠ 0) : bodyKeepalive u r =
      (u, .done Status.OK (beBytes 4 (x.lease * 1000) ++ beBytes 1 u.mode.code ++ [0, 0, 0])) := by
  have hms : x.lease * 1000000000 / 1000000 = x.lease * 1000 := by omega
  rw [bodyKeepalive, if_neg hclient, hx]
  simp only [State.keepaliveReply, hms]

/-! ### RESPONSE_ACK: R389 -/

/-- RESPONSE_ACK reaches the slots of a requester that is served. -/
theorem exec_responseAck_served {s : State} {r : Request} (hs : s.served = true) (hon : s.channelOn r.chan = true)
    (hchan : r.chan ≠ .c3) (hadm : ((s.popSubmitted Op.RESPONSE_ACK r).admits r).2 = true) :
    let a := ((s.popSubmitted Op.RESPONSE_ACK r).admits r).1
    exec (.responseAck r) s = .next
      (((if (a.judge Op.RESPONSE_ACK r).isNone then a.ackSlot r else a).restartLease r.client.toNat).afterRequest r.chan) := by
  have hexec : exec (.responseAck r) s = execResponseAck r s := rfl
  simp [hexec, execResponseAck, hs, hon, hchan, hadm]

theorem State.ackSlot_of_done {s : State} {r : Request} {t : Slot} (ht : (s.client r.chan r.from_).holds r.seq = some t)
    (hdone : t.done = true) : s.ackSlot r = s.setClient r.chan r.from_
      ((s.client r.chan r.from_).setSlot r.seq (some { t with acked := true, payload := [] })) := by
  simp [State.ackSlot, ht, hdone]

theorem State.ackSlot_of_not_done {s : State} {r : Request}
    (h : ∀ t, (s.client r.chan r.from_).holds r.seq = some t → t.done = false) : s.ackSlot r = s := by
  unfold State.ackSlot
  dsimp only
  split
  next t ht => simp [h t ht]
  next => rfl

/-! ### The requests that an expired session leaves: R396 -/

/-- The two states hold the same locks and open sessions of the same handles, at the same time of the timers' clock, and the
register store stays canonical: what a request of channel 0 leaves as it is when it is only answered. -/
def State.sameHolders (s t : State) : Prop :=
  t.sched = s.sched ∧ t.up = s.up ∧ t.handles = s.handles ∧ (s.regsOk → t.regsOk)

theorem State.sameHolders_refl (s : State) : s.sameHolders s := ⟨rfl, rfl, rfl, id⟩

theorem State.sameHolders_trans {s t u : State} (h1 : s.sameHolders t) (h2 : t.sameHolders u) : s.sameHolders u := by
  obtain ⟨hsched1, hup1, hhandles1, hregs1⟩ := h1
  obtain ⟨hsched2, hup2, hhandles2, hregs2⟩ := h2
  exact ⟨hsched2.trans hsched1, hup2.trans hup1, hhandles2.trans hhandles1, hregs2 ∘ hregs1⟩

theorem State.sameHolders_of_records {s t : State} (h : s.sameButRecords t) (hregs : s.regsOk → t.regsOk) :
    s.sameHolders t := by
  unfold State.sameButRecords at h
  refine ⟨?_, ?_, ?_, hregs⟩ <;> rw [h]
  rfl

theorem State.count_sameHolders (s : State) (a : Nat) : s.sameHolders (s.count a) :=
  State.sameHolders_of_records (State.count_sameButRecords s a) fun h => State.count_regsOk h a

theorem State.raiseWith_sameHolders (s : State) (e : Ev) (index detail : Nat) : s.sameHolders (s.raiseWith e index detail) :=
  State.sameHolders_of_records (State.raiseWith_sameButRecords s e index detail) fun h => State.raiseWith_regsOk h e index detail

theorem State.setClient_sameHolders (s : State) (ch : Chan) (ep : Endpoint) (c : Client) :
    s.sameHolders (s.setClient ch ep c) := by
  cases ch <;> exact ⟨rfl, rfl, rfl, id⟩

theorem State.restartLease_sameHolders (s : State) (h : Nat) : s.sameHolders (s.restartLease h) := by
  have hhandle : ∀ x : Session,
      (if x.handle = h then { x with until_ := s.up + x.lease * 1000000000 } else x).handle = x.handle := fun x => by
    split <;> rfl
  refine ⟨rfl, rfl, ?_, id⟩
  simp [State.handles, State.restartLease, hhandle]

theorem State.takeAborted_sameHolders (s : State) (r : Request) : s.sameHolders (s.takeAborted r).1 := by
  unfold State.takeAborted
  split
  next x _ =>
    split
    · have hhandle : ∀ y : Session, (if y.handle = x.handle then { y with aborted := false } else y).handle = y.handle :=
        fun y => by split <;> rfl
      refine ⟨rfl, rfl, ?_, id⟩
      simp [State.handles, hhandle]
    · exact s.sameHolders_refl
  next => exact s.sameHolders_refl

/-- A response of channel 0 stays in its slot. -/
theorem State.complete_c0_sameHolders (s : State) (ep : Endpoint) (q : Word) (st : Nat) (p : List Byte) :
    s.sameHolders (s.complete .c0 ep q st p) := by
  unfold State.complete
  dsimp only
  split
  · split
    · exact s.sameHolders_refl
    · exact ⟨rfl, rfl, rfl, id⟩
  · exact s.sameHolders_refl

theorem State.sendSlot_c0 (s : State) (ep : Endpoint) (q : Word) : s.sendSlot .c0 ep q = s := by
  unfold State.sendSlot
  dsimp only
  split
  · simp [State.sendMessage]
  · rfl

theorem State.sendRequest_sameHolders (s : State) (op : Nat) (flags : BitVec 16) (p : List Byte) :
    s.sameHolders (s.sendRequest op flags p) := by
  unfold State.sendRequest State.sendMirror
  dsimp only
  split <;> exact ⟨rfl, rfl, rfl, id⟩

section Channel0

variable {r : Request} (hchan : r.chan = .c0)
include hchan

theorem State.answer_c0_sameHolders (s : State) (op : Nat) (rep : Reply) : s.sameHolders (s.answer op r rep) := by
  unfold State.answer
  cases rep with
  | done st p =>
    rw [hchan]
    exact State.sameHolders_trans (State.complete_c0_sameHolders s _ _ st p) (State.restartLease_sameHolders _ _)
  | wait w => exact State.sameHolders_trans (t := { s with ctrl := _ }) ⟨rfl, rfl, rfl, id⟩ (State.restartLease_sameHolders _ _)

theorem State.defer_c0_sameHolders (s : State) (op : Nat) : s.sameHolders (s.defer op r) := by
  unfold State.defer
  dsimp only
  rw [if_pos hchan]
  refine State.sameHolders_trans ?_ (State.answer_c0_sameHolders hchan _ op _)
  refine State.sameHolders_trans (t := _) ?_ (u := State.irq _ _) ⟨rfl, rfl, rfl, id⟩
  split
  · exact State.setClient_sameHolders s _ _ _
  · exact s.sameHolders_refl

theorem State.forward_c0_sameHolders (s : State) (op : Nat) (rep : Reply) : s.sameHolders (s.forward op r rep) := by
  unfold State.forward
  rw [if_neg (by simp [hchan])]
  split
  · exact State.sendRequest_sameHolders s op _ _
  · exact s.sameHolders_refl

/-- A request of channel 0 without a row is refused, deferred or answered. -/
theorem State.execute_rowless_sameHolders (s : State) (op : Nat) : s.sameHolders (s.execute op r bodyRowless) := by
  have hreply : ∀ (t : State) (rep : Reply), t.sameHolders ((t.forward op r rep).answer op r rep) := fun t rep =>
    State.sameHolders_trans (State.forward_c0_sameHolders hchan t op rep) (State.answer_c0_sameHolders hchan _ op rep)
  unfold State.execute
  split
  · exact hreply s _
  · split
    · split
      · exact State.defer_c0_sameHolders hchan s op
      · exact State.answer_c0_sameHolders hchan s op _
    · dsimp only
      refine State.sameHolders_trans (State.takeAborted_sameHolders s r) ?_
      split
      · exact State.answer_c0_sameHolders hchan _ op _
      · exact hreply _ _

theorem State.sequence_rowless_sameHolders (s : State) (op : Nat) : s.sameHolders (s.sequence op r bodyRowless) := by
  unfold State.sequence
  dsimp only
  split
  · split
    · exact State.count_sameHolders s _
    · rw [hchan, State.sendSlot_c0]
      exact State.count_sameHolders s _
  · split
    · exact State.sameHolders_trans (State.count_sameHolders s _) (State.raiseWith_sameHolders _ _ _ _)
    · split
      · rw [State.sendBusy, hchan]
        exact State.count_sameHolders s _
      · refine State.sameHolders_trans ?_ (State.execute_rowless_sameHolders hchan _ op)
        exact State.sameHolders_trans (State.setClient_sameHolders s _ _ _) (State.count_sameHolders _ _)

end Channel0

theorem State.drainRowless_sameHolders (s : State) (fuel : Nat) : s.sameHolders (s.drainRowless fuel) := by
  induction fuel generalizing s with
  | zero => exact s.sameHolders_refl
  | succ fuel ih =>
    unfold State.drainRowless
    split
    · split
      · refine State.sameHolders_trans ?_ (ih _)
        exact State.sameHolders_trans (t := { s with ctrl := _ }) ⟨rfl, rfl, rfl, id⟩
          (State.sequence_rowless_sameHolders rfl _ _)
      · exact s.sameHolders_refl
    · exact s.sameHolders_refl

theorem State.afterRequest_sameHolders (s : State) (ch : Chan) : s.sameHolders (s.afterRequest ch) := by
  unfold State.afterRequest
  split
  · exact State.drainRowless_sameHolders s 4
  · exact s.sameHolders_refl

theorem State.abandonSubmitted_sameHolders (s : State) (st : Nat) (q : List Byte) : s.sameHolders (s.abandonSubmitted st q) := by
  unfold State.abandonSubmitted
  dsimp only
  split
  · exact s.sameHolders_refl
  · split
    · exact State.sequence_rowless_sameHolders rfl s _
    · exact State.sameHolders_trans (State.setClient_sameHolders s _ _ _) (State.complete_c0_sameHolders _ _ _ _ _)

theorem State.foldl_abandonSubmitted_sameHolders (l : List (List Byte)) (s : State) (st : Nat) :
    s.sameHolders (l.foldl (fun s q => s.abandonSubmitted st q) s) := by
  induction l generalizing s with
  | nil => exact s.sameHolders_refl
  | cons q l ih => exact State.sameHolders_trans (State.abandonSubmitted_sameHolders s st q) (ih _)

theorem State.cancelSubmitted_sameHolders (s : State) (h : Nat) : s.sameHolders (s.cancelSubmitted h) :=
  State.sameHolders_trans (t := { s with ctrl := _ }) ⟨rfl, rfl, rfl, id⟩ (State.foldl_abandonSubmitted_sameHolders _ _ _)

/-! ### SESSION_EXPIRED: R396 -/

/-- The session ends, and the requests that wait on its channel 0 with it. -/
def State.expireSession (s : State) (x : Session) : State :=
  if x.chan = .c0 then ((s.closeSession x).cancelSubmitted x.handle).afterRequest .c0 else s.closeSession x

theorem State.expireSession_sameHolders (s : State) (x : Session) : (s.closeSession x).sameHolders (s.expireSession x) := by
  unfold State.expireSession
  split
  · exact State.sameHolders_trans (State.cancelSubmitted_sameHolders _ _) (State.afterRequest_sameHolders _ _)
  · exact State.sameHolders_refl _

theorem exec_sessionExpired_due {s : State} {k : Fin 5} {x : Session} (hx : s.sessionOf k = some x)
    (hidle : s.sessionBusy x.handle = false) (hup : s.firmwareUp = true) : ∃ index detail, exec (.sessionExpired k) s =
      .next (((s.reach x.until_).expireSession x).raiseWith Ev.SESSION_EXPIRED index detail) := by
  have hexec : exec (.sessionExpired k) s = execSessionExpired k s := rfl
  simp only [hexec, execSessionExpired, hx, hidle, hup, Bool.true_eq_false, Bool.false_eq_true, or_self, if_false]
  exact ⟨_, _, rfl⟩

theorem State.sessionOf_scope {s : State} {k : Nat} {x : Session} (h : s.sessionOf k = some x) : x.scope = k :=
  of_decide_eq_true (List.find?_some (p := fun y : Session => decide (y.scope = k)) h)

/-- R396: a lease that runs out frees the scope's lock, and the event shows. -/
theorem sessionExpired_frees {s : State} {k : Fin 5} {x : Session} (hs : s.storesOk) (hx : s.sessionOf k = some x)
    (hidle : s.sessionBusy x.handle = false) (hup : s.firmwareUp = true) : ∃ t, exec (.sessionExpired k) s = .next t ∧
      x.until_ ≤ t.up ∧ (∀ z ∈ t.ctrl.sessions, z.handle ≠ x.handle) ∧ (t.lock (40 + k)).owner = none ∧
      (s.regsOk → t.sees Ev.SESSION_EXPIRED = true) := by
  obtain ⟨index, detail, hexec⟩ := exec_sessionExpired_due hx hidle hup
  refine ⟨_, hexec, ?_⟩
  have hexpire := (s.reach x.until_).expireSession_sameHolders x
  obtain ⟨hsched, htime, hhandles, -⟩ :=
    State.sameHolders_trans hexpire (State.raiseWith_sameHolders _ Ev.SESSION_EXPIRED index detail)
  obtain ⟨-, -, -, hregs⟩ := hexpire
  obtain ⟨-, hlocks, -⟩ := hs
  refine ⟨?time, fun z hz => ?handle, ?lock, fun hok => ?event⟩
  case time =>
    rw [htime, State.closeSession_up]
    exact s.le_reach_up _
  case handle =>
    have hmem : z.handle ∈ ((s.reach x.until_).closeSession x).handles := hhandles ▸ List.mem_map_of_mem hz
    simp only [State.handles, State.closeSession_sessions, List.mem_map, List.mem_filter, decide_eq_true_eq] at hmem
    obtain ⟨y, ⟨-, hne⟩, heq⟩ := hmem
    exact heq ▸ hne
  case lock =>
    have hfree := State.closeSession_owner ((s.reach_sched x.until_).symm ▸ hlocks) x
    rw [State.sessionOf_scope hx] at hfree
    rw [State.lock, hsched]
    exact hfree
  case event =>
    refine State.raiseWith_sees (by decide) (by decide) (hregs ?_) (by decide) index detail
    exact State.regsOk_of_regs (State.closeSession_regs _ x) (State.reach_regsOk hok _)

/-! ### The obligation -/

/-- R160, R161: the answer to a pixel source. -/
theorem hello_pixelSource {s u : State} {r : Request} (h : s.begun Op.HELLO r = some u) (hkind : byteAt r.payload 0 ≠ 0) :
    let v := selectedVersion (byteAt r.payload 1)
    ∃ t : State, exec (.hello r) s = .next (t.replied Op.HELLO r
        (.done (if v = 0 then Status.UNSUPPORTED_VERSION else Status.OK) (u.helloReply v r.chan))) ∧
      byteAt (u.helloReply v r.chan) 1 = v ∧ u.sameButRecords { t with draws := u.draws } ∧
      (v ≠ 0 → bit (byteAt r.payload 1) v = true) ∧ ∀ w, 1 ≤ w → w ≤ 3 → v < w → bit (byteAt r.payload 1) w = false := by
  refine ⟨_, congrArg Host.Outcome.next (State.mailbox_begun_of_body h (bodyHello_pixelSource hkind)),
    byteAt_helloReply u r.chan (selectedVersion_le _), State.sameButRecords_of_draws (State.journalSource_sameButRecords _ _),
    bit_selectedVersion, fun w _ hhigh hlt => ?_⟩
  rw [← Bool.not_eq_true]
  exact fun hbit => absurd (le_selectedVersion hhigh hbit) (Nat.not_le.mpr hlt)

/-- R393, R394: a free scope opens. -/
theorem sessionOpen_free {s u : State} {r : Request} (h : s.begun Op.SESSION_OPEN r = some u) (hscope : byteAt r.payload 0 ≤ 4)
    (hlow : 5 ≤ u.namedLease r) (hhigh : u.namedLease r ≤ 300) (hfree : u.scopeFree (byteAt r.payload 0) = true)
    (hfew : u.ctrl.sessions.length ≤ 4) : ∃ (t : State) (h : Nat), exec (.sessionOpen r) s =
      .next (t.replied Op.SESSION_OPEN r (.done Status.OK (beBytes 2 h ++ beBytes 2 (u.namedLease r)))) ∧ h ≠ 0 ∧
      (∀ z ∈ u.ctrl.sessions, z.handle ≠ h) ∧ (t.lock (40 + byteAt r.payload 0)).owner = some 0 ∧ t.ctrl.sessions =
        u.ctrl.sessions ++ [⟨byteAt r.payload 0, r.chan, r.from_, h, u.namedLease r, u.up + u.namedLease r * 1000000000, false⟩] := by
  have hnew : u.handleAfter u.ctrl.lastHandle 8 ∉ u.handles := State.handleAfter_new _ (by omega) (by decide)
  exact ⟨_, u.handleAfter u.ctrl.lastHandle 8,
    congrArg Host.Outcome.next (State.mailbox_begun_of_body h (bodySessionOpen_free hscope hlow hhigh hfree)),
    u.handleAfter_succ_ne_zero _ 7, fun z hz heq => hnew (heq ▸ List.mem_map_of_mem hz), u.openSession_owner r _ _, rfl⟩

/-- Settles O45: each command by what its body answers; an expired session by what the requests it leaves keep. -/
theorem sessionsHoldTheirScope : Obligations.SessionsHoldTheirScope := by
  unfold Obligations.SessionsHoldTheirScope
  intro s u r x k y
  refine ⟨fun h hkind => ?hostHello, fun h hkind => hello_pixelSource h hkind, fun h => sessionOpen_free h,
    fun h hscope hlow hhigh hbusy => ?denied, fun h hs hx hidle => ?close, fun h hx hclient => ?keepalive,
    fun hs hon hchan hadm hy hdone hjudge => ?ack, fun hs hon hchan hadm hkeep => ?noAck,
    fun hs hx hidle hup => sessionExpired_frees hs hx hidle hup⟩
  case hostHello => exact congrArg Host.Outcome.next (State.mailbox_begun_of_body h (bodyHello_controlHost hkind))
  case denied =>
    exact ⟨_, congrArg Host.Outcome.next (State.mailbox_begun_of_body h (bodySessionOpen_busy hscope hlow hhigh hbusy)),
      State.raiseWith_sameButRecords u _ _ _, fun hok => State.sessionDenied_sees hok r _⟩
  case close =>
    obtain ⟨-, hlocks, -⟩ := hs
    exact ⟨_, congrArg Host.Outcome.next (State.mailbox_begun_of_body h (bodySessionClose_idle hx hidle)),
      u.closeSession_sessions x, State.closeSession_owner hlocks x⟩
  case keepalive => exact congrArg Host.Outcome.next (State.mailbox_begun_of_body h (bodyKeepalive_session hx hclient))
  case ack =>
    rw [exec_responseAck_served hs hon hchan hadm, hjudge, State.ackSlot_of_done hy hdone]
    rfl
  case noAck =>
    rw [exec_responseAck_served hs hon hchan hadm]
    rcases hkeep with hrefused | hopen
    · rw [Option.isNone_eq_false_iff.mpr (Option.ne_none_iff_isSome.mp hrefused)]
      rfl
    · rw [State.ackSlot_of_not_done hopen, ite_self]

end Sys2Proof.Machine
end

section
/-! ## What every step keeps: R47, R48, and the canonical form of the register store

One lemma for each operation of the model, file by file: the state that it answers keeps what every step keeps. An operation
that a tick runs after its edge keeps the instant as well (R68), and one that it runs for anything but R208 keeps EMERG_N and
the emergency layer. -/

namespace Sys2Proof.Machine

/-- The counter is legal: R47's fields and R48's increment. -/
def Counter.legal (c : Counter) : Prop := (c.ns < 1000000000 ∧ c.frac < 2 ^ 32) ∧ incMin ≤ c.inc ∧ c.inc ≤ incMax

/-- The step from `s` to a state with these registers and this counter keeps what every step keeps of them. -/
def State.KeepsBoth (s : State) (regs : SMap Word) (c : Counter) : Prop :=
  (s.regsOk → SMap.wf regReset regs = true) ∧ (s.time.legal → c.legal)

/-- The same, and where `clock` asks for it the instant is that of `s`. -/
def State.KeepsClock (s : State) (clock : Bool) (regs : SMap Word) (c : Counter) : Prop :=
  s.KeepsBoth regs c ∧ (clock = true → c.units = s.time.units)

/-- The same, and where `pins` asks for it EMERG_N and the emergency layer are those of `s`. -/
def State.KeepsAll (s : State) (clock pins : Bool) (regs : SMap Word) (c : Counter) (pin raised : Bool) : Prop :=
  s.KeepsClock clock regs c ∧ (pins = true → pin = s.fs.emergPin ∧ raised = s.fs.raised)

/-- `t` keeps what every step keeps of `s`, a canonical register store and a legal counter, and what `clock` and `pins` ask
for. -/
def State.Keeps (clock pins : Bool) (s t : State) : Prop := s.KeepsAll clock pins t.regs t.time t.fs.emergPin t.fs.raised

/-- The same of what a command answers. -/
def State.KeepsNext (clock pins : Bool) (s : State) (o : Host.Outcome State Fault Refusal) : Prop :=
  ∀ t, o = .next t → s.Keeps clock pins t

section
variable {o s t u : State} {clock pins : Bool}

@[simp] theorem State.keeps_refl (s : State) : s.Keeps clock pins s := ⟨⟨⟨id, id⟩, fun _ => rfl⟩, fun _ => ⟨rfl, rfl⟩⟩

/-- A state keeps what every step keeps of itself. -/
theorem State.keeps_self (s : State) : s.Keeps false false s := s.keeps_refl

theorem State.Keeps.regs (h : s.Keeps clock pins t) : s.regsOk → t.regsOk := h.1.1.1

theorem State.Keeps.legal (h : s.Keeps clock pins t) : s.time.legal → t.time.legal := h.1.1.2

theorem State.Keeps.units (h : s.Keeps true pins t) : t.time.units = s.time.units := h.1.2 rfl

theorem State.Keeps.emerg (h : s.Keeps clock true t) : t.fs.emergPin = s.fs.emergPin ∧ t.fs.raised = s.fs.raised := h.2 rfl

/-- A step that leaves the instant and the frame store as they are. -/
theorem State.keeps_of_both (h : s.KeepsBoth t.regs t.time) (hunits : t.time.units = s.time.units) (hf : t.fs = s.fs) :
    s.Keeps clock pins t := ⟨⟨h, fun _ => hunits⟩, fun _ => ⟨by rw [hf], by rw [hf]⟩⟩

theorem State.keeps_none (h : s.KeepsBoth t.regs t.time) : s.Keeps false false t :=
  ⟨⟨h, fun h => nomatch h⟩, fun h => nomatch h⟩

theorem State.Keeps.trans (h1 : s.Keeps clock pins t) (h2 : t.Keeps clock pins u) : s.Keeps clock pins u := by
  obtain ⟨⟨⟨r1, l1⟩, c1⟩, e1⟩ := h1
  obtain ⟨⟨⟨r2, l2⟩, c2⟩, e2⟩ := h2
  refine ⟨⟨⟨r2 ∘ r1, l2 ∘ l1⟩, fun hc => (c2 hc).trans (c1 hc)⟩, fun hp => ?_⟩
  obtain ⟨a1, b1⟩ := e1 hp
  obtain ⟨a2, b2⟩ := e2 hp
  exact ⟨a2.trans a1, b2.trans b1⟩

@[simp] theorem State.keeps_ite {c : Prop} [Decidable c] :
    o.Keeps clock pins (if c then t else u) ↔ if c then o.Keeps clock pins t else o.Keeps clock pins u := by
  split <;> rfl

@[simp] theorem State.keeps_foldl {α : Type} {f : State → α → State} (hf : ∀ (t : State) (x : α), t.Keeps clock pins (f t x))
    (h : o.Keeps clock pins s) (l : List α) : o.Keeps clock pins (l.foldl f s) := by
  induction l generalizing s with
  | nil => exact h
  | cons x l ih => exact ih (h.trans (hf s x))

@[simp] theorem State.keepsNext_next : o.KeepsNext clock pins (.next t) ↔ o.Keeps clock pins t :=
  ⟨fun h => h t rfl, fun h _ e => by injection e with e; exact e ▸ h⟩

@[simp] theorem State.keepsNext_ite {c : Prop} [Decidable c] {p q : Host.Outcome State Fault Refusal} :
    o.KeepsNext clock pins (if c then p else q) ↔ if c then o.KeepsNext clock pins p else o.KeepsNext clock pins q := by
  split <;> rfl

@[simp] theorem State.keepsAll_fields : o.KeepsAll clock pins s.regs s.time s.fs.emergPin s.fs.raised ↔ o.Keeps clock pins s :=
  Iff.rfl

/-- Where the pins are not asked for the frame store does not matter. -/
@[simp] theorem State.keepsAll_clock {regs : SMap Word} {c : Counter} {pin raised : Bool} :
    o.KeepsAll clock false regs c pin raised ↔ o.KeepsClock clock regs c := ⟨fun h => h.1, fun h => ⟨h, fun h => nomatch h⟩⟩

@[simp] theorem State.keepsClock_fields : o.KeepsClock clock s.regs s.time ↔ o.Keeps clock false s := State.keepsAll_clock.symm

/-- A state that is written field by field is judged by the fields that are kept. -/
@[simp] theorem State.keeps_mk {a1 a3 a4 a5 a6 a7 a8 a9 a10 a11 a12 a13 a15 a16 a17 a18 a19 a20 a21 a22 a23 a24 a25 a26
    a27 a28 a30 a31 a32 a33 a34} {time : Counter} {fs : FrameStore} {regs : SMap Word} :
    o.Keeps clock pins ⟨a1, time, a3, a4, a5, a6, a7, a8, a9, a10, a11, a12, a13, fs, a15, a16, a17, a18, a19, a20, a21, a22, a23,
      a24, a25, a26, a27, a28, regs, a30, a31, a32, a33, a34⟩ ↔
    o.KeepsAll clock pins regs time fs.emergPin fs.raised := Iff.rfl

@[simp] theorem State.keeps_fst_mk {α : Type} {x : α} : o.Keeps clock pins (t, x).1 ↔ o.Keeps clock pins t := Iff.rfl

@[simp] theorem State.keeps_fst_ite {α : Type} {c : Prop} [Decidable c] {p q : State × α} :
    o.Keeps clock pins (if c then p else q).1 ↔ if c then o.Keeps clock pins p.1 else o.Keeps clock pins q.1 := by
  split <;> rfl

theorem State.keeps_of_ite {c : Prop} [Decidable c] (ht : o.Keeps clock pins t) (hu : o.Keeps clock pins u) :
    o.Keeps clock pins (if c then t else u) :=
  State.keeps_ite.mpr (by simp [ht, hu])

/-- What is kept looks at the register store, the counter and the frame store alone. -/
theorem State.keeps_of_fields (h : o.Keeps clock pins s) (hr : t.regs = s.regs) (ht : t.time = s.time) (hf : t.fs = s.fs) :
    o.Keeps clock pins t := by
  unfold State.Keeps
  rw [hr, ht, hf]
  exact h

/-- What is kept does not look at the tick grid. -/
theorem State.keeps_hearth (h : o.Keeps clock pins s) (x : Hearth) : o.Keeps clock pins { s with hearth := x } := h

theorem State.keepsNext_of_ite {c : Prop} [Decidable c] {p q : Host.Outcome State Fault Refusal} (hp : o.KeepsNext clock pins p)
    (hq : o.KeepsNext clock pins q) : o.KeepsNext clock pins (if c then p else q) :=
  State.keepsNext_ite.mpr (by simp [hp, hq])

theorem State.keeps_of_fst {α : Type} {p : State × α} {x : α} (h : o.Keeps clock pins p.1) (e' : p = (t, x)) : o.Keeps clock pins t := by
  rw [e'] at h
  exact h

theorem State.keeps_of_records (h : s.sameButRecords t) (hr : s.regsOk → t.regsOk) : s.Keeps clock pins t := by
  unfold State.sameButRecords at h
  have htime : t.time = s.time := by rw [h]
  exact State.keeps_of_both ⟨hr, fun hc => htime.symm ▸ hc⟩ (by rw [htime]) (by rw [h])

/-! ### Operations of `Sys2Proof/Machine/Flags.lean` -/

@[simp] theorem State.setReg_keeps (hk : o.Keeps clock pins s) (a : Nat) (v : Word) : o.Keeps clock pins (s.setReg a v) :=
  hk.trans (State.keeps_of_both ⟨fun h => State.setReg_regsOk h a v, id⟩ rfl rfl)

@[simp] theorem State.setRegN_keeps (hk : o.Keeps clock pins s) (a n : Nat) : o.Keeps clock pins (s.setRegN a n) := by
  unfold State.setRegN
  simp [hk]

@[simp] theorem State.countN_keeps (hk : o.Keeps clock pins s) (a n : Nat) : o.Keeps clock pins (s.countN a n) := by
  unfold State.countN
  simp [hk]

@[simp] theorem State.count_keeps (hk : o.Keeps clock pins s) (a : Nat) : o.Keeps clock pins (s.count a) := by
  unfold State.count
  simp [hk]

@[simp] theorem State.countBytes_keeps (hk : o.Keeps false false s) (a n : Nat) : o.Keeps false false (s.countBytes a n) := by
  unfold State.countBytes
  simp [hk]

@[simp] theorem State.maxReg_keeps (hk : o.Keeps clock pins s) (a n : Nat) : o.Keeps clock pins (s.maxReg a n) := by
  unfold State.maxReg
  simp [hk]

@[simp] theorem State.irq_keeps (hk : o.Keeps clock pins s) (b : Nat) : o.Keeps clock pins (s.irq b) := by
  unfold State.irq
  simp [hk]

@[simp] theorem State.streamLoses_keeps (hk : o.Keeps clock pins s) (n : Nat) (e : Option JEntry) :
    o.Keeps clock pins (s.streamLoses n e) := by
  unfold State.streamLoses
  simp [hk]

@[simp] theorem State.jAppend_keeps (hk : o.Keeps clock pins s) (e : JEntry) : o.Keeps clock pins (s.jAppend e) :=
  hk.trans (State.keeps_of_records (State.jAppend_sameButRecords s e) fun h => State.jAppend_regsOk h e)

@[simp] theorem State.jOverflow_keeps (hk : o.Keeps clock pins s) (short : Word) : o.Keeps clock pins (s.jOverflow short) := by
  unfold State.jOverflow
  simp [hk]

@[simp] theorem State.jAccept_keeps (hk : o.Keeps clock pins s) (e : JEntry) : o.Keeps clock pins (s.jAccept e) := by
  unfold State.jAccept
  simp [hk]

@[simp] theorem State.setJSource_keeps (hk : o.Keeps clock pins s) (src : Nat) (b : JSource) :
    o.Keeps clock pins (s.setJSource src b) := by
  unfold State.setJSource
  simp [hk]

@[simp] theorem State.jDrain_keeps (hk : o.Keeps clock pins s) (src : Nat) (f : JEntry → Bool) :
    o.Keeps clock pins (s.jDrain src f) := by
  unfold State.jDrain
  simp [hk]

@[simp] theorem State.emit_keeps (hk : o.Keeps clock pins s) (src kind code payload : Nat) :
    o.Keeps clock pins (s.emit src kind code payload) := by
  unfold State.emit
  simp [hk]

@[simp] theorem State.journalTurn_keeps (hk : o.Keeps false false s) : o.Keeps false false (s.journalTurn) := by
  unfold State.journalTurn
  dsimp only
  repeat' split
  all_goals simp [hk]

@[simp] theorem State.journalTurns_keeps (hk : o.Keeps clock pins s) (n : Nat) : o.Keeps clock pins (State.journalTurns n s) :=
  hk.trans (State.keeps_of_records (State.journalTurns_sameButRecords n s) fun h => State.journalTurns_regsOk n h)

@[simp] theorem State.takeWaiting_keeps (hk : o.Keeps clock pins s) (n : Nat) : o.Keeps clock pins (s.takeWaiting n) := by
  unfold State.takeWaiting
  simp [hk]

@[simp] theorem State.jAcceptPair_keeps (hk : o.Keeps clock pins s) (e f : JEntry) : o.Keeps clock pins (s.jAcceptPair e f) :=
  hk.trans (State.keeps_of_records (State.jAcceptPair_sameButRecords s e f) fun h => State.jAcceptPair_regsOk h e f)

@[simp] theorem State.setEv_keeps (hk : o.Keeps clock pins s) (e : Ev) : o.Keeps clock pins (s.setEv e) := by
  unfold State.setEv
  simp [hk]

@[simp] theorem State.raiseWith_keeps (hk : o.Keeps clock pins s) (e : Ev) (index detail : Nat) :
    o.Keeps clock pins (s.raiseWith e index detail) := by
  unfold State.raiseWith
  simp [hk]

@[simp] theorem State.raise_keeps (hk : o.Keeps clock pins s) (e : Ev) : o.Keeps clock pins (s.raise e) := by
  unfold State.raise
  simp [hk]

@[simp] theorem State.raiseAt_keeps (hk : o.Keeps clock pins s) (e : Ev) (index : Nat) :
    o.Keeps clock pins (s.raiseAt e index) := by
  unfold State.raiseAt
  simp [hk]

/-! ### Operations of `Sys2Proof/Machine/Ops.lean` -/

@[simp] theorem State.setParam_keeps (hk : o.Keeps clock pins s) (id : Nat) (v : List Byte) :
    o.Keeps clock pins (s.setParam id v) := by
  unfold State.setParam
  simp [hk]

@[simp] theorem State.setParamN_keeps (hk : o.Keeps clock pins s) (id n : Nat) : o.Keeps clock pins (s.setParamN id n) := by
  unfold State.setParamN
  simp [hk]

/-- R47: a counter set to any instant is legal when its increment is. -/
theorem Counter.atUnits_legal {c : Counter} (h : c.legal) (u : Nat) : (c.atUnits u).legal :=
  ⟨⟨Nat.mod_lt _ (by decide), Nat.mod_lt _ (by decide)⟩, h.2⟩

@[simp] theorem State.setUnits_keeps (hk : o.Keeps false pins s) (u : Nat) : o.Keeps false pins (s.setUnits u) :=
  hk.trans ⟨⟨⟨id, fun h => Counter.atUnits_legal h u⟩, fun h => nomatch h⟩, fun _ => ⟨rfl, rfl⟩⟩

@[simp] theorem State.setClock_keeps (hk : o.Keeps false pins s) (u up : Nat) : o.Keeps false pins (s.setClock u up) :=
  hk.trans ⟨⟨⟨id, fun h => Counter.atUnits_legal h u⟩, fun h => nomatch h⟩, fun _ => ⟨rfl, rfl⟩⟩

@[simp] theorem State.emitEpoch_keeps (hk : o.Keeps false pins s) : o.Keeps false pins (s.emitEpoch) := by
  unfold State.emitEpoch
  simp [hk]

@[simp] theorem State.journalTo_keeps (hk : o.Keeps false pins s) (u : Nat) : o.Keeps false pins (s.journalTo u) := by
  unfold State.journalTo
  simp [hk]

@[simp] theorem State.crossEpoch_keeps (hk : o.Keeps false pins s) (b : Nat) : o.Keeps false pins (s.crossEpoch b) := by
  unfold State.crossEpoch
  exact State.emitEpoch_keeps (by simp [hk])

@[simp] theorem State.advanceTo_keeps (hk : o.Keeps false pins s) (u : Nat) : o.Keeps false pins (s.advanceTo u) := by
  unfold State.advanceTo
  exact State.keeps_of_ite (hk) (State.setClock_keeps (State.journalTo_keeps (by simp [hk]) _) _ _)

@[simp] theorem State.advanceNs_keeps (hk : o.Keeps false false s) (n : Nat) : o.Keeps false false (s.advanceNs n) := by
  unfold State.advanceNs
  simp [hk]

@[simp] theorem State.pass_keeps (hk : o.Keeps false false s) (n : Nat) : o.Keeps false false (s.pass n) := by
  unfold State.pass
  simp [hk]

/-- A load of the increment leaves the instant and the frame store as they are. -/
theorem State.loadInc_instant (s : State) (inc : Nat) :
    (s.loadInc inc).time.ns = s.time.ns ∧ (s.loadInc inc).time.frac = s.time.frac ∧
      (s.loadInc inc).time.units = s.time.units ∧ (s.loadInc inc).fs = s.fs := by
  unfold State.loadInc
  dsimp only
  split
  · exact ⟨rfl, rfl, rfl, rfl⟩
  · rw [State.emit_time]
    refine ⟨rfl, rfl, rfl, ?_⟩
    rw [State.emit_sameButRecords]

@[simp] theorem State.loadInc_keeps (hk : o.Keeps clock pins s) (inc : Nat) : o.Keeps clock pins (s.loadInc inc) := by
  obtain ⟨hns, hfrac, hunits, hfs⟩ := s.loadInc_instant inc
  exact hk.trans (State.keeps_of_both ⟨fun h => State.loadInc_regsOk h inc,
    fun h => ⟨hns ▸ hfrac ▸ h.1, State.loadInc_incOk s inc⟩⟩ hunits hfs)

@[simp] theorem State.changeMode_keeps (hk : o.Keeps clock pins s) (m : Mode) (trigger : Nat) :
    o.Keeps clock pins (s.changeMode m trigger) := by
  unfold State.changeMode
  simp [hk]

@[simp] theorem State.changeModeOpen_keeps (hk : o.Keeps false false s) (m : Mode) :
    o.Keeps false false (s.changeModeOpen m) := by
  unfold State.changeModeOpen
  simp [hk]

@[simp] theorem State.setMac_keeps (hk : o.Keeps clock pins s) (p : Port) (m : Mac) : o.Keeps clock pins (s.setMac p m) := by
  unfold State.setMac
  split <;> simp [hk]

@[simp] theorem State.sendOwn_keeps (hk : o.Keeps clock pins s) (p : Port) (f : OwnFrame) :
    o.Keeps clock pins (s.sendOwn p f) := by
  unfold State.sendOwn
  simp [hk]

@[simp] theorem State.setClient_keeps (hk : o.Keeps clock pins s) (ch : Chan) (ep : Endpoint) (c : Client) :
    o.Keeps clock pins (s.setClient ch ep c) := by
  unfold State.setClient
  split <;> simp [hk]

@[simp] theorem State.sendMirror_keeps (hk : o.Keeps clock pins s) (type : Nat) (p : MirrorPayload) :
    o.Keeps clock pins (s.sendMirror type p) := by
  unfold State.sendMirror
  simp [hk]

@[simp] theorem State.sendMessage_keeps (hk : o.Keeps clock pins s) (ch : Chan) (ep : Endpoint) (bytes : List Byte) :
    o.Keeps clock pins (s.sendMessage ch ep bytes) := by
  unfold State.sendMessage
  repeat' split
  all_goals simp [hk]

@[simp] theorem State.sendSlot_keeps (hk : o.Keeps clock pins s) (ch : Chan) (ep : Endpoint) (q : Word) :
    o.Keeps clock pins (s.sendSlot ch ep q) := by
  unfold State.sendSlot
  dsimp only
  repeat' split
  all_goals simp [hk]

@[simp] theorem State.complete_keeps (hk : o.Keeps clock pins s) (ch : Chan) (ep : Endpoint) (q : Word) (status : Nat) (payload : List Byte) :
    o.Keeps clock pins (s.complete ch ep q status payload) := by
  unfold State.complete
  dsimp only
  repeat' split
  all_goals simp [hk]

@[simp] theorem State.restartLease_keeps (hk : o.Keeps clock pins s) (h : Nat) : o.Keeps clock pins (s.restartLease h) := by
  unfold State.restartLease
  simp [hk]

@[simp] theorem State.completeWaiting_keeps (hk : o.Keeps clock pins s) (f : Waiting → Option (Nat × List Byte)) :
    o.Keeps clock pins (s.completeWaiting f) := by
  unfold State.completeWaiting
  refine State.keeps_foldl (fun t x => ?_) (by simp [hk]) _
  split <;> simp

@[simp] theorem State.reach_keeps (hk : o.Keeps false false s) (due : Nat) : o.Keeps false false (s.reach due) := by
  unfold State.reach
  simp [hk]

@[simp] theorem State.stage_keeps (hk : o.Keeps false false s) (c : Change) : o.Keeps false false (s.stage c) := by
  unfold State.stage
  simp [hk]

@[simp] theorem State.setStrand_keeps (hk : o.Keeps clock pins s) (n : Nat) (t : Strand) :
    o.Keeps clock pins (s.setStrand n t) := by
  unfold State.setStrand
  simp [hk]

@[simp] theorem State.setBank_keeps (hk : o.Keeps clock pins s) (b : Nat) (k : Bank) : o.Keeps clock pins (s.setBank b k) := by
  unfold State.setBank
  simp [hk]

@[simp] theorem State.mapStrands_keeps (hk : o.Keeps clock pins s) (f : State → Nat → Strand → Strand) :
    o.Keeps clock pins (s.mapStrands f) := by
  unfold State.mapStrands
  simp [hk]

@[simp] theorem State.setStream_keeps (hk : o.Keeps clock pins s) (i : Nat) (t : Stream) :
    o.Keeps clock pins (s.setStream i t) := by
  unfold State.setStream
  simp [hk]

@[simp] theorem State.setChannelArb_keeps (hk : o.Keeps clock pins s) (c : Nat) (a : ArbChannel) :
    o.Keeps clock pins (s.setChannelArb c a) := by
  unfold State.setChannelArb
  simp [hk]

@[simp] theorem State.issueOn_keeps (hk : o.Keeps clock pins s) (cls c : Nat) : o.Keeps clock pins (s.issueOn cls c) := by
  unfold State.issueOn
  simp [hk]

@[simp] theorem State.issue_keeps (hk : o.Keeps clock pins s) (cls : Nat) : o.Keeps clock pins (s.issue cls) := by
  unfold State.issue
  simp [hk]

@[simp] theorem State.setLock_keeps (hk : o.Keeps clock pins s) (n : Nat) (l : Lock) : o.Keeps clock pins (s.setLock n l) := by
  unfold State.setLock
  simp [hk]

@[simp] theorem State.setTask_keeps (hk : o.Keeps clock pins s) (n : Nat) (t : Task) : o.Keeps clock pins (s.setTask n t) := by
  unfold State.setTask
  simp [hk]

@[simp] theorem State.setEngine_keeps (hk : o.Keeps false false s) (n : Nat) (e : Engine) :
    o.Keeps false false (s.setEngine n e) := by
  unfold State.setEngine
  simp [hk]

/-! ### Operations of `Sys2Proof/Machine/Hearth.lean` -/

@[simp] theorem State.setTimingParams_keeps (hk : o.Keeps clock pins s) (t : Timing) :
    o.Keeps clock pins (s.setTimingParams t) := by
  unfold State.setTimingParams State.setParamN State.setParam
  simp [hk]

@[simp] theorem State.endOldGrid_keeps (hk : o.Keeps false pins s) (r : Retime) : o.Keeps false pins (s.endOldGrid r) := by
  unfold State.endOldGrid
  simp [hk]

@[simp] theorem State.resumeGrid_keeps (hk : o.Keeps false false s) : o.Keeps false false (s.resumeGrid) := by
  unfold State.resumeGrid
  dsimp only
  repeat' split
  all_goals simp [hk]

@[simp] theorem State.stepTo_keeps (hk : o.Keeps false false s) (units : Nat) : o.Keeps false false (s.stepTo units) := by
  unfold State.stepTo
  exact State.resumeGrid_keeps (State.jAcceptPair_keeps (State.setEv_keeps (by simp [hk]) _) _ _)

@[simp] theorem State.setServoInc_keeps (hk : o.Keeps clock pins s) (base : Nat) (bias : Int) :
    o.Keeps clock pins (s.setServoInc base bias) := by
  unfold State.setServoInc
  simp [hk]

@[simp] theorem State.slewBy_keeps (hk : o.Keeps clock pins s) (offset : Int) : o.Keeps clock pins (s.slewBy offset) := by
  unfold State.slewBy
  simp [hk]

@[simp] theorem State.holdBase_keeps (hk : o.Keeps clock pins s) : o.Keeps clock pins (s.holdBase) := by
  unfold State.holdBase
  simp [hk]

@[simp] theorem State.servoLock_keeps (hk : o.Keeps false false s) : o.Keeps false false (s.servoLock) := by
  unfold State.servoLock
  simp [hk]

@[simp] theorem State.servoUnlock_keeps (hk : o.Keeps clock pins s) : o.Keeps clock pins (s.servoUnlock) := by
  unfold State.servoUnlock
  simp [hk]

@[simp] theorem State.servoCriteria_keeps (hk : o.Keeps false false s) (offset : Int) :
    o.Keeps false false (s.servoCriteria offset) := by
  unfold State.servoCriteria
  simp [hk]

@[simp] theorem State.servoMeasure_keeps (hk : o.Keeps false false s) (offset : Int) (mayStep : Bool) :
    o.Keeps false false (s.servoMeasure offset mayStep) := by
  unfold State.servoMeasure
  exact State.servoCriteria_keeps (by simp [hk]) _

@[simp] theorem State.setDom_keeps (hk : o.Keeps clock pins s) (second : Bool) (d : Domain) :
    o.Keeps clock pins (s.setDom second d) := by
  unfold State.setDom
  simp [hk]

@[simp] theorem State.domainSwitchEvent_keeps (hk : o.Keeps clock pins s) (second : Bool) (reason : Nat) :
    o.Keeps clock pins (s.domainSwitchEvent second reason) := by
  unfold State.domainSwitchEvent
  simp [hk]

@[simp] theorem State.switchDomain_keeps (hk : o.Keeps clock pins s) (second : Bool) (reason : Nat) :
    o.Keeps clock pins (s.switchDomain second reason) := by
  unfold State.switchDomain
  simp [hk]

@[simp] theorem State.domainSelected_keeps (hk : o.Keeps false false s) (second : Bool) :
    o.Keeps false false (s.domainSelected second) := by
  unfold State.domainSelected
  simp [hk]

@[simp] theorem State.takeSync_keeps (hk : o.Keeps false false s) (second : Bool) (m : SyncMsg) (moved : Bool) :
    o.Keeps false false (s.takeSync second m moved) := by
  unfold State.takeSync
  extract_lets off disciplines d other s1 s2 s3
  have h1 : o.Keeps false false s1 := by simp [s1, hk]
  have h2 : o.Keeps false false s2 := by simp [s2, h1]
  have h3 : o.Keeps false false s3 := by simp [s3, h2]
  simp [h3]

@[simp] theorem State.completeSync_keeps (hk : o.Keeps false false s) (second : Bool) (m : SyncMsg) :
    o.Keeps false false (s.completeSync second m) := by
  unfold State.completeSync
  simp [hk]

@[simp] theorem execDelayReqSend_keeps (hk : o.Keeps false false s) (second : Bool) (t3 : PortTime) :
    o.KeepsNext false false (execDelayReqSend second t3 s) := by
  unfold execDelayReqSend
  simp [hk]

@[simp] theorem execDelayResp_keeps (hk : o.Keeps false false s) (domain seq : Nat) (t4 : PortTime) (corr : Int) :
    o.KeepsNext false false (execDelayResp domain seq t4 corr s) := by
  unfold execDelayResp
  dsimp only
  repeat' split
  all_goals simp [hk]

@[simp] theorem State.selectMaster_keeps (hk : o.Keeps false false s) (second : Bool) :
    o.Keeps false false (s.selectMaster second) := by
  unfold State.selectMaster
  dsimp only
  repeat' split
  · simp [hk]
  · simp [hk]
  · exact State.switchDomain_keeps (State.raiseAt_keeps (by simp [hk]) _ _) _ _
  · exact State.raiseAt_keeps (by simp [hk]) _ _
  · exact State.switchDomain_keeps (State.raiseAt_keeps (by simp [hk]) _ _) _ _
  · exact State.raiseAt_keeps (by simp [hk]) _ _

@[simp] theorem execAnnounce_keeps (hk : o.Keeps false false s) (m : AnnounceMsg) :
    o.KeepsNext false false (execAnnounce m s) := by
  unfold execAnnounce
  split <;> simp [hk]

@[simp] theorem execAnnounceReceiptTimeout_keeps (hk : o.Keeps false false s) (second : Bool) :
    o.KeepsNext false false (execAnnounceReceiptTimeout second s) := by
  unfold execAnnounceReceiptTimeout
  simp [hk]

@[simp] theorem execPdelayReq_keeps (hk : o.Keeps false false s) (p : Port) (m : PdelayMsg) :
    o.KeepsNext false false (execPdelayReq p m s) := by
  unfold execPdelayReq
  simp [hk]

@[simp] theorem State.sourcesLost_keeps (hk : o.Keeps clock pins s) : o.Keeps clock pins (s.sourcesLost) := by
  unfold State.sourcesLost
  simp [hk]

@[simp] theorem State.loseActive_keeps (hk : o.Keeps false false s) : o.Keeps false false (s.loseActive) := by
  unfold State.loseActive
  simp [hk]

@[simp] theorem State.moveDomain_keeps (hk : o.Keeps clock pins s) (second : Bool) (p : Port) :
    o.Keeps clock pins (s.moveDomain second p) := by
  unfold State.moveDomain
  simp [hk]

@[simp] theorem execSyncLoss_keeps (hk : o.Keeps false false s) : o.KeepsNext false false (execSyncLoss s) := by
  unfold execSyncLoss
  dsimp only
  repeat' split
  all_goals simp [hk]

@[simp] theorem execPpsIn_keeps (hk : o.Keeps false false s) (stamp : Nat) : o.KeepsNext false false (execPpsIn stamp s) := by
  unfold execPpsIn
  simp [hk]

@[simp] theorem execPpsInLost_keeps (hk : o.Keeps false false s) : o.KeepsNext false false (execPpsInLost s) := by
  unfold execPpsInLost
  exact State.keepsNext_of_ite (by simp [hk]) (State.keepsNext_next.mpr (State.sourcesLost_keeps (by simp [hk])))

@[simp] theorem State.releasePps_keeps (hk : o.Keeps clock pins s) : o.Keeps clock pins (s.releasePps) := by
  unfold State.releasePps
  simp [hk]

@[simp] theorem execPpsOut_keeps (hk : o.Keeps false false s) : o.KeepsNext false false (execPpsOut s) := by
  unfold execPpsOut
  dsimp only
  repeat' split
  all_goals simp [hk]

@[simp] theorem State.pulseTickOd_keeps (hk : o.Keeps clock pins s) : o.Keeps clock pins (s.pulseTickOd) := by
  unfold State.pulseTickOd
  simp [hk]

@[simp] theorem State.leaveTickOd_keeps (hk : o.Keeps false false s) : o.Keeps false false (s.leaveTickOd) := by
  unfold State.leaveTickOd
  simp [hk]

@[simp] theorem State.alignTo_keeps (hk : o.Keeps false false s) (skew : Int) : o.Keeps false false (s.alignTo skew) := by
  unfold State.alignTo
  simp [hk]

@[simp] theorem execTickOdEdge_keeps (hk : o.Keeps false false s) (skew : Int) :
    o.KeepsNext false false (execTickOdEdge skew s) := by
  unfold execTickOdEdge
  simp [hk]

@[simp] theorem State.followTickOd_keeps (hk : o.Keeps clock pins s) : o.Keeps clock pins (s.followTickOd) := by
  unfold State.followTickOd
  simp [hk]

@[simp] theorem execTickSkew_keeps (hk : o.Keeps false false s) : o.KeepsNext false false (execTickSkew s) := by
  unfold execTickSkew
  simp [hk]

@[simp] theorem execTickMaster_keeps (hk : o.Keeps false false s) : o.KeepsNext false false (execTickMaster s) := by
  unfold execTickMaster
  simp [hk]

@[simp] theorem execEpoch_keeps (hk : o.Keeps false false s) : o.KeepsNext false false (execEpoch s) := by
  unfold execEpoch
  simp [hk]

@[simp] theorem State.readTimeSecHi_keeps (hk : o.Keeps false false s) (hostWindow : Bool) :
    o.Keeps false false (s.readTimeSecHi hostWindow).1 := by
  unfold State.readTimeSecHi
  simp [hk]

@[simp] theorem execTimeSecHiRead_keeps (hk : o.Keeps false false s) (hostWindow : Bool) :
    o.KeepsNext false false (execTimeSecHiRead hostWindow s) := by
  unfold execTimeSecHiRead
  simp [hk]

@[simp] theorem State.regDenied_keeps (hk : o.Keeps false false s) (a : Nat) (v : Word) :
    o.Keeps false false (s.regDenied a v) := by
  unfold State.regDenied
  simp [hk]

@[simp] theorem State.writeTimeSec_keeps (hk : o.Keeps false false s) (by_ : Accessor) (hi : Bool) (v : Word) :
    o.Keeps false false (s.writeTimeSec by_ hi v) := by
  unfold State.writeTimeSec
  simp [hk]

@[simp] theorem execTimeSecWrite_keeps (hk : o.Keeps false false s) (by_ : Accessor) (hi : Bool) (v : Word) :
    o.KeepsNext false false (execTimeSecWrite by_ hi v s) := by
  unfold execTimeSecWrite
  simp [hk]

@[simp] theorem State.writeTimeNs_keeps (hk : o.Keeps false false s) (by_ : Accessor) (v : Word) :
    o.Keeps false false (s.writeTimeNs by_ v) := by
  unfold State.writeTimeNs
  simp [hk]

@[simp] theorem State.writeTimeIncHi_keeps (hk : o.Keeps false false s) (by_ : Accessor) (v : Word) :
    o.Keeps false false (s.writeTimeIncHi by_ v) := by
  unfold State.writeTimeIncHi
  simp [hk]

@[simp] theorem execTimeIncHi_keeps (hk : o.Keeps false false s) (by_ : Accessor) (v : Word) :
    o.KeepsNext false false (execTimeIncHi by_ v s) := by
  unfold execTimeIncHi
  simp [hk]

@[simp] theorem State.readTickIndexHi_keeps (hk : o.Keeps false false s) : o.Keeps false false (s.readTickIndexHi).1 := by
  unfold State.readTickIndexHi
  simp [hk]

@[simp] theorem execTickIndexHi_keeps (hk : o.Keeps false false s) : o.KeepsNext false false (execTickIndexHi s) := by
  unfold execTickIndexHi
  simp [hk]

/-! ### Operations of `Sys2Proof/Machine/Raster.lean` -/

@[simp] theorem State.toBit_keeps (hk : o.Keeps false pins s) (n b : Nat) : o.Keeps false pins (s.toBit n b) := by
  unfold State.toBit
  simp [hk]

@[simp] theorem State.bellows_keeps (hk : o.Keeps clock pins s) (n : Nat) : o.Keeps clock pins (s.bellows n) := by
  unfold State.bellows
  simp [hk]

/-! ### Operations of `Sys2Proof/Machine/FrameStore.lean` -/

@[simp] theorem State.settle_keeps (hk : o.Keeps clock pins s) (i : Nat) : o.Keeps clock pins (s.settle i) := by
  unfold State.settle
  simp [hk]

@[simp] theorem State.loseMark_keeps (hk : o.Keeps clock pins s) (i : Nat) : o.Keeps clock pins (s.loseMark i) := by
  unfold State.loseMark
  dsimp only
  repeat' split
  · exact State.raiseWith_keeps (by simp [hk]) _ _ _
  · simp [hk]

@[simp] theorem State.openIn_keeps (hk : o.Keeps clock pins s) (i e : Nat) (p : Part) :
    o.Keeps clock pins (s.openIn i e p) := by
  unfold State.openIn State.setStream
  simp [hk]

@[simp] theorem State.openFrame_keeps (hk : o.Keeps clock pins s) (i : Nat) (p : Part) :
    o.Keeps clock pins (s.openFrame i p).1 := by
  unfold State.openFrame
  extract_lets t abandons s1 t1 s2 s3
  have h1 : o.Keeps clock pins s1 := by simp [s1, hk]
  have h2 : o.Keeps clock pins s2 := by simp [s2, h1]
  have h3 : o.Keeps clock pins s3 := by simp [s3, h1]
  split
  · exact h1
  · split
    · simp [h1]
    · simp [h2]
    · simp [h3]
    · exact h1

@[simp] theorem State.placePixels_keeps (hk : o.Keeps clock pins s) (i : Nat) (p : Part) (q : Nat) (ws : List Nat) :
    o.Keeps clock pins (s.placePixels i p q ws) := by
  unfold State.placePixels
  simp [hk]

@[simp] theorem State.putBuffer_keeps (hk : o.Keeps clock pins s) (b : Buffer) : o.Keeps clock pins (s.putBuffer b) := by
  unfold State.putBuffer
  simp [hk]

@[simp] theorem State.setLayer_keeps (hk : o.Keeps clock pins s) (n : Nat) (l : Layer) :
    o.Keeps clock pins (s.setLayer n l) := by
  unfold State.setLayer
  simp [hk]

@[simp] theorem State.placeBack_keeps (hk : o.Keeps clock pins s) (i : Nat) (p : Part) (q : Nat) (ws : List Nat) :
    o.Keeps clock pins (s.placeBack i p q ws) := by
  unfold State.placeBack
  split
  · simp [hk]
  · exact State.setStream_keeps (by simp [hk]) _ _

@[simp] theorem State.takeChosen_keeps (hk : o.Keeps clock pins s) (i next : Nat) (p : Part) :
    o.Keeps clock pins (s.takeChosen i next p) := by
  unfold State.takeChosen
  exact State.settle_keeps (by simp [hk]) _

@[simp] theorem State.selectWith_keeps (hk : o.Keeps clock pins s) (i next : Nat) (c : Option Part) :
    o.Keeps clock pins (s.selectWith i next c) := by
  unfold State.selectWith
  split
  · exact State.keeps_of_ite (by simp [hk]) (State.takeChosen_keeps (by simp [hk]) _ _ _)
  · simp [hk]

@[simp] theorem State.selectStream_keeps (hk : o.Keeps clock pins s) (i next : Nat) :
    o.Keeps clock pins (s.selectStream i next) := by
  unfold State.selectStream
  simp [hk]

@[simp] theorem State.presentStream_keeps (hk : o.Keeps clock pins s) (k i : Nat) :
    o.Keeps clock pins (s.presentStream k i) := by
  unfold State.presentStream
  dsimp only
  repeat' split
  all_goals simp [hk]

@[simp] theorem State.flipStream_keeps (hk : o.Keeps clock pins s) (i next : Nat) :
    o.Keeps clock pins (s.flipStream i next) := by
  unfold State.flipStream
  dsimp only
  repeat' split
  all_goals simp [hk]

@[simp] theorem State.releaseAccums_keeps (hk : o.Keeps clock pins s) (next : Nat) :
    o.Keeps clock pins (s.releaseAccums next) := by
  unfold State.releaseAccums
  simp [hk]

@[simp] theorem State.dropForeignParts_keeps (hk : o.Keeps clock pins s) (i : Nat) :
    o.Keeps clock pins (s.dropForeignParts i) := by
  unfold State.dropForeignParts
  simp [hk]

@[simp] theorem State.retimeStream_keeps (hk : o.Keeps clock pins s) (u i : Nat) : o.Keeps clock pins (s.retimeStream u i) := by
  unfold State.retimeStream
  exact State.countN_keeps (State.setStream_keeps (State.dropForeignParts_keeps hk i) _ _) _ _

@[simp] theorem State.retimeStreams_keeps (hk : o.Keeps clock pins s) (u : Nat) : o.Keeps clock pins (s.retimeStreams u) := by
  unfold State.retimeStreams
  simp [hk]

@[simp] theorem State.countShort_keeps (hk : o.Keeps clock pins s) (next : Nat) (gapTick : Bool) :
    o.Keeps clock pins (s.countShort next gapTick) := by
  unfold State.countShort
  simp [hk]

@[simp] theorem State.restartRuns_keeps (hk : o.Keeps clock pins s) : o.Keeps clock pins (s.restartRuns) := by
  unfold State.restartRuns
  simp [hk]

@[simp] theorem State.enterHold_keeps (hk : o.Keeps clock pins s) : o.Keeps clock pins (s.enterHold) := by
  unfold State.enterHold
  exact State.keeps_of_ite (State.keeps_of_ite (State.raise_keeps (State.raise_keeps (by simp [hk]) _) _)
    (State.raise_keeps (by simp [hk]) _)) (hk)

@[simp] theorem State.endSnapshot_keeps (hk : o.Keeps clock pins s) : o.Keeps clock pins (s.endSnapshot) := by
  unfold State.endSnapshot
  simp [hk]

@[simp] theorem State.exitHold_keeps (hk : o.Keeps false pins s) : o.Keeps false pins (s.exitHold) := by
  unfold State.exitHold
  exact State.keeps_of_ite (State.raise_keeps (State.endSnapshot_keeps (by simp [hk])) _) (hk)

@[simp] theorem execHoldEnter_keeps (hk : o.Keeps false false s) : o.KeepsNext false false (execHoldEnter s) := by
  unfold execHoldEnter
  simp [hk]

@[simp] theorem execHoldExit_keeps (hk : o.Keeps false false s) : o.KeepsNext false false (execHoldExit s) := by
  unfold execHoldExit
  simp [hk]

@[simp] theorem execConsolidation_keeps (hk : o.Keeps false false s) (i : Fin 64) :
    o.KeepsNext false false (execConsolidation i s) := by
  unfold execConsolidation
  dsimp only
  repeat' split
  · exact State.keepsNext_next.mpr (State.issue_keeps (by simp [hk]) _)
  · simp [hk]

@[simp] theorem State.startAfresh_keeps (hk : o.Keeps clock pins s) (i : Nat) : o.Keeps clock pins (s.startAfresh i) := by
  unfold State.startAfresh
  exact State.countN_keeps (by simp [hk]) _ _

@[simp] theorem State.clearRing_keeps (hk : o.Keeps clock pins s) : o.Keeps clock pins s.clearRing := by
  unfold State.clearRing
  refine State.keeps_foldl (fun t x => ?_) ?_ _
  · simp
  · simp [hk]

@[simp] theorem State.emergencyTick_keeps (hk : o.Keeps clock false s) : o.Keeps clock false (s.emergencyTick) := by
  unfold State.emergencyTick
  simp [hk]

/-! ### Operations of `Sys2Proof/Machine/Queues.lean` -/

@[simp] theorem State.setQset_keeps (hk : o.Keeps false false s) (n : Nat) (q : QueueSet) :
    o.Keeps false false (s.setQset n q) := by
  unfold State.setQset
  split <;> simp [hk]

@[simp] theorem State.settleQueue_keeps (hk : o.Keeps false false s) (n c : Nat) : o.Keeps false false (s.settleQueue n c) := by
  unfold State.settleQueue
  exact State.keeps_of_ite (State.raiseAt_keeps (by simp [hk]) _ _) (by simp [hk])

@[simp] theorem State.readAnswer_keeps (hk : o.Keeps false false s) (v : Nat) : o.Keeps false false (s.readAnswer v) := by
  unfold State.readAnswer
  simp [hk]

@[simp] theorem State.popFrom_keeps (hk : o.Keeps false false s) (n c : Nat) : o.Keeps false false (s.popFrom n c) := by
  unfold State.popFrom
  dsimp only
  repeat' split
  · exact State.readAnswer_keeps (State.setReg_keeps (by simp [hk]) _ _) _
  · exact State.readAnswer_keeps (State.setReg_keeps (by simp [hk]) _ _) _
  · exact State.readAnswer_keeps (State.setReg_keeps (by simp [hk]) _ _) _
  · simp [hk]

@[simp] theorem State.notValid_keeps (hk : o.Keeps false false s) (n : Nat) : o.Keeps false false (s.notValid n) := by
  unfold State.notValid
  simp [hk]

@[simp] theorem State.consumerPop_keeps (hk : o.Keeps false false s) (n : Nat) : o.Keeps false false (s.consumerPop n) := by
  unfold State.consumerPop
  dsimp only
  repeat' split
  all_goals simp [hk]

@[simp] theorem State.wakePop_keeps (hk : o.Keeps false false s) (n : Nat) : o.Keeps false false (s.wakePop n) := by
  unfold State.wakePop
  simp [hk]

@[simp] theorem State.enqueue_keeps (hk : o.Keeps false false s) (n c : Nat) (bytes : List Byte) (stamp : Word) :
    o.Keeps false false (s.enqueue n c bytes stamp) := by
  unfold State.enqueue
  exact State.wakePop_keeps (by simp [hk]) _

@[simp] theorem State.requeuePopped_keeps (hk : o.Keeps false false s) (n : Nat) : o.Keeps false false (s.requeuePopped n) := by
  unfold State.requeuePopped
  simp [hk]

@[simp] theorem State.mirrorArrives_keeps (hk : o.Keeps false false s) (len : Nat) :
    o.Keeps false false (s.mirrorArrives len).1 := by
  unfold State.mirrorArrives
  simp [hk]

@[simp] theorem execHeadRefill_keeps (hk : o.Keeps false false s) (n c : Fin 4) :
    o.KeepsNext false false (execHeadRefill n c s) := by
  unfold execHeadRefill
  exact State.keepsNext_next.mpr (State.wakePop_keeps (by simp [hk]) _)

@[simp] theorem execQsPop_keeps (hk : o.Keeps false false s) (n : Fin 4) (byRegRead : Bool) :
    o.KeepsNext false false (execQsPop n byRegRead s) := by
  unfold execQsPop
  simp [hk]

@[simp] theorem State.popDone_keeps (hk : o.Keeps false false s) (n addr : Nat) : o.Keeps false false (s.popDone n addr) := by
  unfold State.popDone
  exact State.wakePop_keeps (State.keeps_foldl (fun t c => State.settleQueue_keeps (State.keeps_refl t) _ c)
    (State.setQset_keeps hk _ _) _) _

@[simp] theorem State.mirrorTaken_keeps (hk : o.Keeps false false s) : o.Keeps false false (s.mirrorTaken) := by
  unfold State.mirrorTaken
  split <;> simp [hk]

@[simp] theorem State.fromMirror_keeps (hk : o.Keeps false false s) (len : Nat) {f : State → State}
    (hf : ∀ t : State, t.Keeps false false (f t)) : o.Keeps false false (s.fromMirror len f) := by
  have h : o.Keeps false false (s.mirrorArrives len).1 := by simp [hk]
  unfold State.fromMirror
  dsimp only
  split
  · exact State.Keeps.trans (State.mirrorTaken_keeps h) (hf _)
  · exact h

@[simp] theorem execQsDone_keeps (hk : o.Keeps false false s) (n : Fin 4) (addr : Word) :
    o.KeepsNext false false (execQsDone n addr s) := by
  unfold execQsDone
  simp [hk]

/-! ### Operations of `Sys2Proof/Machine/Ports.lean` -/

@[simp] theorem State.countRx_keeps (hk : o.Keeps false false s) (p : Port) (f : List Byte) :
    o.Keeps false false (s.countRx p f) := by
  unfold State.countRx
  exact State.keeps_of_ite (State.count_keeps (by simp [hk]) _) (State.keeps_of_ite (State.count_keeps (by simp [hk])
    _) (State.count_keeps (by simp [hk]) _))

@[simp] theorem State.noteStreamPort_keeps (hk : o.Keeps false false s) (p : Port) (f : List Byte) :
    o.Keeps false false (s.noteStreamPort p f) := by
  unfold State.noteStreamPort
  simp [hk]

@[simp] theorem State.countLine_keeps (hk : o.Keeps false false s) (p : Port) (rx : Reception) :
    o.Keeps false false (s.countLine p rx) := by
  unfold State.countLine
  simp [hk]

@[simp] theorem State.blockRx_keeps (hk : o.Keeps false false s) (p : Port) (cls len : Nat) :
    o.Keeps false false (s.blockRx p cls len) := by
  unfold State.blockRx
  simp [hk]

@[simp] theorem State.receive_keeps (hk : o.Keeps false false s) (p : Port) (f : List Byte) (fcs : Fcs) :
    o.Keeps false false (s.receive p f fcs) := by
  unfold State.receive
  split
  · simp [hk]
  · simp [hk]
  · simp [hk]
  · simp [hk]
  · simp [hk]
  · simp [hk]
  · simp [hk]
  · simp [hk]
  · simp [hk]
  · exact State.blockRx_keeps (by simp [hk]) _ _ _
  · exact State.enqueue_keeps (State.noteStreamPort_keeps (by simp [hk]) _ _) _ _ _ _

@[simp] theorem execReceivedFrame_keeps (hk : o.Keeps false false s) (p : Port) (f : List Byte) (rx : Reception) :
    o.KeepsNext false false (execReceivedFrame p f rx s) := by
  unfold execReceivedFrame
  simp [hk]

@[simp] theorem State.fifoPeak_keeps (hk : o.Keeps false false s) (e : Port) : o.Keeps false false (s.fifoPeak e) := by
  unfold State.fifoPeak
  simp [hk]

@[simp] theorem execForwarding_keeps (hk : o.Keeps false false s) (p : Port) (f : List Byte) (fcs : Fcs) (sinceNs : Nat) :
    o.KeepsNext false false (execForwarding p f fcs sinceNs s) := by
  unfold execForwarding
  split
  · simp [hk]
  · exact State.keepsNext_of_ite (by simp [hk]) (State.keepsNext_of_ite (by simp [hk]) (State.keepsNext_of_ite
      (State.keepsNext_next.mpr (State.raiseAt_keeps (State.fifoPeak_keeps (by simp [hk]) _) _ _)) (by simp [hk])))

@[simp] theorem State.txDone_keeps (hk : o.Keeps false false s) (p : Port) : o.Keeps false false (s.txDone p) := by
  unfold State.txDone
  dsimp only
  repeat' split
  · exact State.countBytes_keeps (by simp [hk]) _ _
  · simp [hk]
  · exact State.countBytes_keeps (State.count_keeps (by simp [hk]) _) _ _
  · exact State.countBytes_keeps (by simp [hk]) _ _
  · simp [hk]

@[simp] theorem State.startOwn_keeps (hk : o.Keeps false false s) (p : Port) (f : OwnFrame) (rest : List OwnFrame) :
    o.Keeps false false (s.startOwn p f rest) := by
  unfold State.startOwn
  simp [hk]

@[simp] theorem State.startFwd_keeps (hk : o.Keeps false false s) (p : Port) (x : FwdFrame) (rest : List FwdFrame) :
    o.Keeps false false (s.startFwd p x rest) := by
  unfold State.startFwd
  exact State.keeps_of_ite (State.count_keeps (by simp [hk]) _) (by simp [hk])

@[simp] theorem State.startNext_keeps (hk : o.Keeps false false s) (p : Port) : o.Keeps false false (s.startNext p) := by
  unfold State.startNext
  dsimp only
  repeat' split
  all_goals simp [hk]

@[simp] theorem execFrameBoundary_keeps (hk : o.Keeps false false s) (p : Port) :
    o.KeepsNext false false (execFrameBoundary p s) := by
  unfold execFrameBoundary
  simp [hk]

@[simp] theorem State.setLine_keeps (hk : o.Keeps false false s) (p : Port) (m : Mac) :
    o.Keeps false false (s.setLine p m) := by
  unfold State.setLine
  simp [hk]

@[simp] theorem execSearchWindow_keeps (hk : o.Keeps false false s) (p : Port) :
    o.KeepsNext false false (execSearchWindow p s) := by
  unfold execSearchWindow
  simp [hk]

@[simp] theorem execBlockLock_keeps (hk : o.Keeps false false s) (l : Link) (aligned : Bool) :
    o.KeepsNext false false (execBlockLock l aligned s) := by
  unfold execBlockLock
  split <;> simp [hk]

@[simp] theorem execHiBer_keeps (hk : o.Keeps false false s) (l : Link) (present : Bool) :
    o.KeepsNext false false (execHiBer l present s) := by
  unfold execHiBer
  split <;> simp [hk]

@[simp] theorem execArpRequest_keeps (hk : o.Keeps false false s) (p : Port) (target : Word) (srcMac : List Byte) (srcIp : Word) :
    o.KeepsNext false false (execArpRequest p target srcMac srcIp s) := by
  unfold execArpRequest
  simp [hk]

@[simp] theorem execNeighbourSolicitation_keeps (hk : o.Keeps false false s) (p : Port) (target src : List Byte) :
    o.KeepsNext false false (execNeighbourSolicitation p target src s) := by
  unfold execNeighbourSolicitation
  simp [hk]

@[simp] theorem execEchoRequest_keeps (hk : o.Keeps false false s) (p : Port) (dst src data : List Byte) :
    o.KeepsNext false false (execEchoRequest p dst src data s) := by
  unfold execEchoRequest
  simp [hk]

@[simp] theorem State.sendReport_keeps (hk : o.Keeps clock pins s) (g : List Byte) : o.Keeps clock pins (s.sendReport g) := by
  unfold State.sendReport
  simp [hk]

@[simp] theorem execMembershipReport_keeps (hk : o.Keeps false false s) (g : List Byte) :
    o.KeepsNext false false (execMembershipReport g s) := by
  unfold execMembershipReport
  split <;> simp [hk]

@[simp] theorem execMulticastQuery_keeps (hk : o.Keeps false false s) (p : Port) (group : Option (List Byte)) (_maxMs : Nat) :
    o.KeepsNext false false (execMulticastQuery p group _maxMs s) := by
  unfold execMulticastQuery
  simp [hk]

@[simp] theorem State.setIp_keeps (hk : o.Keeps clock pins s) (p : Port) (i : IpState) : o.Keeps clock pins (s.setIp p i) := by
  unfold State.setIp
  split <;> simp [hk]

@[simp] theorem State.dhcpSend_keeps (hk : o.Keeps false false s) (p : Port) (type : Nat) (ciaddr : Word) (opts : List Byte) :
    o.Keeps false false (s.dhcpSend p type ciaddr opts) := by
  unfold State.dhcpSend
  simp [hk]

@[simp] theorem State.dhcpBegin_keeps (hk : o.Keeps false false s) (p : Port) (i : IpState) :
    o.Keeps false false (s.dhcpBegin p i) := by
  unfold State.dhcpBegin
  simp [hk]

@[simp] theorem execDhcpv4_keeps (hk : o.Keeps false false s) (p : Port) (e : DhcpEvent) :
    o.KeepsNext false false (execDhcpv4 p e s) := by
  unfold execDhcpv4
  dsimp only
  repeat' split
  all_goals simp [hk]

/-! ### Operations of `Sys2Proof/Machine/Hpt.lean` -/

@[simp] theorem State.ownerTakes_keeps (hk : o.Keeps false false s) (i : Nat) (src : List Byte) :
    o.Keeps false false (s.ownerTakes i src) := by
  unfold State.ownerTakes
  simp [hk]

@[simp] theorem State.boundPass_keeps (hk : o.Keeps false false s) (i : Nat) (p : Port) :
    o.Keeps false false (s.boundPass i p).1 := by
  unfold State.boundPass
  dsimp only
  repeat' split
  all_goals simp [hk]

@[simp] theorem State.hptSource_keeps (hk : o.Keeps false false s) (i : Nat) (p : Port) (src : List Byte) (v1 : Bool) :
    o.Keeps false false (s.hptSource i p src v1).1 := by
  unfold State.hptSource
  split <;> simp [hk]

@[simp] theorem State.seeSeq_keeps (hk : o.Keeps false false s) (i q : Nat) : o.Keeps false false (s.seeSeq i q) := by
  unfold State.seeSeq
  dsimp only
  repeat' split
  · simp [hk]
  · simp [hk]
  · exact State.countN_keeps (by simp [hk]) _ _
  · exact State.countN_keeps (by simp [hk]) _ _

@[simp] theorem State.noteParity_keeps (hk : o.Keeps false false s) (i : Nat) (h : Hpt) (known : Option Part) :
    o.Keeps false false (s.noteParity i h known) := by
  unfold State.noteParity
  simp [hk]

@[simp] theorem State.hptWrite_keeps (hk : o.Keeps false false s) (i : Nat) (h : Hpt) (payload : List Byte) :
    o.Keeps false false (s.hptWrite i h payload).1 := by
  have hopen := State.openFrame_keeps hk i
  unfold State.hptWrite
  extract_lets ws q fresh
  split
  · split
    · simp [hk]
    · split
      next heq => exact State.keeps_of_fst (hopen _) heq
      next heq =>
        have hs1 := State.keeps_of_fst (hopen _) heq
        split <;> simp [hs1]
  · split <;> simp [hk]

@[simp] theorem State.hptAccepted_keeps (hk : o.Keeps false false s) (i : Nat) (p : Port) (src : List Byte) (version : Nat) :
    o.Keeps false false (s.hptAccepted i p src version) := by
  unfold State.hptAccepted
  simp [hk]

@[simp] theorem State.dropAccum_keeps (hk : o.Keeps false false s) (a : Accum) : o.Keeps false false (s.dropAccum a) := by
  unfold State.dropAccum
  simp [hk]

@[simp] theorem State.roomForAccum_keeps (hk : o.Keeps false false s) : o.Keeps false false (s.roomForAccum) := by
  unfold State.roomForAccum
  repeat' split
  · simp [hk]
  · exact State.raiseAt_keeps (by simp [hk]) _ _
  · simp [hk]

@[simp] theorem State.accumulate_keeps (hk : o.Keeps false false s) (i : Nat) (h : Hpt) (block : List Byte) :
    o.Keeps false false (s.accumulate i h block).1 := by
  unfold State.accumulate
  simp [hk]

@[simp] theorem State.recover_keeps (hk : o.Keeps false false s) (i : Nat) (p : Port) (src : List Byte) (a : Accum) :
    o.Keeps false false (s.recover i p src a) := by
  have hwrite := State.hptWrite_keeps hk i a.rebuilt.1 a.rebuilt.2
  unfold State.recover
  dsimp only
  split
  · simp [hk]
  · split
    next heq => simp [State.keeps_of_fst hwrite heq]
    next heq => exact State.hptAccepted_keeps (by simp [State.keeps_of_fst hwrite heq]) _ _ _ _

@[simp] theorem State.parityStep_keeps (hk : o.Keeps false false s) (i : Nat) (p : Port) (src : List Byte) (h : Hpt) (block : List Byte) :
    o.Keeps false false (s.parityStep i p src h block) := by
  have hacc := State.accumulate_keeps hk i h block
  unfold State.parityStep
  split
  next heq => simp [State.keeps_of_fst hacc heq]
  next heq => exact State.keeps_of_fst hacc heq

@[simp] theorem State.hptFinish_keeps (hk : o.Keeps false false s) (i : Nat) (p : Port) (src : List Byte) (h : Hpt) (d : List Byte) :
    o.Keeps false false (s.hptFinish i p src h d) := by
  have hwrite := State.hptWrite_keeps hk i h
  unfold State.hptFinish
  extract_lets payload
  split
  · simp [hk]
  · split
    · refine State.parityStep_keeps (State.hptAccepted_keeps (State.seeSeq_keeps ?_ _ _) _ _ _ _) _ _ _ _ _
      simp [hk]
    · split
      next heq => simp [State.keeps_of_fst (hwrite _) heq]
      next heq =>
        extract_lets s1 s2 s3
        have hs2 : o.Keeps false false s2 := by simp [s2, s1, State.keeps_of_fst (hwrite _) heq]
        have hs3 : o.Keeps false false s3 := by simp [s3, hs2]
        split <;> simp [hs3]

@[simp] theorem State.hptJudge_keeps (hk : o.Keeps false false s) (p : Port) (c : Carrier) (srcMac d : List Byte) :
    o.Keeps false false (s.hptJudge p c srcMac d) := by
  have hsource := State.hptSource_keeps hk
  unfold State.hptJudge
  dsimp only
  split
  · simp [hk]
  · split
    · simp [hk]
    · split
      next heq => simp [State.keeps_of_fst (hsource _ _ _ _) heq]
      next heq =>
        have hs1 := State.keeps_of_fst (hsource _ _ _ _) heq
        repeat' split
        case _ => simp [hs1]
        case _ => simp [hs1]
        case _ => simp [hs1]
        case _ => simp [hs1]
        case _ => exact State.hptFinish_keeps (State.raiseAt_keeps (by simp [hs1]) _ _) _ _ _ _ _
        all_goals simp [hs1]

@[simp] theorem execHptPacket_keeps (hk : o.Keeps false false s) (p : Port) (c : Carrier) (srcMac d : List Byte) :
    o.KeepsNext false false (execHptPacket p c srcMac d s) := by
  unfold execHptPacket
  repeat' split
  all_goals simp [hk]

@[simp] theorem execSourceFailover_keeps (hk : o.Keeps false false s) (i : Fin 64) :
    o.KeepsNext false false (execSourceFailover i s) := by
  unfold execSourceFailover
  simp [hk]

@[simp] theorem execStreamDown_keeps (hk : o.Keeps false false s) (i : Fin 64) :
    o.KeepsNext false false (execStreamDown i s) := by
  unfold execStreamDown
  simp [hk]

@[simp] theorem State.silenceTick_keeps (hk : o.Keeps clock pins s) : o.Keeps clock pins (s.silenceTick) := by
  unfold State.silenceTick
  simp [hk]

/-! ### Operations of `Sys2Proof/Machine/Sacn.lean` -/

@[simp] theorem State.setSources_keeps (hk : o.Keeps false false s) (u : Nat) (l : List SacnSource) :
    o.Keeps false false (s.setSources u l) := by
  unfold State.setSources
  simp [hk]

@[simp] theorem State.handDmx_keeps (hk : o.Keeps clock pins s) (u : Nat) : o.Keeps clock pins (s.handDmx u) := by
  unfold State.handDmx
  split <;> simp [hk]

@[simp] theorem State.rehandDmx_keeps (hk : o.Keeps clock pins s) (old : State) : o.Keeps clock pins (s.rehandDmx old) := by
  unfold State.rehandDmx
  simp [hk]

@[simp] theorem State.dropSource_keeps (hk : o.Keeps false false s) (u cid : Nat) : o.Keeps false false (s.dropSource u cid) :=
  State.handDmx_keeps (State.raise_keeps (State.count_keeps (State.setSources_keeps hk _ _) _) _) _

@[simp] theorem State.mergePacket_keeps (hk : o.Keeps false false s) (m : SacnMsg) (old : Option SacnSource) :
    o.Keeps false false (s.mergePacket m old) := by
  unfold State.mergePacket
  exact State.handDmx_keeps (by simp [hk]) _

@[simp] theorem State.hearSource_keeps (hk : o.Keeps false false s) (u cid : Nat) :
    o.Keeps false false (s.hearSource u cid) := by
  unfold State.hearSource
  simp [hk]

@[simp] theorem State.sacnJudge_keeps (hk : o.Keeps false false s) (m : SacnMsg) : o.Keeps false false (s.sacnJudge m) := by
  unfold State.sacnJudge
  dsimp only
  repeat' split
  all_goals simp [hk]

@[simp] theorem execSacnPacket_keeps (hk : o.Keeps false false s) (p : Port) (m : SacnMsg) :
    o.KeepsNext false false (execSacnPacket p m s) := by
  unfold execSacnPacket
  simp [hk]

@[simp] theorem execSacnSrcLost_keeps (hk : o.Keeps false false s) (u cid : Nat) :
    o.KeepsNext false false (execSacnSrcLost u cid s) := by
  unfold execSacnSrcLost
  split <;> simp [hk]

@[simp] theorem State.canvasFrame_keeps (hk : o.Keeps clock pins s) (next m : Nat) :
    o.Keeps clock pins (s.canvasFrame next m) := by
  have hopen := State.openFrame_keeps hk
  unfold State.canvasFrame
  extract_lets i c ws fresh
  split
  · split
    next heq => simp [State.keeps_of_fst (hopen _ _) heq]
    next heq =>
      have hs1 := State.keeps_of_fst (hopen _ _) heq
      split <;> simp [hs1]
  · split <;> simp [hk]

@[simp] theorem State.canvasFrames_keeps (hk : o.Keeps clock pins s) (next : Nat) :
    o.Keeps clock pins (s.canvasFrames next) := by
  unfold State.canvasFrames
  simp [hk]

/-! ### Operations of `Sys2Proof/Machine/Anvil.lean` -/

@[simp] theorem State.setTableMap_keeps (hk : o.Keeps clock pins s) (t : Nat) (m : SMap Nat) :
    o.Keeps clock pins (s.setTableMap t m) := by
  unfold State.setTableMap
  simp [hk]

@[simp] theorem State.endRender_keeps (hk : o.Keeps clock pins s) : o.Keeps clock pins (s.endRender) := by
  unfold State.endRender
  simp [hk]

@[simp] theorem State.lineRequests_keeps (hk : o.Keeps false false s) (n line slot : Nat) :
    o.Keeps false false (s.lineRequests n line slot) := by
  unfold State.lineRequests
  simp [hk]

@[simp] theorem execLineRender_keeps (hk : o.Keeps false false s) (_lane : Fin 2) :
    o.KeepsNext false false (execLineRender _lane s) := by
  unfold execLineRender
  dsimp only
  repeat' split
  · simp [hk]
  · simp [hk]
  · exact State.keepsNext_next.mpr (State.endRender_keeps (State.bellows_keeps (State.countN_keeps
      (State.countN_keeps (State.countN_keeps (State.countN_keeps (by simp [hk]) _ _) _ _) _ _) _ _) _))

/-! ### Operations of `Sys2Proof/Machine/Arbiter.lean` -/

@[simp] theorem State.starve_keeps (hk : o.Keeps false false s) (c k now since : Nat) :
    o.Keeps false false (s.starve c k now since) := by
  unfold State.starve
  simp [hk]

@[simp] theorem State.sentinel_keeps (hk : o.Keeps false false s) (c k : Nat) : o.Keeps false false (State.sentinel c s k) := by
  unfold State.sentinel
  dsimp only
  repeat' split
  all_goals simp [hk]

@[simp] theorem State.readAhead_keeps (hk : o.Keeps false false s) (c : Nat) : o.Keeps false false (s.readAhead c) := by
  unfold State.readAhead
  split <;> simp [hk]

@[simp] theorem State.settleArb_keeps (hk : o.Keeps false false s) (c : Nat) : o.Keeps false false (s.settleArb c) := by
  unfold State.settleArb
  simp [hk]

@[simp] theorem execBurstGrant_keeps (hk : o.Keeps false false s) (c : Fin 2) :
    o.KeepsNext false false (execBurstGrant c s) := by
  unfold execBurstGrant
  dsimp only
  repeat' split
  · simp [hk]
  · simp [hk]
  · simp [hk]
  · exact State.keepsNext_next.mpr (State.maxReg_keeps (State.settleArb_keeps (State.setChannelArb_keeps (by simp
      [hk]) _ _) _) _ _)

@[simp] theorem execTurnForecastReissue_keeps (hk : o.Keeps false false s) (c : Fin 2) (k : Fin 8) :
    o.KeepsNext false false (execTurnForecastReissue c k s) := by
  unfold execTurnForecastReissue
  dsimp only
  repeat' split
  all_goals simp [hk]

@[simp] theorem execStarveWarn_keeps (hk : o.Keeps false false s) (c : Fin 2) (k : Fin 8) :
    o.KeepsNext false false (execStarveWarn c k s) := by
  unfold execStarveWarn
  dsimp only
  repeat' split
  all_goals simp [hk]

@[simp] theorem State.writeArbRank_keeps (hk : o.Keeps clock pins s) (c v : Nat) : o.Keeps clock pins (s.writeArbRank c v) := by
  unfold State.writeArbRank
  simp [hk]

@[simp] theorem execArbRank_keeps (hk : o.Keeps false false s) (c : Fin 2) (v : Word) :
    o.KeepsNext false false (execArbRank c v s) := by
  unfold execArbRank
  simp [hk]

@[simp] theorem State.jArrive_keeps (hk : o.Keeps false false s) (e : JEntry) : o.Keeps false false (s.jArrive e) := by
  unfold State.jArrive
  simp [hk]

@[simp] theorem execJournalEntry_keeps (hk : o.Keeps false false s) (source : Fin 48) (kind : Fin 6) (code : BitVec 16) (payload : BitVec 64) :
    o.KeepsNext false false (execJournalEntry source kind code payload s) := by
  unfold execJournalEntry
  simp [hk]

@[simp] theorem execJournalSpill_keeps (hk : o.Keeps false false s) : o.KeepsNext false false (execJournalSpill s) := by
  unfold execJournalSpill
  exact State.keepsNext_of_ite (by simp [hk]) (State.keepsNext_next.mpr (State.issue_keeps (by simp [hk]) _))

/-- The kernel must not evaluate the waiting entries: `waiting` stands for them. -/
@[simp] theorem execJournalDatagram_keeps (hk : o.Keeps false false s) : o.KeepsNext false false (execJournalDatagram s) := by
  obtain ⟨waiting, hwaiting⟩ : ∃ w, w = s.streamWaiting.take s.dgramMax := ⟨_, rfl⟩
  unfold execJournalDatagram
  rw [← hwaiting]
  split
  · simp [hk]
  · dsimp only
    split
    · exact State.keepsNext_next.mpr (State.keeps_of_fields (State.count_keeps (State.sendOwn_keeps (by simp [hk]) _ _) _) rfl rfl rfl)
    · simp [hk]

@[simp] theorem State.journalMark_keeps (hk : o.Keeps false false s) (v : Nat) : o.Keeps false false (s.journalMark v) := by
  unfold State.journalMark
  simp [hk]

@[simp] theorem execJnlMark_keeps (hk : o.Keeps false false s) (v : Word) : o.KeepsNext false false (execJnlMark v s) := by
  unfold execJnlMark
  simp [hk]

@[simp] theorem State.readJnlNextHi_keeps (hk : o.Keeps false false s) : o.Keeps false false (s.readJnlNextHi).1 := by
  unfold State.readJnlNextHi
  simp [hk]

@[simp] theorem execJnlNextHi_keeps (hk : o.Keeps false false s) : o.KeepsNext false false (execJnlNextHi s) := by
  unfold execJnlNextHi
  simp [hk]

@[simp] theorem State.readJnlOldestHi_keeps (hk : o.Keeps false false s) : o.Keeps false false (s.readJnlOldestHi).1 := by
  unfold State.readJnlOldestHi
  simp [hk]

@[simp] theorem execJnlOldestHi_keeps (hk : o.Keeps false false s) : o.KeepsNext false false (execJnlOldestHi s) := by
  unfold execJnlOldestHi
  simp [hk]

/-! ### Operations of `Sys2Proof/Machine/Lamp.lean` -/

@[simp] theorem State.queueCfg_keeps (hk : o.Keeps clock pins s) (n : Nat) (l : CfgLine) :
    o.Keeps clock pins (s.queueCfg n l) := by
  unfold State.queueCfg
  simp [hk]

@[simp] theorem State.overDrivers_keeps (hk : o.Keeps clock pins s) (n : Nat) {f : State → Nat → Driver → State}
    (hf : ∀ (t : State) (i : Nat) (d : Driver), t.Keeps clock pins (f t i d)) : o.Keeps clock pins (s.overDrivers n f) := by
  unfold State.overDrivers
  suffices h : ∀ (l : List Driver) (a : State × Nat), o.Keeps clock pins a.1 →
      o.Keeps clock pins (l.foldl (fun (a : State × Nat) d => (f a.1 a.2 d, a.2 + 1)) a).1 from h _ _ hk
  intro l
  induction l with
  | nil => exact fun _ h => h
  | cons d l ih => exact fun a h => ih _ (State.Keeps.trans h (hf _ _ _))

@[simp] theorem State.overNsp_keeps (hk : o.Keeps clock pins s) {f : State → Nat → State} (hf : ∀ (t : State) (n : Nat), t.Keeps clock pins (f t n)) :
    o.Keeps clock pins (s.overNsp f) := by
  refine State.keeps_foldl (fun t n => ?_) hk _
  split
  · exact hf t n
  · exact State.keeps_refl t

@[simp] theorem State.setPlan_keeps (hk : o.Keeps clock pins s) : o.Keeps clock pins (s.setPlan) := by
  unfold State.setPlan
  exact State.keeps_of_ite (by simp [hk]) (State.overNsp_keeps (by simp [hk]) (by simp))

@[simp] theorem State.phaseRange_keeps (hk : o.Keeps clock pins s) (n h lambda : Nat) :
    o.Keeps clock pins (s.phaseRange n h lambda) := by
  unfold State.phaseRange
  simp [hk]

@[simp] theorem State.queueComp_keeps (hk : o.Keeps clock pins s) (n h lambda : Nat) :
    o.Keeps clock pins (s.queueComp n h lambda) := by
  unfold State.queueComp
  exact State.queueCfg_keeps (by simp [hk]) _ _

@[simp] theorem State.queueComps_keeps (hk : o.Keeps clock pins s) (n : Nat) : o.Keeps clock pins (s.queueComps n) := by
  unfold State.queueComps
  simp [hk]

@[simp] theorem State.noteWritten_keeps (hk : o.Keeps clock pins s) (n : Nat) : o.Keeps clock pins (s.noteWritten n) := by
  unfold State.noteWritten
  simp [hk]

@[simp] theorem State.queueWdt_keeps (hk : o.Keeps clock pins s) (n : Nat) : o.Keeps clock pins (s.queueWdt n) := by
  unfold State.queueWdt
  exact State.noteWritten_keeps (by simp [hk]) _

@[simp] theorem State.queueAnchor_keeps (hk : o.Keeps false false s) (n : Nat) : o.Keeps false false (s.queueAnchor n) := by
  unfold State.queueAnchor
  simp [hk]

@[simp] theorem State.latencySample_keeps (hk : o.Keeps false false s) (n h sample : Nat) :
    o.Keeps false false (s.latencySample n h sample) := by
  unfold State.latencySample
  dsimp only
  repeat' split
  · simp [hk]
  · simp [hk]
  · exact State.count_keeps (by simp [hk]) _
  · simp [hk]

@[simp] theorem State.senseResult_keeps (hk : o.Keeps false false s) (n h c result : Nat) :
    o.Keeps false false (s.senseResult n h c result) := by
  unfold State.senseResult
  simp [hk]

@[simp] theorem State.senseWords_keeps (hk : o.Keeps false false s) (n h : Nat) (d : Driver) (words : List Half) :
    o.Keeps false false (s.senseWords n h d words) := by
  unfold State.senseWords
  simp [hk]

@[simp] theorem State.applyFaults_keeps (hk : o.Keeps clock pins s) : o.Keeps clock pins (s.applyFaults) := by
  unfold State.applyFaults
  simp [hk]

@[simp] theorem State.clearFaults_keeps (hk : o.Keeps false false s) (v : Word) : o.Keeps false false (s.clearFaults v) := by
  unfold State.clearFaults
  simp [hk]

@[simp] theorem State.putZone_keeps (hk : o.Keeps false false s) (n h : Nat) (z : Zone) :
    o.Keeps false false (s.putZone n h z) := by
  unfold State.putZone
  simp [hk]

@[simp] theorem State.quenchStep_keeps (hk : o.Keeps false false s) : o.Keeps false false (s.quenchStep) := by
  unfold State.quenchStep
  simp [hk]

@[simp] theorem State.applyCurrents_keeps (hk : o.Keeps clock pins s) (key : Nat) (z : Zone) :
    o.Keeps clock pins (s.applyCurrents key z).1 := by
  unfold State.applyCurrents
  simp [hk]

@[simp] theorem State.applyZones_keeps (hk : o.Keeps clock pins s) : o.Keeps clock pins (s.applyZones) := by
  unfold State.applyZones
  exact State.keeps_foldl (fun t x => by simp) hk _

@[simp] theorem State.overtemp_keeps (hk : o.Keeps false false s) (n h : Nat) (status : Half) :
    o.Keeps false false (s.overtemp n h status) := by
  unfold State.overtemp
  simp [hk]

@[simp] theorem execDiodeMeasurement_keeps (hk : o.Keeps false false s) (k : Fin 4) (r : DiodeReading) :
    o.KeepsNext false false (execDiodeMeasurement k r s) := by
  unfold execDiodeMeasurement
  dsimp only
  repeat' split
  all_goals simp [hk]

@[simp] theorem State.zoneLost_keeps (hk : o.Keeps false false s) (n h : Nat) : o.Keeps false false (s.zoneLost n h) := by
  unfold State.zoneLost
  simp [hk]

@[simp] theorem execZoneTempLost_keeps (hk : o.Keeps false false s) (n : Fin 128) (h : Nat) :
    o.KeepsNext false false (execZoneTempLost n h s) := by
  unfold execZoneTempLost
  split
  · simp [hk]
  · exact State.keepsNext_of_ite (by simp [hk]) (State.keepsNext_next.mpr (State.raiseAt_keeps (by simp [hk]) _ _))

/-! ### Operations of `Sys2Proof/Machine/Strands.lean` -/

@[simp] theorem State.wire_keeps (hk : o.Keeps clock pins s) (n : Nat) (l : List StrandItem) :
    o.Keeps clock pins (s.wire n l) := by
  unfold State.wire
  simp [hk]

@[simp] theorem State.sendSof_keeps (hk : o.Keeps clock pins s) (n : Nat) : o.Keeps clock pins (s.sendSof n) := by
  unfold State.sendSof
  simp [hk]

@[simp] theorem State.sendSofs_keeps (hk : o.Keeps clock pins s) (n k : Nat) : o.Keeps clock pins (State.sendSofs n k s) := by
  induction k generalizing s with
  | zero => exact hk
  | succ k ih => exact ih (State.sendSof_keeps hk n)

@[simp] theorem State.openTrains_keeps (hk : o.Keeps false pins s) (n k : Nat) : o.Keeps false pins (s.openTrains n k) := by
  unfold State.openTrains
  simp [hk]

@[simp] theorem State.emptyTrains_keeps (hk : o.Keeps false pins s) (n : Nat) : o.Keeps false pins (s.emptyTrains n) := by
  unfold State.emptyTrains
  simp [hk]

@[simp] theorem State.slotsEnd_keeps (hk : o.Keeps false pins s) (n : Nat) : o.Keeps false pins (s.slotsEnd n) := by
  unfold State.slotsEnd
  simp [hk]

@[simp] theorem State.finishFrame_keeps (hk : o.Keeps false pins s) (n : Nat) : o.Keeps false pins (s.finishFrame n) := by
  unfold State.finishFrame
  exact State.keeps_of_ite (hk) (State.slotsEnd_keeps (State.raiseAt_keeps (State.countN_keeps (State.wire_keeps
    (State.setStrand_keeps (by simp [hk]) _ _) _ _) _ _) _ _) _)

@[simp] theorem State.lbMin_keeps (hk : o.Keeps false false s) (n : Nat) : o.Keeps false false (s.lbMin n) := by
  unfold State.lbMin
  simp [hk]

@[simp] theorem State.lineMatched_keeps (hk : o.Keeps false false s) (n i e : Nat) :
    o.Keeps false false (s.lineMatched n i e) := by
  unfold State.lineMatched
  simp [hk]

@[simp] theorem State.sendData_keeps (hk : o.Keeps false false s) (n : Nat) (words : List Half) :
    o.Keeps false false (s.sendData n words) := by
  unfold State.sendData
  exact State.finishFrame_keeps (State.bellows_keeps (State.lineMatched_keeps (State.lbMin_keeps (State.wire_keeps
    (State.setStrand_keeps (by simp [hk]) _ _) _ _) _) _ _ _) _) _

@[simp] theorem State.sendCfg_keeps (hk : o.Keeps false false s) (n : Nat) (l : CfgLine) (rest : List CfgLine) :
    o.Keeps false false (s.sendCfg n l rest) := by
  unfold State.sendCfg
  exact State.count_keeps (State.wire_keeps (State.setStrand_keeps (State.toBit_keeps (State.emptyTrains_keeps hk n) _ _) _ _) _ _) _

@[simp] theorem execDataLineSend_keeps (hk : o.Keeps false false s) (n : Fin 128) :
    o.KeepsNext false false (execDataLineSend n s) := by
  unfold execDataLineSend
  dsimp only
  repeat' split
  all_goals simp [hk]

@[simp] theorem State.breakLine_keeps (hk : o.Keeps false false s) (n : Nat) : o.Keeps false false (s.breakLine n) := by
  unfold State.breakLine
  exact State.wire_keeps (State.setStrand_keeps (by simp [hk]) _ _) _ _

@[simp] theorem execUnderrun_keeps (hk : o.Keeps false false s) (n : Fin 128) : o.KeepsNext false false (execUnderrun n s) := by
  unfold execUnderrun
  exact State.keepsNext_of_ite (by simp [hk]) (State.keepsNext_next.mpr (State.endRender_keeps
    (State.finishFrame_keeps (State.bellows_keeps (State.raiseWith_keeps (State.count_keeps (by simp [hk]) _) _ _ _)
    _) _)))

@[simp] theorem execSyn_keeps (hk : o.Keeps false false s) (n : Fin 128) : o.KeepsNext false false (execSyn n s) := by
  unfold execSyn
  dsimp only
  repeat' split
  · simp [hk]
  · exact State.keepsNext_next.mpr (State.wire_keeps (by simp [hk]) _ _)
  · simp [hk]

@[simp] theorem State.sendCfgs_keeps (hk : o.Keeps false false s) (n k : Nat) : o.Keeps false false (State.sendCfgs n k s) := by
  induction k generalizing s with
  | zero => exact hk
  | succ k ih =>
    unfold State.sendCfgs
    split
    · exact ih (State.sendCfg_keeps hk n _ _)
    · exact hk

@[simp] theorem execCommandFrame_keeps (hk : o.Keeps false false s) (n : Fin 128) :
    o.KeepsNext false false (execCommandFrame n s) := by
  unfold execCommandFrame
  exact State.keepsNext_of_ite (by simp [hk]) (State.keepsNext_next.mpr (State.finishFrame_keeps
    (State.sendCfgs_keeps (by simp [hk]) _ _) _))

@[simp] theorem State.completeDriver_keeps (hk : o.Keeps clock pins s) (n id status : Nat) (payload : List Byte) :
    o.Keeps clock pins (s.completeDriver n id status payload) := by
  unfold State.completeDriver
  simp [hk]

@[simp] theorem State.dropCommands_keeps (hk : o.Keeps false false s) (n status : Nat) :
    o.Keeps false false (s.dropCommands n status) := by
  unfold State.dropCommands
  simp [hk]

@[simp] theorem State.dropSlots_keeps (hk : o.Keeps false false s) (n : Nat) (l : List RetSlot) :
    o.Keeps false false (s.dropSlots n l) := by
  unfold State.dropSlots
  simp [hk]

@[simp] theorem State.haltStrand_keeps (hk : o.Keeps false false s) (n : Nat) : o.Keeps false false (s.haltStrand n) := by
  unfold State.haltStrand
  refine State.keeps_foldl (fun t x => ?_) (by simp [hk]) _
  split <;> simp

/-- One turn of `startSlot`. `start` stands for `s.slotStart n r`, which the kernel must not try to evaluate: it holds sums with
numerals of 10^9. -/
theorem State.startSlot_step_keeps (hs : o.Keeps false false s) (n : Nat) (r : RetSlot) (rest : List RetSlot)
    {go : List.below (motive := fun _ => State → State) (r :: rest)} (hgo : ∀ u : State, o.Keeps false false u → o.Keeps false false (go.1 u)) :
    o.Keeps false false (State.startSlot._f n (r :: rest) go s) := by
  obtain ⟨start, hstart⟩ : ∃ f, f = s.slotStart n r := ⟨_, rfl⟩
  dsimp -zeta only [State.startSlot._f]
  rw [← hstart]
  extract_lets t
  split
  · exact hgo _ (by simp [hs])
  · split
    · exact hgo _ (by simp [hs])
    · extract_lets s1 s2 s3
      have h3 : o.Keeps false false s3 := State.wire_keeps (State.setStrand_keeps (State.toBit_keeps hs _ _) _ _) _ _
      simp [h3]

@[simp] theorem State.startSlot_keeps (hk : o.Keeps false false s) (n : Nat) (l : List RetSlot) :
    o.Keeps false false (State.startSlot n l s) := by
  delta State.startSlot
  induction l generalizing s with
  | nil => exact State.slotsEnd_keeps (State.setStrand_keeps hk _ _) _
  | cons r rest ih =>
    dsimp only
    exact State.startSlot_step_keeps hk n r rest fun u hu => ih hu

@[simp] theorem State.nextSlot_keeps (hk : o.Keeps false false s) (n : Nat) : o.Keeps false false (s.nextSlot n) := by
  unfold State.nextSlot
  simp [hk]

@[simp] theorem State.slotFailed_keeps (hk : o.Keeps clock pins s) (n : Nat) (r : RetSlot) :
    o.Keeps clock pins (s.slotFailed n r) := by
  unfold State.slotFailed
  dsimp only
  repeat' split
  · simp [hk]
  · exact State.completeDriver_keeps (by simp [hk]) _ _ _ _
  all_goals simp [hk]

@[simp] theorem State.applyStatus_keeps (hk : o.Keeps false false s) (n : Nat) (slot : RetSlot) (r : ReplyIn) :
    o.Keeps false false (s.applyStatus n slot r) := by
  unfold State.applyStatus
  dsimp only
  repeat' split
  · exact State.senseWords_keeps (State.latencySample_keeps (by simp [hk]) _ _ _) _ _ _ _
  · exact State.senseWords_keeps (State.latencySample_keeps (by simp [hk]) _ _ _) _ _ _ _
  · exact State.latencySample_keeps (by simp [hk]) _ _ _
  · exact State.latencySample_keeps (by simp [hk]) _ _ _
  · simp [hk]

@[simp] theorem State.slotReply_keeps (hk : o.Keeps false false s) (n : Nat) (slot : RetSlot) (r : ReplyIn) :
    o.Keeps false false (s.slotReply n slot r) := by
  unfold State.slotReply
  extract_lets t head len s1 t1 t2 s2 s3 s4
  have h1 : o.Keeps false false s1 := by simp [s1, hk]
  have h2 : o.Keeps false false s2 := by simp [s2, hk]
  have h3 : o.Keeps false false s3 := by simp [s3, h2]
  have h4 : o.Keeps false false s4 := by simp [s4, h3]
  refine State.keeps_of_ite (State.slotsEnd_keeps ?_ _) (State.slotsEnd_keeps h4 _)
  simp [h1]

@[simp] theorem State.slotTimeout_keeps (hk : o.Keeps false false s) (n : Nat) (slot : RetSlot) :
    o.Keeps false false (s.slotTimeout n slot) := by
  unfold State.slotTimeout
  exact State.slotsEnd_keeps (State.slotFailed_keeps (State.count_keeps (by simp [hk]) _) _ _) _

@[simp] theorem execBusSense_keeps (hk : o.Keeps false false s) (n : Fin 128) (inSwapWindow : Bool) :
    o.KeepsNext false false (execBusSense n inSwapWindow s) := by
  unfold execBusSense
  simp [hk]

@[simp] theorem State.subSwap_keeps (hk : o.Keeps false false s) (j n : Nat) : o.Keeps false false (s.subSwap j n) := by
  unfold State.subSwap
  dsimp only
  repeat' split
  all_goals simp [hk]

@[simp] theorem execSubTick_keeps (hk : o.Keeps false false s) (j : Fin 4) : o.KeepsNext false false (execSubTick j s) := by
  unfold execSubTick
  simp [hk]

@[simp] theorem execLegacyFrame_keeps (hk : o.Keeps false false s) (n : Fin 128) :
    o.KeepsNext false false (execLegacyFrame n s) := by
  unfold execLegacyFrame
  exact State.keepsNext_of_ite (by simp [hk]) (State.keepsNext_of_ite (State.keepsNext_next.mpr (State.wire_keeps (by
    simp [hk]) _ _)) (State.keepsNext_next.mpr (State.count_keeps (by simp [hk]) _)))

@[simp] theorem execDmxFrame_keeps (hk : o.Keeps false false s) (p : Fin 64) : o.KeepsNext false false (execDmxFrame p s) := by
  unfold execDmxFrame
  simp [hk]

@[simp] theorem execRdmTransaction_keeps (hk : o.Keeps false false s) (p : Fin 64) :
    o.KeepsNext false false (execRdmTransaction p s) := by
  unfold execRdmTransaction
  dsimp only
  repeat' split
  all_goals simp [hk]

@[simp] theorem execRdmResponse_keeps (hk : o.Keeps false false s) (p : Fin 64) (brk : Bool) (m : RdmIn) :
    o.KeepsNext false false (execRdmResponse p brk m s) := by
  unfold execRdmResponse
  dsimp only
  repeat' split
  · simp [hk]
  · exact State.keepsNext_next.mpr (State.completeWaiting_keeps (by simp [hk]) _)
  · simp [hk]

@[simp] theorem State.tickSwap_keeps (hk : o.Keeps clock pins s) (n : Nat) : o.Keeps clock pins (s.tickSwap n) := by
  unfold State.tickSwap
  exact State.keeps_of_ite (by simp [hk]) (State.keeps_of_ite (State.count_keeps (by simp [hk]) _) (State.count_keeps
    (by simp [hk]) _))

@[simp] theorem State.senseTick_keeps (hk : o.Keeps clock pins s) (n : Nat) : o.Keeps clock pins (s.senseTick n) := by
  unfold State.senseTick
  simp [hk]

@[simp] theorem State.overrunTick_keeps (hk : o.Keeps clock pins s) : o.Keeps clock pins (s.overrunTick) := by
  unfold State.overrunTick
  exact State.keeps_of_ite (hk) (State.keeps_of_ite (by simp [hk]) (State.raise_keeps (by simp [hk]) _))

@[simp] theorem State.closeSlots_keeps (hk : o.Keeps clock pins s) (n : Nat) : o.Keeps clock pins (s.closeSlots n) := by
  unfold State.closeSlots
  split <;> simp [hk]

@[simp] theorem State.closeFrame_keeps (hk : o.Keeps false pins s) (n : Nat) : o.Keeps false pins (s.closeFrame n) := by
  unfold State.closeFrame
  simp [hk]

@[simp] theorem State.openFrameOn_keeps (hk : o.Keeps clock pins s) (n next : Nat) :
    o.Keeps clock pins (s.openFrameOn n next) := by
  unfold State.openFrameOn
  exact State.bellows_keeps (State.setStrand_keeps (by simp [hk]) _ _) _

@[simp] theorem State.startRender_keeps (hk : o.Keeps clock pins s) (next : Nat) : o.Keeps clock pins (s.startRender next) := by
  unfold State.startRender
  simp [hk]

/-! ### Operations of `Sys2Proof/Machine/Pair.lean` -/

@[simp] theorem State.sendHeartbeat_keeps (hk : o.Keeps clock pins s) (type tick reason : Nat) (p : Port) :
    o.Keeps clock pins (s.sendHeartbeat type tick reason p) := by
  unfold State.sendHeartbeat
  simp [hk]

@[simp] theorem State.sendHeartbeats_keeps (hk : o.Keeps clock pins s) (type tick reason : Nat) :
    o.Keeps clock pins (s.sendHeartbeats type tick reason) := by
  unfold State.sendHeartbeats
  simp [hk]

@[simp] theorem State.sendRelease_keeps (hk : o.Keeps clock pins s) (reason : Nat) :
    o.Keeps clock pins (s.sendRelease reason) := by
  unfold State.sendRelease
  simp [hk]

@[simp] theorem State.releaseOwnIl_keeps (hk : o.Keeps clock pins s) : o.Keeps clock pins (s.releaseOwnIl) := by
  unfold State.releaseOwnIl
  simp [hk]

@[simp] theorem State.becomeRole_keeps (hk : o.Keeps clock pins s) (r : Role) : o.Keeps clock pins (s.becomeRole r) := by
  unfold State.becomeRole
  simp [hk]

@[simp] theorem State.setStale_keeps (hk : o.Keeps clock pins s) : o.Keeps clock pins (s.setStale) := by
  unfold State.setStale
  simp [hk]

@[simp] theorem State.busConflict_keeps (hk : o.Keeps clock pins s) : o.Keeps clock pins (s.busConflict) := by
  unfold State.busConflict
  exact State.setStale_keeps (State.becomeRole_keeps (by simp [hk]) _)

@[simp] theorem State.electWith_keeps (hk : o.Keeps false false s) (peerRole : Role) (peerStrap : Bool) :
    o.Keeps false false (s.electWith peerRole peerStrap) := by
  unfold State.electWith
  dsimp only
  repeat' split
  all_goals simp [hk]

@[simp] theorem execLinkHelloSend_keeps (hk : o.Keeps false false s) : o.KeepsNext false false (execLinkHelloSend s) := by
  unfold execLinkHelloSend
  simp [hk]

@[simp] theorem State.hearHello_keeps (hk : o.Keeps false false s) (h : HelloFrame) : o.Keeps false false (s.hearHello h) := by
  unfold State.hearHello
  simp [hk]

@[simp] theorem execLinkHello_keeps (hk : o.Keeps false false s) (h : HelloFrame) :
    o.KeepsNext false false (execLinkHello h s) := by
  unfold execLinkHello
  simp [hk]

@[simp] theorem execElectWait_keeps (hk : o.Keeps false false s) : o.KeepsNext false false (execElectWait s) := by
  unfold execElectWait
  simp [hk]

@[simp] theorem State.hearBeat_keeps (hk : o.Keeps false false s) : o.Keeps false false (s.hearBeat) := by
  unfold State.hearBeat
  simp [hk]

@[simp] theorem State.renewed_keeps (hk : o.Keeps false false s) (serial : Option Nat) (expiry : Nat) :
    o.Keeps false false (s.renewed serial expiry) := by
  unfold State.renewed
  simp [hk]

@[simp] theorem execRenew_keeps (hk : o.Keeps false false s) (byHeartbeat : Bool) (serial expiry : Nat) :
    o.KeepsNext false false (execRenew byHeartbeat serial expiry s) := by
  unfold execRenew
  simp [hk]

@[simp] theorem State.released_keeps (hk : o.Keeps clock pins s) (reason : Nat) : o.Keeps clock pins (s.released reason) := by
  unfold State.released
  simp [hk]

@[simp] theorem execRelease_keeps (hk : o.Keeps false false s) (byHeartbeat : Bool) (serial _lastTick : Nat) (reason : Fin 4) :
    o.KeepsNext false false (execRelease byHeartbeat serial _lastTick reason s) := by
  unfold execRelease
  simp [hk]

@[simp] theorem State.ownIlConflict_keeps (hk : o.Keeps clock pins s) : o.Keeps clock pins (s.ownIlConflict) := by
  unfold State.ownIlConflict
  exact State.becomeRole_keeps (State.raise_keeps (by simp [hk]) _) _

@[simp] theorem State.pullOwnIl_keeps (hk : o.Keeps clock pins s) : o.Keeps clock pins (s.pullOwnIl) := by
  unfold State.pullOwnIl
  simp [hk]

@[simp] theorem execOwnIl_keeps (hk : o.Keeps false false s) (level : Bool) : o.KeepsNext false false (execOwnIl level s) := by
  unfold execOwnIl
  simp [hk]

/-! ### Operations of `Sys2Proof/Machine/Links.lean` -/

@[simp] theorem State.marginLow_keeps (hk : o.Keeps clock pins s) (target value floor : Nat) :
    o.Keeps clock pins (s.marginLow target value floor) := by
  unfold State.marginLow
  simp [hk]

@[simp] theorem State.class1_keeps (hk : o.Keeps false false s) (i : Nat) : o.Keeps false false (s.class1 i) := by
  unfold State.class1
  simp [hk]

@[simp] theorem State.portUp_keeps (hk : o.Keeps false false s) (p : Port) (speed : Nat) :
    o.Keeps false false (s.portUp p speed) := by
  unfold State.portUp
  exact State.keeps_of_ite (hk) (State.keeps_of_ite (State.raiseAt_keeps (State.raiseAt_keeps (State.class1_keeps
    (State.setRegN_keeps (by simp [hk]) _ _) _) _ _) _ _) (State.raiseAt_keeps (State.class1_keeps
    (State.setRegN_keeps (by simp [hk]) _ _) _) _ _))

@[simp] theorem State.domainLeaves_keeps (hk : o.Keeps clock pins s) (p : Port) (second : Bool) :
    o.Keeps clock pins (s.domainLeaves p second) := by
  unfold State.domainLeaves
  repeat' split
  all_goals simp [hk]

@[simp] theorem State.unbindPort_keeps (hk : o.Keeps clock pins s) (p : Port) : o.Keeps clock pins (s.unbindPort p) := by
  unfold State.unbindPort
  simp [hk]

@[simp] theorem State.portDown_keeps (hk : o.Keeps clock pins s) (p : Port) : o.Keeps clock pins (s.portDown p) := by
  unfold State.portDown
  exact State.keeps_of_ite (by simp [hk]) (State.domainLeaves_keeps (State.domainLeaves_keeps (State.unbindPort_keeps
    (State.count_keeps (State.raiseAt_keeps (by simp [hk]) _ _) _) _) _ _) _ _)

@[simp] theorem State.mirrorIsUp_keeps (hk : o.Keeps false false s) : o.Keeps false false (s.mirrorIsUp) := by
  unfold State.mirrorIsUp
  simp [hk]

@[simp] theorem State.askResync_keeps (hk : o.Keeps false false s) : o.Keeps false false (s.askResync) := by
  unfold State.askResync
  simp [hk]

@[simp] theorem State.mirrorLinkUp_keeps (hk : o.Keeps false false s) : o.Keeps false false (s.mirrorLinkUp) := by
  unfold State.mirrorLinkUp
  exact State.keeps_of_ite (hk) (State.keeps_of_ite (State.askResync_keeps (by simp [hk])) (by simp [hk]))

@[simp] theorem State.breakRecord_keeps (hk : o.Keeps false false s) : o.Keeps false false (s.breakRecord) := by
  unfold State.breakRecord
  simp [hk]

@[simp] theorem State.mirrorLinkDown_keeps (hk : o.Keeps false false s) : o.Keeps false false (s.mirrorLinkDown) := by
  unfold State.mirrorLinkDown
  exact State.keeps_of_ite (hk) (State.keeps_of_ite (State.setStale_keeps (by simp [hk])) (by simp [hk]))

@[simp] theorem execLinkUp_keeps (hk : o.Keeps false false s) (l : Link) (speed : Nat) :
    o.KeepsNext false false (execLinkUp l speed s) := by
  unfold execLinkUp
  split <;> simp [hk]

@[simp] theorem execLinkDown_keeps (hk : o.Keeps false false s) (l : Link) : o.KeepsNext false false (execLinkDown l s) := by
  unfold execLinkDown
  split <;> simp [hk]

@[simp] theorem State.restartSearch_keeps (hk : o.Keeps clock pins s) (p : Port) : o.Keeps clock pins (s.restartSearch p) := by
  unfold State.restartSearch
  simp [hk]

/-! ### Operations of `Sys2Proof/Machine/Mailbox.lean` -/

@[simp] theorem State.forgetInactive_keeps (hk : o.Keeps clock pins s) : o.Keeps clock pins (s.forgetInactive) := by
  unfold State.forgetInactive
  simp [hk]

@[simp] theorem State.discardStaged_keeps (hk : o.Keeps clock pins s) (scope : Nat) :
    o.Keeps clock pins (s.discardStaged scope) := by
  unfold State.discardStaged
  split <;> simp [hk]

@[simp] theorem State.closeSession_keeps (hk : o.Keeps clock pins s) (x : Session) : o.Keeps clock pins (s.closeSession x) := by
  unfold State.closeSession
  simp [hk]

@[simp] theorem State.serviceGone_keeps (hk : o.Keeps false false s) (rights : Nat) :
    o.Keeps false false (s.serviceGone rights) := by
  unfold State.serviceGone
  simp [hk]

@[simp] theorem State.setEndpoints_keeps (hk : o.Keeps false false s) (ch : Chan) (l : List Client) :
    o.Keeps false false (s.setEndpoints ch l) := by
  unfold State.setEndpoints
  split <;> simp [hk]

@[simp] theorem State.admits_keeps (hk : o.Keeps false false s) (r : Request) : o.Keeps false false (s.admits r).1 := by
  unfold State.admits
  split
  · exact hk
  · exact hk
  · extract_lets l w s1 fresh
    have h1 : o.Keeps false false s1 := hk
    split
    · simp [h1]
    · split
      · simp [h1]
      · split
        · exact State.raise_keeps (State.serviceGone_keeps (State.setEndpoints_keeps h1 _ _) _) _
        · simp [h1]

@[simp] theorem State.sendBusy_keeps (hk : o.Keeps false false s) (op : Nat) (r : Request) :
    o.Keeps false false (s.sendBusy op r) := by
  unfold State.sendBusy
  simp [hk]

@[simp] theorem State.answer_keeps (hk : o.Keeps clock pins s) (op : Nat) (r : Request) (rep : Reply) :
    o.Keeps clock pins (s.answer op r rep) := by
  unfold State.answer
  split <;> simp [hk]

@[simp] theorem State.defer_keeps (hk : o.Keeps false false s) (op : Nat) (r : Request) :
    o.Keeps false false (s.defer op r) := by
  unfold State.defer
  dsimp only
  repeat' split
  · exact State.answer_keeps (by simp [hk]) _ _ _
  · simp [hk]
  · exact State.answer_keeps (by simp [hk]) _ _ _
  · simp [hk]

@[simp] theorem State.takeAborted_keeps (hk : o.Keeps false false s) (r : Request) :
    o.Keeps false false (s.takeAborted r).1 := by
  unfold State.takeAborted
  split <;> simp [hk]

@[simp] theorem State.sendRequest_keeps (hk : o.Keeps false false s) (op : Nat) (flags : BitVec 16) (payload : List Byte) :
    o.Keeps false false (s.sendRequest op flags payload) := by
  unfold State.sendRequest
  simp [hk]

@[simp] theorem State.forward_keeps (hk : o.Keeps false false s) (op : Nat) (r : Request) (rep : Reply) :
    o.Keeps false false (s.forward op r rep) := by
  unfold State.forward
  simp [hk]

@[simp] theorem State.execute_keeps (hk : o.Keeps false false s) (op : Nat) (r : Request) {body : Body}
    (hb : ∀ (s : State) (r : Request), s.Keeps false false (body s r).1) : o.Keeps false false (s.execute op r body) := by
  have habort : o.Keeps false false (s.takeAborted r).1 := by simp [hk]
  unfold State.execute
  split
  · simp [hk]
  · split
    · split <;> simp [hk]
    · dsimp only
      split
      · simp [habort]
      · simp [habort.trans (hb _ _)]

@[simp] theorem State.popSubmitted_keeps (hk : o.Keeps false false s) (op : Nat) (r : Request) :
    o.Keeps false false (s.popSubmitted op r) := by
  unfold State.popSubmitted
  split <;> simp [hk]

@[simp] theorem State.fillSlot_keeps (hk : o.Keeps false false s) (op : Nat) (r : Request) :
    o.Keeps false false (s.fillSlot op r) := by
  unfold State.fillSlot
  simp [hk]

@[simp] theorem State.takeSlot_keeps (hk : o.Keeps false false s) (op : Nat) (r : Request) :
    o.Keeps false false (s.takeSlot op r) := by
  unfold State.takeSlot
  simp [hk]

@[simp] theorem State.helloSlots_keeps (hk : o.Keeps false false s) (r : Request) : o.Keeps false false (s.helloSlots r) := by
  unfold State.helloSlots
  simp [hk]

@[simp] theorem State.sequence_keeps (hk : o.Keeps false false s) (op : Nat) (r : Request) {body : Body}
    (hb : ∀ (s : State) (r : Request), s.Keeps false false (body s r).1) : o.Keeps false false (s.sequence op r body) := by
  unfold State.sequence
  dsimp only
  split
  · simp [hk]
  · split
    · simp [hk]
    · split
      · simp [hk]
      · exact State.execute_keeps (State.takeSlot_keeps hk _ _) _ _ hb

@[simp] theorem bodyRowless_keeps (hk : o.Keeps false false s) (r : Request) : o.Keeps false false (bodyRowless s r).1 := by
  unfold bodyRowless
  simp [hk]

@[simp] theorem State.drainRowless_keeps (hk : o.Keeps false false s) (fuel : Nat) :
    o.Keeps false false (s.drainRowless fuel) := by
  induction fuel generalizing s with
  | zero => exact hk
  | succ n ih =>
    unfold State.drainRowless
    split
    · split
      · refine ih (State.sequence_keeps ?_ _ _ fun s _ => State.keeps_refl s)
        exact hk
      · exact hk
    · exact hk

@[simp] theorem State.afterRequest_keeps (hk : o.Keeps false false s) (ch : Chan) :
    o.Keeps false false (s.afterRequest ch) := by
  unfold State.afterRequest
  simp [hk]

@[simp] theorem State.mailbox_keeps (hk : o.Keeps false false s) (op : Nat) (r : Request) {body : Body}
    (hb : ∀ (s : State) (r : Request), s.Keeps false false (body s r).1) : o.Keeps false false (s.mailbox op r body) := by
  have hadm : o.Keeps false false ((s.popSubmitted op r).admits r).1 := by simp [hk]
  unfold State.mailbox
  dsimp only
  repeat' split
  case _ => exact hk
  case _ => exact hk
  case _ => simp [hk]
  case _ => exact hadm
  all_goals exact State.afterRequest_keeps (State.sequence_keeps (by simp [hadm]) _ _ hb) _

@[simp] theorem State.ackSlot_keeps (hk : o.Keeps false false s) (r : Request) : o.Keeps false false (s.ackSlot r) := by
  unfold State.ackSlot
  dsimp only
  repeat' split
  all_goals simp [hk]

@[simp] theorem execResponseAck_keeps (hk : o.Keeps false false s) (r : Request) :
    o.KeepsNext false false (execResponseAck r s) := by
  unfold execResponseAck
  exact State.keepsNext_of_ite (by simp [hk]) (State.keepsNext_of_ite (by simp [hk]) (State.keepsNext_of_ite (by simp
    [hk]) (State.keepsNext_next.mpr (State.afterRequest_keeps (State.restartLease_keeps (State.keeps_of_ite
    (State.ackSlot_keeps (by simp [hk]) _) (by simp [hk])) _) _))))

@[simp] theorem State.abandonSubmitted_keeps (hk : o.Keeps false false s) (st : Nat) (q : List Byte) :
    o.Keeps false false (s.abandonSubmitted st q) := by
  unfold State.abandonSubmitted
  simp [hk]

@[simp] theorem State.cancelSubmitted_keeps (hk : o.Keeps false false s) (handle : Nat) :
    o.Keeps false false (s.cancelSubmitted handle) := by
  unfold State.cancelSubmitted
  simp [hk]

@[simp] theorem State.cpRestarted_keeps (hk : o.Keeps false false s) : o.Keeps false false s.cpRestarted := by
  unfold State.cpRestarted
  extract_lets q clear w1 s1 s2 s3 s4 marked w2
  have h2 : o.Keeps false false s2 := by simp [s2, s1, hk]
  have h3 : o.Keeps false false s3 := State.keeps_foldl (fun t x => by simp) h2 _
  have h4 : o.Keeps false false s4 := State.keeps_foldl (fun t x => by simp) h3 _
  simp [h4]

/-! ### Operations of `Sys2Proof/Machine/Sched.lean` -/

@[simp] theorem State.fatalFault_keeps (hk : o.Keeps false false s) (src code payload : Nat) :
    o.Keeps false false (s.fatalFault src code payload) := by
  unfold State.fatalFault
  extract_lets w1 s1 w2 s2 w3 w4 w5 s3 s4
  have h1 : o.Keeps false false s1 := by simp [s1, hk]
  have h2 : o.Keeps false false s2 := by simp [s2, h1]
  have h4 : o.Keeps false false s4 := by simp [s4, s3, h2]
  refine State.keeps_of_ite hk (State.keeps_of_ite hk ?_)
  exact State.keeps_foldl (fun t x => by simp) h4 _

@[simp] theorem State.nextOrder_keeps (hk : o.Keeps clock pins s) : o.Keeps clock pins (s.nextOrder) := by
  unfold State.nextOrder
  simp [hk]

@[simp] theorem State.makeReady_keeps (hk : o.Keeps false false s) (n : Nat) : o.Keeps false false (s.makeReady n) := by
  unfold State.makeReady
  simp [hk]

@[simp] theorem State.endTask_keeps (hk : o.Keeps false false s) (n result : Nat) :
    o.Keeps false false (s.endTask n result) := by
  unfold State.endTask
  simp [hk]

@[simp] theorem execTaskSubmit_keeps (hk : o.Keeps false false s) (e : Fin 20) (prio : Fin 8) (targets : List (Fin 21)) (flow : Option (Fin 256)) (wait : TaskWait) :
    o.KeepsNext false false (execTaskSubmit e prio targets flow wait s) := by
  unfold execTaskSubmit
  dsimp only
  repeat' split
  · simp [hk]
  · simp [hk]
  · simp [hk]
  · exact State.keepsNext_next.mpr (State.makeReady_keeps (by simp [hk]) _)
  · simp [hk]

@[simp] theorem execTaskReady_keeps (hk : o.Keeps false false s) (n : Fin 512) :
    o.KeepsNext false false (execTaskReady n s) := by
  unfold execTaskReady
  dsimp only
  repeat' split
  all_goals simp [hk]

@[simp] theorem State.dispatch_keeps (hk : o.Keeps false false s) (e n : Nat) : o.Keeps false false (s.dispatch e n) := by
  unfold State.dispatch
  simp [hk]

@[simp] theorem State.giveTask_keeps (hk : o.Keeps false false s) (e : Nat) : o.Keeps false false (s.giveTask e) := by
  unfold State.giveTask
  split <;> simp [hk]

@[simp] theorem State.idleEngine_keeps (hk : o.Keeps false false s) (e : Nat) : o.Keeps false false (s.idleEngine e) := by
  unfold State.idleEngine
  simp [hk]

@[simp] theorem execTaskDispatch_keeps (hk : o.Keeps false false s) (e : Fin 21) :
    o.KeepsNext false false (execTaskDispatch e s) := by
  unfold execTaskDispatch
  dsimp only
  repeat' split
  · simp [hk]
  · simp [hk]
  · exact State.keepsNext_next.mpr (State.giveTask_keeps (State.idleEngine_keeps (by simp [hk]) _) _)
  · exact State.keepsNext_next.mpr (State.dispatch_keeps (by simp [hk]) _ _)
  all_goals simp [hk]

@[simp] theorem execTaskDone_keeps (hk : o.Keeps false false s) (e : Fin 21) : o.KeepsNext false false (execTaskDone e s) := by
  unfold execTaskDone
  split <;> simp [hk]

@[simp] theorem State.cancelTask_keeps (hk : o.Keeps false false s) (n : Nat) : o.Keeps false false (s.cancelTask n) := by
  unfold State.cancelTask
  dsimp only
  repeat' split
  all_goals simp [hk]

@[simp] theorem execTaskCancel_keeps (hk : o.Keeps false false s) (v : Word) :
    o.KeepsNext false false (execTaskCancel v s) := by
  unfold execTaskCancel
  simp [hk]

@[simp] theorem execCompletionRecordRead_keeps (hk : o.Keeps false false s) (n : Fin 512) :
    o.KeepsNext false false (execCompletionRecordRead n s) := by
  unfold execCompletionRecordRead
  simp [hk]

@[simp] theorem State.tickTask_keeps (hk : o.Keeps clock pins s) (k : Nat × Nat × Nat) : o.Keeps clock pins (s.tickTask k) := by
  unfold State.tickTask
  simp [hk]

@[simp] theorem State.tickTasks_keeps (hk : o.Keeps clock pins s) : o.Keeps clock pins s.tickTasks :=
  State.nextOrder_keeps (State.keeps_foldl (fun t x => State.tickTask_keeps (State.keeps_refl t) x) hk _)

@[simp] theorem State.keepShadow_keeps (hk : o.Keeps false false s) (n : Nat) (c : Option Shadow) :
    o.Keeps false false (s.keepShadow n c) := by
  unfold State.keepShadow
  simp [hk]

@[simp] theorem State.restoreStructure_keeps (hk : o.Keeps false false s) (n : Nat) (x : Shadow) :
    o.Keeps false false (s.restoreStructure n x) := by
  unfold State.restoreStructure
  split
  · simp [hk]
  · split
    · exact State.keeps_foldl (fun t id => by simp) hk _
    · split
      · exact State.keeps_foldl (fun t id => by simp) hk _
      · simp [hk]

@[simp] theorem State.restoreShadow_keeps (hk : o.Keeps false false s) (n : Nat) : o.Keeps false false (s.restoreShadow n) := by
  unfold State.restoreShadow
  split <;> simp [hk]

@[simp] theorem State.grantLock_keeps (hk : o.Keeps false false s) (n e : Nat) (ws : List Nat) :
    o.Keeps false false (s.grantLock n e ws) := by
  unfold State.grantLock
  simp [hk]

@[simp] theorem State.passLock_keeps (hk : o.Keeps false false s) (n : Nat) : o.Keeps false false (s.passLock n) := by
  unfold State.passLock
  split <;> simp [hk]

@[simp] theorem State.releaseLocks_keeps (hk : o.Keeps false false s) (e : Nat) : o.Keeps false false (s.releaseLocks e) := by
  unfold State.releaseLocks
  exact State.keeps_foldl (fun t x => by simp) (by simp [hk]) _

@[simp] theorem State.returnTask_keeps (hk : o.Keeps false false s) (n : Nat) (faulted : Bool) :
    o.Keeps false false (s.returnTask n faulted) := by
  unfold State.returnTask
  simp [hk]

@[simp] theorem State.returnTasks_keeps (hk : o.Keeps false false s) (e : Nat) : o.Keeps false false (s.returnTasks e) := by
  unfold State.returnTasks
  split <;> simp [hk]

@[simp] theorem State.returnFrames_keeps (hk : o.Keeps false false s) (e : Nat) : o.Keeps false false (s.returnFrames e) := by
  unfold State.returnFrames
  split <;> simp [hk]

@[simp] theorem State.countFault_keeps (hk : o.Keeps false false s) (e : Nat) : o.Keeps false false (s.countFault e) := by
  unfold State.countFault
  simp [hk]

@[simp] theorem State.engineAway_keeps (hk : o.Keeps false false s) (e : Nat) : o.Keeps false false (s.engineAway e) := by
  unfold State.engineAway
  exact State.keeps_of_ite (by simp [hk]) (State.keeps_foldl (fun t x => by simp) (hk) _)

@[simp] theorem State.engineFault_keeps (hk : o.Keeps false false s) (e : Nat) (cause : FaultCause) (pc lock : Nat) :
    o.Keeps false false (s.engineFault e cause pc lock) := by
  unfold State.engineFault
  split
  · exact hk
  · extract_lets g payload again s1 w s2 s3
    have h1 : o.Keeps false false s1 := State.countFault_keeps (by simp [hk]) _
    have h2 : o.Keeps false false s2 := by simp [s2, h1]
    have h3 : o.Keeps false false s3 := State.setEngine_keeps (State.returnFrames_keeps (by simp [h2]) _) _ _
    split
    · exact State.fatalFault_keeps (State.setEngine_keeps h3 _ _) _ _ _
    · exact State.engineAway_keeps h3 _

@[simp] theorem State.freePc_keeps (hk : o.Keeps false false s) : o.Keeps false false (s.freePc).1 := by
  unfold State.freePc
  simp [hk]

@[simp] theorem execEngineFault_keeps (hk : o.Keeps false false s) (e : Fin 20) (cause : FaultCause) (pc : Word) :
    o.KeepsNext false false (execEngineFault e cause pc s) := by
  unfold execEngineFault
  simp [hk]

@[simp] theorem execTaskWdt_keeps (hk : o.Keeps false false s) (e : Fin 20) : o.KeepsNext false false (execTaskWdt e s) := by
  unfold execTaskWdt
  exact State.keepsNext_of_ite (State.keepsNext_next.mpr (State.engineFault_keeps (by simp [hk]) _ _ _ _)) (by simp
    [hk])

@[simp] theorem execEngineRestarted_keeps (hk : o.Keeps false false s) (e : Fin 20) :
    o.KeepsNext false false (execEngineRestarted e s) := by
  unfold execEngineRestarted
  exact State.keepsNext_of_ite (by simp [hk]) (State.keepsNext_of_ite (State.keepsNext_next.mpr
    (State.cpRestarted_keeps (State.raise_keeps (by simp [hk]) _))) (State.keepsNext_next.mpr (State.keeps_foldl (fun
    t x => by simp) (State.raise_keeps (by simp [hk]) _) _)))

@[simp] theorem execLockAcquire_keeps (hk : o.Keeps false false s) (e : Fin 20) (n : Fin 64) (tryOnly : Bool) :
    o.KeepsNext false false (execLockAcquire e n tryOnly s) := by
  unfold execLockAcquire
  dsimp only
  repeat' split
  all_goals simp [hk]

@[simp] theorem execLockRelease_keeps (hk : o.Keeps false false s) (e : Fin 20) (n : Fin 64) :
    o.KeepsNext false false (execLockRelease e n s) := by
  unfold execLockRelease
  simp [hk]

@[simp] theorem execLockHold_keeps (hk : o.Keeps false false s) (n : Fin 64) : o.KeepsNext false false (execLockHold n s) := by
  unfold execLockHold
  split
  · exact State.keepsNext_of_ite (by simp [hk]) (State.keepsNext_next.mpr (State.engineFault_keeps (by simp [hk]) _ _
      _ _))
  · simp [hk]

@[simp] theorem execSessionExpired_keeps (hk : o.Keeps false false s) (scope : Fin 5) :
    o.KeepsNext false false (execSessionExpired scope s) := by
  unfold execSessionExpired
  split
  · simp [hk]
  · exact State.keepsNext_of_ite (by simp [hk]) (State.keepsNext_next.mpr (State.raiseWith_keeps (State.keeps_of_ite
      (State.afterRequest_keeps (State.cancelSubmitted_keeps (by simp [hk]) _) _) (by simp [hk])) _ _ _))

/-! ### Operations of `Sys2Proof/Machine/Apply.lean` -/

@[simp] theorem State.setField_keeps (hk : o.Keeps clock pins s) (a hi lo v : Nat) :
    o.Keeps clock pins (s.setField a hi lo v) := by
  unfold State.setField
  simp [hk]

@[simp] theorem State.setPortField_keeps (hk : o.Keeps clock pins s) (a : Nat → Nat) (sv : Bool) (hi lo v : Nat) :
    o.Keeps clock pins (s.setPortField a sv hi lo v) := by
  unfold State.setPortField
  exact State.keeps_of_ite (State.setField_keeps (by simp [hk]) _ _ _ _) (by simp [hk])

@[simp] theorem State.loadParamReg_keeps (hk : o.Keeps clock pins s) (id : Nat) : o.Keeps clock pins (s.loadParamReg id) := by
  unfold State.loadParamReg
  split <;> simp [hk]

@[simp] theorem State.loadParamRegs_keeps (hk : o.Keeps false false s) : o.Keeps false false (s.loadParamRegs) := by
  unfold State.loadParamRegs
  simp [hk]

@[simp] theorem State.loadFilters_keeps (hk : o.Keeps clock pins s) (p : Port) (l : List (Nat × Bool)) :
    o.Keeps clock pins (s.loadFilters p l) := by
  unfold State.loadFilters
  refine State.keeps_foldl (fun t x => ?_) (by simp [hk]) _
  split <;> simp

@[simp] theorem State.reportTwice_keeps (hk : o.Keeps clock pins s) (changed : List (List Byte)) :
    o.Keeps clock pins (s.reportTwice changed) := by
  unfold State.reportTwice
  simp [hk]

@[simp] theorem State.syncGroups_keeps (hk : o.Keeps clock pins s) (old : State) : o.Keeps clock pins (s.syncGroups old) := by
  unfold State.syncGroups
  exact State.keeps_foldl (fun t x => by simp) (State.loadFilters_keeps (State.loadFilters_keeps (by simp [hk]) _ _)
    _ _) _

@[simp] theorem State.reloadIp_keeps (hk : o.Keeps clock pins s) (sv : Bool) : o.Keeps clock pins (s.reloadIp sv) := by
  unfold State.reloadIp
  simp [hk]

@[simp] theorem State.retrain_keeps (hk : o.Keeps clock pins s) (p : Port) : o.Keeps clock pins (s.retrain p) := by
  unfold State.retrain
  simp [hk]

@[simp] theorem State.renumber_keeps (hk : o.Keeps clock pins s) (second : Bool) : o.Keeps clock pins (s.renumber second) := by
  unfold State.renumber
  simp [hk]

@[simp] theorem State.closeChannel_keeps (hk : o.Keeps clock pins s) (ch : Chan) : o.Keeps clock pins (s.closeChannel ch) := by
  unfold State.closeChannel
  simp [hk]

@[simp] theorem State.dropUniverses_keeps (hk : o.Keeps clock pins s) : o.Keeps clock pins (s.dropUniverses) := by
  unfold State.dropUniverses
  simp [hk]

@[simp] theorem State.brighten_keeps (hk : o.Keeps clock pins s) : o.Keeps clock pins (s.brighten) := by
  unfold State.brighten
  simp [hk]

@[simp] theorem State.strandChanged_keeps (hk : o.Keeps clock pins s) (old : State) (n : Nat) :
    o.Keeps clock pins (State.strandChanged old s n) := by
  unfold State.strandChanged
  simp [hk]

@[simp] theorem State.rebaseCopies_keeps (hk : o.Keeps clock pins s) (old : State) (t : Nat) :
    o.Keeps clock pins (s.rebaseCopies old t) := by
  unfold State.rebaseCopies
  simp [hk]

@[simp] theorem State.tableParams_keeps (hk : o.Keeps clock pins s) : o.Keeps clock pins (s.tableParams) := by
  unfold State.tableParams
  simp [hk]

@[simp] theorem State.regenerate_keeps (hk : o.Keeps clock pins s) (t : Nat) : o.Keeps clock pins (s.regenerate t) := by
  unfold State.regenerate
  exact State.raise_keeps (State.setTableMap_keeps (by simp [hk]) _ _) _

@[simp] theorem State.commitEffects_keeps (hk : o.Keeps clock pins s) (old : State) (recs : List (Nat × List Byte)) :
    o.Keeps clock pins (s.commitEffects old recs) := by
  unfold State.commitEffects
  extract_lets ch s1 s2 s3 s4 s5 s6 s7 s8 s9 s10 s11 s12 s13 s14 s15 s16 s17 s18 s19 s20 s21 j s22 w
  have h1 : o.Keeps clock pins s1 := State.keeps_foldl (fun t x => by simp) hk _
  have h2 : o.Keeps clock pins s2 := by simp [s2, h1]
  have h3 : o.Keeps clock pins s3 := by simp [s3, h2]
  have h4 : o.Keeps clock pins s4 := by simp [s4, h3]
  have h5 : o.Keeps clock pins s5 := by simp [s5, h4]
  have h6 : o.Keeps clock pins s6 := by simp [s6, h5]
  have h7 : o.Keeps clock pins s7 := by simp [s7, h6]
  have h8 : o.Keeps clock pins s8 := by simp [s8, h7]
  have h9 : o.Keeps clock pins s9 := by simp [s9, h8]
  have h10 : o.Keeps clock pins s10 := by simp [s10, h9]
  have h11 : o.Keeps clock pins s11 := by simp [s11, h10]
  have h12 : o.Keeps clock pins s12 := State.keeps_foldl (fun t x => State.startAfresh_keeps (State.keeps_refl t) x) h11 _
  have h13 : o.Keeps clock pins s13 := by simp [s13, h12]
  have h14 : o.Keeps clock pins s14 := by simp [s14, h13]
  have h15 : o.Keeps clock pins s15 := by simp [s15, h14]
  have h16 : o.Keeps clock pins s16 := by simp [s16, h15]
  have h17 : o.Keeps clock pins s17 := by simp [s17, h16]
  have h18 : o.Keeps clock pins s18 := by simp [s18, h17]
  have h19 : o.Keeps clock pins s19 := by simp [s19, h18]
  have h20 : o.Keeps clock pins s20 := by simp [s20, h19]
  have h21 : o.Keeps clock pins s21 := by simp [s21, h20]
  have h22 : o.Keeps clock pins s22 := by simp [s22, h21]
  simp [h22]

@[simp] theorem State.bypassRests_keeps (hk : o.Keeps clock pins s) : o.Keeps clock pins (s.bypassRests) := by
  unfold State.bypassRests
  simp [hk]

@[simp] theorem State.applyCommit_keeps (hk : o.Keeps clock pins s) (recs : List (Nat × List Byte)) :
    o.Keeps clock pins (s.applyCommit recs) := by
  unfold State.applyCommit
  exact State.keeps_of_ite (State.keeps_of_fields (State.commitEffects_keeps (State.bypassRests_keeps (by simp [hk]))
    _ _) rfl rfl rfl) (State.commitEffects_keeps (State.bypassRests_keeps (by simp [hk])) _ _)

@[simp] theorem State.abortBankStore_keeps (hk : o.Keeps clock pins s) : o.Keeps clock pins (s.abortBankStore) := by
  unfold State.abortBankStore
  simp [hk]

@[simp] theorem State.switchMap_keeps (hk : o.Keeps clock pins s) (n : Nat) : o.Keeps clock pins (s.switchMap n) := by
  unfold State.switchMap
  split <;> simp [hk]

@[simp] theorem State.putTable_keeps (hk : o.Keeps clock pins s) (id : Nat) (m : SMap Nat) :
    o.Keeps clock pins (s.putTable id m) := by
  unfold State.putTable
  simp [hk]

@[simp] theorem State.switchTable_keeps (hk : o.Keeps clock pins s) (id : Nat) : o.Keeps clock pins (s.switchTable id) := by
  unfold State.switchTable
  split <;> simp [hk]

@[simp] theorem State.switchPlane_keeps (hk : o.Keeps clock pins s) (crc : Nat) : o.Keeps clock pins (s.switchPlane crc) := by
  unfold State.switchPlane
  simp [hk]

@[simp] theorem State.applyLayer_keeps (hk : o.Keeps clock pins s) (r : LayerReq) : o.Keeps clock pins (s.applyLayer r) := by
  unfold State.applyLayer
  simp [hk]

@[simp] theorem State.applyMark_keeps (hk : o.Keeps clock pins s) (r : MarkReq) : o.Keeps clock pins (s.applyMark r) := by
  unfold State.applyMark
  simp [hk]

@[simp] theorem State.applyRewind_keeps (hk : o.Keeps clock pins s) (i : Nat) : o.Keeps clock pins (s.applyRewind i) := by
  unfold State.applyRewind
  simp [hk]

@[simp] theorem State.applyChange_keeps (hk : o.Keeps clock pins s) (c : Change) : o.Keeps clock pins (s.applyChange c) := by
  unfold State.applyChange
  split <;> simp [hk]

@[simp] theorem State.journalCommit_keeps (hk : o.Keeps clock pins s) (id : Nat) (c : Change) :
    o.Keeps clock pins (s.journalCommit id c) := by
  unfold State.journalCommit
  split <;> simp [hk]

@[simp] theorem State.applyStaged_keeps (hk : o.Keeps clock pins s) (g : Staged) : o.Keeps clock pins (s.applyStaged g) := by
  unfold State.applyStaged
  refine State.keeps_foldl (fun t x => ?_) (by simp [hk]) _
  split <;> simp

@[simp] theorem State.applyRecorded_keeps (hk : o.Keeps clock pins s) : o.Keeps clock pins (s.applyRecorded) := by
  unfold State.applyRecorded
  simp [hk]

@[simp] theorem State.releaseBuffers_keeps (hk : o.Keeps clock pins s) : o.Keeps clock pins (s.releaseBuffers) := by
  unfold State.releaseBuffers
  simp [hk]

/-! ### Operations of `Sys2Proof/Machine/Store.lean` -/

@[simp] theorem State.completeFirst_keeps (hk : o.Keeps false false s) (f : Wait → Bool) (status : Nat) (payload : List Byte) :
    o.Keeps false false (s.completeFirst f status payload) := by
  unfold State.completeFirst
  split <;> simp [hk]

@[simp] theorem State.dueReset_keeps (hk : o.Keeps false false s) (cause : Nat) : o.Keeps false false (s.dueReset cause) := by
  unfold State.dueReset
  simp [hk]

@[simp] theorem bodyStore_keeps (hk : o.Keeps false false s) (r : Request) : o.Keeps false false (bodyStore s r).1 := by
  unfold bodyStore
  simp [hk]

@[simp] theorem execStore_keeps (hk : o.Keeps false false s) (r : Request) : o.KeepsNext false false (execStore r s) := by
  unfold execStore
  simp [hk]

@[simp] theorem execStoreComplete_keeps (hk : o.Keeps false false s) : o.KeepsNext false false (execStoreComplete s) := by
  unfold execStoreComplete
  split <;> simp [hk]

@[simp] theorem bodyFactoryReset_keeps (hk : o.Keeps false false s) (r : Request) :
    o.Keeps false false (bodyFactoryReset s r).1 := by
  unfold bodyFactoryReset
  simp [hk]

@[simp] theorem execFactoryReset_keeps (hk : o.Keeps false false s) (r : Request) :
    o.KeepsNext false false (execFactoryReset r s) := by
  unfold execFactoryReset
  simp [hk]

@[simp] theorem State.writeCheckpoint_keeps (hk : o.Keeps false false s) (m : Manifest) :
    o.Keeps false false (s.writeCheckpoint m) := by
  unfold State.writeCheckpoint
  simp [hk]

@[simp] theorem State.eraseCheckpoint_keeps (hk : o.Keeps false false s) : o.Keeps false false (s.eraseCheckpoint) := by
  unfold State.eraseCheckpoint
  simp [hk]

@[simp] theorem bodyUpdOpen_keeps (hk : o.Keeps false false s) (r : Request) : o.Keeps false false (bodyUpdOpen s r).1 := by
  unfold bodyUpdOpen
  dsimp only
  repeat' split
  all_goals simp [hk]

@[simp] theorem execUpdOpen_keeps (hk : o.Keeps false false s) (r : Request) : o.KeepsNext false false (execUpdOpen r s) := by
  unfold execUpdOpen
  simp [hk]

@[simp] theorem State.dropRecord_keeps (hk : o.Keeps false false s) (start : Nat) :
    o.Keeps false false (s.dropRecord start) := by
  unfold State.dropRecord
  simp [hk]

@[simp] theorem State.takeBytes_keeps (hk : o.Keeps false false s) (m : Manifest) (fuel : Nat) :
    o.Keeps false false (State.takeBytes m fuel s).1 := by
  induction fuel generalizing s with
  | zero => exact hk
  | succ fuel ih =>
    unfold State.takeBytes
    dsimp only
    split
    · exact hk
    · split
      · simp [hk]
      · split
        · simp [hk]
        · split
          · exact hk
          · split
            · simp [hk]
            · refine ih ?_
              simp [hk]

@[simp] theorem bodyUpdBlock_keeps (hk : o.Keeps false false s) (r : Request) : o.Keeps false false (bodyUpdBlock s r).1 := by
  unfold bodyUpdBlock
  split <;> simp [hk]

@[simp] theorem execUpdBlock_keeps (hk : o.Keeps false false s) (r : Request) : o.KeepsNext false false (execUpdBlock r s) := by
  unfold execUpdBlock
  simp [hk]

@[simp] theorem bodyUpdFinish_keeps (hk : o.Keeps false false s) (r : Request) : o.Keeps false false (bodyUpdFinish s r).1 := by
  unfold bodyUpdFinish
  split <;> simp [hk]

@[simp] theorem execUpdFinish_keeps (hk : o.Keeps false false s) (r : Request) :
    o.KeepsNext false false (execUpdFinish r s) := by
  unfold execUpdFinish
  simp [hk]

@[simp] theorem execVerifyComplete_keeps (hk : o.Keeps false false s) : o.KeepsNext false false (execVerifyComplete s) := by
  unfold execVerifyComplete
  split <;> simp [hk]

@[simp] theorem bodyUpdActivate_keeps (hk : o.Keeps false false s) (r : Request) :
    o.Keeps false false (bodyUpdActivate s r).1 := by
  unfold bodyUpdActivate
  simp [hk]

@[simp] theorem execUpdActivate_keeps (hk : o.Keeps false false s) (r : Request) :
    o.KeepsNext false false (execUpdActivate r s) := by
  unfold execUpdActivate
  simp [hk]

@[simp] theorem State.confirm_keeps (hk : o.Keeps false false s) : o.Keeps false false (s.confirm) := by
  unfold State.confirm
  simp [hk]

@[simp] theorem bodyUpdConfirm_keeps (hk : o.Keeps false false s) (r : Request) :
    o.Keeps false false (bodyUpdConfirm s r).1 := by
  unfold bodyUpdConfirm
  simp [hk]

@[simp] theorem execUpdConfirm_keeps (hk : o.Keeps false false s) (r : Request) :
    o.KeepsNext false false (execUpdConfirm r s) := by
  unfold execUpdConfirm
  simp [hk]

@[simp] theorem execAutoConfirm_keeps (hk : o.Keeps false false s) : o.KeepsNext false false (execAutoConfirm s) := by
  unfold execAutoConfirm
  simp [hk]

@[simp] theorem bodyUpdStatus_keeps (hk : o.Keeps false false s) (r : Request) : o.Keeps false false (bodyUpdStatus s r).1 := by
  unfold bodyUpdStatus
  simp [hk]

@[simp] theorem execUpdStatus_keeps (hk : o.Keeps false false s) (r : Request) :
    o.KeepsNext false false (execUpdStatus r s) := by
  unfold execUpdStatus
  simp [hk]

@[simp] theorem bodyBank_keeps (hk : o.Keeps false false s) (r : Request) : o.Keeps false false (bodyBank s r).1 := by
  unfold bodyBank
  simp [hk]

@[simp] theorem execBank_keeps (hk : o.Keeps false false s) (r : Request) : o.KeepsNext false false (execBank r s) := by
  unfold execBank
  simp [hk]

@[simp] theorem execBankStoreComplete_keeps (hk : o.Keeps false false s) :
    o.KeepsNext false false (execBankStoreComplete s) := by
  unfold execBankStoreComplete
  split <;> simp [hk]

@[simp] theorem bodySafe_keeps (hk : o.Keeps false false s) (r : Request) : o.Keeps false false (bodySafe s r).1 := by
  unfold bodySafe
  simp [hk]

@[simp] theorem bodyEmergency_keeps (hk : o.Keeps false false s) (r : Request) : o.Keeps false false (bodyEmergency s r).1 := by
  unfold bodyEmergency
  simp [hk]

@[simp] theorem execSafe_keeps (hk : o.Keeps false false s) (r : Request) : o.KeepsNext false false (execSafe r s) := by
  unfold execSafe
  simp [hk]

@[simp] theorem execEmergency_keeps (hk : o.Keeps false false s) (r : Request) :
    o.KeepsNext false false (execEmergency r s) := by
  unfold execEmergency
  simp [hk]

@[simp] theorem bodyLibSave_keeps (hk : o.Keeps false false s) (r : Request) : o.Keeps false false (bodyLibSave s r).1 := by
  unfold bodyLibSave
  split <;> simp [hk]

@[simp] theorem execLibSave_keeps (hk : o.Keeps false false s) (r : Request) : o.KeepsNext false false (execLibSave r s) := by
  unfold execLibSave
  simp [hk]

@[simp] theorem bodyLibLoad_keeps (hk : o.Keeps false false s) (r : Request) : o.Keeps false false (bodyLibLoad s r).1 := by
  unfold bodyLibLoad
  dsimp only
  repeat' split
  all_goals simp [hk]

@[simp] theorem execLibLoad_keeps (hk : o.Keeps false false s) (r : Request) : o.KeepsNext false false (execLibLoad r s) := by
  unfold execLibLoad
  simp [hk]

@[simp] theorem State.finishImage_keeps (hk : o.Keeps false false s) (op e : Nat) (b : Buffer) :
    o.Keeps false false (s.finishImage op e b).1 := by
  unfold State.finishImage
  dsimp only
  repeat' split
  all_goals simp [hk]

@[simp] theorem execImageWriteComplete_keeps (hk : o.Keeps false false s) :
    o.KeepsNext false false (execImageWriteComplete s) := by
  unfold execImageWriteComplete
  dsimp only
  repeat' split
  all_goals simp [hk]

@[simp] theorem execCalCopyDone_keeps (hk : o.Keeps false false s) : o.KeepsNext false false (execCalCopyDone s) := by
  unfold execCalCopyDone
  simp [hk]

/-! ### Operations of `Sys2Proof/Machine/Access.lean` -/

@[simp] theorem State.randomBytes_keeps (hk : o.Keeps false false s) (n : Nat) : o.Keeps false false (s.randomBytes n).1 := by
  unfold State.randomBytes
  simp [hk]

@[simp] theorem State.setLevel_keeps (hk : o.Keeps false false s) (l : Nat) : o.Keeps false false (s.setLevel l) := by
  unfold State.setLevel
  simp [hk]

@[simp] theorem bodySetKey_keeps (hk : o.Keeps false false s) (r : Request) : o.Keeps false false (bodySetKey s r).1 := by
  unfold bodySetKey
  simp [hk]

@[simp] theorem bodySetPassword_keeps (hk : o.Keeps false false s) (r : Request) :
    o.Keeps false false (bodySetPassword s r).1 := by
  unfold bodySetPassword
  simp [hk]

@[simp] theorem bodyPlainKey_keeps (hk : o.Keeps false false s) (ok : Nat → Bool) {effect : State → State}
    (he : ∀ t : State, t.Keeps false false (effect t)) (r : Request) : o.Keeps false false (bodyPlainKey ok effect s r).1 := by
  unfold bodyPlainKey
  simp [hk, hk.trans (he s)]

@[simp] theorem bodyClearPassword_keeps (hk : o.Keeps false false s) (r : Request) :
    o.Keeps false false (bodyClearPassword s r).1 := by
  unfold bodyClearPassword
  simp [hk]

@[simp] theorem bodySealLevel_keeps (hk : o.Keeps false false s) (r : Request) : o.Keeps false false (bodySealLevel s r).1 := by
  unfold bodySealLevel
  simp [hk]

@[simp] theorem bodyUnsealLevel_keeps (hk : o.Keeps false false s) (r : Request) :
    o.Keeps false false (bodyUnsealLevel s r).1 := by
  unfold bodyUnsealLevel
  simp [hk]

@[simp] theorem bodyPermitDownload_keeps (hk : o.Keeps false false s) (r : Request) :
    o.Keeps false false (bodyPermitDownload s r).1 := by
  unfold bodyPermitDownload
  simp [hk]

@[simp] theorem execSetKey_keeps (hk : o.Keeps false false s) (r : Request) : o.KeepsNext false false (execSetKey r s) := by
  unfold execSetKey
  simp [hk]

@[simp] theorem execSetPassword_keeps (hk : o.Keeps false false s) (r : Request) :
    o.KeepsNext false false (execSetPassword r s) := by
  unfold execSetPassword
  simp [hk]

@[simp] theorem execClearPassword_keeps (hk : o.Keeps false false s) (r : Request) :
    o.KeepsNext false false (execClearPassword r s) := by
  unfold execClearPassword
  simp [hk]

@[simp] theorem execSealLevel_keeps (hk : o.Keeps false false s) (r : Request) :
    o.KeepsNext false false (execSealLevel r s) := by
  unfold execSealLevel
  simp [hk]

@[simp] theorem execUnsealLevel_keeps (hk : o.Keeps false false s) (r : Request) :
    o.KeepsNext false false (execUnsealLevel r s) := by
  unfold execUnsealLevel
  simp [hk]

@[simp] theorem execPermitDownload_keeps (hk : o.Keeps false false s) (r : Request) :
    o.KeepsNext false false (execPermitDownload r s) := by
  unfold execPermitDownload
  simp [hk]

@[simp] theorem State.startLockout_keeps (hk : o.Keeps false false s) : o.Keeps false false (s.startLockout) := by
  unfold State.startLockout
  simp [hk]

@[simp] theorem State.unlockFailed_keeps (hk : o.Keeps false false s) : o.Keeps false false (s.unlockFailed) := by
  unfold State.unlockFailed
  exact State.startLockout_keeps (by simp [hk])

@[simp] theorem State.setRights_keeps (hk : o.Keeps false false s) (ch : Chan) (ep : Endpoint) (rights until_ : Nat) :
    o.Keeps false false (s.setRights ch ep rights until_) := by
  unfold State.setRights
  simp [hk]

@[simp] theorem State.unlocks_keeps (hk : o.Keeps false false s) (r : Request) : o.Keeps false false (s.unlocks r).1 := by
  unfold State.unlocks
  extract_lets rights minutes w s1 s2
  have h1 : o.Keeps false false s1 := by simp [s1, hk]
  have h2 : o.Keeps false false s2 := by simp [s2, h1]
  simp [h2]

@[simp] theorem State.unlockRefused_keeps (hk : o.Keeps false false s) : o.Keeps false false (s.unlockRefused).1 := by
  unfold State.unlockRefused
  simp [hk]

@[simp] theorem bodyUnlockChallenge_keeps (hk : o.Keeps false false s) (r : Request) :
    o.Keeps false false (bodyUnlockChallenge s r).1 := by
  unfold bodyUnlockChallenge
  simp [hk]

/-- The kernel must not evaluate `s.validNonce`, which holds a sum with a numeral of 10^10: `nonce` stands for it. -/
@[simp] theorem bodyUnlockResponse_keeps (hk : o.Keeps false false s) (r : Request) :
    o.Keeps false false (bodyUnlockResponse s r).1 := by
  obtain ⟨nonce, hnonce⟩ : ∃ x, x = s.validNonce := ⟨_, rfl⟩
  unfold bodyUnlockResponse
  rw [← hnonce]
  split
  · simp [hk]
  · split
    · simp [hk]
    · split
      · simp [hk]
      · dsimp only
        split <;> simp [hk]

@[simp] theorem bodyUnlockPassword_keeps (hk : o.Keeps false false s) (r : Request) :
    o.Keeps false false (bodyUnlockPassword s r).1 := by
  unfold bodyUnlockPassword
  simp [hk]

@[simp] theorem State.relockAll_keeps (hk : o.Keeps false false s) : o.Keeps false false (s.relockAll) := by
  unfold State.relockAll
  exact State.keeps_foldl (fun t x => by simp) (by simp [hk]) _

@[simp] theorem bodyRelock_keeps (hk : o.Keeps false false s) (r : Request) : o.Keeps false false (bodyRelock s r).1 := by
  unfold bodyRelock
  simp [hk]

@[simp] theorem execUnlockChallenge_keeps (hk : o.Keeps false false s) (r : Request) :
    o.KeepsNext false false (execUnlockChallenge r s) := by
  unfold execUnlockChallenge
  simp [hk]

@[simp] theorem execUnlockResponse_keeps (hk : o.Keeps false false s) (r : Request) :
    o.KeepsNext false false (execUnlockResponse r s) := by
  unfold execUnlockResponse
  simp [hk]

@[simp] theorem execUnlockPassword_keeps (hk : o.Keeps false false s) (r : Request) :
    o.KeepsNext false false (execUnlockPassword r s) := by
  unfold execUnlockPassword
  simp [hk]

@[simp] theorem execRelock_keeps (hk : o.Keeps false false s) (r : Request) : o.KeepsNext false false (execRelock r s) := by
  unfold execRelock
  simp [hk]

@[simp] theorem execUnlockExpired_keeps (hk : o.Keeps false false s) (ch : Chan) (ep : Endpoint) :
    o.KeepsNext false false (execUnlockExpired ch ep s) := by
  unfold execUnlockExpired
  simp [hk]

@[simp] theorem execLockoutEnd_keeps (hk : o.Keeps false false s) : o.KeepsNext false false (execLockoutEnd s) := by
  unfold execLockoutEnd
  simp [hk]

@[simp] theorem execNonceExpiry_keeps (hk : o.Keeps false false s) : o.KeepsNext false false (execNonceExpiry s) := by
  unfold execNonceExpiry
  simp [hk]

/-! ### Operations of `Sys2Proof/Machine/Env.lean` -/

@[simp] theorem State.dieWarnStep_keeps (hk : o.Keeps false false s) (t : Int) : o.Keeps false false (s.dieWarnStep t) := by
  unfold State.dieWarnStep
  simp [hk]

@[simp] theorem State.trimDue_keeps (hk : o.Keeps false false s) (t : Int) : o.Keeps false false (s.trimDue t) := by
  unfold State.trimDue
  simp [hk]

@[simp] theorem execDieTemp_keeps (hk : o.Keeps false false s) (t : Int) : o.KeepsNext false false (execDieTemp t s) := by
  unfold execDieTemp
  exact State.keepsNext_of_ite (by simp [hk]) (State.keepsNext_of_ite (State.keepsNext_next.mpr
    (State.fatalFault_keeps (State.raise_keeps (by simp [hk]) _) _ _ _)) (by simp [hk]))

@[simp] theorem State.releaseBank_keeps (hk : o.Keeps false false s) (b : Nat) : o.Keeps false false (s.releaseBank b) := by
  refine State.keeps_foldl (fun t n => ?_) hk _
  split
  · exact State.setStrand_keeps (State.dropCommands_keeps (by simp) _ _) _ _
  · simp

@[simp] theorem State.bankFault_keeps (hk : o.Keeps false false s) (b mv : Nat) : o.Keeps false false (s.bankFault b mv) := by
  unfold State.bankFault
  exact State.emit_keeps (by simp [hk]) _ _ _ _

@[simp] theorem execVddioSample_keeps (hk : o.Keeps false false s) (bank : Fin 8) (mv : Nat) :
    o.KeepsNext false false (execVddioSample bank mv s) := by
  unfold execVddioSample
  simp [hk]

@[simp] theorem execFaultClear_keeps (hk : o.Keeps false false s) (v : Word) :
    o.KeepsNext false false (execFaultClear v s) := by
  unfold execFaultClear
  simp [hk]

/-! ### Operations of `Sys2Proof/Machine/Redund.lean` -/

@[simp] theorem State.sendChunks_keeps (hk : o.Keeps false false s) (r : TickRecord) :
    o.Keeps false false (s.sendChunks r) := by
  unfold State.sendChunks
  simp [hk]

@[simp] theorem State.startRecord_keeps (hk : o.Keeps false false s) (r : TickRecord) (zq lq fq : List Nat) :
    o.Keeps false false (s.startRecord r zq lq fq) := by
  unfold State.startRecord
  simp [hk]

@[simp] theorem State.renewTongs_keeps (hk : o.Keeps false false s) : o.Keeps false false (s.renewTongs) := by
  unfold State.renewTongs
  exact State.keeps_of_ite (State.startRecord_keeps (by simp [hk]) _ _ _ _) (hk)

@[simp] theorem State.endRecord_keeps (hk : o.Keeps clock pins s) : o.Keeps clock pins (s.endRecord) := by
  unfold State.endRecord
  split <;> simp [hk]

@[simp] theorem State.selectRecorded_keeps (hk : o.Keeps clock pins s) (next : Nat) (it : SelItem) :
    o.Keeps clock pins (s.selectRecorded next it) := by
  unfold State.selectRecorded
  exact State.keeps_of_ite (by simp [hk]) (State.setStream_keeps (State.countN_keeps (by simp [hk]) _ _) _ _)

@[simp] theorem State.followHold_keeps (hk : o.Keeps clock pins s) (was now : Option Mode) :
    o.Keeps clock pins (s.followHold was now) := by
  unfold State.followHold
  simp [hk]

@[simp] theorem State.flipLayer_keeps (hk : o.Keeps clock pins s) (sel : List SelItem) (n : Nat) :
    o.Keeps clock pins (s.flipLayer sel n) := by
  unfold State.flipLayer
  simp [hk]

@[simp] theorem State.releaseBack_keeps (hk : o.Keeps clock pins s) (next i : Nat) :
    o.Keeps clock pins (s.releaseBack next i) := by
  unfold State.releaseBack
  dsimp only
  repeat' split
  all_goals simp [hk]

@[simp] theorem State.followSelection_keeps (hk : o.Keeps clock pins s) (next : Nat) (sel : List SelItem) (flips : List Nat) :
    o.Keeps clock pins (s.followSelection next sel flips) := by
  unfold State.followSelection
  exact State.keeps_foldl (fun t x => by simp) (State.keeps_foldl (fun t x => by simp) (by simp [hk]) _) _

@[simp] theorem State.putLatency_keeps (hk : o.Keeps clock pins s) (d : Nat × Nat × Nat) :
    o.Keeps clock pins (s.putLatency d) := by
  unfold State.putLatency
  dsimp only
  repeat' split
  all_goals simp [hk]

@[simp] theorem State.putCfgQueue_keeps (hk : o.Keeps clock pins s) (q : List (Nat × CfgLine)) :
    o.Keeps clock pins (s.putCfgQueue q) := by
  unfold State.putCfgQueue
  simp [hk]

@[simp] theorem State.compareDigest_keeps (hk : o.Keeps clock pins s) (r : TickRecord) :
    o.Keeps clock pins (s.compareDigest r) := by
  unfold State.compareDigest
  simp [hk]

@[simp] theorem State.applyRecord_keeps (hk : o.Keeps clock pins s) (r : TickRecord) :
    o.Keeps clock pins (s.applyRecord r) := by
  unfold State.applyRecord
  extract_lets was held w1 w2 w3 w4 w5 s1 s2 s3 s4 s5
  have h1 : o.Keeps clock pins s1 := hk
  have h2 : o.Keeps clock pins s2 := State.keeps_foldl (fun t x => by simp) h1 _
  have h3 : o.Keeps clock pins s3 := by simp [s3, h2]
  have h4 : o.Keeps clock pins s4 := State.putCfgQueue_keeps (State.keeps_foldl (fun t x => by simp) h3 _) _
  have h5 : o.Keeps clock pins s5 := by simp [s5, h4]
  exact State.compareDigest_keeps (by simp [h5]) _

@[simp] theorem State.recordTick_keeps (hk : o.Keeps clock pins s) (prev : Nat) (due : Bool) :
    o.Keeps clock pins (s.recordTick prev due) := by
  unfold State.recordTick
  dsimp only
  repeat' split
  all_goals simp [hk]

@[simp] theorem State.takeRecord_keeps (hk : o.Keeps false false s) (f : RecordFrame) :
    o.Keeps false false (s.takeRecord f) := by
  unfold State.takeRecord
  dsimp only
  repeat' split
  all_goals simp [hk]

@[simp] theorem execRecord_keeps (hk : o.Keeps false false s) (f : RecordFrame) : o.KeepsNext false false (execRecord f s) := by
  unfold execRecord
  simp [hk]

@[simp] theorem State.install_keeps (hk : o.Keeps false false s) (c : FullCopy) : o.Keeps false false (s.install c) := by
  unfold State.install
  extract_lets live plane w1 w2 w3 w4 s1 s2 s3
  have h1 : o.Keeps false false s1 := hk
  have h2 : o.Keeps false false s2 := State.keeps_foldl (fun t x => by simp) (State.tableParams_keeps h1) _
  have h3 : o.Keeps false false s3 := State.keeps_foldl (fun t x => by simp) h2 _
  simp [h3]

@[simp] theorem State.takeState_keeps (hk : o.Keeps false false s) (offset : Nat) (complete : Option FullCopy) :
    o.Keeps false false (s.takeState offset complete) := by
  unfold State.takeState
  dsimp only
  repeat' split
  · simp [hk]
  · exact State.keeps_of_fields (State.syncGroups_keeps (State.count_keeps (by simp [hk]) _) _) rfl rfl rfl
  · simp [hk]

@[simp] theorem execState_keeps (hk : o.Keeps false false s) (offset : Nat) (crcOk : Bool) (complete : Option FullCopy) :
    o.KeepsNext false false (execState offset crcOk complete s) := by
  unfold execState
  simp [hk]

@[simp] theorem State.sendCopy_keeps (hk : o.Keeps false false s) (c : CopySend) : o.Keeps false false (s.sendCopy c) := by
  unfold State.sendCopy
  simp [hk]

@[simp] theorem State.startCopy_keeps (hk : o.Keeps false false s) : o.Keeps false false (s.startCopy) := by
  unfold State.startCopy
  simp [hk]

@[simp] theorem execResyncReq_keeps (hk : o.Keeps false false s) : o.KeepsNext false false (execResyncReq s) := by
  unfold execResyncReq
  simp [hk]

@[simp] theorem State.acked_keeps (hk : o.Keeps false false s) (offset : Option Nat) :
    o.Keeps false false (s.acked offset) := by
  unfold State.acked
  split <;> simp [hk]

@[simp] theorem execAck_keeps (hk : o.Keeps false false s) (_tick : Nat) (offset : Option Nat) :
    o.KeepsNext false false (execAck _tick offset s) := by
  unfold execAck
  simp [hk]

@[simp] theorem State.leaseTick_keeps (hk : o.Keeps clock pins s) (x : Nat) : o.Keeps clock pins (s.leaseTick x) := by
  unfold State.leaseTick
  simp [hk]

/-! ### Operations of `Sys2Proof/Machine/Tick.lean` -/

@[simp] theorem State.startReload_keeps (hk : o.Keeps clock pins s) : o.Keeps clock pins (s.startReload) := by
  unfold State.startReload
  simp [hk]

@[simp] theorem State.afterMode_keeps (hk : o.Keeps clock pins s) (old : Mode) : o.Keeps clock pins (s.afterMode old) := by
  unfold State.afterMode
  exact State.keeps_of_ite (State.startReload_keeps (State.setParamN_keeps (by simp [hk]) _ _)) (by simp [hk])

@[simp] theorem State.enterMode_keeps (hk : o.Keeps clock pins s) (m : Mode) (trigger : Nat) :
    o.Keeps clock pins (s.enterMode m trigger) := by
  unfold State.enterMode
  simp [hk]

@[simp] theorem State.orderMode_keeps (hk : o.Keeps clock pins s) (target : Mode) :
    o.Keeps clock pins (s.orderMode target) := by
  unfold State.orderMode
  simp [hk]

@[simp] theorem State.modeTick_keeps (hk : o.Keeps clock pins s) : o.Keeps clock pins s.modeTick := by
  unfold State.modeTick
  split
  · exact hk
  · extract_lets w1 s1 s2 s3 w2 s4
    have h2 : o.Keeps clock pins s2 := by
      have h1 : o.Keeps clock pins s1 := hk
      simp [s2, hk, h1]
    have h3 : o.Keeps clock pins s3 := by
      simp only [s3]
      split <;> simp [h2]
    have h4 : o.Keeps clock pins s4 := h3
    simp [h3, h4]

@[simp] theorem State.orderRole_keeps (hk : o.Keeps clock pins s) (w : Waiting) (r : Role) (f : Flavour) (keep : Bool) :
    o.Keeps clock pins (s.orderRole w r f keep) := by
  unfold State.orderRole
  extract_lets answer w1 s1 s2 s3
  have hanswer : ∀ {t : State} (st : Nat), o.Keeps clock pins t → o.Keeps clock pins (answer t st) := fun st h => State.completeWaiting_keeps h _
  have h1 : o.Keeps clock pins s1 := by simp [s1, hk]
  have h2 : o.Keeps clock pins s2 := by simp [s2, h1]
  have h3 : o.Keeps clock pins s3 := by simp [s3, h2]
  refine State.keeps_of_ite (hanswer _ ?_) (State.keeps_of_ite (hanswer _ h3) (hanswer _ hk))
  exact State.keeps_of_fields hk rfl rfl rfl

@[simp] theorem State.roleTick_keeps (hk : o.Keeps clock pins s) : o.Keeps clock pins s.roleTick := by
  have h : o.Keeps clock pins (s.ctrl.waiting.foldl (fun s w =>
      match w.why with
      | .roleSet r f keep => s.orderRole w r f keep
      | _ => s) s) := by
    refine State.keeps_foldl (fun t w => ?_) hk _
    split <;> simp
  unfold State.roleTick
  dsimp only
  split
  · exact State.enterMode_keeps h _ _
  · exact h

@[simp] theorem State.marginsOf_keeps (hk : o.Keeps clock pins s) (f : Class2Figures) : o.Keeps clock pins (s.marginsOf f) := by
  unfold State.marginsOf
  exact State.keeps_foldl (fun t x => by simp) (by simp [hk]) _

@[simp] theorem State.trimStep_keeps (hk : o.Keeps clock pins s) (f : Class2Figures) : o.Keeps clock pins (s.trimStep f) := by
  unfold State.trimStep
  exact State.marginsOf_keeps (State.raise_keeps (by simp [hk]) _) _

@[simp] theorem State.trimTick_keeps (hk : o.Keeps clock pins s) : o.Keeps clock pins (s.trimTick) := by
  have hopen : o.Keeps clock pins { s with trim := { s.trim with sliceDone := false } } := by simp [hk]
  unfold State.trimTick
  dsimp only
  refine State.completeWaiting_keeps ?_ _
  split
  · exact State.trimStep_keeps hopen _
  · exact hopen

/-- R68: the edge itself, once the counter has reached its instant. -/
def State.edge (s : State) : State :=
  let h := s.hearth
  let s : State := match h.retime, h.gap with
    | some r, 0 => if r.tIndex ≤ h.k + 1 then { s with hearth := { h with k := h.k + 1 } }.endOldGrid r
                   else { s with hearth := { h with k := h.k + 1, lastTickNs := h.timing.tickNs (h.k + 1) } }
    | some r, 1 => { s with hearth := { h with k := r.uIndex, gap := 2, lastTickNs := h.timing.tickNs r.uIndex } }
    | some _, _ =>
      { s with hearth := { h with k := h.k + 1, gap := 0, retime := none, lastTickNs := h.timing.tickNs (h.k + 1) } }.raise
        Ev.RETIME_DONE
    | none, _ => { s with hearth := { h with k := h.k + 1, lastTickNs := h.timing.tickNs (h.k + 1) } }
  { s with hearth := { s.hearth with lastTickUp := s.up, subTick := 0, recordDone := false } }

theorem State.tickEdge_eq (s : State) : s.tickEdge = (s.advanceTo s.nextTickUnits).edge := rfl

theorem State.edge_keeps (hk : o.Keeps false pins s) : o.Keeps false pins s.edge := by
  unfold State.edge
  extract_lets h u
  have hu : o.Keeps false pins u := by
    simp only [u]
    split
    · split
      · exact State.endOldGrid_keeps (State.keeps_hearth hk _) _
      · exact State.keeps_hearth hk _
    · exact State.keeps_hearth hk _
    · exact State.raise_keeps (State.keeps_hearth hk _) _
    · exact State.keeps_hearth hk _
  exact State.keeps_hearth hu _

@[simp] theorem State.tickEdge_keeps (hk : o.Keeps false pins s) : o.Keeps false pins (s.tickEdge) := by
  rw [State.tickEdge_eq]
  exact State.edge_keeps (State.advanceTo_keeps hk _)

@[simp] theorem State.rampTick_keeps (hk : o.Keeps clock pins s) : o.Keeps clock pins (s.rampTick) := by
  unfold State.rampTick
  simp [hk]

@[simp] theorem State.ageTracked_keeps (hk : o.Keeps clock pins s) : o.Keeps clock pins (s.ageTracked) := by
  unfold State.ageTracked
  dsimp only
  repeat' split
  all_goals simp [hk]

@[simp] theorem State.intervalTick_keeps (hk : o.Keeps clock pins s) : o.Keeps clock pins (s.intervalTick) := by
  unfold State.intervalTick
  simp [hk]

@[simp] theorem State.selectTick_keeps (hk : o.Keeps clock pins s) (gapTick : Bool) :
    o.Keeps clock pins (s.selectTick gapTick) := by
  unfold State.selectTick
  extract_lets next s1 w s2 s3
  have h1 : o.Keeps clock pins s1 := by simp [s1, hk]
  have h2 : o.Keeps clock pins s2 := by simp [s2, w, h1]
  have h3 : o.Keeps clock pins s3 := by
    simp only [s3]
    refine State.keeps_foldl (fun t x => ?_) h2 _
    simp
  refine State.keeps_of_ite h1 (State.keeps_of_ite h3 ?_)
  exact State.countShort_keeps (State.keeps_foldl (fun t x => State.selectStream_keeps (State.keeps_refl t) _ _) h3 _) _ _

@[simp] theorem State.conflictTick_keeps (hk : o.Keeps clock pins s) : o.Keeps clock pins (s.conflictTick).1 := by
  unfold State.conflictTick
  simp [hk]

@[simp] theorem State.strandsTick_keeps (hk : o.Keeps clock pins s) (conflict : Bool) :
    o.Keeps clock pins (s.strandsTick conflict) := by
  unfold State.strandsTick
  exact State.keeps_of_ite (State.mapStrands_keeps (by simp [hk]) _) (by simp [hk])

@[simp] theorem State.swapTick_keeps (hk : o.Keeps clock pins s) : o.Keeps clock pins s.swapTick := by
  unfold State.swapTick
  extract_lets s1 w
  have h1 : o.Keeps clock pins s1 := State.keeps_foldl (fun t x => by simp) hk _
  simp [h1]

@[simp] theorem State.tickOpen_keeps (hk : o.Keeps false pins s) : o.Keeps false pins s.tickOpen := by
  unfold State.tickOpen
  extract_lets s1 s2 s3
  have h1 : o.Keeps false pins s1 := State.keeps_foldl (fun t x => by simp) hk _
  have h2 : o.Keeps false pins s2 := State.endRecord_keeps (State.tickEdge_keeps (by simp [h1]))
  have h3 : o.Keeps false pins s3 := State.swapTick_keeps (by simp [h2])
  exact State.keeps_foldl (fun t x => by simp) h3 _

@[simp] theorem State.holdTick_keeps (hk : o.Keeps clock pins s) : o.Keeps clock pins (s.holdTick) := by
  unfold State.holdTick
  simp [hk]

@[simp] theorem State.playTicks_keeps (hk : o.Keeps clock pins s) : o.Keeps clock pins (s.playTicks) := by
  unfold State.playTicks
  simp [hk]

@[simp] theorem State.tickChanges_keeps (hk : o.Keeps clock pins s) (prev : Nat) (due : Bool) :
    o.Keeps clock pins (s.tickChanges prev due) := by
  unfold State.tickChanges
  extract_lets s1
  have h4 : o.Keeps clock pins s.holdTick.roleTick.modeTick.playTicks := State.playTicks_keeps (State.modeTick_keeps (by simp [hk]))
  have h1 : o.Keeps clock pins s1 := State.recordTick_keeps (State.applyRecorded_keeps (by simp [h4])) _ _
  exact State.trimTick_keeps (State.applyZones_keeps (by simp [h1]))

@[simp] theorem State.tickGrid_keeps (hk : o.Keeps clock pins s) (first : Bool) : o.Keeps clock pins (s.tickGrid first) := by
  unfold State.tickGrid
  exact State.leaseTick_keeps (by simp [hk]) _

@[simp] theorem State.tickFrames_keeps (hk : o.Keeps clock false s) : o.Keeps clock false s.tickFrames := by
  unfold State.tickFrames
  extract_lets s1 s2
  have h1 : o.Keeps clock false s1 := State.emergencyTick_keeps (State.keeps_foldl (fun t i => by simp) hk _)
  have h2 : o.Keeps clock false s2 := by simp [s2, h1]
  simp [h2]

@[simp] theorem State.senseAdvance_keeps (hk : o.Keeps clock pins s) : o.Keeps clock pins (s.senseAdvance) := by
  unfold State.senseAdvance
  simp [hk]

@[simp] theorem State.tickClose_keeps (hk : o.Keeps clock pins s) : o.Keeps clock pins (s.tickClose) := by
  unfold State.tickClose
  exact State.pullOwnIl_keeps (State.intervalTick_keeps (State.ageTracked_keeps (State.tickTasks_keeps
    (State.startRender_keeps (State.strandsTick_keeps (by simp [hk]) _) _))))

@[simp] theorem State.tickAll_keeps (hk : o.Keeps false false s) : o.Keeps false false (s.tickAll) := by
  unfold State.tickAll
  exact State.tickClose_keeps (State.tickFrames_keeps (State.tickGrid_keeps (by simp [hk]) _))

@[simp] theorem execTick_keeps (hk : o.Keeps false false s) : o.KeepsNext false false (execTick s) := by
  unfold execTick
  simp [hk]

@[simp] theorem State.settleStep_keeps (hk : o.Keeps false false s) (old : State) : o.Keeps false false (s.settleStep old) := by
  unfold State.settleStep
  split <;> simp [hk]

@[simp] theorem execSync_keeps (hk : o.Keeps false false s) (m : SyncMsg) : o.KeepsNext false false (execSync m s) := by
  unfold execSync
  split <;> simp [hk]

@[simp] theorem execFollowUp_keeps (hk : o.Keeps false false s) (domain : Nat) (port : Port) (seq t1 : Nat) (corr : Int) :
    o.KeepsNext false false (execFollowUp domain port seq t1 corr s) := by
  unfold execFollowUp
  dsimp only
  repeat' split
  all_goals simp [hk]

@[simp] theorem execTimeNs_keeps (hk : o.Keeps false false s) (by_ : Accessor) (v : Word) :
    o.KeepsNext false false (execTimeNs by_ v s) := by
  unfold execTimeNs
  simp [hk]

@[simp] theorem State.recordChanges_keeps (hk : o.Keeps false false s) : o.Keeps false false (s.recordChanges) := by
  unfold State.recordChanges
  simp [hk]

@[simp] theorem State.recordPoint_keeps (hk : o.Keeps false false s) : o.Keeps false false s.recordPoint := by
  unfold State.recordPoint
  extract_lets s1
  have h1 : o.Keeps false false s1 := by simp [s1, hk]
  exact State.renewTongs_keeps (by simp [h1])

@[simp] theorem execRecordPoint_keeps (hk : o.Keeps false false s) : o.KeepsNext false false (execRecordPoint s) := by
  unfold execRecordPoint
  simp [hk]

@[simp] theorem execAutoLive_keeps (hk : o.Keeps false false s) : o.KeepsNext false false (execAutoLive s) := by
  unfold execAutoLive
  simp [hk]

/-! ### Operations of `Sys2Proof/Machine/Boot.lean` -/

theorem State.ownFilters_wf (s : State) : SMap.wf regReset s.ownFilters = true := by
  unfold State.ownFilters
  simp only [List.foldl]
  repeat apply SMap.wf_set
  rfl

@[simp] theorem State.enterReset_keeps (hk : o.Keeps false false s) (cause : Nat) (warm keep : Bool) :
    o.Keeps false false (s.enterReset cause warm keep) := by
  refine hk.trans (State.keeps_none ⟨fun _ => s.ownFilters_wf, fun h => ?_⟩)
  show (if warm then s.time else ({} : Counter)).legal
  split
  · exact h
  · exact ⟨⟨by decide, by decide⟩, by decide, by decide⟩

@[simp] theorem State.warmReset_keeps (hk : o.Keeps false false s) (cause : Nat) : o.Keeps false false (s.warmReset cause) := by
  unfold State.warmReset
  simp [hk]

@[simp] theorem State.pinsHeld_keeps (hk : o.Keeps false false s) : o.Keeps false false (s.pinsHeld) := by
  unfold State.pinsHeld
  simp [hk]

@[simp] theorem execPorstN_keeps (hk : o.Keeps false false s) (lowNs : Nat) : o.KeepsNext false false (execPorstN lowNs s) := by
  unfold execPorstN
  simp [hk]

@[simp] theorem execSysrstN_keeps (hk : o.Keeps false false s) (lowNs : Nat) :
    o.KeepsNext false false (execSysrstN lowNs s) := by
  unfold execSysrstN
  simp [hk]

@[simp] theorem execSupervisorUndervoltage_keeps (hk : o.Keeps false false s) (belowMv ns : Nat) :
    o.KeepsNext false false (execSupervisorUndervoltage belowMv ns s) := by
  unfold execSupervisorUndervoltage
  simp [hk]

@[simp] theorem execResetAfterResponse_keeps (hk : o.Keeps false false s) :
    o.KeepsNext false false (execResetAfterResponse s) := by
  unfold execResetAfterResponse
  split <;> simp [hk]

@[simp] theorem execConfirmWindow_keeps (hk : o.Keeps false false s) : o.KeepsNext false false (execConfirmWindow s) := by
  unfold execConfirmWindow
  simp [hk]

@[simp] theorem State.bootFailed_keeps (hk : o.Keeps false false s) : o.Keeps false false (s.bootFailed) := by
  unfold State.bootFailed
  simp [hk]

@[simp] theorem State.bootLatch_keeps (hk : o.Keeps false false s) (b : BootInputs) : o.Keeps false false (s.bootLatch b) := by
  unfold State.bootLatch
  simp [hk]

@[simp] theorem State.bootFlash_keeps (hk : o.Keeps false false s) (b : BootInputs) : o.Keeps false false (s.bootFlash b) := by
  unfold State.bootFlash
  simp [hk]

@[simp] theorem State.runSlot_keeps (hk : o.Keeps false false s) (b : Bool) (f : FwSlot) :
    o.Keeps false false (s.runSlot b f) := by
  unfold State.runSlot
  simp [hk]

@[simp] theorem State.bootActive_keeps (hk : o.Keeps false false s) : o.Keeps false false (s.bootActive) := by
  unfold State.bootActive
  dsimp only
  repeat' split
  all_goals simp [hk]

@[simp] theorem State.bootTrial_keeps (hk : o.Keeps false false s) : o.Keeps false false (s.bootTrial) := by
  unfold State.bootTrial
  split <;> simp [hk]

@[simp] theorem State.bootRepair_keeps (hk : o.Keeps false false s) (b : BootInputs) :
    o.Keeps false false (s.bootRepair b) := by
  unfold State.bootRepair
  simp [hk]

@[simp] theorem State.bootDram_keeps (hk : o.Keeps false false s) (b : BootInputs) : o.Keeps false false (s.bootDram b) := by
  unfold State.bootDram
  simp [hk]

@[simp] theorem State.bootJournal_keeps (hk : o.Keeps false false s) (b : BootInputs) :
    o.Keeps false false (s.bootJournal b) := by
  unfold State.bootJournal
  simp [hk]

@[simp] theorem State.bootEngines_keeps (hk : o.Keeps false false s) : o.Keeps false false (s.bootEngines) := by
  unfold State.bootEngines
  exact State.keeps_foldl (fun t x => by simp) (State.keeps_foldl (fun t x => by simp) (by simp [hk]) _) _

@[simp] theorem State.loadSetting_keeps (hk : o.Keeps false false s) (isB : Bool) (c : Settings) (id : Nat) :
    o.Keeps false false (s.loadSetting isB c id) := by
  unfold State.loadSetting
  split <;> simp [hk]

@[simp] theorem State.bootSettings_keeps (hk : o.Keeps false false s) : o.Keeps false false (s.bootSettings) := by
  unfold State.bootSettings
  split <;> simp [hk]

@[simp] theorem State.bootGrid_keeps (hk : o.Keeps false false s) : o.Keeps false false (s.bootGrid) := by
  unfold State.bootGrid
  simp [hk]

@[simp] theorem State.bootParams_keeps (hk : o.Keeps false false s) : o.Keeps false false (s.bootParams) := by
  unfold State.bootParams
  exact State.syncGroups_keeps (by simp [hk]) _

@[simp] theorem State.bootBanks_keeps (hk : o.Keeps false false s) (b : BootInputs) : o.Keeps false false (s.bootBanks b) := by
  unfold State.bootBanks
  simp [hk]

@[simp] theorem State.portsTrained_keeps (hk : o.Keeps false false s) : o.Keeps false false (s.portsTrained) := by
  unfold State.portsTrained
  simp [hk]

@[simp] theorem State.bootEyes_keeps (hk : o.Keeps false false s) (b : BootInputs) : o.Keeps false false (s.bootEyes b) := by
  unfold State.bootEyes
  simp [hk]

@[simp] theorem State.loadBank_keeps (hk : o.Keeps false false s) (b : FlashBank) : o.Keeps false false (s.loadBank b) := by
  unfold State.loadBank
  simp [hk]

@[simp] theorem State.loadBanks_keeps (hk : o.Keeps false false s) : o.Keeps false false (s.loadBanks) := by
  unfold State.loadBanks
  split <;> simp [hk]

@[simp] theorem State.layoutDram_keeps (hk : o.Keeps false false s) : o.Keeps false false (s.layoutDram) := by
  unfold State.layoutDram
  simp [hk]

@[simp] theorem State.imageBad_keeps (hk : o.Keeps false false s) (which : Nat) (f : Option FlashImage) :
    o.Keeps false false (s.imageBad which f) := by
  unfold State.imageBad
  split <;> simp [hk]

@[simp] theorem State.loadImages_keeps (hk : o.Keeps false false s) : o.Keeps false false (s.loadImages) := by
  unfold State.loadImages
  simp [hk]

@[simp] theorem State.bootRole_keeps (hk : o.Keeps false false s) : o.Keeps false false (s.bootRole) := by
  unfold State.bootRole
  simp [hk]

@[simp] theorem State.bootUpdate_keeps (hk : o.Keeps false false s) : o.Keeps false false (s.bootUpdate) := by
  unfold State.bootUpdate
  simp [hk]

@[simp] theorem State.bootEnd_keeps (hk : o.Keeps false false s) : o.Keeps false false (s.bootEnd) := by
  unfold State.bootEnd
  exact State.startLockout_keeps (by simp [hk])

@[simp] theorem State.finishBoot_keeps (hk : o.Keeps false false s) : o.Keeps false false (s.finishBoot) := by
  unfold State.finishBoot
  split
  · simp [hk]
  · exact State.bootEnd_keeps (State.bootUpdate_keeps (State.bootRole_keeps (State.loadImages_keeps
      (State.layoutDram_keeps (State.loadBanks_keeps (State.portsTrained_keeps (State.bootEyes_keeps
      (State.bootBanks_keeps (State.bootParams_keeps (by simp [hk])) _) _)))))))

@[simp] theorem State.bootStrapStep_keeps (hk : o.Keeps false false s) : o.Keeps false false (s.bootStrapStep) := by
  unfold State.bootStrapStep
  split <;> simp [hk]

@[simp] theorem State.andBoot_keeps (hk : o.Keeps false false s) {f : State → State} (hf : ∀ t : State, t.Keeps false false (f t)) :
    o.Keeps false false (s.andBoot f) := by
  unfold State.andBoot
  split
  · exact hk
  · exact hk.trans (hf s)

@[simp] theorem State.runBoot_keeps (hk : o.Keeps false false s) (b : BootInputs) : o.Keeps false false (s.runBoot b) := by
  unfold State.runBoot
  exact State.andBoot_keeps (State.andBoot_keeps (State.andBoot_keeps (State.andBoot_keeps (State.bootTrial_keeps (by
    simp [hk])) (by simp)) (by simp)) (by simp)) (by simp)

@[simp] theorem execResetRelease_keeps (hk : o.Keeps false false s) (b : BootInputs) :
    o.KeepsNext false false (execResetRelease b s) := by
  unfold execResetRelease
  simp [hk]

@[simp] theorem execSupplyReturn_keeps (hk : o.Keeps false false s) : o.KeepsNext false false (execSupplyReturn s) := by
  unfold execSupplyReturn
  dsimp only
  repeat' split
  all_goals simp [hk]

@[simp] theorem State.dlTake_keeps (hk : o.Keeps false false s) (off : Nat) (data : List Byte) :
    o.Keeps false false (s.dlTake off data) := by
  unfold State.dlTake
  simp [hk]

@[simp] theorem State.dlBoot_keeps (hk : o.Keeps false false s) : o.Keeps false false (s.dlBoot) := by
  unfold State.dlBoot
  simp [hk]

@[simp] theorem State.writeDlCtrl_keeps (hk : o.Keeps false false s) (v : Word) : o.Keeps false false (s.writeDlCtrl v) := by
  unfold State.writeDlCtrl
  simp [hk]

@[simp] theorem execDlCtrl_keeps (hk : o.Keeps false false s) (v : Word) : o.KeepsNext false false (execDlCtrl v s) := by
  unfold execDlCtrl
  simp [hk]

@[simp] theorem execDownloadDatagram_keeps (hk : o.Keeps false false s) (toOwnOrBroadcast : Bool) (src : Endpoint) (data : List Byte) :
    o.KeepsNext false false (execDownloadDatagram toOwnOrBroadcast src data s) := by
  unfold execDownloadDatagram
  simp [hk]

@[simp] theorem execDlWindowClose_keeps (hk : o.Keeps false false s) : o.KeepsNext false false (execDlWindowClose s) := by
  unfold execDlWindowClose
  simp [hk]

/-! ### Operations of `Sys2Proof/Machine/Regs.lean` -/

@[simp] theorem State.readByteLow_keeps (hk : o.Keeps false false s) (a : Nat) : o.Keeps false false (s.readByteLow a).1 := by
  unfold State.readByteLow
  simp [hk]

@[simp] theorem State.readByteHigh_keeps (hk : o.Keeps false false s) (a : Nat) : o.Keeps false false (s.readByteHigh a).1 := by
  unfold State.readByteHigh
  split <;> simp [hk]

@[simp] theorem State.clearRead_keeps (hk : o.Keeps false false s) (r : RegRow) (a : Nat) :
    o.Keeps false false (s.clearRead r a) := by
  unfold State.clearRead
  simp [hk]

@[simp] theorem State.unmapped_keeps (hk : o.Keeps false false s) (a : Nat) : o.Keeps false false (s.unmapped a) := by
  unfold State.unmapped
  simp [hk]

@[simp] theorem State.afterDraw_keeps (hk : o.Keeps false false s) (a : Nat) : o.Keeps false false (s.afterDraw a) := by
  unfold State.afterDraw
  simp [hk]

@[simp] theorem State.readReg_keeps (hk : o.Keeps false false s) (a : Nat) : o.Keeps false false (s.readReg a).1 := by
  unfold State.readReg
  split <;> simp [hk]

@[simp] theorem State.macCtrlWritten_keeps (hk : o.Keeps false false s) (p : Port) (old : Nat) :
    o.Keeps false false (s.macCtrlWritten p old) := by
  unfold State.macCtrlWritten
  simp [hk]

@[simp] theorem State.watermarks_keeps (hk : o.Keeps false false s) (a : Nat) : o.Keeps false false (s.watermarks a) := by
  unfold State.watermarks
  split <;> simp [hk]

@[simp] theorem State.afterWrite_keeps (hk : o.Keeps false false s) (a old : Nat) :
    o.Keeps false false (s.afterWrite a old) := by
  unfold State.afterWrite
  dsimp only
  repeat' split
  all_goals simp [hk]

@[simp] theorem State.writePlain_keeps (hk : o.Keeps false false s) (r : RegRow) (by_ : Accessor) (a v : Nat) :
    o.Keeps false false (s.writePlain r by_ a v) := by
  unfold State.writePlain
  simp [hk]

@[simp] theorem State.writeOwn_keeps (hk : o.Keeps false false s) (by_ : Accessor) (a : Nat) (v : Word) :
    ∀ t, s.writeOwn by_ a v = some t → o.Keeps false false t := by
  unfold State.writeOwn
  dsimp only
  repeat' split
  all_goals simp [hk]

@[simp] theorem State.writeReg_keeps (hk : o.Keeps false false s) (by_ : Accessor) (a : Nat) (v : Word) :
    o.Keeps false false (s.writeReg by_ a v) := by
  unfold State.writeReg
  split
  · simp [hk]
  · split
    next heq => exact State.writeOwn_keeps hk _ _ _ _ heq
    · simp [hk]
    · simp [hk]

/-! ### Operations of `Sys2Proof/Machine/AddressMap.lean` -/

@[simp] theorem State.readMemory_keeps (hk : o.Keeps false false s) (a : Nat) : o.Keeps false false (s.readMemory a).1 := by
  unfold State.readMemory
  split <;> simp [hk]

@[simp] theorem State.readSystem_keeps (hk : o.Keeps false false s) (a : Nat) : o.Keeps false false (s.readSystem a).1 := by
  unfold State.readSystem
  split <;> simp [hk]

@[simp] theorem State.writeMemory_keeps (hk : o.Keeps false false s) (a : Nat) (v : Word) :
    o.Keeps false false (s.writeMemory a v) := by
  unfold State.writeMemory
  simp [hk]

@[simp] theorem State.writeSystem_keeps (hk : o.Keeps false false s) (by_ : Accessor) (a : Nat) (v : Word) :
    o.Keeps false false (s.writeSystem by_ a v) := by
  unfold State.writeSystem
  split <;> simp [hk]

@[simp] theorem execRegisterWrite_keeps (hk : o.Keeps false false s) (by_ : Accessor) (a v : Word) :
    o.KeepsNext false false (execRegisterWrite by_ a v s) := by
  unfold execRegisterWrite
  repeat' split
  all_goals simp [hk]

@[simp] theorem execCounterRead_keeps (hk : o.Keeps false false s) (a : Word) :
    o.KeepsNext false false (execCounterRead a s) := by
  unfold execCounterRead
  simp [hk]

@[simp] theorem execByteCounterHiRead_keeps (hk : o.Keeps false false s) (a : Word) :
    o.KeepsNext false false (execByteCounterHiRead a s) := by
  unfold execByteCounterHiRead
  simp [hk]

/-! ### Operations of `Sys2Proof/Machine/Enumeration.lean` -/

@[simp] theorem State.enumRts_keeps (hk : o.Keeps false false s) (n : Nat) : o.Keeps false false (s.enumRts n) := by
  unfold State.enumRts
  exact State.setStrand_keeps (State.wire_keeps (State.pass_keeps hk _) _ _) _ _

@[simp] theorem State.enumReply_keeps (hk : o.Keeps false false s) (n : Nat) (r : ReplyIn) :
    o.Keeps false false (s.enumReply n r) := by
  unfold State.enumReply
  simp [hk]

@[simp] theorem State.enumTimeout_keeps (hk : o.Keeps false false s) (n : Nat) : o.Keeps false false (s.enumTimeout n) := by
  unfold State.enumTimeout
  exact State.count_keeps (State.setStrand_keeps (State.reach_keeps hk _) _ _) _

@[simp] theorem execRts_keeps (hk : o.Keeps false false s) (n : Fin 128) : o.KeepsNext false false (execRts n s) := by
  unfold execRts
  simp [hk]

@[simp] theorem execReply_keeps (hk : o.Keeps false false s) (n : Fin 128) (r : ReplyIn) :
    o.KeepsNext false false (execReply n r s) := by
  unfold execReply
  repeat' split
  all_goals simp [hk]

@[simp] theorem execReplyTimeout_keeps (hk : o.Keeps false false s) (n : Fin 128) :
    o.KeepsNext false false (execReplyTimeout n s) := by
  unfold execReplyTimeout
  repeat' split
  all_goals simp [hk]

@[simp] theorem State.enumStrand_keeps (hk : o.Keeps false false s) (n : Nat) : o.Keeps false false (s.enumStrand n) := by
  unfold State.enumStrand
  extract_lets t drivers s1 w s2 s3 items s4
  refine State.keeps_of_ite hk ?_
  have h1 : o.Keeps false false s1 := by simp [s1, hk]
  have h2 : o.Keeps false false s2 := by simp [s2, h1]
  have h3 : o.Keeps false false s3 := State.overDrivers_keeps h2 _ fun t i d => by simp
  have h4 : o.Keeps false false s4 := State.wire_keeps h3 _ _
  exact State.queueAnchor_keeps (State.countN_keeps (State.countN_keeps h4 _ _) _ _) _

@[simp] theorem execEnumerationComplete_keeps (hk : o.Keeps false false s) (strands : List (Fin 128)) :
    o.KeepsNext false false (execEnumerationComplete strands s) := by
  unfold execEnumerationComplete
  exact State.keepsNext_next.mpr (State.completeWaiting_keeps (State.keeps_foldl (fun t x => by simp) hk _) _)

/-! ### Operations of `Sys2Proof/Machine/Checks.lean` -/

/-! ### Operations of `Sys2Proof/Machine/Field.lean` -/

@[simp] theorem State.startEnum_keeps (hk : o.Keeps false false s) (n : Nat) : o.Keeps false false (s.startEnum n) := by
  unfold State.startEnum
  simp [hk]

@[simp] theorem bodyStrandEnumerate_keeps (hk : o.Keeps false false s) (r : Request) :
    o.Keeps false false (bodyStrandEnumerate s r).1 := by
  unfold bodyStrandEnumerate
  simp [hk]

@[simp] theorem execStrandEnumerate_keeps (hk : o.Keeps false false s) (r : Request) :
    o.KeepsNext false false (execStrandEnumerate r s) := by
  unfold execStrandEnumerate
  simp [hk]

@[simp] theorem bodyStrandStatus_keeps (hk : o.Keeps false false s) (r : Request) :
    o.Keeps false false (bodyStrandStatus s r).1 := by
  unfold bodyStrandStatus
  simp [hk]

@[simp] theorem execStrandStatus_keeps (hk : o.Keeps false false s) (r : Request) :
    o.KeepsNext false false (execStrandStatus r s) := by
  unfold execStrandStatus
  simp [hk]

@[simp] theorem State.nextCommand_keeps (hk : o.Keeps false false s) : o.Keeps false false (s.nextCommand) := by
  unfold State.nextCommand
  simp [hk]

@[simp] theorem bodyDriverCommand_keeps (hk : o.Keeps false false s) (r : Request) :
    o.Keeps false false (bodyDriverCommand s r).1 := by
  unfold bodyDriverCommand
  simp [hk]

@[simp] theorem execDriverCommand_keeps (hk : o.Keeps false false s) (r : Request) :
    o.KeepsNext false false (execDriverCommand r s) := by
  unfold execDriverCommand
  simp [hk]

@[simp] theorem bodyRdmRequest_keeps (hk : o.Keeps false false s) (r : Request) :
    o.Keeps false false (bodyRdmRequest s r).1 := by
  unfold bodyRdmRequest
  simp [hk]

@[simp] theorem execRdmRequest_keeps (hk : o.Keeps false false s) (r : Request) :
    o.KeepsNext false false (execRdmRequest r s) := by
  unfold execRdmRequest
  simp [hk]

@[simp] theorem bodyBistRun_keeps (hk : o.Keeps false false s) (r : Request) : o.Keeps false false (bodyBistRun s r).1 := by
  unfold bodyBistRun
  simp [hk]

@[simp] theorem execBistRun_keeps (hk : o.Keeps false false s) (r : Request) : o.KeepsNext false false (execBistRun r s) := by
  unfold execBistRun
  simp [hk]

@[simp] theorem bodyBistResult_keeps (hk : o.Keeps false false s) (r : Request) :
    o.Keeps false false (bodyBistResult s r).1 := by
  unfold bodyBistResult
  dsimp only
  repeat' split
  all_goals simp [hk]

@[simp] theorem execBistResult_keeps (hk : o.Keeps false false s) (r : Request) :
    o.KeepsNext false false (execBistResult r s) := by
  unfold execBistResult
  simp [hk]

@[simp] theorem State.retrainLinks_keeps (hk : o.Keeps false false s) (targets : Nat) :
    o.Keeps false false (s.retrainLinks targets) := by
  unfold State.retrainLinks
  extract_lets s1
  have h1 : o.Keeps false false s1 := State.keeps_foldl (fun t x => by simp) hk _
  simp [h1]

@[simp] theorem bodyTrimRun_keeps (hk : o.Keeps false false s) (r : Request) : o.Keeps false false (bodyTrimRun s r).1 := by
  unfold bodyTrimRun
  simp [hk]

@[simp] theorem execTrimRun_keeps (hk : o.Keeps false false s) (r : Request) : o.KeepsNext false false (execTrimRun r s) := by
  unfold execTrimRun
  simp [hk]

@[simp] theorem bodyTrimReport_keeps (hk : o.Keeps false false s) (r : Request) :
    o.Keeps false false (bodyTrimReport s r).1 := by
  unfold bodyTrimReport
  simp [hk]

@[simp] theorem execTrimReport_keeps (hk : o.Keeps false false s) (r : Request) :
    o.KeepsNext false false (execTrimReport r s) := by
  unfold execTrimReport
  simp [hk]

@[simp] theorem bodyRoleGet_keeps (hk : o.Keeps false false s) (r : Request) : o.Keeps false false (bodyRoleGet s r).1 := by
  unfold bodyRoleGet
  simp [hk]

@[simp] theorem execRoleGet_keeps (hk : o.Keeps false false s) (r : Request) : o.KeepsNext false false (execRoleGet r s) := by
  unfold execRoleGet
  simp [hk]

@[simp] theorem bodyRoleSet_keeps (hk : o.Keeps false false s) (r : Request) : o.Keeps false false (bodyRoleSet s r).1 := by
  unfold bodyRoleSet
  dsimp only
  repeat' split
  all_goals simp [hk]

@[simp] theorem execRoleSet_keeps (hk : o.Keeps false false s) (r : Request) : o.KeepsNext false false (execRoleSet r s) := by
  unfold execRoleSet
  simp [hk]

@[simp] theorem State.journalSwitch_keeps (hk : o.Keeps false false s) (ns : Nat) :
    o.Keeps false false (s.journalSwitch ns) := by
  unfold State.journalSwitch
  simp [hk]

@[simp] theorem bodySwitchover_keeps (hk : o.Keeps false false s) (r : Request) :
    o.Keeps false false (bodySwitchover s r).1 := by
  unfold bodySwitchover
  split <;> simp [hk]

@[simp] theorem execSwitchover_keeps (hk : o.Keeps false false s) (r : Request) :
    o.KeepsNext false false (execSwitchover r s) := by
  unfold execSwitchover
  simp [hk]

/-! ### Operations of `Sys2Proof/Machine/Window.lean` -/

@[simp] theorem State.winRead_keeps (hk : o.Keeps false false s) (a : Nat) : o.Keeps false false (s.winRead a).1 := by
  unfold State.winRead
  simp [hk]

@[simp] theorem State.winReads_keeps (hk : o.Keeps false false s) (a n : Nat) : o.Keeps false false (s.winReads a n).1 := by
  induction n generalizing s a with
  | zero => exact hk
  | succ n ih => exact ih (State.winRead_keeps hk a) _

@[simp] theorem State.markRead_keeps (hk : o.Keeps false false s) (a n : Nat) : o.Keeps false false (s.markRead a n) := by
  unfold State.markRead
  dsimp only
  repeat' split
  all_goals simp [hk]

@[simp] theorem State.answerSpi_keeps (hk : o.Keeps false false s) (taken : Bool) (ws : List Word) :
    o.Keeps false false (s.answerSpi taken ws) := by
  unfold State.answerSpi
  simp [hk]

@[simp] theorem State.spiRead_keeps (hk : o.Keeps false false s) (id : Fin 8) (addr : BitVec 16) (n : Nat) :
    o.Keeps false false (s.spiRead id addr n) := by
  unfold State.spiRead
  split
  · simp [hk]
  · exact State.answerSpi_keeps (State.markRead_keeps (State.winReads_keeps hk _ _) _ _) _ _

@[simp] theorem execRead_keeps (hk : o.Keeps false false s) (id : Fin 8) (addr : BitVec 16) (n : Nat) :
    o.KeepsNext false false (execRead id addr n s) := by
  unfold execRead
  simp [hk]

@[simp] theorem execQread_keeps (hk : o.Keeps false false s) (id : Fin 8) (addr : BitVec 16) (n : Nat) :
    o.KeepsNext false false (execQread id addr n s) := by
  unfold execQread
  simp [hk]

@[simp] theorem execMbxRsp_keeps (hk : o.Keeps false false s) : o.KeepsNext false false (execMbxRsp s) := by
  unfold execMbxRsp
  split
  · simp [hk]
  · exact State.keepsNext_next.mpr (State.answerSpi_keeps (State.markRead_keeps (State.winReads_keeps hk _ _) _ _) _ _)

@[simp] theorem State.clearIrq_keeps (hk : o.Keeps false false s) (v : Nat) : o.Keeps false false (s.clearIrq v) := by
  unfold State.clearIrq
  simp [hk]

@[simp] theorem State.submit_keeps (hk : o.Keeps false false s) : o.Keeps false false (s.submit) := by
  unfold State.submit
  simp [hk]

@[simp] theorem State.writeMbxCtrl_keeps (hk : o.Keeps false false s) (v : Word) : o.Keeps false false (s.writeMbxCtrl v) := by
  unfold State.writeMbxCtrl
  simp [hk]

@[simp] theorem State.selectJournal_keeps (hk : o.Keeps false false s) (v : Word) :
    o.Keeps false false (s.selectJournal v) := by
  unfold State.selectJournal
  simp [hk]

@[simp] theorem State.dlWrite_keeps (hk : o.Keeps false false s) (a : Nat) (w : Word) :
    o.Keeps false false (s.dlWrite a w) := by
  unfold State.dlWrite
  simp [hk]

@[simp] theorem State.winWrite_keeps (hk : o.Keeps false false s) (a : Nat) (w : Word) :
    o.Keeps false false (s.winWrite a w) := by
  unfold State.winWrite
  simp [hk]

@[simp] theorem State.winWrites_keeps (hk : o.Keeps false false s) (a : Nat) (ws : List Word) :
    o.Keeps false false (s.winWrites a ws) := by
  induction ws generalizing s a with
  | nil => exact hk
  | cons w ws ih => exact ih (State.winWrite_keeps hk a w) _

@[simp] theorem State.spiWrite_keeps (hk : o.Keeps false false s) (id : Fin 8) (addr : BitVec 16) (ws : List Word) :
    o.Keeps false false (s.spiWrite id addr ws) := by
  unfold State.spiWrite
  simp [hk]

@[simp] theorem execWrite_keeps (hk : o.Keeps false false s) (id : Fin 8) (addr : BitVec 16) (words : List Word) :
    o.KeepsNext false false (execWrite id addr words s) := by
  unfold execWrite
  simp [hk]

@[simp] theorem execQwrite_keeps (hk : o.Keeps false false s) (id : Fin 8) (addr : BitVec 16) (words : List Word) :
    o.KeepsNext false false (execQwrite id addr words s) := by
  unfold execQwrite
  simp [hk]

@[simp] theorem execMbxCtrl_keeps (hk : o.Keeps false false s) (v : Word) : o.KeepsNext false false (execMbxCtrl v s) := by
  unfold execMbxCtrl
  simp [hk]

@[simp] theorem execIrqStatus_keeps (hk : o.Keeps false false s) (v : Word) : o.KeepsNext false false (execIrqStatus v s) := by
  unfold execIrqStatus
  simp [hk]

@[simp] theorem execJwFirstLo_keeps (hk : o.Keeps false false s) (v : Word) : o.KeepsNext false false (execJwFirstLo v s) := by
  unfold execJwFirstLo
  simp [hk]

/-! ### Operations of `Sys2Proof/Machine/Session.lean` -/

@[simp] theorem State.journalSource_keeps (hk : o.Keeps false false s) (name : Nat) :
    o.Keeps false false (s.journalSource name) := by
  unfold State.journalSource
  simp [hk]

@[simp] theorem bodyHello_keeps (hk : o.Keeps false false s) (r : Request) : o.Keeps false false (bodyHello s r).1 := by
  unfold bodyHello
  simp [hk]

@[simp] theorem execHello_keeps (hk : o.Keeps false false s) (r : Request) : o.KeepsNext false false (execHello r s) := by
  unfold execHello
  simp [hk]

@[simp] theorem State.openSession_keeps (hk : o.Keeps false false s) (r : Request) (scope lease : Nat) :
    o.Keeps false false (s.openSession r scope lease) := by
  unfold State.openSession
  simp [hk]

@[simp] theorem State.sessionDenied_keeps (hk : o.Keeps false false s) (r : Request) (scope : Nat) :
    o.Keeps false false (s.sessionDenied r scope) := by
  unfold State.sessionDenied
  simp [hk]

@[simp] theorem bodySessionOpen_keeps (hk : o.Keeps false false s) (r : Request) :
    o.Keeps false false (bodySessionOpen s r).1 := by
  unfold bodySessionOpen
  simp [hk]

@[simp] theorem execSessionOpen_keeps (hk : o.Keeps false false s) (r : Request) :
    o.KeepsNext false false (execSessionOpen r s) := by
  unfold execSessionOpen
  simp [hk]

@[simp] theorem bodySessionClose_keeps (hk : o.Keeps false false s) (r : Request) :
    o.Keeps false false (bodySessionClose s r).1 := by
  unfold bodySessionClose
  split <;> simp [hk]

@[simp] theorem execSessionClose_keeps (hk : o.Keeps false false s) (r : Request) :
    o.KeepsNext false false (execSessionClose r s) := by
  unfold execSessionClose
  simp [hk]

@[simp] theorem bodyKeepalive_keeps (hk : o.Keeps false false s) (r : Request) : o.Keeps false false (bodyKeepalive s r).1 := by
  unfold bodyKeepalive
  repeat' split
  all_goals simp [hk]

@[simp] theorem execKeepalive_keeps (hk : o.Keeps false false s) (r : Request) :
    o.KeepsNext false false (execKeepalive r s) := by
  unfold execKeepalive
  simp [hk]

@[simp] theorem bodyModeGet_keeps (hk : o.Keeps false false s) (r : Request) : o.Keeps false false (bodyModeGet s r).1 := by
  unfold bodyModeGet
  simp [hk]

@[simp] theorem execModeGet_keeps (hk : o.Keeps false false s) (r : Request) : o.KeepsNext false false (execModeGet r s) := by
  unfold execModeGet
  simp [hk]

@[simp] theorem bodyModeSet_keeps (hk : o.Keeps false false s) (r : Request) : o.Keeps false false (bodyModeSet s r).1 := by
  unfold bodyModeSet
  split <;> simp [hk]

@[simp] theorem execModeSet_keeps (hk : o.Keeps false false s) (r : Request) : o.KeepsNext false false (execModeSet r s) := by
  unfold execModeSet
  simp [hk]

@[simp] theorem bodyTimeGet_keeps (hk : o.Keeps false false s) (r : Request) : o.Keeps false false (bodyTimeGet s r).1 := by
  unfold bodyTimeGet
  simp [hk]

@[simp] theorem execTimeGet_keeps (hk : o.Keeps false false s) (r : Request) : o.KeepsNext false false (execTimeGet r s) := by
  unfold execTimeGet
  simp [hk]

@[simp] theorem bodyTimingSet_keeps (hk : o.Keeps false false s) (r : Request) : o.Keeps false false (bodyTimingSet s r).1 := by
  unfold bodyTimingSet
  dsimp only
  repeat' split
  all_goals simp [hk]

@[simp] theorem execTimingSet_keeps (hk : o.Keeps false false s) (r : Request) :
    o.KeepsNext false false (execTimingSet r s) := by
  unfold execTimingSet
  simp [hk]

@[simp] theorem bodyDomainSelect_keeps (hk : o.Keeps false false s) (r : Request) :
    o.Keeps false false (bodyDomainSelect s r).1 := by
  unfold bodyDomainSelect
  split <;> simp [hk]

@[simp] theorem execDomainSelect_keeps (hk : o.Keeps false false s) (r : Request) :
    o.KeepsNext false false (execDomainSelect r s) := by
  unfold execDomainSelect
  simp [hk]

/-! ### Operations of `Sys2Proof/Machine/Setup.lean` -/

@[simp] theorem bodyParamGet_keeps (hk : o.Keeps false false s) (r : Request) : o.Keeps false false (bodyParamGet s r).1 := by
  unfold bodyParamGet
  dsimp only
  repeat' split
  all_goals simp [hk]

@[simp] theorem execParamGet_keeps (hk : o.Keeps false false s) (r : Request) : o.KeepsNext false false (execParamGet r s) := by
  unfold execParamGet
  simp [hk]

@[simp] theorem bodyParamSet_keeps (hk : o.Keeps false false s) (r : Request) : o.Keeps false false (bodyParamSet s r).1 := by
  unfold bodyParamSet
  dsimp only
  repeat' split
  all_goals simp [hk]

@[simp] theorem execParamSet_keeps (hk : o.Keeps false false s) (r : Request) : o.KeepsNext false false (execParamSet r s) := by
  unfold execParamSet
  simp [hk]

@[simp] theorem State.emptyStaging_keeps (hk : o.Keeps false false s) (r : Request) :
    o.Keeps false false (s.emptyStaging r) := by
  unfold State.emptyStaging
  simp [hk]

@[simp] theorem State.appliedNothing_keeps (hk : o.Keeps false false s) : o.Keeps false false (s.appliedNothing).1 := by
  unfold State.appliedNothing
  simp [hk]

@[simp] theorem bodyParamCommit_keeps (hk : o.Keeps false false s) (r : Request) :
    o.Keeps false false (bodyParamCommit s r).1 := by
  unfold bodyParamCommit
  dsimp only
  repeat' split
  all_goals simp [hk]

@[simp] theorem execParamCommit_keeps (hk : o.Keeps false false s) (r : Request) :
    o.KeepsNext false false (execParamCommit r s) := by
  unfold execParamCommit
  simp [hk]

@[simp] theorem State.regReadWord_keeps (hk : o.Keeps false false s) (a : Nat) : o.Keeps false false (s.regReadWord a).1 := by
  unfold State.regReadWord
  simp [hk]

@[simp] theorem State.regReadWords_keeps (hk : o.Keeps false false s) (a n : Nat) :
    o.Keeps false false (s.regReadWords a n).1 := by
  induction n generalizing s a with
  | zero => exact hk
  | succ n ih => exact ih (State.regReadWord_keeps hk a) _

@[simp] theorem bodyRegRead_keeps (hk : o.Keeps false false s) (r : Request) : o.Keeps false false (bodyRegRead s r).1 := by
  unfold bodyRegRead
  simp [hk]

@[simp] theorem execRegRead_keeps (hk : o.Keeps false false s) (r : Request) : o.KeepsNext false false (execRegRead r s) := by
  unfold execRegRead
  simp [hk]

@[simp] theorem State.regWriteWord_keeps (hk : o.Keeps false false s) (by_ : Accessor) (a : Nat) (v : Word) :
    o.Keeps false false (s.regWriteWord by_ a v) := by
  unfold State.regWriteWord
  simp [hk]

@[simp] theorem State.regWriteWords_keeps (hk : o.Keeps false false s) (by_ : Accessor) (a : Nat) (ws : List Word) :
    o.Keeps false false (s.regWriteWords by_ a ws).1 := by
  induction ws generalizing s a with
  | nil => exact hk
  | cons w ws ih => exact ih (State.regWriteWord_keeps hk by_ a w) _

@[simp] theorem bodyRegWrite_keeps (hk : o.Keeps false false s) (r : Request) : o.Keeps false false (bodyRegWrite s r).1 := by
  unfold bodyRegWrite
  simp [hk]

@[simp] theorem execRegWrite_keeps (hk : o.Keeps false false s) (r : Request) : o.KeepsNext false false (execRegWrite r s) := by
  unfold execRegWrite
  simp [hk]

@[simp] theorem State.readCounters_keeps (hk : o.Keeps false false s) (l : List Nat) :
    o.Keeps false false (s.readCounters l).1 := by
  induction l generalizing s with
  | nil => exact hk
  | cons a l ih => exact ih (State.readReg_keeps hk a)

@[simp] theorem bodyCountersRead_keeps (hk : o.Keeps false false s) (r : Request) :
    o.Keeps false false (bodyCountersRead s r).1 := by
  unfold bodyCountersRead
  simp [hk]

@[simp] theorem execCountersRead_keeps (hk : o.Keeps false false s) (r : Request) :
    o.KeepsNext false false (execCountersRead r s) := by
  unfold execCountersRead
  simp [hk]

@[simp] theorem bodyJournalRead_keeps (hk : o.Keeps false false s) (r : Request) :
    o.Keeps false false (bodyJournalRead s r).1 := by
  unfold bodyJournalRead
  dsimp only
  repeat' split
  all_goals simp [hk]

@[simp] theorem execJournalRead_keeps (hk : o.Keeps false false s) (r : Request) :
    o.KeepsNext false false (execJournalRead r s) := by
  unfold execJournalRead
  simp [hk]

@[simp] theorem bodyEventsRead_keeps (hk : o.Keeps false false s) (r : Request) :
    o.Keeps false false (bodyEventsRead s r).1 := by
  unfold bodyEventsRead
  simp [hk]

@[simp] theorem execEventsRead_keeps (hk : o.Keeps false false s) (r : Request) :
    o.KeepsNext false false (execEventsRead r s) := by
  unfold execEventsRead
  simp [hk]

/-! ### Operations of `Sys2Proof/Machine/Show.lean` -/

@[simp] theorem State.dropStagedMap_keeps (hk : o.Keeps false false s) (n : Nat) : o.Keeps false false (s.dropStagedMap n) := by
  unfold State.dropStagedMap
  simp [hk]

@[simp] theorem State.putStagedMap_keeps (hk : o.Keeps false false s) (m : StagedMap) :
    o.Keeps false false (s.putStagedMap m) := by
  unfold State.putStagedMap
  simp [hk]

@[simp] theorem State.acceptMap_keeps (hk : o.Keeps false false s) (r : Request) (n : Nat) (m : PixMap) :
    o.Keeps false false (s.acceptMap r n m).1 := by
  unfold State.acceptMap
  simp [hk]

@[simp] theorem bodyMapWrite_keeps (hk : o.Keeps false false s) (r : Request) : o.Keeps false false (bodyMapWrite s r).1 := by
  unfold bodyMapWrite
  dsimp only
  repeat' split
  all_goals simp [hk]

@[simp] theorem execMapWrite_keeps (hk : o.Keeps false false s) (r : Request) : o.KeepsNext false false (execMapWrite r s) := by
  unfold execMapWrite
  simp [hk]

@[simp] theorem State.addBuffer_keeps (hk : o.Keeps false false s) (b : Buffer) : o.Keeps false false (s.addBuffer b) := by
  unfold State.addBuffer
  simp [hk]

@[simp] theorem bodyBufferAlloc_keeps (hk : o.Keeps false false s) (r : Request) :
    o.Keeps false false (bodyBufferAlloc s r).1 := by
  unfold bodyBufferAlloc
  simp [hk]

@[simp] theorem execBufferAlloc_keeps (hk : o.Keeps false false s) (r : Request) :
    o.KeepsNext false false (execBufferAlloc r s) := by
  unfold execBufferAlloc
  simp [hk]

@[simp] theorem State.writeImage_keeps (hk : o.Keeps false false s) (emergency : Bool) (k : Nat) (ws : List Word) :
    o.Keeps false false (s.writeImage emergency k ws) := by
  unfold State.writeImage
  simp [hk]

@[simp] theorem State.imageWriteCmd_keeps (hk : o.Keeps false false s) (r : Request) (emergency : Bool) (off : Nat) (ws : List Word) :
    o.Keeps false false (s.imageWriteCmd r emergency off ws).1 := by
  unfold State.imageWriteCmd
  simp [hk]

@[simp] theorem bodyBufferWrite_keeps (hk : o.Keeps false false s) (r : Request) :
    o.Keeps false false (bodyBufferWrite s r).1 := by
  unfold bodyBufferWrite
  dsimp only
  repeat' split
  all_goals simp [hk]

@[simp] theorem execBufferWrite_keeps (hk : o.Keeps false false s) (r : Request) :
    o.KeepsNext false false (execBufferWrite r s) := by
  unfold execBufferWrite
  simp [hk]

@[simp] theorem bodyBufferFree_keeps (hk : o.Keeps false false s) (r : Request) :
    o.Keeps false false (bodyBufferFree s r).1 := by
  unfold bodyBufferFree
  split <;> simp [hk]

@[simp] theorem execBufferFree_keeps (hk : o.Keeps false false s) (r : Request) :
    o.KeepsNext false false (execBufferFree r s) := by
  unfold execBufferFree
  simp [hk]

@[simp] theorem bodyLayerSet_keeps (hk : o.Keeps false false s) (r : Request) : o.Keeps false false (bodyLayerSet s r).1 := by
  unfold bodyLayerSet
  dsimp only
  repeat' split
  all_goals simp [hk]

@[simp] theorem execLayerSet_keeps (hk : o.Keeps false false s) (r : Request) : o.KeepsNext false false (execLayerSet r s) := by
  unfold execLayerSet
  simp [hk]

@[simp] theorem bodyMarkSet_keeps (hk : o.Keeps false false s) (r : Request) : o.Keeps false false (bodyMarkSet s r).1 := by
  unfold bodyMarkSet
  split <;> simp [hk]

@[simp] theorem execMarkSet_keeps (hk : o.Keeps false false s) (r : Request) : o.KeepsNext false false (execMarkSet r s) := by
  unfold execMarkSet
  simp [hk]

@[simp] theorem bodyRewind_keeps (hk : o.Keeps false false s) (r : Request) : o.Keeps false false (bodyRewind s r).1 := by
  unfold bodyRewind
  simp [hk]

@[simp] theorem execRewind_keeps (hk : o.Keeps false false s) (r : Request) : o.KeepsNext false false (execRewind r s) := by
  unfold execRewind
  simp [hk]

@[simp] theorem State.endCopy_keeps (hk : o.Keeps false false s) : o.Keeps false false (s.endCopy) := by
  unfold State.endCopy
  simp [hk]

@[simp] theorem bodyCalBegin_keeps (hk : o.Keeps false false s) (r : Request) : o.Keeps false false (bodyCalBegin s r).1 := by
  unfold bodyCalBegin
  simp [hk]

@[simp] theorem execCalBegin_keeps (hk : o.Keeps false false s) (r : Request) : o.KeepsNext false false (execCalBegin r s) := by
  unfold execCalBegin
  simp [hk]

@[simp] theorem State.mapInactive_keeps (hk : o.Keeps false false s) (f : Bool → Plane → Plane) :
    o.Keeps false false (s.mapInactive f) := by
  unfold State.mapInactive
  simp [hk]

@[simp] theorem bodyCalWrite_keeps (hk : o.Keeps false false s) (r : Request) : o.Keeps false false (bodyCalWrite s r).1 := by
  unfold bodyCalWrite
  simp [hk]

@[simp] theorem execCalWrite_keeps (hk : o.Keeps false false s) (r : Request) : o.KeepsNext false false (execCalWrite r s) := by
  unfold execCalWrite
  simp [hk]

@[simp] theorem bodyCalCommit_keeps (hk : o.Keeps false false s) (r : Request) : o.Keeps false false (bodyCalCommit s r).1 := by
  unfold bodyCalCommit
  simp [hk]

@[simp] theorem execCalCommit_keeps (hk : o.Keeps false false s) (r : Request) :
    o.KeepsNext false false (execCalCommit r s) := by
  unfold execCalCommit
  simp [hk]

@[simp] theorem State.dropStagedTable_keeps (hk : o.Keeps false false s) (id : Nat) :
    o.Keeps false false (s.dropStagedTable id) := by
  unfold State.dropStagedTable
  simp [hk]

@[simp] theorem State.putStagedTable_keeps (hk : o.Keeps false false s) (id : Nat) (m : SMap Nat) :
    o.Keeps false false (s.putStagedTable id m) := by
  unfold State.putStagedTable
  simp [hk]

@[simp] theorem State.acceptTable_keeps (hk : o.Keeps false false s) (r : Request) (id : Nat) (m : SMap Nat) :
    o.Keeps false false (s.acceptTable r id m).1 := by
  unfold State.acceptTable
  simp [hk]

@[simp] theorem bodyColourTableWrite_keeps (hk : o.Keeps false false s) (r : Request) :
    o.Keeps false false (bodyColourTableWrite s r).1 := by
  unfold bodyColourTableWrite
  dsimp only
  repeat' split
  all_goals simp [hk]

@[simp] theorem execColourTableWrite_keeps (hk : o.Keeps false false s) (r : Request) :
    o.KeepsNext false false (execColourTableWrite r s) := by
  unfold execColourTableWrite
  simp [hk]

/-! ### Operations of `Sys2Proof/Machine/Resume.lean` -/

@[simp] theorem bodyCalStore_keeps (hk : o.Keeps false false s) (r : Request) : o.Keeps false false (bodyCalStore s r).1 := by
  unfold bodyCalStore
  split <;> simp [hk]

@[simp] theorem bodyOwnerKeySet_keeps (hk : o.Keeps false false s) (r : Request) :
    o.Keeps false false (bodyOwnerKeySet s r).1 := by
  unfold bodyOwnerKeySet
  split <;> simp [hk]

@[simp] theorem bodyLow_keeps (hk : o.Keeps false false s) (op : Nat) (r : Request) :
    o.Keeps false false (bodyLow op s r).1 := by
  unfold bodyLow
  split <;> simp [hk]

@[simp] theorem bodyMid_keeps (hk : o.Keeps false false s) (op : Nat) (r : Request) :
    o.Keeps false false (bodyMid op s r).1 := by
  unfold bodyMid
  split <;> simp [hk]

@[simp] theorem bodyHigh_keeps (hk : o.Keeps false false s) (op : Nat) (r : Request) :
    o.Keeps false false (bodyHigh op s r).1 := by
  unfold bodyHigh
  split <;> simp [hk]

@[simp] theorem bodyOf_keeps (hk : o.Keeps false false s) (op : Nat) (r : Request) : o.Keeps false false (bodyOf op s r).1 := by
  unfold bodyOf
  repeat' split
  all_goals simp [hk]

/-- A mailbox command by its opcode. -/
theorem bodyOf_keeps_self (op : Nat) (s : State) (r : Request) : s.Keeps false false (bodyOf op s r).1 := by simp

@[simp] theorem execMailbox_keeps (hk : o.Keeps false false s) (response : Bool) (opcode : BitVec 16) (r : Request) :
    o.KeepsNext false false (execMailbox response opcode r s) := by
  unfold execMailbox
  split
  · simp [hk]
  · refine State.keepsNext_next.mpr (State.fromMirror_keeps hk _ fun t => ?_)
    split
    · exact State.keeps_refl t
    · exact State.mailbox_keeps (State.keeps_refl t) _ _ (bodyOf_keeps_self _)

@[simp] theorem State.resumeOne_keeps (hk : o.Keeps false false s) (w : Waiting) : o.Keeps false false (s.resumeOne w) := by
  unfold State.resumeOne
  split <;> simp [hk]

@[simp] theorem State.resumeDeferred_keeps (hk : o.Keeps false false s) : o.Keeps false false (s.resumeDeferred) := by
  unfold State.resumeDeferred
  simp [hk]

@[simp] theorem State.isolate_keeps (hk : o.Keeps false false s) (t : Test) : o.Keeps false false (s.isolate t) := by
  unfold State.isolate
  simp [hk]

@[simp] theorem State.markRunning_keeps (hk : o.Keeps false false s) (id : Nat) : o.Keeps false false (s.markRunning id) := by
  unfold State.markRunning
  simp [hk]

@[simp] theorem execBistStart_keeps (hk : o.Keeps false false s) : o.KeepsNext false false (execBistStart s) := by
  unfold execBistStart
  split <;> simp [hk]

@[simp] theorem State.reinitBlock_keeps (hk : o.Keeps false false s) (t : Test) : o.Keeps false false (s.reinitBlock t) := by
  unfold State.reinitBlock
  split <;> simp [hk]

@[simp] theorem State.keepResult_keeps (hk : o.Keeps false false s) (d : TestDone) : o.Keeps false false (s.keepResult d) := by
  unfold State.keepResult
  simp [hk]

@[simp] theorem State.useSpares_keeps (hk : o.Keeps false false s) (t : Test) (detail : Nat) :
    o.Keeps false false (s.useSpares t detail) := by
  unfold State.useSpares
  simp [hk]

@[simp] theorem State.loseMemory_keeps (hk : o.Keeps false false s) (t : Test) (detail : Nat) :
    o.Keeps false false (s.loseMemory t detail) := by
  unfold State.loseMemory
  extract_lets w s1
  have h1 : o.Keeps false false s1 := hk
  repeat' split
  case _ => simp [h1]
  case _ => exact h1
  case _ => simp [h1]
  case _ => simp [h1]
  case _ => exact State.raise_keeps (State.becomeRole_keeps (by simp [h1]) _) _

@[simp] theorem execBistDone_keeps (hk : o.Keeps false false s) (id : Nat) (result : TestResult) (durationUs detail : Nat) :
    o.KeepsNext false false (execBistDone id result durationUs detail s) := by
  unfold execBistDone
  split
  · simp [hk]
  · split
    · simp [hk]
    · extract_lets s1 s2 s3 s4 s5
      have h1 : o.Keeps false false s1 := by simp [s1, hk]
      have h2 : o.Keeps false false s2 := by simp [s2, h1]
      have h3 : o.Keeps false false s3 := by simp [s3, h2]
      have h4 : o.Keeps false false s4 := by simp [s4, h3]
      have h5 : o.Keeps false false s5 := by simp [s5, h4]
      simp [h5]

@[simp] theorem State.abortTest_keeps (hk : o.Keeps false false s) (t : Test) : o.Keeps false false (s.abortTest t) := by
  unfold State.abortTest
  extract_lets us s1
  have h1 : o.Keeps false false s1 := by simp [s1, hk]
  exact State.raise_keeps (State.raise_keeps (by simp [h1]) _) _

@[simp] theorem State.abortTests_keeps (hk : o.Keeps false false s) (hit : Nat → Bool) :
    o.Keeps false false (s.abortTests hit) := by
  unfold State.abortTests
  extract_lets out s1 s2
  have h1 : o.Keeps false false s1 := State.keeps_foldl (fun t x => by simp) hk _
  have h2 : o.Keeps false false s2 := State.keeps_foldl (fun t x => State.keeps_foldl (fun t n => by simp) (State.keeps_refl t) _) h1 _
  simp [h2]

@[simp] theorem State.freeBuffers_keeps (hk : o.Keeps false false s) : o.Keeps false false (s.freeBuffers) := by
  unfold State.freeBuffers
  simp [hk]

@[simp] theorem execReloadComplete_keeps (hk : o.Keeps false false s) : o.KeepsNext false false (execReloadComplete s) := by
  unfold execReloadComplete
  split
  · simp [hk]
  · extract_lets s1 w s2 reply
    have h1 : o.Keeps false false s1 := State.freeBuffers_keeps (State.clearRing_keeps (by simp [hk]))
    have h2 : o.Keeps false false s2 := by simp [s2, h1]
    simp [h2]

@[simp] theorem State.present_keeps (hk : o.Keeps false false s) (trigger : Nat) : o.Keeps false false (s.present trigger) := by
  unfold State.present
  extract_lets f hold noMark s1 s2 s3
  have h1 : o.Keeps false false s1 := by simp [s1, hk]
  have h2 : o.Keeps false false s2 := by simp [s2, h1]
  have h3 : o.Keeps false false s3 := by simp [s3, h2]
  exact h3

@[simp] theorem State.takeStrand_keeps (hk : o.Keeps false false s) (tested : Nat → Bool) (hot : Bool) (n : Nat) :
    o.Keeps false false (s.takeStrand tested hot n) := by
  unfold State.takeStrand
  split
  · exact hk
  · extract_lets
    split
    · simp [hk]
    · split
      · exact State.count_keeps (State.wire_keeps (State.setStrand_keeps hk _ _) _ _) _
      · exact State.setStrand_keeps hk _ _

@[simp] theorem State.takeStrands_keeps (hk : o.Keeps false false s) (tested : Nat → Bool) :
    o.Keeps false false (s.takeStrands tested) := by
  unfold State.takeStrands
  simp [hk]

@[simp] theorem State.noteTakeover_keeps (hk : o.Keeps false false s) : o.Keeps false false (s.noteTakeover) := by
  unfold State.noteTakeover
  simp [hk]

@[simp] theorem execTakeover_keeps (hk : o.Keeps false false s) : o.KeepsNext false false (execTakeover s) := by
  unfold execTakeover
  split
  · simp [hk]
  · extract_lets tested s1
    have h1 : o.Keeps false false s1 := State.abortTests_keeps (by simp [hk]) _
    exact State.keepsNext_next.mpr (State.pullOwnIl_keeps (by simp [h1]))

@[simp] theorem State.handOver_keeps (hk : o.Keeps false false s) : o.Keeps false false s.handOver := by
  unfold State.handOver
  extract_lets warm s1 s2 w1 s3 w2 s4
  have h1 : o.Keeps false false s1 := State.mapStrands_keeps hk _
  have h2 : o.Keeps false false s2 := by simp [s2, h1]
  have h3 : o.Keeps false false s3 := h2
  have h4 : o.Keeps false false s4 := by simp [s4, h3]
  simp [h4]

@[simp] theorem State.startDriving_keeps (hk : o.Keeps false false s) : o.Keeps false false (s.startDriving) := by
  unfold State.startDriving
  simp [hk]

@[simp] theorem State.takeOver_keeps (hk : o.Keeps false false s) : o.Keeps false false s.takeOver := by
  unfold State.takeOver
  split
  · simp [hk]
  · extract_lets w s1 s2
    have h1 : o.Keeps false false s1 := by simp [s1, hk]
    have h2 : o.Keeps false false s2 := State.abortTests_keeps (by simp [h1]) _
    exact State.pullOwnIl_keeps (by simp [h2])

@[simp] theorem execSwitchoverAtTick_keeps (hk : o.Keeps false false s) : o.KeepsNext false false (execSwitchoverAtTick s) := by
  unfold execSwitchoverAtTick
  simp [hk]

@[simp] theorem State.abortCommands_keeps (hk : o.Keeps false false s) : o.Keeps false false (s.abortCommands) := by
  unfold State.abortCommands
  simp [hk]

@[simp] theorem execEmergNAsserted_keeps (hk : o.Keeps false false s) : o.KeepsNext false false (execEmergNAsserted s) := by
  unfold execEmergNAsserted
  dsimp only
  repeat' split
  all_goals simp [hk]

@[simp] theorem execEmergNDeasserted_keeps (hk : o.Keeps false false s) : o.KeepsNext false false (execEmergNDeasserted s) := by
  unfold execEmergNDeasserted
  simp [hk]

/-! ### Operations of `Sys2Proof/Machine/Scan.lean` -/

@[simp] theorem execClass2Calibration_keeps (hk : o.Keeps false false s) (f : Class2Figures) :
    o.KeepsNext false false (execClass2Calibration f s) := by
  unfold execClass2Calibration
  simp [hk]

@[simp] theorem execRetrainSlice_keeps (hk : o.Keeps false false s) (channel : Fin 2) :
    o.KeepsNext false false (execRetrainSlice channel s) := by
  unfold execRetrainSlice
  simp [hk]

@[simp] theorem State.leaveScan_keeps (hk : o.Keeps false false s) (ir : Nat) : o.Keeps false false (s.leaveScan ir) := by
  unfold State.leaveScan
  simp [hk]

@[simp] theorem State.loadIr_keeps (hk : o.Keeps false false s) (ir : Nat) : o.Keeps false false (s.loadIr ir) := by
  unfold State.loadIr
  simp [hk]

@[simp] theorem State.shiftBoundary_keeps (hk : o.Keeps false false s) (ir : Nat) (bits : List Bool) :
    o.Keeps false false (s.shiftBoundary ir bits) := by
  unfold State.shiftBoundary
  simp [hk]

@[simp] theorem State.freeTdo_keeps (hk : o.Keeps false false s) (ir : Nat) : o.Keeps false false (s.freeTdo ir) := by
  unfold State.freeTdo
  simp [hk]

@[simp] theorem execExtest_keeps (hk : o.Keeps false false s) (bits : List Bool) :
    o.KeepsNext false false (execExtest bits s) := by
  unfold execExtest
  simp [hk]

@[simp] theorem execSamplePreload_keeps (hk : o.Keeps false false s) (bits : List Bool) :
    o.KeepsNext false false (execSamplePreload bits s) := by
  unfold execSamplePreload
  simp [hk]

@[simp] theorem execIdcode_keeps (hk : o.Keeps false false s) : o.KeepsNext false false (execIdcode s) := by
  unfold execIdcode
  simp [hk]

@[simp] theorem execClamp_keeps (hk : o.Keeps false false s) : o.KeepsNext false false (execClamp s) := by
  unfold execClamp
  simp [hk]

@[simp] theorem execHighz_keeps (hk : o.Keeps false false s) : o.KeepsNext false false (execHighz s) := by
  unfold execHighz
  simp [hk]

@[simp] theorem execExtestPulse_keeps (hk : o.Keeps false false s) : o.KeepsNext false false (execExtestPulse s) := by
  unfold execExtestPulse
  simp [hk]

@[simp] theorem execExtestTrain_keeps (hk : o.Keeps false false s) : o.KeepsNext false false (execExtestTrain s) := by
  unfold execExtestTrain
  simp [hk]

@[simp] theorem execDbgSelect_keeps (hk : o.Keeps false false s) (engine : Nat) :
    o.KeepsNext false false (execDbgSelect engine s) := by
  unfold execDbgSelect
  simp [hk]

@[simp] theorem execDbgData_keeps (hk : o.Keeps false false s) (_v : Word) : o.KeepsNext false false (execDbgData _v s) := by
  unfold execDbgData
  simp [hk]

@[simp] theorem execRepairRead_keeps (hk : o.Keeps false false s) : o.KeepsNext false false (execRepairRead s) := by
  unfold execRepairRead
  simp [hk]

@[simp] theorem execBypass_keeps (hk : o.Keeps false false s) (ir : BitVec 8) : o.KeepsNext false false (execBypass ir s) := by
  unfold execBypass
  simp [hk]

@[simp] theorem execTrstN_keeps (hk : o.Keeps false false s) : o.KeepsNext false false (execTrstN s) := by
  unfold execTrstN
  simp [hk]

@[simp] theorem execScanExit_keeps (hk : o.Keeps false false s) : o.KeepsNext false false (execScanExit s) := by
  unfold execScanExit
  simp [hk]

/-! ### Operations of `Sys2Proof/Machine/Idle.lean` -/

@[simp] theorem idleCycle_keeps (hk : o.Keeps false false s) : o.Keeps false false (idleCycle s) := by
  unfold idleCycle
  simp [hk]

end

/-! ### Every command and every step -/

/-- Each command is one operation of the layer above. -/
theorem exec_keeps {o s : State} (hk : o.Keeps false false s) (c : Instr) : o.KeepsNext false false (exec c s) := by
  cases c <;> simp [exec, hk]

theorem step_keeps {s t : State} (h : step s = .next t) : s.Keeps false false t := by
  unfold step at h
  split at h
  · injection h with h
    exact h ▸ idleCycle_keeps (State.keeps_refl s)
  next c rest _ => exact exec_keeps (o := s) (s := { s with pending := rest }) (State.keeps_refl s) c t h

/-- Settles O5: what every step keeps of the counter. -/
theorem everyStepKeepsCounterLegal : Obligations.EveryStepKeepsCounterLegal := by
  unfold Obligations.EveryStepKeepsCounterLegal
  intro s t htime hinc h
  exact (step_keeps h).legal ⟨htime, hinc⟩

/-- Settles O6: what every step keeps of the register store. -/
theorem everyStepKeepsRegistersCanonical : Obligations.EveryStepKeepsRegistersCanonical := by
  unfold Obligations.EveryStepKeepsRegistersCanonical
  intro s t hregs h
  exact (step_keeps h).regs hregs

end Sys2Proof.Machine
end

section
/-! ## What records and the passing of time leave as they are -/

namespace Sys2Proof.Machine

/-- A function that looks at no record shows the same before and after. -/
theorem State.sameButRecords.congr {s t : State} {α : Type} {f : State → α} (h : s.sameButRecords t)
    (hf : ∀ regs jnl ch0 ch1 ch2 ch3 irq, f { s with regs := regs, jnl := jnl, ctrl := { s.ctrl with
      ch0 := ch0, ch1 := ch1, ch2 := ch2, ch3 := ch3, irq := irq } } = f s) : f t = f s := by
  unfold State.sameButRecords at h
  rw [h, hf]

/-- `t` is `s` but for the clock and for records. -/
def State.sameButClock (s t : State) : Prop := State.sameButRecords { s with time := t.time, up := t.up } t

theorem State.sameButRecords.sameButClock {s t : State} (h : s.sameButRecords t) : s.sameButClock t := by
  have htime : t.time = s.time := h.congr (f := State.time) fun _ _ _ _ _ _ _ => rfl
  have hup : t.up = s.up := h.congr (f := State.up) fun _ _ _ _ _ _ _ => rfl
  unfold State.sameButClock
  rw [htime, hup]
  exact h

theorem State.sameButClock.trans {s t u : State} (h1 : s.sameButClock t) (h2 : t.sameButClock u) : s.sameButClock u := by
  unfold State.sameButClock State.sameButRecords at *
  rw [h1] at h2
  exact h2

theorem State.sameButClock_refl (s : State) : s.sameButClock s := (State.sameButRecords_refl s).sameButClock

/-- A function that looks at no record and at no clock shows the same before and after. -/
theorem State.sameButClock.congr {s t : State} {α : Type} {f : State → α} (h : s.sameButClock t)
    (hf : ∀ time up regs jnl ch0 ch1 ch2 ch3 irq, f { s with time := time, up := up, regs := regs, jnl := jnl, ctrl := { s.ctrl with
      ch0 := ch0, ch1 := ch1, ch2 := ch2, ch3 := ch3, irq := irq } } = f s) : f t = f s := by
  unfold State.sameButClock State.sameButRecords at h
  rw [h, hf]

theorem State.raise_sameButRecords (s : State) (e : Ev) : s.sameButRecords (s.raise e) := s.raiseWith_sameButRecords e 0 0

theorem State.raiseAt_sameButRecords (s : State) (e : Ev) (index : Nat) : s.sameButRecords (s.raiseAt e index) :=
  s.raiseWith_sameButRecords e index 0

theorem State.setUnits_sameButClock (s : State) (u : Nat) : s.sameButClock (s.setUnits u) := rfl

theorem State.setClock_sameButClock (s : State) (u up : Nat) : s.sameButClock (s.setClock u up) := rfl

theorem State.crossEpoch_sameButClock (s : State) (b : Nat) : s.sameButClock (s.crossEpoch b) :=
  ((State.takeWaiting_sameButRecords s _).sameButClock.trans (State.setUnits_sameButClock _ _)).trans
    (State.emit_sameButRecords _ _ _ _ _).sameButClock

theorem State.foldl_crossEpoch_sameButClock (l : List Nat) (s : State) : s.sameButClock (l.foldl State.crossEpoch s) := by
  induction l generalizing s with
  | nil => exact s.sameButClock_refl
  | cons b l ih => exact (s.crossEpoch_sameButClock b).trans (ih _)

/-- Time passes: the clock moves and the journal takes what waits. -/
theorem State.advanceTo_sameButClock (s : State) (u : Nat) : s.sameButClock (s.advanceTo u) := by
  unfold State.advanceTo
  split
  · exact s.sameButClock_refl
  · exact ((State.foldl_crossEpoch_sameButClock _ s).trans (State.takeWaiting_sameButRecords _ _).sameButClock).trans
      (State.setClock_sameButClock _ _ _)

theorem State.pass_sameButClock (s : State) (n : Nat) : s.sameButClock (s.pass n) := s.advanceTo_sameButClock _

theorem State.reach_sameButClock (s : State) (due : Nat) : s.sameButClock (s.reach due) := by
  unfold State.reach
  split
  · exact s.pass_sameButClock _
  · exact s.sameButClock_refl

/-- `t` is `s` but for the answers that clients and the peer get: their slots and sessions, what waits, and what is sent. -/
def State.sameButAnswers (s t : State) : Prop :=
  t = { s with
    macA := t.macA, macB := t.macB, macSv := t.macSv
    red := { s.red with mirrorSent := t.red.mirrorSent, mirrorSeq := t.red.mirrorSeq }
    ctrl := { s.ctrl with
      ch0 := t.ctrl.ch0, ch1 := t.ctrl.ch1, ch2 := t.ctrl.ch2, ch3 := t.ctrl.ch3
      irq := t.ctrl.irq, sessions := t.ctrl.sessions, waiting := t.ctrl.waiting } }

theorem State.sameButAnswers_refl (s : State) : s.sameButAnswers s := rfl

theorem State.sameButAnswers.trans {s t u : State} (h1 : s.sameButAnswers t) (h2 : t.sameButAnswers u) : s.sameButAnswers u := by
  unfold State.sameButAnswers at *
  rw [h1] at h2
  exact h2

/-- A function that looks at no answer shows the same before and after. -/
theorem State.sameButAnswers.congr {s t : State} {α : Type} {f : State → α} (h : s.sameButAnswers t)
    (hf : ∀ macA macB macSv sent seq ch0 ch1 ch2 ch3 irq sessions waiting, f { s with
      macA := macA, macB := macB, macSv := macSv, red := { s.red with mirrorSent := sent, mirrorSeq := seq }
      ctrl := { s.ctrl with
        ch0 := ch0, ch1 := ch1, ch2 := ch2, ch3 := ch3, irq := irq, sessions := sessions, waiting := waiting } } = f s) :
    f t = f s := by
  unfold State.sameButAnswers at h
  rw [h, hf]

theorem State.setMac_sameButAnswers (s : State) (p : Port) (m : Mac) : s.sameButAnswers (s.setMac p m) := by
  cases p <;> rfl

theorem State.sendOwn_sameButAnswers (s : State) (p : Port) (f : OwnFrame) : s.sameButAnswers (s.sendOwn p f) := by
  unfold State.sendOwn
  dsimp only
  split
  · exact s.setMac_sameButAnswers p _
  · exact s.sameButAnswers_refl

theorem State.sendMirror_sameButAnswers (s : State) (type : Nat) (p : MirrorPayload) : s.sameButAnswers (s.sendMirror type p) := by
  unfold State.sendMirror
  split <;> rfl

theorem State.sendMessage_sameButAnswers (s : State) (ch : Chan) (ep : Endpoint) (bytes : List Byte) :
    s.sameButAnswers (s.sendMessage ch ep bytes) := by
  unfold State.sendMessage
  split
  · exact s.sameButAnswers_refl
  · exact s.sendMirror_sameButAnswers _ _
  · split
    · exact s.sendOwn_sameButAnswers _ _
    · exact s.sameButAnswers_refl

theorem State.setClient_sameButAnswers (s : State) (ch : Chan) (ep : Endpoint) (c : Client) :
    s.sameButAnswers (s.setClient ch ep c) := by
  cases ch <;> rfl

theorem State.sendSlot_sameButAnswers (s : State) (ch : Chan) (ep : Endpoint) (q : Word) : s.sameButAnswers (s.sendSlot ch ep q) := by
  unfold State.sendSlot
  dsimp only
  split
  · have hsend := s.sendMessage_sameButAnswers ch ep ((s.client ch ep).responseBytes ‹_›)
    split
    · exact hsend.trans (State.setClient_sameButAnswers _ _ _ _)
    · exact hsend
  · exact s.sameButAnswers_refl

theorem State.complete_sameButAnswers (s : State) (ch : Chan) (ep : Endpoint) (q : Word) (status : Nat) (payload : List Byte) :
    s.sameButAnswers (s.complete ch ep q status payload) := by
  unfold State.complete
  dsimp only
  split
  · split
    · exact s.sameButAnswers_refl
    · split
      · exact (s.setClient_sameButAnswers _ _ _).trans rfl
      · exact (s.setClient_sameButAnswers _ _ _).trans (State.sendSlot_sameButAnswers _ _ _ _)
  · exact s.sameButAnswers_refl

theorem State.restartLease_sameButAnswers (s : State) (h : Nat) : s.sameButAnswers (s.restartLease h) := rfl

theorem State.completeWaiting_sameButAnswers (s : State) (f : Waiting → Option (Nat × List Byte)) :
    s.sameButAnswers (s.completeWaiting f) := by
  have hfold : ∀ (l : List Waiting) (t : State), t.sameButAnswers (l.foldl (fun s w =>
      match f w with
      | some (st, p) => (s.complete w.chan w.ep w.seq st p).restartLease w.client
      | none => s) t) := fun l => by
    induction l with
    | nil => exact State.sameButAnswers_refl
    | cons w l ih =>
      intro t
      refine State.sameButAnswers.trans ?_ (ih _)
      dsimp only
      split
      · exact (t.complete_sameButAnswers _ _ _ _ _).trans (State.restartLease_sameButAnswers _ _)
      · exact t.sameButAnswers_refl
  exact State.sameButAnswers.trans (t := { s with ctrl := { s.ctrl with waiting := _ } }) rfl (hfold _ _)

theorem State.completeFirst_sameButAnswers (s : State) (f : Wait → Bool) (status : Nat) (payload : List Byte) :
    s.sameButAnswers (s.completeFirst f status payload) := by
  unfold State.completeFirst
  split
  · exact s.completeWaiting_sameButAnswers _
  · exact s.sameButAnswers_refl

/-! ### `State.emit` -/

@[simp] theorem State.emit_up (s : State) (src kind code payload : Nat) : (s.emit src kind code payload).up = s.up :=
  (s.emit_sameButRecords src kind code payload).congr (f := State.up) fun _ _ _ _ _ _ _ => rfl
@[simp] theorem State.emit_mode (s : State) (src kind code payload : Nat) : (s.emit src kind code payload).mode = s.mode :=
  (s.emit_sameButRecords src kind code payload).congr (f := State.mode) fun _ _ _ _ _ _ _ => rfl
@[simp] theorem State.emit_sys (s : State) (src kind code payload : Nat) : (s.emit src kind code payload).sys = s.sys :=
  (s.emit_sameButRecords src kind code payload).congr (f := State.sys) fun _ _ _ _ _ _ _ => rfl
@[simp] theorem State.emit_hearth (s : State) (src kind code payload : Nat) : (s.emit src kind code payload).hearth = s.hearth :=
  (s.emit_sameButRecords src kind code payload).congr (f := State.hearth) fun _ _ _ _ _ _ _ => rfl
@[simp] theorem State.emit_fs (s : State) (src kind code payload : Nat) : (s.emit src kind code payload).fs = s.fs :=
  (s.emit_sameButRecords src kind code payload).congr (f := State.fs) fun _ _ _ _ _ _ _ => rfl
@[simp] theorem State.emit_strands (s : State) (src kind code payload : Nat) :
    (s.emit src kind code payload).strands = s.strands :=
  (s.emit_sameButRecords src kind code payload).congr (f := State.strands) fun _ _ _ _ _ _ _ => rfl
@[simp] theorem State.emit_banks (s : State) (src kind code payload : Nat) : (s.emit src kind code payload).banks = s.banks :=
  (s.emit_sameButRecords src kind code payload).congr (f := State.banks) fun _ _ _ _ _ _ _ => rfl
@[simp] theorem State.emit_sched (s : State) (src kind code payload : Nat) : (s.emit src kind code payload).sched = s.sched :=
  (s.emit_sameButRecords src kind code payload).congr (f := State.sched) fun _ _ _ _ _ _ _ => rfl
@[simp] theorem State.emit_red (s : State) (src kind code payload : Nat) : (s.emit src kind code payload).red = s.red :=
  (s.emit_sameButRecords src kind code payload).congr (f := State.red) fun _ _ _ _ _ _ _ => rfl
@[simp] theorem State.emit_nvm (s : State) (src kind code payload : Nat) : (s.emit src kind code payload).nvm = s.nvm :=
  (s.emit_sameButRecords src kind code payload).congr (f := State.nvm) fun _ _ _ _ _ _ _ => rfl
@[simp] theorem State.emit_work (s : State) (src kind code payload : Nat) : (s.emit src kind code payload).work = s.work :=
  (s.emit_sameButRecords src kind code payload).congr (f := State.work) fun _ _ _ _ _ _ _ => rfl
@[simp] theorem State.emit_bist (s : State) (src kind code payload : Nat) : (s.emit src kind code payload).bist = s.bist :=
  (s.emit_sameButRecords src kind code payload).congr (f := State.bist) fun _ _ _ _ _ _ _ => rfl
@[simp] theorem State.emit_memory (s : State) (src kind code payload : Nat) : (s.emit src kind code payload).memory = s.memory :=
  (s.emit_sameButRecords src kind code payload).congr (f := State.memory) fun _ _ _ _ _ _ _ => rfl
@[simp] theorem State.emit_shadows (s : State) (src kind code payload : Nat) :
    (s.emit src kind code payload).shadows = s.shadows :=
  (s.emit_sameButRecords src kind code payload).congr (f := State.shadows) fun _ _ _ _ _ _ _ => rfl
@[simp] theorem State.emit_ctrl_waiting (s : State) (src kind code payload : Nat) :
    (s.emit src kind code payload).ctrl.waiting = s.ctrl.waiting :=
  (s.emit_sameButRecords src kind code payload).congr (f := fun t => t.ctrl.waiting) fun _ _ _ _ _ _ _ => rfl
@[simp] theorem State.emit_ctrl_live (s : State) (src kind code payload : Nat) :
    (s.emit src kind code payload).ctrl.live = s.ctrl.live :=
  (s.emit_sameButRecords src kind code payload).congr (f := fun t => t.ctrl.live) fun _ _ _ _ _ _ _ => rfl
@[simp] theorem State.emit_ctrl_prevMode (s : State) (src kind code payload : Nat) :
    (s.emit src kind code payload).ctrl.prevMode = s.ctrl.prevMode :=
  (s.emit_sameButRecords src kind code payload).congr (f := fun t => t.ctrl.prevMode) fun _ _ _ _ _ _ _ => rfl
@[simp] theorem State.emit_ctrl_reqFree (s : State) (src kind code payload : Nat) :
    (s.emit src kind code payload).ctrl.reqFree = s.ctrl.reqFree :=
  (s.emit_sameButRecords src kind code payload).congr (f := fun t => t.ctrl.reqFree) fun _ _ _ _ _ _ _ => rfl

/-! ### `State.raiseWith` -/

@[simp] theorem State.raiseWith_up (s : State) (e : Ev) (index detail : Nat) : (s.raiseWith e index detail).up = s.up :=
  (s.raiseWith_sameButRecords e index detail).congr (f := State.up) fun _ _ _ _ _ _ _ => rfl
@[simp] theorem State.raiseWith_mode (s : State) (e : Ev) (index detail : Nat) : (s.raiseWith e index detail).mode = s.mode :=
  (s.raiseWith_sameButRecords e index detail).congr (f := State.mode) fun _ _ _ _ _ _ _ => rfl
@[simp] theorem State.raiseWith_sys (s : State) (e : Ev) (index detail : Nat) : (s.raiseWith e index detail).sys = s.sys :=
  (s.raiseWith_sameButRecords e index detail).congr (f := State.sys) fun _ _ _ _ _ _ _ => rfl
@[simp] theorem State.raiseWith_hearth (s : State) (e : Ev) (index detail : Nat) :
    (s.raiseWith e index detail).hearth = s.hearth :=
  (s.raiseWith_sameButRecords e index detail).congr (f := State.hearth) fun _ _ _ _ _ _ _ => rfl
@[simp] theorem State.raiseWith_fs (s : State) (e : Ev) (index detail : Nat) : (s.raiseWith e index detail).fs = s.fs :=
  (s.raiseWith_sameButRecords e index detail).congr (f := State.fs) fun _ _ _ _ _ _ _ => rfl
@[simp] theorem State.raiseWith_anvil (s : State) (e : Ev) (index detail : Nat) : (s.raiseWith e index detail).anvil = s.anvil :=
  (s.raiseWith_sameButRecords e index detail).congr (f := State.anvil) fun _ _ _ _ _ _ _ => rfl
@[simp] theorem State.raiseWith_strands (s : State) (e : Ev) (index detail : Nat) :
    (s.raiseWith e index detail).strands = s.strands :=
  (s.raiseWith_sameButRecords e index detail).congr (f := State.strands) fun _ _ _ _ _ _ _ => rfl
@[simp] theorem State.raiseWith_banks (s : State) (e : Ev) (index detail : Nat) : (s.raiseWith e index detail).banks = s.banks :=
  (s.raiseWith_sameButRecords e index detail).congr (f := State.banks) fun _ _ _ _ _ _ _ => rfl
@[simp] theorem State.raiseWith_sched (s : State) (e : Ev) (index detail : Nat) : (s.raiseWith e index detail).sched = s.sched :=
  (s.raiseWith_sameButRecords e index detail).congr (f := State.sched) fun _ _ _ _ _ _ _ => rfl
@[simp] theorem State.raiseWith_nvm (s : State) (e : Ev) (index detail : Nat) : (s.raiseWith e index detail).nvm = s.nvm :=
  (s.raiseWith_sameButRecords e index detail).congr (f := State.nvm) fun _ _ _ _ _ _ _ => rfl
@[simp] theorem State.raiseWith_work (s : State) (e : Ev) (index detail : Nat) : (s.raiseWith e index detail).work = s.work :=
  (s.raiseWith_sameButRecords e index detail).congr (f := State.work) fun _ _ _ _ _ _ _ => rfl
@[simp] theorem State.raiseWith_bist (s : State) (e : Ev) (index detail : Nat) : (s.raiseWith e index detail).bist = s.bist :=
  (s.raiseWith_sameButRecords e index detail).congr (f := State.bist) fun _ _ _ _ _ _ _ => rfl
@[simp] theorem State.raiseWith_memory (s : State) (e : Ev) (index detail : Nat) :
    (s.raiseWith e index detail).memory = s.memory :=
  (s.raiseWith_sameButRecords e index detail).congr (f := State.memory) fun _ _ _ _ _ _ _ => rfl
@[simp] theorem State.raiseWith_shadows (s : State) (e : Ev) (index detail : Nat) :
    (s.raiseWith e index detail).shadows = s.shadows :=
  (s.raiseWith_sameButRecords e index detail).congr (f := State.shadows) fun _ _ _ _ _ _ _ => rfl
@[simp] theorem State.raiseWith_ctrl_waiting (s : State) (e : Ev) (index detail : Nat) :
    (s.raiseWith e index detail).ctrl.waiting = s.ctrl.waiting :=
  (s.raiseWith_sameButRecords e index detail).congr (f := fun t => t.ctrl.waiting) fun _ _ _ _ _ _ _ => rfl
@[simp] theorem State.raiseWith_ctrl_live (s : State) (e : Ev) (index detail : Nat) :
    (s.raiseWith e index detail).ctrl.live = s.ctrl.live :=
  (s.raiseWith_sameButRecords e index detail).congr (f := fun t => t.ctrl.live) fun _ _ _ _ _ _ _ => rfl
@[simp] theorem State.raiseWith_channelArb (s : State) (e : Ev) (index detail : Nat) (i : Nat) :
    (s.raiseWith e index detail).channelArb i = s.channelArb i :=
  (s.raiseWith_sameButRecords e index detail).congr (f := fun t => t.channelArb i) fun _ _ _ _ _ _ _ => rfl

/-! ### `State.raise` -/

@[simp] theorem State.raise_time (s : State) (e : Ev) : (s.raise e).time = s.time :=
  (s.raise_sameButRecords e).congr (f := State.time) fun _ _ _ _ _ _ _ => rfl
@[simp] theorem State.raise_up (s : State) (e : Ev) : (s.raise e).up = s.up :=
  (s.raise_sameButRecords e).congr (f := State.up) fun _ _ _ _ _ _ _ => rfl
@[simp] theorem State.raise_mode (s : State) (e : Ev) : (s.raise e).mode = s.mode :=
  (s.raise_sameButRecords e).congr (f := State.mode) fun _ _ _ _ _ _ _ => rfl
@[simp] theorem State.raise_sys (s : State) (e : Ev) : (s.raise e).sys = s.sys :=
  (s.raise_sameButRecords e).congr (f := State.sys) fun _ _ _ _ _ _ _ => rfl
@[simp] theorem State.raise_hearth (s : State) (e : Ev) : (s.raise e).hearth = s.hearth :=
  (s.raise_sameButRecords e).congr (f := State.hearth) fun _ _ _ _ _ _ _ => rfl
@[simp] theorem State.raise_macA (s : State) (e : Ev) : (s.raise e).macA = s.macA :=
  (s.raise_sameButRecords e).congr (f := State.macA) fun _ _ _ _ _ _ _ => rfl
@[simp] theorem State.raise_macB (s : State) (e : Ev) : (s.raise e).macB = s.macB :=
  (s.raise_sameButRecords e).congr (f := State.macB) fun _ _ _ _ _ _ _ => rfl
@[simp] theorem State.raise_macSv (s : State) (e : Ev) : (s.raise e).macSv = s.macSv :=
  (s.raise_sameButRecords e).congr (f := State.macSv) fun _ _ _ _ _ _ _ => rfl
@[simp] theorem State.raise_ip (s : State) (e : Ev) : (s.raise e).ip = s.ip :=
  (s.raise_sameButRecords e).congr (f := State.ip) fun _ _ _ _ _ _ _ => rfl
@[simp] theorem State.raise_ipSv (s : State) (e : Ev) : (s.raise e).ipSv = s.ipSv :=
  (s.raise_sameButRecords e).congr (f := State.ipSv) fun _ _ _ _ _ _ _ => rfl
@[simp] theorem State.raise_groups (s : State) (e : Ev) : (s.raise e).groups = s.groups :=
  (s.raise_sameButRecords e).congr (f := State.groups) fun _ _ _ _ _ _ _ => rfl
@[simp] theorem State.raise_reports (s : State) (e : Ev) : (s.raise e).reports = s.reports :=
  (s.raise_sameButRecords e).congr (f := State.reports) fun _ _ _ _ _ _ _ => rfl
@[simp] theorem State.raise_ingress (s : State) (e : Ev) : (s.raise e).ingress = s.ingress :=
  (s.raise_sameButRecords e).congr (f := State.ingress) fun _ _ _ _ _ _ _ => rfl
@[simp] theorem State.raise_fs (s : State) (e : Ev) : (s.raise e).fs = s.fs :=
  (s.raise_sameButRecords e).congr (f := State.fs) fun _ _ _ _ _ _ _ => rfl
@[simp] theorem State.raise_anvil (s : State) (e : Ev) : (s.raise e).anvil = s.anvil :=
  (s.raise_sameButRecords e).congr (f := State.anvil) fun _ _ _ _ _ _ _ => rfl
@[simp] theorem State.raise_strands (s : State) (e : Ev) : (s.raise e).strands = s.strands :=
  (s.raise_sameButRecords e).congr (f := State.strands) fun _ _ _ _ _ _ _ => rfl
@[simp] theorem State.raise_banks (s : State) (e : Ev) : (s.raise e).banks = s.banks :=
  (s.raise_sameButRecords e).congr (f := State.banks) fun _ _ _ _ _ _ _ => rfl
@[simp] theorem State.raise_lamp (s : State) (e : Ev) : (s.raise e).lamp = s.lamp :=
  (s.raise_sameButRecords e).congr (f := State.lamp) fun _ _ _ _ _ _ _ => rfl
@[simp] theorem State.raise_sched (s : State) (e : Ev) : (s.raise e).sched = s.sched :=
  (s.raise_sameButRecords e).congr (f := State.sched) fun _ _ _ _ _ _ _ => rfl
@[simp] theorem State.raise_arb (s : State) (e : Ev) : (s.raise e).arb = s.arb :=
  (s.raise_sameButRecords e).congr (f := State.arb) fun _ _ _ _ _ _ _ => rfl
@[simp] theorem State.raise_red (s : State) (e : Ev) : (s.raise e).red = s.red :=
  (s.raise_sameButRecords e).congr (f := State.red) fun _ _ _ _ _ _ _ => rfl
@[simp] theorem State.raise_nvm (s : State) (e : Ev) : (s.raise e).nvm = s.nvm :=
  (s.raise_sameButRecords e).congr (f := State.nvm) fun _ _ _ _ _ _ _ => rfl
@[simp] theorem State.raise_work (s : State) (e : Ev) : (s.raise e).work = s.work :=
  (s.raise_sameButRecords e).congr (f := State.work) fun _ _ _ _ _ _ _ => rfl
@[simp] theorem State.raise_bist (s : State) (e : Ev) : (s.raise e).bist = s.bist :=
  (s.raise_sameButRecords e).congr (f := State.bist) fun _ _ _ _ _ _ _ => rfl
@[simp] theorem State.raise_trim (s : State) (e : Ev) : (s.raise e).trim = s.trim :=
  (s.raise_sameButRecords e).congr (f := State.trim) fun _ _ _ _ _ _ _ => rfl
@[simp] theorem State.raise_tap (s : State) (e : Ev) : (s.raise e).tap = s.tap :=
  (s.raise_sameButRecords e).congr (f := State.tap) fun _ _ _ _ _ _ _ => rfl
@[simp] theorem State.raise_memory (s : State) (e : Ev) : (s.raise e).memory = s.memory :=
  (s.raise_sameButRecords e).congr (f := State.memory) fun _ _ _ _ _ _ _ => rfl
@[simp] theorem State.raise_byteLatch (s : State) (e : Ev) : (s.raise e).byteLatch = s.byteLatch :=
  (s.raise_sameButRecords e).congr (f := State.byteLatch) fun _ _ _ _ _ _ _ => rfl
@[simp] theorem State.raise_draws (s : State) (e : Ev) : (s.raise e).draws = s.draws :=
  (s.raise_sameButRecords e).congr (f := State.draws) fun _ _ _ _ _ _ _ => rfl
@[simp] theorem State.raise_shadows (s : State) (e : Ev) : (s.raise e).shadows = s.shadows :=
  (s.raise_sameButRecords e).congr (f := State.shadows) fun _ _ _ _ _ _ _ => rfl
@[simp] theorem State.raise_pending (s : State) (e : Ev) : (s.raise e).pending = s.pending :=
  (s.raise_sameButRecords e).congr (f := State.pending) fun _ _ _ _ _ _ _ => rfl
@[simp] theorem State.raise_ctrl_prevMode (s : State) (e : Ev) : (s.raise e).ctrl.prevMode = s.ctrl.prevMode :=
  (s.raise_sameButRecords e).congr (f := fun t => t.ctrl.prevMode) fun _ _ _ _ _ _ _ => rfl
@[simp] theorem State.raise_ctrl_serviceEnds (s : State) (e : Ev) : (s.raise e).ctrl.serviceEnds = s.ctrl.serviceEnds :=
  (s.raise_sameButRecords e).congr (f := fun t => t.ctrl.serviceEnds) fun _ _ _ _ _ _ _ => rfl
@[simp] theorem State.raise_ctrl_reqFree (s : State) (e : Ev) : (s.raise e).ctrl.reqFree = s.ctrl.reqFree :=
  (s.raise_sameButRecords e).congr (f := fun t => t.ctrl.reqFree) fun _ _ _ _ _ _ _ => rfl
@[simp] theorem State.raise_mac (s : State) (e : Ev) (p : Port) : (s.raise e).mac p = s.mac p :=
  (s.raise_sameButRecords e).congr (f := fun t => t.mac p) fun _ _ _ _ _ _ _ => rfl
@[simp] theorem State.raise_engine (s : State) (e : Ev) (i : Nat) : (s.raise e).engine i = s.engine i :=
  (s.raise_sameButRecords e).congr (f := fun t => t.engine i) fun _ _ _ _ _ _ _ => rfl

/-! ### `State.raiseAt` -/

@[simp] theorem State.raiseAt_up (s : State) (e : Ev) (index : Nat) : (s.raiseAt e index).up = s.up :=
  (s.raiseAt_sameButRecords e index).congr (f := State.up) fun _ _ _ _ _ _ _ => rfl
@[simp] theorem State.raiseAt_fs (s : State) (e : Ev) (index : Nat) : (s.raiseAt e index).fs = s.fs :=
  (s.raiseAt_sameButRecords e index).congr (f := State.fs) fun _ _ _ _ _ _ _ => rfl
@[simp] theorem State.raiseAt_lamp (s : State) (e : Ev) (index : Nat) : (s.raiseAt e index).lamp = s.lamp :=
  (s.raiseAt_sameButRecords e index).congr (f := State.lamp) fun _ _ _ _ _ _ _ => rfl
@[simp] theorem State.raiseAt_red (s : State) (e : Ev) (index : Nat) : (s.raiseAt e index).red = s.red :=
  (s.raiseAt_sameButRecords e index).congr (f := State.red) fun _ _ _ _ _ _ _ => rfl
@[simp] theorem State.raiseAt_trim (s : State) (e : Ev) (index : Nat) : (s.raiseAt e index).trim = s.trim :=
  (s.raiseAt_sameButRecords e index).congr (f := State.trim) fun _ _ _ _ _ _ _ => rfl
@[simp] theorem State.raiseAt_strand (s : State) (e : Ev) (index : Nat) (i : Nat) : (s.raiseAt e index).strand i = s.strand i :=
  (s.raiseAt_sameButRecords e index).congr (f := fun t => t.strand i) fun _ _ _ _ _ _ _ => rfl
@[simp] theorem State.raiseAt_stream (s : State) (e : Ev) (index : Nat) (i : Nat) : (s.raiseAt e index).stream i = s.stream i :=
  (s.raiseAt_sameButRecords e index).congr (f := fun t => t.stream i) fun _ _ _ _ _ _ _ => rfl
@[simp] theorem State.raiseAt_mac (s : State) (e : Ev) (index : Nat) (p : Port) : (s.raiseAt e index).mac p = s.mac p :=
  (s.raiseAt_sameButRecords e index).congr (f := fun t => t.mac p) fun _ _ _ _ _ _ _ => rfl
@[simp] theorem State.raiseAt_dom (s : State) (e : Ev) (index : Nat) (x : Bool) : (s.raiseAt e index).dom x = s.dom x :=
  (s.raiseAt_sameButRecords e index).congr (f := fun t => t.dom x) fun _ _ _ _ _ _ _ => rfl

/-! ### `State.advanceTo` -/

@[simp] theorem State.advanceTo_strands (s : State) (u : Nat) : (s.advanceTo u).strands = s.strands :=
  (s.advanceTo_sameButClock u).congr (f := State.strands) fun _ _ _ _ _ _ _ _ _ => rfl
@[simp] theorem State.advanceTo_nvm (s : State) (u : Nat) : (s.advanceTo u).nvm = s.nvm :=
  (s.advanceTo_sameButClock u).congr (f := State.nvm) fun _ _ _ _ _ _ _ _ _ => rfl
@[simp] theorem State.advanceTo_ctrl_live (s : State) (u : Nat) : (s.advanceTo u).ctrl.live = s.ctrl.live :=
  (s.advanceTo_sameButClock u).congr (f := fun t => t.ctrl.live) fun _ _ _ _ _ _ _ _ _ => rfl
@[simp] theorem State.advanceTo_strand (s : State) (u : Nat) (i : Nat) : (s.advanceTo u).strand i = s.strand i :=
  (s.advanceTo_sameButClock u).congr (f := fun t => t.strand i) fun _ _ _ _ _ _ _ _ _ => rfl

/-! ### `State.pass` -/

@[simp] theorem State.pass_fs (s : State) (n : Nat) : (s.pass n).fs = s.fs :=
  (s.pass_sameButClock n).congr (f := State.fs) fun _ _ _ _ _ _ _ _ _ => rfl
@[simp] theorem State.pass_strands (s : State) (n : Nat) : (s.pass n).strands = s.strands :=
  (s.pass_sameButClock n).congr (f := State.strands) fun _ _ _ _ _ _ _ _ _ => rfl
@[simp] theorem State.pass_sched (s : State) (n : Nat) : (s.pass n).sched = s.sched :=
  (s.pass_sameButClock n).congr (f := State.sched) fun _ _ _ _ _ _ _ _ _ => rfl
@[simp] theorem State.pass_memory (s : State) (n : Nat) : (s.pass n).memory = s.memory :=
  (s.pass_sameButClock n).congr (f := State.memory) fun _ _ _ _ _ _ _ _ _ => rfl
@[simp] theorem State.pass_shadows (s : State) (n : Nat) : (s.pass n).shadows = s.shadows :=
  (s.pass_sameButClock n).congr (f := State.shadows) fun _ _ _ _ _ _ _ _ _ => rfl
@[simp] theorem State.pass_task (s : State) (n : Nat) (i : Nat) : (s.pass n).task i = s.task i :=
  (s.pass_sameButClock n).congr (f := fun t => t.task i) fun _ _ _ _ _ _ _ _ _ => rfl

/-! ### `State.reach` -/

@[simp] theorem State.reach_mode (s : State) (due : Nat) : (s.reach due).mode = s.mode :=
  (s.reach_sameButClock due).congr (f := State.mode) fun _ _ _ _ _ _ _ _ _ => rfl
@[simp] theorem State.reach_sys (s : State) (due : Nat) : (s.reach due).sys = s.sys :=
  (s.reach_sameButClock due).congr (f := State.sys) fun _ _ _ _ _ _ _ _ _ => rfl
@[simp] theorem State.reach_hearth (s : State) (due : Nat) : (s.reach due).hearth = s.hearth :=
  (s.reach_sameButClock due).congr (f := State.hearth) fun _ _ _ _ _ _ _ _ _ => rfl
@[simp] theorem State.reach_groups (s : State) (due : Nat) : (s.reach due).groups = s.groups :=
  (s.reach_sameButClock due).congr (f := State.groups) fun _ _ _ _ _ _ _ _ _ => rfl
@[simp] theorem State.reach_reports (s : State) (due : Nat) : (s.reach due).reports = s.reports :=
  (s.reach_sameButClock due).congr (f := State.reports) fun _ _ _ _ _ _ _ _ _ => rfl
@[simp] theorem State.reach_ingress (s : State) (due : Nat) : (s.reach due).ingress = s.ingress :=
  (s.reach_sameButClock due).congr (f := State.ingress) fun _ _ _ _ _ _ _ _ _ => rfl
@[simp] theorem State.reach_fs (s : State) (due : Nat) : (s.reach due).fs = s.fs :=
  (s.reach_sameButClock due).congr (f := State.fs) fun _ _ _ _ _ _ _ _ _ => rfl
@[simp] theorem State.reach_strands (s : State) (due : Nat) : (s.reach due).strands = s.strands :=
  (s.reach_sameButClock due).congr (f := State.strands) fun _ _ _ _ _ _ _ _ _ => rfl
@[simp] theorem State.reach_banks (s : State) (due : Nat) : (s.reach due).banks = s.banks :=
  (s.reach_sameButClock due).congr (f := State.banks) fun _ _ _ _ _ _ _ _ _ => rfl
@[simp] theorem State.reach_red (s : State) (due : Nat) : (s.reach due).red = s.red :=
  (s.reach_sameButClock due).congr (f := State.red) fun _ _ _ _ _ _ _ _ _ => rfl
@[simp] theorem State.reach_nvm (s : State) (due : Nat) : (s.reach due).nvm = s.nvm :=
  (s.reach_sameButClock due).congr (f := State.nvm) fun _ _ _ _ _ _ _ _ _ => rfl
@[simp] theorem State.reach_work (s : State) (due : Nat) : (s.reach due).work = s.work :=
  (s.reach_sameButClock due).congr (f := State.work) fun _ _ _ _ _ _ _ _ _ => rfl
@[simp] theorem State.reach_memory (s : State) (due : Nat) : (s.reach due).memory = s.memory :=
  (s.reach_sameButClock due).congr (f := State.memory) fun _ _ _ _ _ _ _ _ _ => rfl
@[simp] theorem State.reach_shadows (s : State) (due : Nat) : (s.reach due).shadows = s.shadows :=
  (s.reach_sameButClock due).congr (f := State.shadows) fun _ _ _ _ _ _ _ _ _ => rfl
@[simp] theorem State.reach_ctrl_waiting (s : State) (due : Nat) : (s.reach due).ctrl.waiting = s.ctrl.waiting :=
  (s.reach_sameButClock due).congr (f := fun t => t.ctrl.waiting) fun _ _ _ _ _ _ _ _ _ => rfl
@[simp] theorem State.reach_ctrl_live (s : State) (due : Nat) : (s.reach due).ctrl.live = s.ctrl.live :=
  (s.reach_sameButClock due).congr (f := fun t => t.ctrl.live) fun _ _ _ _ _ _ _ _ _ => rfl
@[simp] theorem State.reach_strand (s : State) (due : Nat) (i : Nat) : (s.reach due).strand i = s.strand i :=
  (s.reach_sameButClock due).congr (f := fun t => t.strand i) fun _ _ _ _ _ _ _ _ _ => rfl
@[simp] theorem State.reach_mac (s : State) (due : Nat) (p : Port) : (s.reach due).mac p = s.mac p :=
  (s.reach_sameButClock due).congr (f := fun t => t.mac p) fun _ _ _ _ _ _ _ _ _ => rfl
@[simp] theorem State.reach_engine (s : State) (due : Nat) (i : Nat) : (s.reach due).engine i = s.engine i :=
  (s.reach_sameButClock due).congr (f := fun t => t.engine i) fun _ _ _ _ _ _ _ _ _ => rfl
@[simp] theorem State.reach_param (s : State) (due : Nat) (j : Nat) : (s.reach due).param j = s.param j :=
  (s.reach_sameButClock due).congr (f := fun t => t.param j) fun _ _ _ _ _ _ _ _ _ => rfl

/-! ### `State.complete` -/

@[simp] theorem State.complete_regs (s : State) (ch : Chan) (ep : Endpoint) (q : Word) (status : Nat) (payload : List Byte) :
    (s.complete ch ep q status payload).regs = s.regs :=
  (s.complete_sameButAnswers ch ep q status payload).congr (f := State.regs) fun _ _ _ _ _ _ _ _ _ _ _ _ => rfl
@[simp] theorem State.complete_red_stale (s : State) (ch : Chan) (ep : Endpoint) (q : Word) (status : Nat) (payload : List Byte) :
    (s.complete ch ep q status payload).red.stale = s.red.stale :=
  (s.complete_sameButAnswers ch ep q status payload).congr (f := fun t => t.red.stale) fun _ _ _ _ _ _ _ _ _ _ _ _ => rfl

/-! ### `State.completeWaiting` -/

@[simp] theorem State.completeWaiting_up (s : State) (f : Waiting → Option (Nat × List Byte)) : (s.completeWaiting f).up = s.up :=
  (s.completeWaiting_sameButAnswers f).congr (f := State.up) fun _ _ _ _ _ _ _ _ _ _ _ _ => rfl
@[simp] theorem State.completeWaiting_regs (s : State) (f : Waiting → Option (Nat × List Byte)) :
    (s.completeWaiting f).regs = s.regs :=
  (s.completeWaiting_sameButAnswers f).congr (f := State.regs) fun _ _ _ _ _ _ _ _ _ _ _ _ => rfl
@[simp] theorem State.completeWaiting_mode (s : State) (f : Waiting → Option (Nat × List Byte)) :
    (s.completeWaiting f).mode = s.mode :=
  (s.completeWaiting_sameButAnswers f).congr (f := State.mode) fun _ _ _ _ _ _ _ _ _ _ _ _ => rfl
@[simp] theorem State.completeWaiting_hearth (s : State) (f : Waiting → Option (Nat × List Byte)) :
    (s.completeWaiting f).hearth = s.hearth :=
  (s.completeWaiting_sameButAnswers f).congr (f := State.hearth) fun _ _ _ _ _ _ _ _ _ _ _ _ => rfl
@[simp] theorem State.completeWaiting_fs (s : State) (f : Waiting → Option (Nat × List Byte)) : (s.completeWaiting f).fs = s.fs :=
  (s.completeWaiting_sameButAnswers f).congr (f := State.fs) fun _ _ _ _ _ _ _ _ _ _ _ _ => rfl
@[simp] theorem State.completeWaiting_anvil (s : State) (f : Waiting → Option (Nat × List Byte)) :
    (s.completeWaiting f).anvil = s.anvil :=
  (s.completeWaiting_sameButAnswers f).congr (f := State.anvil) fun _ _ _ _ _ _ _ _ _ _ _ _ => rfl
@[simp] theorem State.completeWaiting_strands (s : State) (f : Waiting → Option (Nat × List Byte)) :
    (s.completeWaiting f).strands = s.strands :=
  (s.completeWaiting_sameButAnswers f).congr (f := State.strands) fun _ _ _ _ _ _ _ _ _ _ _ _ => rfl
@[simp] theorem State.completeWaiting_sched (s : State) (f : Waiting → Option (Nat × List Byte)) :
    (s.completeWaiting f).sched = s.sched :=
  (s.completeWaiting_sameButAnswers f).congr (f := State.sched) fun _ _ _ _ _ _ _ _ _ _ _ _ => rfl
@[simp] theorem State.completeWaiting_nvm (s : State) (f : Waiting → Option (Nat × List Byte)) :
    (s.completeWaiting f).nvm = s.nvm :=
  (s.completeWaiting_sameButAnswers f).congr (f := State.nvm) fun _ _ _ _ _ _ _ _ _ _ _ _ => rfl
@[simp] theorem State.completeWaiting_bist (s : State) (f : Waiting → Option (Nat × List Byte)) :
    (s.completeWaiting f).bist = s.bist :=
  (s.completeWaiting_sameButAnswers f).congr (f := State.bist) fun _ _ _ _ _ _ _ _ _ _ _ _ => rfl
@[simp] theorem State.completeWaiting_strand (s : State) (f : Waiting → Option (Nat × List Byte)) (i : Nat) :
    (s.completeWaiting f).strand i = s.strand i :=
  (s.completeWaiting_sameButAnswers f).congr (f := fun t => t.strand i) fun _ _ _ _ _ _ _ _ _ _ _ _ => rfl
@[simp] theorem State.completeWaiting_dom (s : State) (f : Waiting → Option (Nat × List Byte)) (x : Bool) :
    (s.completeWaiting f).dom x = s.dom x :=
  (s.completeWaiting_sameButAnswers f).congr (f := fun t => t.dom x) fun _ _ _ _ _ _ _ _ _ _ _ _ => rfl

/-! ### `State.completeFirst` -/

@[simp] theorem State.completeFirst_anvil (s : State) (f : Wait → Bool) (status : Nat) (payload : List Byte) :
    (s.completeFirst f status payload).anvil = s.anvil :=
  (s.completeFirst_sameButAnswers f status payload).congr (f := State.anvil) fun _ _ _ _ _ _ _ _ _ _ _ _ => rfl
@[simp] theorem State.completeFirst_nvm (s : State) (f : Wait → Bool) (status : Nat) (payload : List Byte) :
    (s.completeFirst f status payload).nvm = s.nvm :=
  (s.completeFirst_sameButAnswers f status payload).congr (f := State.nvm) fun _ _ _ _ _ _ _ _ _ _ _ _ => rfl
@[simp] theorem State.completeFirst_work (s : State) (f : Wait → Bool) (status : Nat) (payload : List Byte) :
    (s.completeFirst f status payload).work = s.work :=
  (s.completeFirst_sameButAnswers f status payload).congr (f := State.work) fun _ _ _ _ _ _ _ _ _ _ _ _ => rfl

end Sys2Proof.Machine
end

section
/-! ## The queue, the clock and the records of every command: R47, R48, R366, R368 -/

namespace Sys2Proof.Machine

/-- The counter at a time that 48 bits of seconds hold shows that time. -/
theorem Counter.units_atUnits (c : Counter) {u : Nat} (h : u < 2 ^ 32 * 1000000000 * 2 ^ 48) : (c.atUnits u).units = u := by
  have hsec : u / 2 ^ 32 / 1000000000 % 2 ^ 48 = u / 2 ^ 32 / 1000000000 := Nat.mod_eq_of_lt (by omega)
  simp only [Counter.units, Counter.fullNs, Counter.atUnits, hsec]
  omega

section Quiet

variable {s : State} (hquiet : s.jnl.sources = [])
include hquiet

/-- With nothing in the sources' buffers the journal's turn passes. -/
theorem State.journalTurn_of_quiet : s.journalTurn = s := by
  simp [State.journalTurn, hquiet, nextSource]

theorem State.journalTo_of_quiet (u : Nat) : s.journalTo u = s := by
  simp [State.journalTo, State.takeWaiting, State.jWaiting, hquiet, State.journalTurns]

/-- R74: a way on which no epoch lies moves the clock alone. -/
theorem State.advanceTo_of_quiet {u : Nat} (hu : s.time.units < u) (hepoch : s.nowNs / 2 ^ 30 = u / 2 ^ 32 / 2 ^ 30) :
    s.advanceTo u = s.setClock u (s.up + (u / 2 ^ 32 - s.nowNs)) := by
  have hnone : s.epochsTo u = [] := by rw [State.epochsTo, hepoch, Nat.sub_self, List.range'_zero]
  rw [State.advanceTo, if_neg (by omega), hnone, List.foldl_nil, State.journalTo_of_quiet hquiet]

end Quiet

/-- Settles O1: `step` by its definition. -/
theorem stepRunsFrontCommand : Obligations.StepRunsFrontCommand := fun _ _ _ => rfl

/-- Settles O3: an idle cycle is the counter's increment on a way without an epoch and without a waiting entry. -/
theorem idleCycleAdvancesCounter : Obligations.IdleCycleAdvancesCounter := by
  unfold Obligations.IdleCycleAdvancesCounter
  intro s hq htime hsec hinc hmax hquiet hepoch
  have hstep : step s = .next (idleCycle s) := by rw [step, hq]
  have hu : s.time.units + s.time.inc < 2 ^ 32 * 1000000000 * 2 ^ 48 := by
    obtain ⟨hns, hfrac⟩ := htime
    simp only [Counter.units, Counter.fullNs]
    omega
  constructor
  · intro hrun
    have hidle : idleCycle s = s.setClock (s.time.units + s.time.inc) (s.up + ((s.time.units + s.time.inc) / 2 ^ 32 - s.nowNs)) := by
      rw [idleCycle, if_pos hrun, State.advanceTo_of_quiet hquiet (by omega) hepoch]
    exact ⟨_, hstep.trans (congrArg Host.Outcome.next hidle), Counter.units_atUnits _ hu, rfl, rfl⟩
  · intro hrun
    rw [hstep, idleCycle, if_neg (by simp [hrun]), State.journalTurn_of_quiet hquiet]

/-- Settles O4: the three parts of the invariant at the reset state. -/
theorem resetHoldsInvariant : Obligations.ResetHoldsInvariant := by
  unfold Obligations.ResetHoldsInvariant State.Inv State.timeOk State.incOk State.regsOk
  decide

/-- Settles O2: every way through every command ends in a next state. -/
theorem everyCommandAnswers : Obligations.EveryCommandAnswers := by
  unfold Obligations.EveryCommandAnswers
  intro c s
  cases c
  all_goals simp only [exec,
    execAck, execAnnounce, execArpRequest, execAutoConfirm, execAutoLive, execBankStoreComplete, execBistDone,
    execBistStart, execBlockLock, execBurstGrant, execBusSense, execByteCounterHiRead, execCalCopyDone,
    execClass2Calibration, execCommandFrame, execConfirmWindow, execConsolidation, execCounterRead, execDataLineSend,
    execDelayReqSend, execDelayResp, execDhcpv4, execDieTemp, execDiodeMeasurement, execDlWindowClose, execDmxFrame,
    execDownloadDatagram, execEchoRequest, execElectWait, execEmergNAsserted, execEngineRestarted, execEpoch,
    execFollowUp, execForwarding, execFrameBoundary, execHiBer, execHptPacket, execImageWriteComplete, execIrqStatus,
    execJournalDatagram, execJournalSpill, execJwFirstLo, execLegacyFrame, execLineRender, execLinkDown,
    execLinkHello, execLinkHelloSend, execLinkUp, execLockAcquire, execLockHold, execLockRelease, execLockoutEnd,
    execMailbox, execMbxCtrl, execMbxRsp, execMembershipReport, execMulticastQuery, execNeighbourSolicitation,
    execNonceExpiry, execOwnIl, execPdelayReq, execPorstN, execPpsIn, execPpsInLost, execPpsOut, execQsPop,
    execRdmResponse, execRdmTransaction, execReceivedFrame, execRecord, execRecordPoint, execRegisterWrite,
    execRelease, execReloadComplete, execRenew, execReply, execReplyTimeout, execResetAfterResponse, execResetRelease,
    execResponseAck, execResyncReq, execRetrainSlice, execRts, execSacnPacket, execSacnSrcLost, execScanExit,
    execSearchWindow, execSessionExpired, execStarveWarn, execState, execStoreComplete, execStreamDown, execSubTick,
    execSupervisorUndervoltage, execSupplyReturn, execSwitchoverAtTick, execSyn, execSync, execSyncLoss, execSysrstN,
    execTakeover, execTaskDispatch, execTaskDone, execTaskReady, execTaskSubmit, execTaskWdt, execTick,
    execTickMaster, execTickOdEdge, execTickSkew, execTurnForecastReissue, execUnderrun, execUnlockExpired,
    execVddioSample, execVerifyComplete, execZoneTempLost]
  all_goals repeat' split
  all_goals exact ⟨_, rfl⟩

/-! ### What an event leaves standing -/

theorem State.setEv_sees_of_sees {s : State} (hs : s.regsOk) {e e' : Ev} (h : s.sees e' = true) : (s.setEv e).sees e' = true := by
  rw [State.sees] at h ⊢
  by_cases heq : e'.reg = e.reg
  · rw [heq] at h ⊢
    rw [State.setEv, State.reg_setReg_same hs, BitVec.getLsbD_or, h, Bool.true_or]
  · rw [State.setEv, State.reg_setReg_other _ _ heq]
    exact h

/-- R19: raising an event leaves every event that shows. -/
theorem State.raiseWith_sees_of_sees {s : State} (hs : s.regsOk) {e e' : Ev} (hover : e'.reg ≠ Reg.JNL_OVERWRITTEN)
    (hskip : e'.reg ≠ Reg.JNL_STREAM_SKIPPED) (h : s.sees e' = true) (index detail : Nat) :
    (s.raiseWith e index detail).sees e' = true := by
  have hset := State.setEv_sees_of_sees hs (e := e) h
  unfold State.raiseWith
  dsimp only
  split
  · exact hset
  · exact State.emit_sees hover hskip (State.setReg_regsOk hs _ _) hset _ _ _ _

/-- R366: a running journal takes the event's entry. -/
theorem State.raiseWith_next_lt {s : State} {e : Ev} (index detail : Nat) (hs : s.jnl.started = true)
    (hf : s.jnl.frozen = false) (hblock : blockOf e.reg ≠ 6) (he : s.jSource (blockOf e.reg) = {}) :
    s.jnl.next < (s.raiseWith e index detail).jnl.next := by
  simp only [State.raiseWith, hblock, false_and, if_false]
  exact State.emit_next_lt (s := s.setEv e) _ _ _ hs hf he

/-- Settles O8: the event's bit is set, and the journal's entry touches records alone. -/
theorem raisingAnEventTouchesOnlyRecords : Obligations.RaisingAnEventTouchesOnlyRecords := by
  unfold Obligations.RaisingAnEventTouchesOnlyRecords
  intro s e index detail hs hbit hover hskip
  exact ⟨State.raiseWith_sees hover hskip hs hbit index detail,
    fun b h => State.raiseWith_sees_of_sees hs (e' := ⟨e.reg, b⟩) hover hskip h index detail,
    State.raiseWith_sameButRecords s e index detail,
    fun hstart hfrozen hblock he => State.raiseWith_next_lt index detail hstart hfrozen hblock he⟩
end Sys2Proof.Machine
end

section
/-! ## Requests: R384, R388, R392 -/

namespace Sys2Proof.Machine

/-! ### The slots of a client: R388 -/

/-- R384: a request that its channel admits is sequenced where it was received. -/
theorem State.mailbox_admitted {s : State} {op : Nat} {r : Request} (body : Body) (hs : s.served = true)
    (hc : s.channelOn r.chan = true) (ha : ((s.popSubmitted op r).admits r).2 = true) :
    s.mailbox op r body = ((s.received op r).sequence op r body).afterRequest r.chan := by
  simp [State.mailbox, State.received, hs, hc, ha]

/-- Settles O9: each of the four ways through `sequence`. -/
theorem sequenceNumbersGuardExecution : Obligations.SequenceNumbersGuardExecution := by
  unfold Obligations.SequenceNumbersGuardExecution
  intro s op r body hs hc ha u c
  rw [State.mailbox_admitted body hs hc ha]
  have hseq : ∀ t, u.sequence op r body = t →
      ((s.received op r).sequence op r body).afterRequest r.chan = t.afterRequest r.chan := fun t ht => by rw [← ht]
  refine ⟨fun t hslot hack => hseq _ ?acked, fun t hslot hack => hseq _ ?held, fun hslot hold => hseq _ ?stale,
    fun hslot hold hbusy => hseq _ ?busy, fun hfresh => hseq _ (State.sequence_fresh hfresh body)⟩
  all_goals
    unfold State.sequence
    simp only [show (u.client r.chan r.from_).holds r.seq = _ from hslot]
  case acked => exact if_pos hack
  case held => exact if_neg (by simp [hack])
  case stale => exact if_pos hold
  case busy => rw [if_neg (by simp [show (u.client r.chan r.from_).staleSeq r.seq = false from hold]), if_pos hbusy]

/-! ### The order of judging: R392 -/

/-- R442: a refused request is forwarded nowhere from channels 0 to 2. -/
theorem State.forward_of_refused (s : State) (op : Nat) {r : Request} {rep : Reply} (hchan : r.chan ≠ .c3)
    (h : rep.accepts = false) : s.forward op r rep = s := by
  simp [State.forward, hchan, h]

/-- A judged request is answered with its status, and nothing else is done. -/
theorem State.execute_of_judged {s : State} {op : Nat} {r : Request} {st : Nat} {p : List Byte} (body : Body)
    (hchan : r.chan ≠ .c3) (hst : st ≠ Status.OK) (hj : s.judge op r = some (st, p)) :
    s.execute op r body = s.answer op r (.done st p) := by
  have hforward := s.forward_of_refused op (rep := .done st p) hchan (by simp [Reply.accepts, hst])
  simp only [State.execute, hj, hforward]

/-- R392: the scope that a command needs, and no session that holds it. -/
def State.lacksScope (s : State) (op : Nat) (r : Request) : Prop :=
  ∃ sc, scopeOf op r = some sc ∧ ∀ x, s.session r.chan r.from_ r.client.toNat = some x → x.scope ≠ sc

/-- R392: the steps behind the header's, on channels 0 to 2. -/
theorem State.judge_of_header {s : State} {op : Nat} {r : Request} (hchan : r.chan ≠ .c3) (h : judgeHeader op r = none) :
    s.judge op r =
      if s.sched.fatal ∧ servedFatal.contains op = false then some (Status.DENIED_MODE, [])
      else if bit (((cmdRow op).map (·.modes)).getD 0) s.mode.code = false then some (Status.DENIED_MODE, [])
      else if s.accessOk op r = false then some (Status.DENIED_ACCESS, [])
      else
        match scopeOf op r with
        | none => none
        | some sc =>
          match s.session r.chan r.from_ r.client.toNat with
          | some x => if x.scope = sc then none else some (Status.DENIED_LOCK, s.lockDetail sc)
          | none => some (Status.DENIED_LOCK, s.lockDetail sc) := by
  rw [State.judge, h]
  exact if_neg hchan

theorem judgeHeader_of_refused {op : Nat} {r : Request} {st : Nat} (s : State) (h : judgeHeader op r = some st) :
    s.judge op r = some (st, []) := by
  rw [State.judge, h]

/-- Settles O10: each step of `judge` in its place. -/
theorem requestsAreJudgedInOrder : Obligations.RequestsAreJudgedInOrder := by
  unfold Obligations.RequestsAreJudgedInOrder
  intro s op r body hchan len bad1 bad2 bad3 bad4 bad5 bad6 bad7 gives
  have hgives : ∀ st p, st ≠ Status.OK → s.judge op r = some (st, p) → gives st := fun st p hst hj =>
    ⟨p, State.execute_of_judged body hchan hst hj⟩
  have hheader : ¬bad1 → ¬bad2 → ¬bad3 → judgeHeader op r = none := fun h1 h2 h3 => by
    rw [judgeHeader, if_neg h1, if_neg h2, if_neg h3]
  refine ⟨fun h1 => ?len, fun h1 h2 => ?opcode, fun h1 h2 h3 => ?lenOk, fun h1 h2 h3 h4 => ?fatal, fun h1 h2 h3 h4 h5 => ?mode,
    fun h1 h2 h3 h4 h5 h6 => ?access, fun h1 h2 h3 h4 h5 h6 h7 => ?lock, fun h1 h2 h3 h4 h5 h6 h7 t ht => ?test⟩
  case len => exact hgives _ _ (by decide) (judgeHeader_of_refused s (if_pos h1))
  case opcode => exact hgives _ _ (by decide) (judgeHeader_of_refused s ((if_neg h1).trans (if_pos h2)))
  case lenOk =>
    exact hgives _ _ (by decide) (judgeHeader_of_refused s (((if_neg h1).trans (if_neg h2)).trans (if_pos h3)))
  all_goals have hj := State.judge_of_header (s := s) hchan (hheader h1 h2 h3)
  case fatal => exact hgives _ _ (by decide) (hj.trans (if_pos h4))
  all_goals rw [if_neg h4] at hj
  case mode => exact hgives _ _ (by decide) (hj.trans (if_pos h5))
  all_goals rw [if_neg h5] at hj
  case access => exact hgives _ _ (by decide) (hj.trans (if_pos h6))
  all_goals rw [if_neg h6] at hj
  case lock =>
    obtain ⟨sc, hsc, hnone⟩ := h7
    simp only [hsc] at hj
    cases hx : s.session r.chan r.from_ r.client.toNat with
    | none => exact hgives _ _ (by decide) (by simpa [hx] using hj)
    | some x => exact hgives _ _ (by decide) (by simpa [hx, hnone x hx] using hj)
  case test =>
    refine State.execute_of_blockTest body hchan (hj.trans ?_) ht
    cases hsc : scopeOf op r with
    | none => rfl
    | some sc =>
      simp only [bad7, not_exists, not_and, Classical.not_forall] at h7
      obtain ⟨x, hx, hscope⟩ := h7 sc hsc
      simpa [hx] using hscope
end Sys2Proof.Machine
end

section
/-! ## Epochs: R74 -/

namespace Sys2Proof.Machine

/-! ### The journal on its way -/

/-- The journal of `t` is that of `s`, further on: it runs or stands as it did, in a ring of the same size. -/
def State.journalRuns (s t : State) : Prop :=
  t.jnl.started = s.jnl.started ∧ t.jnl.frozen = s.jnl.frozen ∧ t.jnl.ringCap = s.jnl.ringCap ∧ s.jnl.next ≤ t.jnl.next

theorem State.journalRuns_refl (s : State) : s.journalRuns s := ⟨rfl, rfl, rfl, Nat.le_refl _⟩

theorem State.journalRuns.trans {s t u : State} (h1 : s.journalRuns t) (h2 : t.journalRuns u) : s.journalRuns u := by
  obtain ⟨hs1, hf1, hc1, hn1⟩ := h1
  obtain ⟨hs2, hf2, hc2, hn2⟩ := h2
  exact ⟨hs2.trans hs1, hf2.trans hf1, hc2.trans hc1, Nat.le_trans hn1 hn2⟩

theorem State.streamLoses_journalRuns (s : State) (n : Nat) (e : Option JEntry) : s.journalRuns (s.streamLoses n e) := by
  unfold State.streamLoses
  split <;> exact s.journalRuns_refl

/-- The ring of the journal with one more entry: the oldest makes room in a full one. -/
def Journal.ringWith (j : Journal) (e : JEntry) : List JEntry :=
  (if j.ringCap ≤ j.ring.length then j.ring.drop (j.ring.length + 1 - j.ringCap) else j.ring) ++ [e]

/-- R368: what a running journal does with an entry. -/
theorem State.jAppend_running {s : State} (e : JEntry) (hs : s.jnl.started = true) (hf : s.jnl.frozen = false) :
    s.journalRuns (s.jAppend e) ∧ (s.jAppend e).jnl.ring = s.jnl.ringWith e := by
  have hloses : ∀ (t : State) n x, (t.streamLoses n x).jnl.ring = t.jnl.ring := fun t n x => by
    unfold State.streamLoses
    split <;> rfl
  unfold State.jAppend State.journalRuns
  rw [if_neg (by simp [hs, hf])]
  dsimp only
  rw [State.offer_jnl]
  split
  · obtain ⟨hs1, hf1, hc1, hn1⟩ := State.streamLoses_journalRuns ({ s with jnl := { s.jnl with
      next := s.jnl.next + 1, ring := s.jnl.ringWith e, unspilled := min s.jnl.ringCap (s.jnl.unspilled + 1) } } : State)
      (s.jnl.next - s.jnl.unspilled) s.jnl.ring.head?
    exact ⟨⟨hs1, hf1, hc1, Nat.le_trans (Nat.le_succ _) hn1⟩, hloses _ _ _⟩
  · exact ⟨⟨rfl, rfl, rfl, Nat.le_succ _⟩, rfl⟩

theorem State.jAppend_journalRuns (s : State) (e : JEntry) : s.journalRuns (s.jAppend e) := by
  by_cases h : (!s.jnl.started || s.jnl.frozen) = true
  · rw [State.jAppend, if_pos h]
    exact s.journalRuns_refl
  · simp only [Bool.or_eq_true, Bool.not_eq_true', not_or, Bool.not_eq_false, Bool.not_eq_true] at h
    exact (State.jAppend_running e h.1 h.2).1

theorem State.jAccept_journalRuns (s : State) (e : JEntry) : s.journalRuns (s.jAccept e) := by
  unfold State.jAccept
  split
  · exact (s.jAppend_journalRuns e).trans (State.jAppend_journalRuns ((s.jAppend e).setReg _ _) _)
  · exact s.jAppend_journalRuns e

theorem State.foldl_jAccept_journalRuns (l : List JEntry) (s : State) : s.journalRuns (l.foldl State.jAccept s) := by
  induction l generalizing s with
  | nil => exact s.journalRuns_refl
  | cons e l ih => exact (s.jAccept_journalRuns e).trans (ih _)

theorem State.jDrain_journalRuns (s : State) (src : Nat) (f : JEntry → Bool) : s.journalRuns (s.jDrain src f) := by
  unfold State.jDrain
  dsimp only
  split
  · exact State.foldl_jAccept_journalRuns _ s
  · exact State.foldl_jAccept_journalRuns _ (s.setJSource _ _)

theorem State.journalTurn_journalRuns (s : State) : s.journalRuns s.journalTurn := by
  unfold State.journalTurn
  split
  · split
    · exact State.jAccept_journalRuns { s with jnl := _ } _
    · exact s.journalRuns_refl
  · exact s.journalRuns_refl

theorem State.journalTurns_journalRuns (n : Nat) (s : State) : s.journalRuns (State.journalTurns n s) := by
  induction n generalizing s with
  | zero => exact s.journalRuns_refl
  | succ n ih => exact s.journalTurn_journalRuns.trans (ih _)

/-! ### An entry that was taken stands in the ring -/

theorem Journal.mem_ringWith (j : Journal) (e : JEntry) : e ∈ j.ringWith e := by simp [Journal.ringWith]

/-- The newest entry outlives one more in a ring that holds two. -/
theorem Journal.mem_ringWith_of_last {j : Journal} {l : List JEntry} {e : JEntry} (f : JEntry) (h2 : 2 ≤ j.ringCap)
    (hring : j.ring = l ++ [e]) : e ∈ j.ringWith f := by
  unfold Journal.ringWith
  split
  · have hlen : j.ring.length = l.length + 1 := by simp [hring]
    rw [hlen, hring, List.drop_append_of_le_length (by omega)]
    simp
  · simp [hring]

theorem State.mem_ring_jAccept {s : State} (e : JEntry) (hs : s.jnl.started = true) (hf : s.jnl.frozen = false)
    (h2 : 2 ≤ s.jnl.ringCap) : e ∈ (s.jAccept e).jnl.ring := by
  obtain ⟨⟨hs1, hf1, hc1, -⟩, hring⟩ := State.jAppend_running e hs hf
  unfold State.jAccept
  split
  · have hover := (State.jAppend_running (s := (s.jAppend e).setReg Reg.CTRL_EVENTS ((s.jAppend e).reg Reg.CTRL_EVENTS |||
      BitVec.ofNat 32 (2 ^ Ev.EVENT_OVERFLOW.bit))) ⟨e.short, Src.SYS, Kind.EVENT, Ev.EVENT_OVERFLOW.bit, 0⟩
      (hs1.trans hs) (hf1.trans hf)).2
    rw [State.jOverflow, hover]
    exact Journal.mem_ringWith_of_last _ (by rw [State.setReg_jnl, hc1]; exact h2) hring
  · rw [hring]
    exact Journal.mem_ringWith _ _

/-- R368: a running journal takes the entry, under a number of its own. -/
theorem State.emit_running {s : State} (src kind code payload : Nat) (hs : s.jnl.started = true)
    (hf : s.jnl.frozen = false) (h2 : 2 ≤ s.jnl.ringCap) :
    s.jnl.next < (s.emit src kind code payload).jnl.next ∧
      (⟨s.short, src, kind, code, payload⟩ : JEntry) ∈ (s.emit src kind code payload).jnl.ring := by
  obtain ⟨hs1, hf1, hc1, hn1⟩ := s.jDrain_journalRuns src fun x => x.urgent || !(⟨s.short, src, kind, code, payload⟩ : JEntry).urgent
  exact ⟨Nat.lt_of_le_of_lt hn1 (State.jAccept_next_lt _ (hs1.trans hs) (hf1.trans hf)),
    State.mem_ring_jAccept _ (hs1.trans hs) (hf1.trans hf) (hc1.symm ▸ h2)⟩

/-! ### The next epoch -/

theorem Counter.fullNs_eq (c : Counter) (h : c.frac < 2 ^ 32) : c.fullNs = c.units / 2 ^ 32 := by
  simp only [Counter.units]
  omega

theorem Counter.fullNs_atUnits (c : Counter) {u : Nat} (h : u < unitsEnd) : (c.atUnits u).fullNs = u / 2 ^ 32 := by
  simp only [unitsEnd] at h
  rw [Counter.fullNs_eq _ (Nat.mod_lt _ (by decide)), Counter.units_atUnits _ (by omega)]

section NextEpoch

variable {s : State} {e u : Nat}

/-- R74: what stands before the entry of an epoch: the counter at its instant. -/
def State.atEpoch (s : State) (u : Nat) : State := (s.journalTo u).setUnits u

theorem State.atEpoch_nowNs (hend : u < unitsEnd) : (s.atEpoch u).nowNs = u / 2 ^ 32 := Counter.fullNs_atUnits _ hend

theorem State.atEpoch_units (hend : u < unitsEnd) : (s.atEpoch u).time.units = u := by
  simp only [unitsEnd] at hend
  exact Counter.units_atUnits _ (by omega)

theorem State.journalTo_journalRuns (s : State) (u : Nat) : s.journalRuns (s.journalTo u) := by
  unfold State.journalTo State.takeWaiting
  exact State.journalTurns_journalRuns _ s

theorem State.atEpoch_journalRuns (s : State) (u : Nat) : s.journalRuns (s.atEpoch u) := by
  have h := s.journalTo_journalRuns u
  unfold State.journalRuns at h ⊢
  rw [State.atEpoch, State.setUnits_jnl]
  exact h

theorem State.crossEpoch_eq (hu : u = e * 2 ^ 30 * 2 ^ 32) : s.crossEpoch e = (s.atEpoch u).emitEpoch := by
  unfold State.crossEpoch State.atEpoch
  rw [hu]

/-- There is no way left to the time that it is. -/
theorem State.journalTo_here (h : s.time.units = u) : s.journalTo u = s := by
  rw [State.journalTo, State.turnsTo, h, Nat.sub_self, State.takeWaiting, Nat.zero_min]
  rfl

/-- R74: the way to the next epoch crosses that one and no other. -/
theorem State.advanceTo_epoch (he : e = s.nowNs / 2 ^ 30 + 1) (hu : u = e * 2 ^ 30 * 2 ^ 32) (hfrac : s.time.frac < 2 ^ 32)
    (hend : u < unitsEnd) :
    s.advanceTo u = (s.atEpoch u).emitEpoch.setClock u (s.up + (u / 2 ^ 32 - s.nowNs)) := by
  have hnow : s.nowNs = s.time.units / 2 ^ 32 := Counter.fullNs_eq _ hfrac
  have hlen : u / 2 ^ 32 / 2 ^ 30 - s.nowNs / 2 ^ 30 = 1 := by omega
  have hone : s.epochsTo u = [e] := by
    rw [State.epochsTo, hlen, ← he]
    rfl
  have hunits : (s.atEpoch u).emitEpoch.time.units = u := by
    rw [State.emitEpoch, State.emit_time]
    exact State.atEpoch_units hend
  rw [State.advanceTo, if_neg (by omega), hone, List.foldl_cons, List.foldl_nil, State.crossEpoch_eq hu,
    State.journalTo_here hunits]

/-- R74: the entry of the epoch is taken there, with the full count. -/
theorem State.emitEpoch_running (hs : s.jnl.started = true) (hf : s.jnl.frozen = false) (h2 : 2 ≤ s.jnl.ringCap)
    (hend : u < unitsEnd) :
    s.jnl.next < (s.atEpoch u).emitEpoch.jnl.next ∧
      (⟨BitVec.ofNat 32 (u / 2 ^ 32), Src.SC, Kind.EPOCH, 0, u / 2 ^ 32⟩ : JEntry) ∈ (s.atEpoch u).emitEpoch.jnl.ring := by
  obtain ⟨hs1, hf1, hc1, hn1⟩ := s.atEpoch_journalRuns u
  obtain ⟨hnext, hmem⟩ := State.emit_running (s := s.atEpoch u) Src.SC Kind.EPOCH 0 (s.atEpoch u).nowNs (hs1.trans hs)
    (hf1.trans hf) (hc1.symm ▸ h2)
  rw [State.short, ← State.emitEpoch, State.atEpoch_nowNs hend] at hmem
  exact ⟨Nat.lt_of_le_of_lt hn1 hnext, hmem⟩

end NextEpoch

/-- Settles O12: EPOCH crosses the next epoch, whose entry the ring then holds. -/
theorem epochEntryHoldsFullCount : Obligations.EpochEntryHoldsFullCount := by
  unfold Obligations.EpochEntryHoldsFullCount
  intro s hrun hend hfrac hs hf _ hring n
  obtain ⟨e, he⟩ : ∃ e, e = s.nowNs / 2 ^ 30 + 1 := ⟨_, rfl⟩
  obtain ⟨u, hu⟩ : ∃ u, u = e * 2 ^ 30 * 2 ^ 32 := ⟨_, rfl⟩
  have hn : n = u / 2 ^ 32 := by omega
  have hexec : exec .epoch s = .next (s.advanceTo u) := by
    simp only [exec, execEpoch, hrun, if_true, State.advanceNs, hu, he]
  rw [← he, ← hu] at hend
  obtain ⟨hnext, hmem⟩ := State.emitEpoch_running hs hf (by omega) hend
  rw [hexec, State.advanceTo_epoch he hu hfrac hend, hn]
  refine ⟨_, rfl, ?now, ?frac, ?next, ?entry⟩
  case now => exact Counter.fullNs_atUnits _ hend
  case frac =>
    simp only [State.setClock, Counter.atUnits]
    omega
  case next =>
    rw [State.setClock_jnl]
    exact hnext
  case entry =>
    rw [State.setClock_jnl]
    exact hmem

end Sys2Proof.Machine
end

section
/-! ## Events that show, from operation to operation -/

namespace Sys2Proof.Machine

/-- An event in a register that counts no loss of the journal. -/
abbrev Ev.flag (e : Ev) : Prop := e.reg ≠ Reg.JNL_OVERWRITTEN ∧ e.reg ≠ Reg.JNL_STREAM_SKIPPED ∧ e.bit < 32

/-- The step from `s` to `t` keeps the register store canonical and every event that shows. -/
def State.KeepsEvents (s t : State) : Prop :=
  s.regsOk → t.regsOk ∧ ∀ e : Ev, e.flag → s.sees e = true → t.sees e = true

/-- From `s` with a canonical register store, `t` has one and shows the event. -/
def State.Shows (s t : State) (e : Ev) : Prop := s.regsOk → t.regsOk ∧ t.sees e = true

theorem State.keepsEvents_refl (s : State) : s.KeepsEvents s := fun hs => ⟨hs, fun _ _ h => h⟩

theorem State.KeepsEvents.trans {s t u : State} (h1 : s.KeepsEvents t) (h2 : t.KeepsEvents u) : s.KeepsEvents u := fun hs =>
  have ⟨ht, hst⟩ := h1 hs
  have ⟨hu, htu⟩ := h2 ht
  ⟨hu, fun e he h => htu e he (hst e he h)⟩

theorem State.Shows.trans {s t u : State} {e : Ev} (h1 : s.Shows t e) (he : e.flag) (h2 : t.KeepsEvents u) : s.Shows u e := fun hs =>
  have ⟨ht, hst⟩ := h1 hs
  have ⟨hu, htu⟩ := h2 ht
  ⟨hu, htu e he hst⟩

theorem State.KeepsEvents.shows {s t u : State} {e : Ev} (h1 : s.KeepsEvents t) (h2 : t.Shows u e) : s.Shows u e := fun hs =>
  h2 (h1 hs).1

theorem State.Shows.sees {s t : State} {e : Ev} (h : s.Shows t e) (hs : s.regsOk) : t.sees e = true := (h hs).2

theorem State.sees_of_regs {s t : State} (h : t.regs = s.regs) (e : Ev) : t.sees e = s.sees e :=
  State.sees_of_reg (by rw [State.reg, State.reg, h])

theorem State.keepsEvents_of_regs {s t : State} (h : t.regs = s.regs) : s.KeepsEvents t := fun hs =>
  ⟨State.regsOk_of_regs h hs, fun e _ hsees => (State.sees_of_regs h e).trans hsees⟩

theorem State.keepsEvents_foldl {α : Type} {f : State → α → State} (hf : ∀ (t : State) (x : α), t.KeepsEvents (f t x))
    (l : List α) (s : State) : s.KeepsEvents (l.foldl f s) := by
  induction l generalizing s with
  | nil => exact s.keepsEvents_refl
  | cons x l ih => exact (hf s x).trans (ih _)

/-! ### Records -/

theorem State.emit_keepsEvents (s : State) (src kind code payload : Nat) : s.KeepsEvents (s.emit src kind code payload) := fun hs =>
  ⟨State.emit_regsOk hs _ _ _ _, fun _ ⟨hover, hskip, _⟩ h => State.emit_sees hover hskip hs h _ _ _ _⟩

theorem State.raiseWith_keepsEvents (s : State) (e : Ev) (index detail : Nat) : s.KeepsEvents (s.raiseWith e index detail) := fun hs =>
  ⟨State.raiseWith_regsOk hs _ _ _, fun _ ⟨hover, hskip, _⟩ h => State.raiseWith_sees_of_sees hs hover hskip h _ _⟩

theorem State.raise_keepsEvents (s : State) (e : Ev) : s.KeepsEvents (s.raise e) := s.raiseWith_keepsEvents e 0 0

theorem State.raiseAt_keepsEvents (s : State) (e : Ev) (index : Nat) : s.KeepsEvents (s.raiseAt e index) :=
  s.raiseWith_keepsEvents e index 0

/-- R19: an event that is raised shows. -/
theorem State.raiseWith_shows (s : State) {e : Ev} (he : e.flag) (index detail : Nat) : s.Shows (s.raiseWith e index detail) e :=
  fun hs =>
    have ⟨hover, hskip, hbit⟩ := he
    ⟨State.raiseWith_regsOk hs _ _ _, State.raiseWith_sees hover hskip hs hbit _ _⟩

theorem State.raise_shows (s : State) {e : Ev} (he : e.flag) : s.Shows (s.raise e) e := s.raiseWith_shows he 0 0

theorem State.raiseAt_shows (s : State) {e : Ev} (he : e.flag) (index : Nat) : s.Shows (s.raiseAt e index) e :=
  s.raiseWith_shows he index 0

/-- A counter beside the event's register. -/
theorem State.count_sees {s : State} {a : Nat} {e : Ev} (h : e.reg ≠ a) : (s.count a).sees e = s.sees e :=
  State.sees_of_reg (State.reg_setReg_other s _ h)

/-! ### The passing of time -/

theorem State.jAccept_keepsEvents (s : State) (x : JEntry) : s.KeepsEvents (s.jAccept x) := fun hs =>
  ⟨State.jAccept_regsOk hs x, fun _ ⟨hover, hskip, _⟩ h => State.jAccept_sees hover hskip hs h x⟩

theorem State.journalTurn_keepsEvents (s : State) : s.KeepsEvents s.journalTurn := by
  unfold State.journalTurn
  split
  · split
    · refine State.KeepsEvents.trans ?_ (State.jAccept_keepsEvents _ _)
      exact State.keepsEvents_of_regs rfl
    · exact s.keepsEvents_refl
  · exact s.keepsEvents_refl

theorem State.journalTurns_keepsEvents (n : Nat) (s : State) : s.KeepsEvents (State.journalTurns n s) := by
  induction n generalizing s with
  | zero => exact s.keepsEvents_refl
  | succ n ih => exact s.journalTurn_keepsEvents.trans (ih _)

theorem State.journalTo_keepsEvents (s : State) (u : Nat) : s.KeepsEvents (s.journalTo u) := by
  unfold State.journalTo State.takeWaiting
  exact State.journalTurns_keepsEvents _ s

theorem State.crossEpoch_keepsEvents (s : State) (b : Nat) : s.KeepsEvents (s.crossEpoch b) := by
  unfold State.crossEpoch State.emitEpoch
  exact (s.journalTo_keepsEvents _).trans ((State.keepsEvents_of_regs (State.setUnits_regs _ _)).trans
    (State.emit_keepsEvents _ _ _ _ _))

theorem State.advanceTo_keepsEvents (s : State) (u : Nat) : s.KeepsEvents (s.advanceTo u) := by
  unfold State.advanceTo
  split
  · exact s.keepsEvents_refl
  · exact (State.keepsEvents_foldl State.crossEpoch_keepsEvents _ s).trans ((State.journalTo_keepsEvents _ u).trans
      (State.keepsEvents_of_regs (State.setClock_regs _ _ _)))

theorem State.pass_keepsEvents (s : State) (n : Nat) : s.KeepsEvents (s.pass n) := s.advanceTo_keepsEvents _

theorem State.reach_keepsEvents (s : State) (due : Nat) : s.KeepsEvents (s.reach due) := by
  unfold State.reach
  split
  · exact s.pass_keepsEvents _
  · exact s.keepsEvents_refl

end Sys2Proof.Machine
end

section
/-! ## The PTP service: R59 to R63, R124 -/

namespace Sys2Proof.Machine

/-! ### Domains and paths -/

@[simp] theorem State.dom_setDom_same (s : State) (b : Bool) (d : Domain) : (s.setDom b d).dom b = d := by cases b <;> rfl
@[simp] theorem State.dom_setDom_not (s : State) (b : Bool) (d : Domain) : (s.setDom b d).dom (!b) = s.dom (!b) := by cases b <;> rfl

theorem State.mayUse_ne_sv {s : State} {b : Bool} {p : Port} (h : s.domMayUse b p = true) : p ≠ .sv := by
  rintro rfl
  cases h

theorem Domain.path_setPath {p : Port} (h : p ≠ .sv) (d : Domain) (x : PortPath) : (d.setPath p x).path p = x := by
  cases p with
  | a => rfl
  | b => rfl
  | sv => exact absurd rfl h

/-! ### What the servo leaves as it is -/

/-- `t` has the Hearth of `s` but for the servo's own fields and the tick's number. -/
def State.sameButServo (s t : State) : Prop :=
  t.hearth = { s.hearth with
    k := t.hearth.k, servo := t.hearth.servo, everLocked := t.hearth.everLocked, good := t.hearth.good, bad := t.hearth.bad
    bothLost := t.hearth.bothLost, slewing := t.hearth.slewing, clamped := t.hearth.clamped, baseInc := t.hearth.baseInc
    bias := t.hearth.bias }

theorem State.sameButServo_of_hearth {s t : State} (h : t.hearth = s.hearth) : s.sameButServo t := by
  unfold State.sameButServo
  rw [h]

theorem State.sameButServo.trans {s t u : State} (h1 : s.sameButServo t) (h2 : t.sameButServo u) : s.sameButServo u := by
  unfold State.sameButServo at *
  rw [h1] at h2
  exact h2

theorem State.sameButServo.congr {s t : State} {α : Type} {f : Hearth → α} (h : s.sameButServo t)
    (hf : ∀ k servo everLocked good bad bothLost slewing clamped baseInc bias, f { s.hearth with
      k := k, servo := servo, everLocked := everLocked, good := good, bad := bad, bothLost := bothLost, slewing := slewing
      clamped := clamped, baseInc := baseInc, bias := bias } = f s.hearth) : f t.hearth = f s.hearth := by
  unfold State.sameButServo at h
  rw [h, hf]

theorem State.sameButServo.dom {s t : State} (h : s.sameButServo t) (b : Bool) : t.dom b = s.dom b :=
  h.congr (f := fun x => if b then x.dom1 else x.dom0) fun _ _ _ _ _ _ _ _ _ _ => rfl

theorem State.sameButServo.offset {s t : State} (h : s.sameButServo t) : t.hearth.offset = s.hearth.offset :=
  h.congr (f := Hearth.offset) fun _ _ _ _ _ _ _ _ _ _ => rfl

theorem State.sameButServo.retime {s t : State} (h : s.sameButServo t) : t.hearth.retime = s.hearth.retime :=
  h.congr (f := Hearth.retime) fun _ _ _ _ _ _ _ _ _ _ => rfl

theorem State.loadInc_sameButServo (s : State) (inc : Nat) : s.sameButServo (s.loadInc inc) := by
  unfold State.loadInc
  dsimp only
  split
  · rfl
  · exact State.sameButServo.trans (t := { s with time := _, hearth := { s.hearth with clamped := true } }) rfl
      (State.sameButServo_of_hearth (State.emit_hearth _ _ _ _ _))

theorem State.setServoInc_sameButServo (s : State) (base : Nat) (bias : Int) : s.sameButServo (s.setServoInc base bias) :=
  State.sameButServo.trans (t := { s with hearth := { s.hearth with baseInc := _, bias := _, slewing := _ } }) rfl
    (State.loadInc_sameButServo _ _)

theorem State.slewBy_sameButServo (s : State) (offset : Int) : s.sameButServo (s.slewBy offset) :=
  s.setServoInc_sameButServo _ _

theorem State.servoLock_sameButServo (s : State) : s.sameButServo s.servoLock := by
  unfold State.servoLock
  split
  · exact State.sameButServo_of_hearth rfl
  · exact State.sameButServo.trans
      (t := { s with hearth := { s.hearth with servo := .locked, everLocked := true, bad := 0, bothLost := false } }) rfl
      (State.sameButServo_of_hearth (State.raise_hearth _ _))

theorem State.servoUnlock_sameButServo (s : State) : s.sameButServo s.servoUnlock := by
  unfold State.servoUnlock
  split
  · exact State.sameButServo.trans (t := { s with hearth := { s.hearth with servo := .holdover, good := 0 } }) rfl
      (State.sameButServo_of_hearth (State.raise_hearth _ _))
  · rfl

theorem State.servoCriteria_sameButServo (s : State) (offset : Int) : s.sameButServo (s.servoCriteria offset) := by
  unfold State.servoCriteria
  extract_lets h good bad servo u
  have hu : s.sameButServo u := rfl
  split
  · split
    · exact hu.trans u.servoUnlock_sameButServo
    · exact hu
  · split
    · exact hu.trans u.servoLock_sameButServo
    · exact hu

/-- R88: without a retime only the tick's number follows a step. -/
theorem State.resumeGrid_sameButServo {s : State} (h : s.hearth.retime = none) : s.sameButServo s.resumeGrid := by
  unfold State.resumeGrid
  dsimp only
  split
  case h_1 hret _ => rw [h] at hret; cases hret
  case h_2 hret _ => rw [h] at hret; cases hret
  case h_3 => rfl

theorem State.jAcceptPair_hearth (s : State) (e f : JEntry) : (s.jAcceptPair e f).hearth = s.hearth :=
  (s.jAcceptPair_sameButRecords e f).congr fun _ _ _ _ _ _ _ => rfl

theorem State.takeWaiting_hearth (s : State) (n : Nat) : (s.takeWaiting n).hearth = s.hearth :=
  (s.takeWaiting_sameButRecords n).congr fun _ _ _ _ _ _ _ => rfl

theorem State.stepTo_sameButServo {s : State} (h : s.hearth.retime = none) (units : Nat) : s.sameButServo (s.stepTo units) := by
  unfold State.stepTo
  have hsame : ∀ t e f, ((((s.takeWaiting t).setUnits units).setEv Ev.STEP).jAcceptPair e f).hearth = s.hearth := fun t e f => by
    rw [State.jAcceptPair_hearth, State.setEv_hearth, State.setUnits_hearth, State.takeWaiting_hearth]
  exact (State.sameButServo_of_hearth (hsame _ _ _)).trans (State.resumeGrid_sameButServo (by rw [hsame, h]))

/-- R62: what a measurement does to the servo, which takes its offset. -/
theorem State.servoMeasure_sameButServo {s : State} (h : s.hearth.retime = none) (offset : Int) (mayStep : Bool) :
    State.sameButServo { s with hearth := { s.hearth with offset := offset } } (s.servoMeasure offset mayStep) := by
  unfold State.servoMeasure
  dsimp only
  refine State.sameButServo.trans ?_ (State.servoCriteria_sameButServo _ _)
  have hinc := State.setServoInc_sameButServo { s with hearth := { s.hearth with offset := offset } }
  split
  · split
    · exact (hinc _ _).trans (State.stepTo_sameButServo ((hinc _ _).retime.trans h) _)
    · exact State.slewBy_sameButServo _ _
  · exact State.sameButServo_of_hearth rfl

/-! ### Changes of the domain -/

theorem State.switchDomain_sameButServo (s : State) (b : Bool) (reason : Nat) :
    State.sameButServo { s with hearth := { s.hearth with
      secondActive := b, sourcePps := false, bothLost := false, offset := -(s.dom b).offset, good := 0, bad := 0 } }
      (s.switchDomain b reason) := by
  unfold State.switchDomain State.domainSwitchEvent
  dsimp only
  split
  · exact (State.slewBy_sameButServo _ _).trans (State.sameButServo_of_hearth (State.raiseWith_hearth _ _ _ _))
  · exact State.sameButServo_of_hearth (State.raiseWith_hearth _ _ _ _)

@[simp] theorem State.switchDomain_dom (s : State) (b c : Bool) (reason : Nat) : (s.switchDomain b reason).dom c = s.dom c :=
  (s.switchDomain_sameButServo b reason).dom c

@[simp] theorem State.switchDomain_retime (s : State) (b : Bool) (reason : Nat) :
    (s.switchDomain b reason).hearth.retime = s.hearth.retime := (s.switchDomain_sameButServo b reason).retime

/-- R66: a DOMAIN_SELECT that waits for the domain that delivers is answered. -/
theorem State.domainSelected_hearth_of_active {s : State} {b : Bool} (h : s.hearth.secondActive = b) :
    (s.domainSelected b).hearth = s.hearth := by
  unfold State.domainSelected
  split
  · simp
  · rfl

@[simp] theorem State.domainSelected_dom (s : State) (b c : Bool) : (s.domainSelected b).dom c = s.dom c := by
  unfold State.domainSelected
  split
  · dsimp only
    split <;> simp
  · rfl

@[simp] theorem State.domainSelected_retime (s : State) (b : Bool) : (s.domainSelected b).hearth.retime = s.hearth.retime := by
  unfold State.domainSelected
  split
  · dsimp only
    split <;> simp
  · rfl

/-! ### Sync: R59, R60, R62 -/

/-- The offset that a Sync measures. -/
def State.offsetOf (s : State) (second : Bool) (p : Port) (t1 t2 : Nat) (corr : Int) : Int :=
  (t2 : Int) - t1 - (s.dom second).mpdOn p - Int.fdiv corr 65536 - s.asymmetry p

/-- What a Sync tells of its path. -/
def Domain.told (d : Domain) (p : Port) (t1 t2 : Nat) (corr : Int) : Domain :=
  d.setPath p { d.path p with t2mt1 := some ((t2 : Int) - t1 - Int.fdiv corr 65536), twoStep := none }

theorem Domain.mpdOn_told (d : Domain) {p : Port} (hp : p ≠ .sv) (t1 t2 : Nat) (corr : Int) :
    (d.told p t1 t2 corr).mpdOn p = d.mpdOn p := by
  cases p with
  | a => rfl
  | b => rfl
  | sv => exact absurd rfl hp

section Sync

variable {s : State} {second : Bool} {m : SyncMsg}

/-- R60, R62: the domain after a measurement of a Sync. -/
def State.measuredDomain (s : State) (second : Bool) (m : SyncMsg) : Domain :=
  { (s.dom second).measure (s.param P.LOCK_THRESHOLD) (s.param P.UNLOCK_THRESHOLD)
      (decide (s.hearth.secondActive = second) && !s.hearth.sourcePps) (s.syncOffset second m) m m.port with
    syncUp := s.up, mpd := (s.dom second).mpdOn m.port }

/-- R62: what follows a measurement leaves both domains and the pending retime, and the domain that disciplines the counter
gives its offset to the servo. -/
theorem State.takeSync_domains (moved : Bool) (hret : s.hearth.retime = none) :
    (s.takeSync second m moved).dom second = s.measuredDomain second m ∧
      (s.takeSync second m moved).dom (!second) = s.dom (!second) ∧
      (s.takeSync second m moved).hearth.retime = none ∧
      (s.hearth.secondActive = second → s.hearth.sourcePps = false →
        (s.takeSync second m moved).hearth.offset = s.syncOffset second m) := by
  unfold State.takeSync
  extract_lets off disciplines d other s1 s2 s3
  have h1 : s1.dom second = s.measuredDomain second m ∧ s1.dom (!second) = s.dom (!second) ∧ s1.hearth.retime = none ∧
      s1.hearth.secondActive = s.hearth.secondActive ∧ s1.hearth.sourcePps = s.hearth.sourcePps := by
    cases second <;> exact ⟨rfl, rfl, hret, rfl, rfl⟩
  obtain ⟨hd1, ho1, hr1, ha1, hp1⟩ := h1
  have h2 : s2.dom second = s1.dom second ∧ s2.dom (!second) = s1.dom (!second) ∧ s2.hearth.retime = s1.hearth.retime := by
    simp only [s2]
    split <;> simp
  have h3 : s3.dom second = s1.dom second ∧ s3.dom (!second) = s1.dom (!second) ∧ s3.hearth.retime = none := by
    simpa [s3, hr1] using h2
  obtain ⟨hd3, ho3, hr3⟩ := h3
  rw [← hd1, ← ho1]
  split
  · rename_i hpps
    refine ⟨hd3, ho3, hr3, fun hact hno => ?_⟩
    have hs2 : s2 = s1 := if_neg (by simp [hp1, hno])
    have hsame : s3.hearth = s1.hearth := by
      simp only [s3, hs2]
      exact State.domainSelected_hearth_of_active (ha1.trans hact)
    exact absurd hpps (by simp [hsame, hp1, hno])
  · split
    · have hm := State.servoMeasure_sameButServo hr3 off (!moved && disciplines)
      exact ⟨(hm.dom _).trans hd3, (hm.dom _).trans ho3, hm.retime.trans hr3, fun _ _ => hm.offset⟩
    · rename_i hother
      have hact3 : s.hearth.secondActive = second → s.hearth.sourcePps = false → s3.hearth.secondActive = second := fun hact hno => by
        have hs2 : s2 = s1 := if_neg (by simp [hp1, hno])
        simp only [s3, hs2]
        rw [State.domainSelected_hearth_of_active (ha1.trans hact), ha1, hact]
      split
      · refine ⟨?_, ?_, ?_, fun hact hno => absurd (hact3 hact hno) hother⟩
        · simpa using hd3
        · simpa using ho3
        · simpa using hr3
      · exact ⟨hd3, ho3, hr3, fun hact hno => absurd (hact3 hact hno) hother⟩

theorem State.settleStep_of_none {s : State} (h : s.hearth.retime = none) (old : State) : s.settleStep old = s := by
  simp only [State.settleStep, h]

/-- What a complete Sync of `m` in the domain leaves: its measurement, and the other domain as it was. -/
def State.measures (s : State) (second : Bool) (m : SyncMsg) (t : State) : Prop :=
  (t.dom second).offset = -(s.offsetOf second m.port m.t1 m.t2 m.corr) ∧ (t.dom second).lastT1 = m.t1 ∧
    (t.dom second).lastT2 = m.t2 ∧ (t.dom second).syncAge = 0 ∧
    (t.dom second).path m.port = ((s.dom second).told m.port m.t1 m.t2 m.corr).path m.port ∧
    (s.hearth.secondActive = second → s.hearth.sourcePps = false →
      t.hearth.offset = s.offsetOf second m.port m.t1 m.t2 m.corr) ∧
    t.dom (!second) = s.dom (!second)

theorem State.completeSync_measures (hp : m.port ≠ .sv) (hret : s.hearth.retime = none)
    (hmove : (s.portMove second m.port).1 = true) :
    s.measures second m (s.completeSync second m) ∧ (s.completeSync second m).hearth.retime = none := by
  obtain ⟨u, hu⟩ : ∃ u, u = s.setDom second ((s.dom second).told m.port m.t1 m.t2 m.corr) := ⟨_, rfl⟩
  have hcomplete : s.completeSync second m = u.takeSync second m (s.portMove second m.port).2 := by
    rw [hu]
    exact if_pos hmove
  have hdom : u.dom second = (s.dom second).told m.port m.t1 m.t2 m.corr := by rw [hu, State.dom_setDom_same]
  have hhearth : u.hearth.retime = s.hearth.retime ∧ u.hearth.secondActive = s.hearth.secondActive ∧
      u.hearth.sourcePps = s.hearth.sourcePps ∧ ∀ p, u.asymmetry p = s.asymmetry p := by
    rw [hu]
    cases second <;> exact ⟨rfl, rfl, rfl, fun p => by cases p <;> rfl⟩
  obtain ⟨hretime, hactive, hpps, hasym⟩ := hhearth
  have hoff : u.syncOffset second m = s.offsetOf second m.port m.t1 m.t2 m.corr := by
    rw [State.syncOffset, State.offsetOf, hdom, Domain.mpdOn_told _ hp, hasym]
  obtain ⟨hd, ho, hr, hservo⟩ := State.takeSync_domains (s := u) (second := second) (m := m) (s.portMove second m.port).2
    (hretime.trans hret)
  have hpath : (u.measuredDomain second m).path m.port = ((s.dom second).told m.port m.t1 m.t2 m.corr).path m.port := by
    rw [← hdom]
    cases m.port <;> rfl
  rw [hcomplete]
  refine ⟨⟨?_, ?_, ?_, ?_, ?_, fun hact hno => ?_, ?_⟩, hr⟩
  · rw [hd, ← hoff]
    rfl
  · rw [hd]
    rfl
  · rw [hd]
    rfl
  · rw [hd]
    rfl
  · rw [hd, hpath]
  · rw [hservo (hactive.trans hact) (hpps.trans hno), hoff]
  · rw [ho, hu, State.dom_setDom_not]

/-- R62: a Sync on a port that the domain does not move to tells the path alone. -/
theorem State.completeSync_told (hmove : (s.portMove second m.port).1 = false) :
    s.completeSync second m = s.setDom second ((s.dom second).told m.port m.t1 m.t2 m.corr) :=
  if_neg (by simp [hmove])

/-- R88: no retime is pending, so a complete Sync ends there. -/
theorem State.settle_completeSync_told (hret : s.hearth.retime = none) (hmove : (s.portMove second m.port).1 = false) :
    (s.completeSync second m).settleStep s = s.setDom second ((s.dom second).told m.port m.t1 m.t2 m.corr) := by
  rw [State.completeSync_told hmove]
  refine State.settleStep_of_none ?_ s
  cases second <;> exact hret

theorem State.settle_completeSync_measures (hp : m.port ≠ .sv) (hret : s.hearth.retime = none)
    (hmove : (s.portMove second m.port).1 = true) : s.measures second m ((s.completeSync second m).settleStep s) := by
  obtain ⟨hm, hr⟩ := State.completeSync_measures hp hret hmove
  rw [State.settleStep_of_none hr]
  exact hm

end Sync

/-- R59: the Sync that a Follow_Up completes. -/
def State.followedSync (s : State) (second : Bool) (domain : Nat) (port : Port) (seq t1 t2 : Nat) (corr : Int) : SyncMsg :=
  let d := s.dom second
  { domain := domain, port := port, transport := d.transport, gm := d.gm, seq := seq, twoStep := true, t1 := t1, t2 := t2
    corr := corr, logInterval := d.logSync }

/-- Settles O13: a Sync of one step and a Follow_Up both complete a Sync, which measures where its port serves the domain. -/
theorem syncMeasuresTheOffset : Obligations.SyncMeasuresTheOffset := by
  unfold Obligations.SyncMeasuresTheOffset
  intro s m second q t2 c hready hret hdomain d off told measured
  constructor
  · intro hmasters hgm huse
    have hexec : exec (.sync m) s = if m.twoStep then .next (s.setDom second
        { (d.setPath m.port { d.path m.port with twoStep := some (m.seq, m.t2, m.corr) }) with
          logSync := m.logInterval, transport := m.transport }) else .next ((s.completeSync second m).settleStep s) := by
      simp only [exec, execSync, hdomain]
      exact if_neg (by simp [State.ptpReady, hready, huse, show (s.dom second).masters ≠ [] from hmasters,
        show (s.dom second).gm = m.gm from hgm])
    refine ⟨fun hone hmove => ⟨_, hexec.trans (if_neg (by simp [hone])), ?measured⟩, fun hone hmove => ?told, fun htwo => ?two⟩
    case measured => exact State.settle_completeSync_measures (State.mayUse_ne_sv huse) hret hmove
    case told =>
      rw [hexec, if_neg (by simp [hone])]
      exact congrArg Host.Outcome.next (State.settle_completeSync_told hret hmove)
    case two => exact hexec.trans (if_pos htwo)
  · intro hwait huse
    have hexec : exec (.followUp m.domain m.port q m.t1 m.corr) s =
        .next ((s.completeSync second (s.followedSync second m.domain m.port q m.t1 t2 (c + m.corr))).settleStep s) := by
      simp only [exec, execFollowUp, hdomain, show ((s.dom second).path m.port).twoStep = some (q, t2, c) from hwait]
      exact if_pos ⟨by simp [State.ptpReady, hready], trivial, huse⟩
    refine ⟨fun hmove => ⟨_, hexec, ?followed⟩, fun hmove => hexec.trans (congrArg Host.Outcome.next ?path)⟩
    case followed => exact State.settle_completeSync_measures (State.mayUse_ne_sv huse) hret hmove
    case path => exact State.settle_completeSync_told hret hmove

/-! ### Path delays: R59, R60, R124 -/

/-- R60: both mechanisms, with the terms that they need at hand. -/
theorem pathDelay_of {p2p : Bool} {x : PortPath} {f : Int} (h : p2p = true ∨ x.t2mt1 = some f) (t3 t4 : Nat) (corr : Int) :
    pathDelay p2p x t3 t4 corr =
      some (if p2p then Int.fdiv ((t4 : Int) - t3 - Int.fdiv corr 65536) 2
        else Int.fdiv (f + ((t4 : Int) - t3 - Int.fdiv corr 65536)) 2) := by
  cases p2p with
  | true => rfl
  | false => simp [pathDelay, h.resolve_left Bool.false_ne_true]

theorem State.ne_sv_of_req {d : Domain} {p : Port} {x : Nat × Nat} (h : (d.path p).req = some x) : p ≠ .sv := by
  rintro rfl
  cases h

theorem satSigned_of_lt {n : Nat} (h : n < 2 ^ 63) : satSigned 64 (n : Int) = n := by
  have hmax : max (-(2 ^ (64 - 1) : Int)) (min (2 ^ (64 - 1) - 1 : Int) n) = n := by omega
  rw [satSigned, hmax, BitVec.toNat_ofInt]
  omega

/-- R124: the correction field of a Pdelay_Resp holds the turnaround time. -/
theorem State.pdelayResponse_correction (s : State) (p : Port) {m : PdelayMsg} (h : m.turnaround * 65536 < 2 ^ 63) :
    field (s.pdelayResponse p m).payload 8 8 = m.turnaround * 65536 := by
  have hsat : satSigned 64 ((m.turnaround : Int) * 65536) = m.turnaround * 65536 :=
    (congrArg (satSigned 64) (Int.natCast_mul m.turnaround 65536).symm).trans (satSigned_of_lt h)
  simp only [State.pdelayResponse, ptpFrame, State.ptpHeader, hsat, List.append_assoc]
  simp (disch := simp) only [field_append_of_le, length_beBytes, List.length_cons, List.length_nil, Nat.reduceAdd, Nat.reduceSub]
  exact field_beBytes_append_of_lt (by omega) _

/-- Settles O14: each message by its rule. -/
theorem pathDelayIsHalfTheRoundTrip : Obligations.PathDelayIsHalfTheRoundTrip := by
  unfold Obligations.PathDelayIsHalfTheRoundTrip
  intro s second p m domain t3 t4 q corr f hready d x back
  have hptp : s.ptpReady = true := by simp [State.ptpReady, hready]
  refine ⟨fun hen huse hhas hup => ?req, fun hdomain hreq hhas => ?resp, fun hp hp2p => if_pos ⟨hptp, hp, hp2p⟩,
    fun h => s.pdelayResponse_correction p h⟩
  case req => exact if_pos ⟨hptp, hen, huse, hhas.imp id fun h => Option.isSome_iff_ne_none.mpr h, hup⟩
  case resp =>
    have hp : p ≠ .sv := State.ne_sv_of_req hreq
    intro mpd
    have hmpd : pathDelay (s.domP2p second) x t3 t4 corr = some mpd := pathDelay_of hhas t3 t4 corr
    obtain ⟨e, he⟩ : ∃ e, e = d.setPath p { x with req := none, mpd := some mpd } := ⟨_, rfl⟩
    have hpath : e.path p = { x with req := none, mpd := some mpd } := by rw [he, Domain.path_setPath hp]
    have hkeeps : e.port = d.port ∧ e.mpd = d.mpd := by
      rw [he]
      cases p <;> exact ⟨rfl, rfl⟩
    have hexec : exec (.delayResp domain q ⟨p, t4⟩ corr) s =
        .next (s.setDom second (if e.port = some p then { e with mpd := mpd } else e)) := by
      simp only [exec, execDelayResp, hdomain, show ((s.dom second).path p).req = some (q, t3) from hreq, hptp, he]
      simp [show pathDelay (s.domP2p second) ((s.dom second).path p) t3 t4 corr = some mpd from hmpd, d, x]
    refine ⟨_, hexec, ?_⟩
    simp only [State.dom_setDom_same, hkeeps]
    split
    · exact ⟨congrArg PortPath.mpd hpath, congrArg PortPath.req hpath, rfl, trivial⟩
    · exact ⟨congrArg PortPath.mpd hpath, congrArg PortPath.req hpath, hkeeps.2, trivial⟩

/-! ### Masters: R59 -/

theorem bestMaster_eq_none {l : List Foreign} (h : bestMaster l = none) : l = [] := by
  cases l with
  | nil => rfl
  | cons f fs =>
    simp only [bestMaster] at h
    split at h
    · split at h <;> cases h
    · cases h

/-- R59: the domain has these foreign masters and follows the best of them. -/
def State.selects (s : State) (second : Bool) (l : List Foreign) : Prop :=
  (s.dom second).masters = l ∧
    ((∃ g, bestMaster l = some g ∧ (s.dom second).gm = g.gm) ∨ l = [] ∧ (s.dom second).gm = 0)

theorem State.selectMaster_selects (s : State) (second : Bool) : (s.selectMaster second).selects second (s.dom second).masters := by
  unfold State.selectMaster
  extract_lets d a n s1
  split
  case h_1 hnone =>
    have hnil := bestMaster_eq_none hnone
    simp [State.selects, hnil, d]
  case h_2 g hsome =>
    split
    · exact ⟨by simp [d], .inl ⟨g, hsome, by simp⟩⟩
    · extract_lets s2 s3
      have hdom : (s3.dom second).masters = d.masters ∧ (s3.dom second).gm = g.gm := by simp [s3, s2]
      split
      · exact ⟨by simpa using hdom.1, .inl ⟨g, hsome, by simpa using hdom.2⟩⟩
      · exact ⟨hdom.1, .inl ⟨g, hsome, hdom.2⟩⟩

/-- R59: a change of the foreign masters ends with the selection among them. -/
theorem State.setDom_selectMaster_selects (s : State) (second : Bool) (d : Domain) :
    ((s.setDom second d).selectMaster second).selects second d.masters := by
  have h := State.selectMaster_selects (s.setDom second d) second
  rw [State.dom_setDom_same] at h
  exact h

/-! ### The loss of Sync: R63 -/

theorem State.setServoInc_units (s : State) (base : Nat) (bias : Int) : (s.setServoInc base bias).time.units = s.time.units := by
  unfold State.setServoInc State.loadInc
  dsimp only
  split
  · rfl
  · rw [State.emit_time]
    rfl

/-- R63, R67: a change of the domain takes no step. -/
theorem State.switchDomain_units (s : State) (b : Bool) (reason : Nat) : (s.switchDomain b reason).time.units = s.time.units := by
  unfold State.switchDomain State.domainSwitchEvent
  dsimp only
  rw [State.raiseWith_time]
  split
  · exact State.setServoInc_units _ _ _
  · rfl

theorem State.switchDomain_active (s : State) (b : Bool) (reason : Nat) : (s.switchDomain b reason).hearth.secondActive = b :=
  (s.switchDomain_sameButServo b reason).congr (f := Hearth.secondActive) fun _ _ _ _ _ _ _ _ _ _ => rfl

/-- R60: with a port of its own choice a domain has no other one. -/
theorem State.otherPort_of_fixed {s : State} {b : Bool} (h : s.domPortSel b ≠ 0) : s.otherPort b = none := by
  simp [State.otherPort, h]

theorem Domain.st_ne_none_of_delivers {d : Domain} (h : d.delivers = true) : d.st ≠ .none := by
  intro hst
  simp [Domain.delivers, hst] at h

/-- R63: the domain that lost its Sync. -/
def Domain.lost (d : Domain) : Domain :=
  { d with st := if d.st = .none then .none else .lost, syncAge := min 255 (max 3 d.syncAge), good := 0, bad := 0 }

section Loss

variable {s : State} {second : Bool} (hact : s.hearth.secondActive = second)

include hact in
theorem exec_syncLoss (hdel : (s.dom second).delivers = true) (hsel : s.domPortSel second ≠ 0) :
    exec .syncLoss s = .next s.loseActive := by
  simp only [exec, execSyncLoss, hact, hdel, if_true, State.otherPort_of_fixed hsel]

/-- R63: both domains are lost where the other one brings no Sync either. -/
def State.noteBothLost (s : State) (second : Bool) : State :=
  if (s.dom (!second)).delivers then s else { s with hearth := { s.hearth with bothLost := true } }

include hact in
theorem State.loseActive_eq : s.loseActive =
    let v := s.setDom second (s.dom second).lost
    if (v.dom (!second)).st = .locked then v.switchDomain (!second) 0
    else if (v.noteBothLost second).hearth.sourcePps then v.noteBothLost second
    else (v.noteBothLost second).servoUnlock.holdBase := by
  subst hact
  rfl

include hact in
/-- R63: the other domain is LOCKED, and takes over. -/
theorem State.loseActive_to_other (hother : (s.dom (!second)).st = .locked) :
    s.loseActive = (s.setDom second (s.dom second).lost).switchDomain (!second) 0 := by
  rw [State.loseActive_eq hact]
  exact if_pos (by rw [State.dom_setDom_not, hother])

theorem State.noteBothLost_hearth (v : State) : (v.noteBothLost second).hearth.servo = v.hearth.servo ∧
    (v.noteBothLost second).hearth.secondActive = v.hearth.secondActive ∧
    (v.noteBothLost second).hearth.sourcePps = v.hearth.sourcePps ∧
    (v.noteBothLost second).dom second = v.dom second ∧ (v.noteBothLost second).regs = v.regs := by
  unfold State.noteBothLost
  split <;> exact ⟨rfl, rfl, rfl, rfl, rfl⟩

include hact in
/-- R63: nothing takes over, and the servo loses its lock. -/
theorem State.loseActive_unlocks (hother : (s.dom (!second)).st ≠ .locked) (hpps : s.hearth.sourcePps = false) :
    ∃ u : State, s.loseActive = u.servoUnlock.holdBase ∧ u.hearth.servo = s.hearth.servo ∧
      u.hearth.secondActive = second ∧ u.dom second = (s.dom second).lost ∧ u.regs = s.regs := by
  obtain ⟨v, hv⟩ : ∃ v, v = s.setDom second (s.dom second).lost := ⟨_, rfl⟩
  obtain ⟨hservo, hactive, hno, hdom, hregs⟩ := v.noteBothLost_hearth (second := second)
  have hvs : v.hearth.servo = s.hearth.servo ∧ v.hearth.secondActive = s.hearth.secondActive ∧
      v.hearth.sourcePps = s.hearth.sourcePps ∧ v.regs = s.regs := by
    rw [hv]
    cases second <;> exact ⟨rfl, rfl, rfl, rfl⟩
  obtain ⟨hservo', hactive', hno', hregs'⟩ := hvs
  refine ⟨v.noteBothLost second, ?_, hservo.trans hservo', (hactive.trans hactive').trans hact, ?_, hregs.trans hregs'⟩
  · rw [State.loseActive_eq hact, ← hv]
    dsimp only
    rw [if_neg (by rw [hv, State.dom_setDom_not]; exact hother), if_neg (by simp [hno.trans hno', hpps])]
  · rw [hdom, hv, State.dom_setDom_same]

theorem State.holdBase_sameButServo (s : State) : s.sameButServo s.holdBase := by
  unfold State.holdBase
  split
  · exact s.setServoInc_sameButServo _ _
  · exact State.sameButServo_of_hearth rfl

theorem State.setServoInc_servo (s : State) (base : Nat) (bias : Int) : (s.setServoInc base bias).hearth.servo = s.hearth.servo := by
  unfold State.setServoInc State.loadInc
  dsimp only
  split
  · rfl
  · rw [State.emit_hearth]

theorem State.loadInc_keepsEvents (s : State) (inc : Nat) : s.KeepsEvents (s.loadInc inc) := by
  unfold State.loadInc
  dsimp only
  split
  · exact State.keepsEvents_of_regs rfl
  · refine State.KeepsEvents.trans ?_ (State.emit_keepsEvents _ _ _ _ _)
    exact State.keepsEvents_of_regs rfl

theorem State.setServoInc_keepsEvents (s : State) (base : Nat) (bias : Int) : s.KeepsEvents (s.setServoInc base bias) := by
  refine State.KeepsEvents.trans ?_ (State.loadInc_keepsEvents _ _)
  exact State.keepsEvents_of_regs rfl

/-- R57: a locked servo that loses its reference holds over, and says so. -/
theorem State.servoUnlock_of_locked {u : State} (h : u.hearth.servo = .locked) :
    u.servoUnlock.holdBase.hearth.servo = .holdover ∧ u.Shows u.servoUnlock.holdBase Ev.TIME_UNLOCKED := by
  have hunlock : u.servoUnlock = ({ u with hearth := { u.hearth with servo := .holdover, good := 0 } }.irq Irq.LOCK_CHANGE).raise
      Ev.TIME_UNLOCKED := if_pos h
  have hshows : u.Shows u.servoUnlock Ev.TIME_UNLOCKED := by
    rw [hunlock]
    refine State.KeepsEvents.shows ?_ (State.raise_shows _ (e := Ev.TIME_UNLOCKED) (by decide))
    exact State.keepsEvents_of_regs rfl
  have hservo : u.servoUnlock.hearth.servo = .holdover := by
    rw [hunlock, State.raise_hearth]
    rfl
  unfold State.holdBase
  split
  · exact ⟨(State.setServoInc_servo _ _ _).trans hservo, hshows.trans (by decide) (State.setServoInc_keepsEvents _ _ _)⟩
  · exact ⟨hservo, hshows⟩

end Loss

/-- Settles O15: the selection of masters, and the two ways out of a loss of Sync. -/
theorem mastersAndDomainsAreSelected : Obligations.MastersAndDomainsAreSelected := by
  unfold Obligations.MastersAndDomainsAreSelected
  intro s m second hready d f withF without selects
  refine ⟨fun hdomain hport => ⟨_, ?announce, State.setDom_selectMaster_selects s second { d with masters := withF, announceAge := 0 }⟩,
    ⟨_, rfl, State.setDom_selectMaster_selects s second { d with masters := without, announceAge := 3 }⟩,
    fun hact hdel hsel hother => ⟨_, exec_syncLoss hact hdel hsel, ?other⟩,
    fun hact hdel hsel hother hpps hlocked => ⟨_, exec_syncLoss hact hdel hsel, ?unlock⟩⟩
  case announce =>
    simp only [exec, execAnnounce, hdomain]
    exact if_neg (by simp [State.ptpReady, hready, hport])
  all_goals have hlost : d.lost.st = .lost := if_neg (Domain.st_ne_none_of_delivers hdel)
  case other =>
    rw [State.loseActive_to_other hact hother, State.switchDomain_active, State.switchDomain_dom, State.switchDomain_units,
      State.dom_setDom_same, State.setDom_time]
    exact ⟨rfl, hlost, rfl⟩
  case unlock =>
    obtain ⟨u, hu, hservo, hactive, hdom, hregs⟩ := State.loseActive_unlocks hact hother hpps
    obtain ⟨hhold, hshows⟩ := State.servoUnlock_of_locked (hservo.trans hlocked)
    have hsame := u.servoUnlock_sameButServo.trans u.servoUnlock.holdBase_sameButServo
    rw [hu]
    refine ⟨hhold, ?_, ?_, fun hs => hshows.sees (State.regsOk_of_regs hregs hs)⟩
    · exact (hsame.congr (f := Hearth.secondActive) fun _ _ _ _ _ _ _ _ _ _ => rfl).trans hactive
    · rw [hsame.dom, hdom, hlost]

end Sys2Proof.Machine
end

section
/-! ## Pulses, the tick line and the counter's registers: R48, R50, R53, R54, R90 to R94 -/

namespace Sys2Proof.Machine

/-! ### What shows when the servo changes -/

theorem State.servoUnlock_keepsEvents (s : State) : s.KeepsEvents s.servoUnlock := by
  unfold State.servoUnlock
  split
  · refine State.KeepsEvents.trans ?_ (State.raise_keepsEvents _ _)
    exact State.keepsEvents_of_regs rfl
  · exact State.keepsEvents_of_regs rfl

theorem State.holdBase_keepsEvents (s : State) : s.KeepsEvents s.holdBase := by
  unfold State.holdBase
  split
  · exact s.setServoInc_keepsEvents _ _
  · exact s.keepsEvents_refl

theorem State.servoUnlock_up (s : State) : s.servoUnlock.up = s.up := by
  unfold State.servoUnlock
  split
  · rw [State.raise_up]
    rfl
  · rfl

theorem State.setServoInc_up (s : State) (base : Nat) (bias : Int) : (s.setServoInc base bias).up = s.up := by
  unfold State.setServoInc State.loadInc
  dsimp only
  split
  · rfl
  · rw [State.emit_up]

theorem State.holdBase_up (s : State) : s.holdBase.up = s.up := by
  unfold State.holdBase
  split
  · exact s.setServoInc_up _ _
  · rfl

/-- R57: with no source left the servo holds over; nothing else of the pulses changes. -/
theorem State.sourcesLost_frame (s : State) : s.sameButServo s.sourcesLost ∧ s.KeepsEvents s.sourcesLost ∧ s.sourcesLost.up = s.up := by
  unfold State.sourcesLost
  split
  · exact ⟨State.sameButServo_of_hearth rfl, s.keepsEvents_refl, rfl⟩
  · exact ⟨s.servoUnlock_sameButServo.trans (State.holdBase_sameButServo _),
      s.servoUnlock_keepsEvents.trans (State.holdBase_keepsEvents _), (State.holdBase_up _).trans s.servoUnlock_up⟩

/-! ### PPS_IN: R93 -/

/-- R93: what an edge of PPS_IN tells. -/
def State.ppsSeen (s : State) (stamp : Nat) : State :=
  { s with hearth := { s.hearth with
      ppsStamp := stamp % 2 ^ 32, ppsError := ppsErrorOf stamp, ppsLastUp := s.up, ppsLost := false } }

theorem exec_ppsIn {s : State} (stamp : Nat) (hr : s.sys.inReset = false) (hmode : s.ppsInMode ≤ 1) :
    exec (.ppsIn stamp) s = .next (if s.ppsInMode = 1 ∧ 1000 < (ppsErrorOf stamp).natAbs
      then (s.ppsSeen stamp).raise Ev.PPS_IN_ERROR else s.ppsSeen stamp) := by
  have hsame : (s.ppsSeen stamp).ppsInMode = s.ppsInMode := rfl
  simp only [exec, execPpsIn, hr, Bool.false_eq_true, if_false]
  rw [← State.ppsSeen, hsame]
  by_cases h1 : s.ppsInMode = 1
  · simp only [h1, if_true, true_and]
  · simp only [h1, if_false, false_and]
    exact if_neg (by omega)

theorem ppsIn_seen {s : State} (stamp : Nat) (hr : s.sys.inReset = false) (hmode : s.ppsInMode ≤ 1) :
    ∃ t, exec (.ppsIn stamp) s = .next t ∧ t.hearth = (s.ppsSeen stamp).hearth ∧ t.time = s.time ∧
      (s.regsOk → s.ppsInMode = 1 → 1000 < (ppsErrorOf stamp).natAbs → t.sees Ev.PPS_IN_ERROR = true) ∧
      (s.ppsInMode = 1 → (ppsErrorOf stamp).natAbs ≤ 1000 → t.regs = s.regs) := by
  refine ⟨_, exec_ppsIn stamp hr hmode, ?_⟩
  split
  · rename_i h
    exact ⟨State.raise_hearth _ _, State.raise_time _ _, fun hs _ _ => ((s.ppsSeen stamp).raise_shows (by decide)).sees hs,
      fun _ hle => absurd h.2 (by omega)⟩
  · rename_i h
    exact ⟨rfl, rfl, fun _ h1 hlt => absurd ⟨h1, hlt⟩ h, fun _ _ => rfl⟩

theorem ppsInLost_lost {s : State} (hr : s.sys.inReset = false) (hlost : s.hearth.ppsLost = false) :
    ∃ t, exec .ppsInLost s = .next t ∧ t.hearth.ppsLost = true ∧ t.hearth.sourcePps = false ∧
      s.hearth.ppsLastUp + 2000000000 ≤ t.up ∧ (s.regsOk → t.sees Ev.PPS_IN_LOST = true) := by
  obtain ⟨due, hdue⟩ : ∃ due, due = s.hearth.ppsLastUp + 2000000000 := ⟨_, rfl⟩
  obtain ⟨u, hu⟩ : ∃ u, u = s.reach due := ⟨_, rfl⟩
  obtain ⟨v, hv⟩ : ∃ v : State, v = { u with hearth := { u.hearth with ppsLost := true, sourcePps := false } } := ⟨_, rfl⟩
  have hexec : exec .ppsInLost s = .next (v.raise Ev.PPS_IN_LOST).sourcesLost := by
    simp only [exec, execPpsInLost, hlost, hr, Bool.false_eq_true, or_self, if_false, hv, hu, hdue]
  obtain ⟨hsame, hkeeps, hup⟩ := (v.raise Ev.PPS_IN_LOST).sourcesLost_frame
  refine ⟨_, hexec, ?_, ?_, ?_, fun hs => ?_⟩
  · rw [hsame.congr (f := Hearth.ppsLost) fun _ _ _ _ _ _ _ _ _ _ => rfl, State.raise_hearth, hv]
  · rw [hsame.congr (f := Hearth.sourcePps) fun _ _ _ _ _ _ _ _ _ _ => rfl, State.raise_hearth, hv]
  · rw [hup, State.raise_up, hv, hu, ← hdue]
    exact s.le_reach_up due
  · have hsv : s.KeepsEvents v := by
      rw [hv, hu]
      exact (s.reach_keepsEvents _).trans (State.keepsEvents_of_regs rfl)
    exact ((hsv.shows (v.raise_shows (by decide))).trans (by decide) hkeeps).sees hs

/-! ### PPS_OUT: R93 -/

theorem State.advanceTo_units (s : State) {u : Nat} (h : u < unitsEnd) : (s.advanceTo u).time.units = max s.time.units u := by
  simp only [unitsEnd] at h
  unfold State.advanceTo
  split
  · omega
  · rw [State.setClock, Counter.units_atUnits _ (by omega)]
    omega

/-- A counter that shows a whole second. -/
theorem Counter.whole_second {c : Counter} (hns : c.ns < 1000000000) (hfrac : c.frac < 2 ^ 32) {n : Nat}
    (h : c.units = n * (1000000000 * 2 ^ 32)) : c.frac = 0 ∧ c.ns = 0 := by
  simp only [Counter.units, Counter.fullNs] at h
  omega

theorem State.ppsNext_of_seconds {s : State} (h : s.ppsOutSel = 1) : s.ppsNext =
    some (((if s.hearth.ppsRise = s.time.units then s.time.units else s.time.units - 1) / (1000000000 * 2 ^ 32) + 1) *
      (1000000000 * 2 ^ 32)) := by
  simp only [State.ppsNext, State.ppsEdges, h, List.head?_cons]

theorem ppsOut_rises {s : State} (hr : s.sys.inReset = false) (hsel : s.ppsOutSel = 1) (hlow : s.hearth.ppsOutLevel = false)
    (htime : s.timeOk) (hend : s.time.units + 1000000000 * 2 ^ 32 < unitsEnd) :
    ∃ t, exec .ppsOut s = .next t ∧ t.hearth.ppsOutLevel = true ∧ t.time.frac = 0 ∧ t.time.ns = 0 ∧
      s.time.units ≤ t.time.units ∧ (s.hearth.ppsRise = s.time.units → s.time.units < t.time.units) ∧
      t.time.units ≤ s.time.units + 1000000000 * 2 ^ 32 ∧ t.hearth.ppsRise = t.time.units := by
  have hnext := State.ppsNext_of_seconds hsel
  obtain ⟨n, hn⟩ : ∃ n, n = (if s.hearth.ppsRise = s.time.units then s.time.units else s.time.units - 1) /
    (1000000000 * 2 ^ 32) + 1 := ⟨_, rfl⟩
  rw [← hn] at hnext
  obtain ⟨u, hu⟩ : ∃ u, u = n * (1000000000 * 2 ^ 32) := ⟨_, rfl⟩
  rw [← hu] at hnext
  have hbounds : s.time.units ≤ u ∧ (s.hearth.ppsRise = s.time.units → s.time.units < u) ∧
      u ≤ s.time.units + 1000000000 * 2 ^ 32 := by
    split at hn <;> omega
  obtain ⟨hle, hlt, hmax⟩ := hbounds
  have hunits : (s.advanceTo u).time.units = u := by
    rw [State.advanceTo_units s (by omega), Nat.max_eq_right hle]
  obtain ⟨hns, hfrac⟩ := State.advanceTo_timeOk htime u
  obtain ⟨hfrac0, hns0⟩ := Counter.whole_second hns hfrac (hunits.trans hu)
  refine ⟨{ s.advanceTo u with hearth := { (s.advanceTo u).hearth with ppsOutLevel := true, ppsRise := u } }, ?_, rfl, hfrac0, hns0,
    ?_, ?_, ?_, hunits.symm⟩
  · simp only [exec, execPpsOut, hsel, hr, hlow, hnext, Nat.one_ne_zero, Bool.false_eq_true, or_self, if_false]
  · rw [hunits]
    exact hle
  · rw [hunits]
    exact hlt
  · rw [hunits]
    exact hmax

theorem ppsOut_falls {s : State} (hhigh : s.hearth.ppsOutLevel = true) :
    ∃ t, exec .ppsOut s = .next t ∧ t.hearth.ppsOutLevel = false := by
  simp only [exec, execPpsOut, hhigh, if_true]
  split <;> exact ⟨_, rfl, rfl⟩

/-! ### The shared tick line: R90 to R92 -/

/-- R90, R91: an edge beyond the tolerance counts once for its tick, and one within it ends the count. -/
theorem TickOd.edge_judged (od : TickOd) (tolerance : Nat) (skew : Int) :
    (od.edge tolerance skew).skew = skew ∧
      (tolerance < skew.natAbs → (od.edge tolerance skew).silent = od.silent ∧
        (od.edge tolerance skew).skewRun = od.skewRun + b2n !(if skew < 0 then od.measuredNext else od.measured)) ∧
      (skew.natAbs ≤ tolerance → (od.edge tolerance skew).skewRun = 0 ∧ (od.edge tolerance skew).silent = 0 ∧
        (if skew < 0 then (od.edge tolerance skew).edgeNext else (od.edge tolerance skew).edgeSeen) = true) := by
  unfold TickOd.edge
  by_cases hneg : skew < 0
  · by_cases htol : skew.natAbs ≤ tolerance
    · simp [hneg, htol, Nat.not_lt.mpr htol]
    · cases od.measuredNext <;> simp [hneg, htol, b2n]
  · by_cases htol : skew.natAbs ≤ tolerance
    · simp [hneg, htol, Nat.not_lt.mpr htol]
    · cases od.measured <;> simp [hneg, htol, b2n]

theorem State.alignTo_sameButServo (s : State) (skew : Int) : s.sameButServo (s.alignTo skew) := by
  unfold State.alignTo
  dsimp only
  split
  · exact s.setServoInc_sameButServo _ _
  · exact State.sameButServo_of_hearth rfl

section TickLine

variable {s : State} (hen : s.odEn = true) (hmode : s.mode ≠ .boot)
include hen hmode

/-- R90, R91: a device that listens judges the edge; in HOLDOVER it also aligns its counter. -/
theorem tickOdEdge_judges (skew : Int) (hdrive : s.hearth.od.driving = false) :
    ∃ t, exec (.tickOdEdge skew) s = .next t ∧
      (∃ align, t.hearth.od = { s.hearth.od.edge s.odTolerance skew with aligning := align }) ∧
      (s.hearth.servo ≠ .holdover → t = { s with hearth := { s.hearth with od := t.hearth.od } }) := by
  obtain ⟨u, hu⟩ : ∃ u : State, u = { s with hearth := { s.hearth with od := { s.hearth.od.edge s.odTolerance skew with
      aligning := decide (s.hearth.servo = .holdover) } } } := ⟨_, rfl⟩
  have hexec : exec (.tickOdEdge skew) s = .next (if s.hearth.servo = .holdover then u.alignTo skew else u) := by
    simp only [exec, execTickOdEdge, hen, hdrive, hmode, Bool.true_eq_false, Bool.false_eq_true, or_self, if_false, hu,
      decide_eq_true_eq]
  refine ⟨_, hexec, ⟨decide (s.hearth.servo = .holdover), ?_⟩, fun hservo => ?_⟩
  · split
    · rw [(u.alignTo_sameButServo skew).congr (f := Hearth.od) fun _ _ _ _ _ _ _ _ _ _ => rfl, hu]
    · rw [hu]
  · rw [if_neg hservo, hu]

theorem tickSkew_raised (hdrive : s.hearth.od.driving = false) (hrun : 3 ≤ s.hearth.od.skewRun) :
    ∃ t, exec .tickSkew s = .next t ∧ t.hearth.od.skewRun = 0 ∧ (s.regsOk → t.sees Ev.TICK_SKEW = true) := by
  refine ⟨_, if_pos ⟨hrun, hen, hdrive, hmode⟩, ?_, fun hs => (State.raise_shows _ (by decide)).sees hs⟩
  rw [State.raise_hearth]

theorem tickMaster_drives (hdrive : s.hearth.od.driving = false)
    (hsilent : silentNeeded s.sys.idStrap s.hearth.od.master ≤ s.hearth.od.silent) :
    ∃ t, exec .tickMaster s = .next t ∧ t.hearth.od.driving = true ∧ t.hearth.od.master = s.sys.idStrap ∧
      (s.regsOk → t.sees Ev.TICK_MASTER = true) := by
  refine ⟨_, if_pos ⟨hen, hdrive, hmode, hsilent⟩, ?_, ?_, fun hs => (State.raise_shows _ (by decide)).sees hs⟩ <;>
    rw [State.raise_hearth]

end TickLine

/-- Settles O16: the two pulses and the shared line, pin by pin. -/
theorem pulseAndTickPins : Obligations.PulseAndTickPins := by
  unfold Obligations.PulseAndTickPins
  refine ⟨fun s stamp hr => ⟨fun hmode => ?ppsIn, ppsInLost_lost hr, fun hsel hlow => ppsOut_rises hr hsel hlow, ppsOut_falls⟩,
    fun s skew hen hmode => ⟨fun hdrive => ?edge, fun hdrive => if_pos (.inr (.inl hdrive)), fun hdrive hrun => tickSkew_raised hen hmode hdrive hrun,
      fun hdrive hsilent => tickMaster_drives hen hmode hdrive hsilent⟩⟩
  case ppsIn =>
    obtain ⟨t, hexec, hhearth, htime, hshows, hquiet⟩ := ppsIn_seen stamp hr hmode
    exact ⟨t, hexec, by rw [hhearth, State.ppsSeen], by rw [hhearth, State.ppsSeen], by rw [hhearth, State.ppsSeen], htime,
      hshows, hquiet⟩
  case edge =>
    obtain ⟨t, hexec, ⟨align, hod⟩, hsame⟩ := tickOdEdge_judges hen hmode skew hdrive
    obtain ⟨hskew, hfar, hnear⟩ := s.hearth.od.edge_judged s.odTolerance skew
    exact ⟨t, hexec, by rw [hod]; exact hskew, fun hlt => by rw [hod]; exact hfar hlt, fun hle => by rw [hod]; exact hnear hle,
      hsame⟩

/-! ### The counter's registers: R48, R50, R53, R54 -/

theorem State.jAcceptPair_time (s : State) (e f : JEntry) : (s.jAcceptPair e f).time = s.time :=
  (s.jAcceptPair_sameButRecords e f).congr (f := State.time) fun _ _ _ _ _ _ _ => rfl

theorem State.resumeGrid_time (s : State) : s.resumeGrid.time = s.time := by
  unfold State.resumeGrid
  dsimp only
  split
  · split <;> rfl
  · rfl
  · rfl

/-- R53: a step loads the counter. -/
theorem State.stepTo_time (s : State) (units : Nat) : (s.stepTo units).time = s.time.atUnits units := by
  unfold State.stepTo
  rw [State.resumeGrid_time, State.jAcceptPair_time, State.setEv_time, State.setUnits, State.takeWaiting_time]

theorem Counter.atUnits_seconds (c : Counter) {sec ns : Nat} (hsec : sec < 2 ^ 48) (hns : ns < 1000000000) :
    (c.atUnits ((sec * 1000000000 + ns) * 2 ^ 32)).sec = sec ∧ (c.atUnits ((sec * 1000000000 + ns) * 2 ^ 32)).ns = ns ∧
      (c.atUnits ((sec * 1000000000 + ns) * 2 ^ 32)).frac = 0 := by
  simp only [Counter.atUnits]
  omega

section Registers

variable {s : State} {a : Accessor} {v : Word}

/-- R53: TIME_NS loads the staged seconds. -/
theorem timeNs_loads (hun : s.unlocked a = true) (hmode : s.mode = .idle ∨ s.mode = .service) (hservo : s.servoEn = false)
    (hret : s.hearth.retime = none) (hhi : s.hearth.stageSecHi < 65536) (hlo : s.hearth.stageSecLo < 2 ^ 32)
    (hns : v.toNat < 1000000000) :
    ∃ t, exec (.timeNs a v) s = .next t ∧ t.time.sec = s.hearth.stageSecHi * 2 ^ 32 + s.hearth.stageSecLo ∧
      t.time.ns = v.toNat ∧ t.time.frac = 0 ∧ t.time.inc = s.time.inc := by
  obtain ⟨sec, hsec⟩ : ∃ sec, sec = s.hearth.stageSecHi * 2 ^ 32 + s.hearth.stageSecLo := ⟨_, rfl⟩
  obtain ⟨u, hu⟩ : ∃ u, u = (sec * 1000000000 + v.toNat) * 2 ^ 32 := ⟨_, rfl⟩
  have hmod : v.toNat % 2 ^ 30 = v.toNat := by omega
  have hexec : exec (.timeNs a v) s = .next (s.stepTo u) := by
    have hret' : (s.stepTo u).hearth.retime = none := (State.stepTo_sameButServo hret u).retime.trans hret
    have hwrite : s.writeTimeNs a v = s.stepTo u := by
      simp only [State.writeTimeNs, hun, hmode, hservo, Bool.not_false, and_self, if_true, hmod, hu, hsec]
    simp only [exec, execTimeNs, hwrite, State.settleStep_of_none hret']
  obtain ⟨h1, h2, h3⟩ := s.time.atUnits_seconds (sec := sec) (by omega) hns
  rw [← hu] at h1 h2 h3
  refine ⟨_, hexec, ?_⟩
  rw [State.stepTo_time, ← hsec]
  exact ⟨h1, h2, h3, rfl⟩

theorem State.loadInc_time (s : State) (inc : Nat) : (s.loadInc inc).time = { s.time with inc := max incMin (min incMax inc) } := by
  unfold State.loadInc
  dsimp only
  split
  · rfl
  · rw [State.emit_time]

/-- R48: TIME_INC_HI loads the staged increment. -/
theorem timeIncHi_loads (hun : s.unlocked a = true) (hservo : s.servoEn = false) :
    ∃ t, exec (.timeIncHi a v) s = .next t ∧
      t.time.inc = max incMin (min incMax (v.toNat * 2 ^ 32 + s.hearth.stageIncLo)) ∧ t.time.units = s.time.units := by
  obtain ⟨inc, hinc⟩ : ∃ inc, inc = v.toNat * 2 ^ 32 + s.hearth.stageIncLo := ⟨_, rfl⟩
  obtain ⟨u, hu⟩ : ∃ u : State, u = { s.loadInc inc with
    hearth := { (s.loadInc inc).hearth with baseInc := (s.loadInc inc).time.inc, bias := 0 } } := ⟨_, rfl⟩
  have htime : u.time = { s.time with inc := max incMin (min incMax inc) } := by rw [hu, ← State.loadInc_time]
  refine ⟨u, ?_, ?_, ?_⟩
  · simp only [exec, execTimeIncHi, State.writeTimeIncHi, hun, hservo, if_true, Bool.false_eq_true, if_false, hu, hinc]
  · rw [htime, hinc]
  · rw [htime]
    rfl

/-- R50: without access a write of the counter's registers is journalled, and changes no time. -/
theorem counterWrite_denied (hun : s.unlocked a = false) {c : Instr} (hc : c = Instr.timeSecWrite a true v ∨
    c = .timeSecWrite a false v ∨ c = .timeNs a v ∨ c = .timeIncHi a v) :
    ∃ t, exec c s = .next t ∧ t.time = s.time ∧ t.hearth = s.hearth := by
  have hdenied : ∀ r, (s.regDenied r v).time = s.time ∧ (s.regDenied r v).hearth = s.hearth := fun r =>
    ⟨State.emit_time _ _ _ _ _, State.emit_hearth _ _ _ _ _⟩
  have hsettle : (s.regDenied Reg.TIME_NS v).settleStep s = s.regDenied Reg.TIME_NS v := by
    obtain ⟨htime, hhearth⟩ := hdenied Reg.TIME_NS
    unfold State.settleStep
    split
    · refine if_neg ?_
      rintro ⟨-, -, hnow, hbefore⟩
      simp [State.reachedT, htime, hhearth] at hnow hbefore
      omega
    · rfl
  rcases hc with rfl | rfl | rfl | rfl
  · exact ⟨_, congrArg Host.Outcome.next (if_neg (by simp [hun])), hdenied _⟩
  · exact ⟨_, congrArg Host.Outcome.next (if_neg (by simp [hun])), hdenied _⟩
  · refine ⟨s.regDenied Reg.TIME_NS v, ?_, hdenied _⟩
    simp [exec, execTimeNs, State.writeTimeNs, hun, hsettle]
  · exact ⟨_, congrArg Host.Outcome.next (if_neg (by simp [hun])), hdenied _⟩

end Registers

/-- Settles O17: each register by its rule. -/
theorem counterRegistersLoadAndLatch : Obligations.CounterRegistersLoadAndLatch := by
  unfold Obligations.CounterRegistersLoadAndLatch
  intro s a v
  refine ⟨⟨_, rfl, BitVec.toNat_ofNat _ _, rfl, rfl, rfl⟩, ⟨_, rfl, BitVec.toNat_ofNat _ _, rfl, rfl⟩,
    fun hun => ⟨congrArg Host.Outcome.next (if_pos hun), congrArg Host.Outcome.next (if_pos hun)⟩,
    timeNs_loads, timeIncHi_loads, fun hun hservo => congrArg Host.Outcome.next ((if_pos hun).trans (if_pos hservo)),
    ⟨_, rfl, BitVec.toNat_ofNat _ _, rfl, rfl⟩, fun hun c => counterWrite_denied hun⟩

end Sys2Proof.Machine
end

section
/-! ## Received and forwarded frames: R102 to R117, R130, R171 -/

namespace Sys2Proof.Machine

/-! ### Judging: R102 to R110 -/

/-- R105, R107: the frame's address and VLAN are the port's, and the service port carries its class. -/
def State.takesFrame (s : State) (p : Port) (f : List Byte) : Prop :=
  (s.r105 p (dstMac f)).1 = true ∧ s.vlanOk p f = true ∧
    ¬(p = .sv ∧ s.paramOn P.SV_PIXEL_EN = false ∧ (s.classOf f = 1 ∨ s.classOf f = 2))

section Judge

variable {s : State} {p : Port} {f : List Byte} (hlen : 64 ≤ f.length) (hmax : f.length ≤ s.maxLen p f)
  (hpause : innerType f ≠ 0x8808) (hown : s.ownSource f = false)
include hlen hmax hpause hown

theorem State.judgeFrame_filtered (h : ¬s.takesFrame p f) : s.judgeFrame p f .good = .filtered := by
  simp only [State.judgeFrame, Nat.not_lt.mpr hlen, Nat.not_lt.mpr hmax, hpause, hown, if_false, ne_eq, not_true_eq_false,
    Bool.false_eq_true]
  refine if_pos ?_
  simp only [State.takesFrame, Bool.not_eq_true'] at h ⊢
  by_cases h1 : (s.r105 p (dstMac f)).1 = true
  · by_cases h2 : s.vlanOk p f = true
    · refine .inr (.inr (Classical.byContradiction fun hsv => h ⟨h1, h2, ?_⟩))
      simpa using hsv
    · exact .inr (.inl (by simpa using h2))
  · exact .inl (by simpa using h1)

section Taken

variable (h : s.takesFrame p f)
include h

/-- R107 to R110: a frame that is taken is judged by its headers, and then by the room for it. -/
theorem State.judgeFrame_taken :
    (ipVerdict f = .hdrErr → s.judgeFrame p f .good = .ipHdr) ∧ (ipVerdict f = .frag → s.judgeFrame p f .good = .ipFrag) ∧
      (ipVerdict f = .udpErr → s.judgeFrame p f .good = .udpErr) ∧
      (ipVerdict f = .pass → s.rxFull p = true ∨ s.queueRefuses p (s.classOf f) f.length = true →
        s.judgeFrame p f .good = .dropFifo) ∧
      (ipVerdict f = .pass → s.rxFull p = false → s.queueRefuses p (s.classOf f) f.length = false →
        s.judgeFrame p f .good = .delivered (s.classOf f)) := by
  obtain ⟨h105, hvlan, hsv⟩ := h
  have hnot : ¬((!(s.r105 p (dstMac f)).1) = true ∨ (!s.vlanOk p f) = true ∨
      p = .sv ∧ (!s.paramOn P.SV_PIXEL_EN) = true ∧ (s.classOf f = 1 ∨ s.classOf f = 2)) := by
    simpa [h105, hvlan] using hsv
  simp only [State.judgeFrame, Nat.not_lt.mpr hlen, Nat.not_lt.mpr hmax, hpause, hown, if_false, ne_eq, not_true_eq_false,
    Bool.false_eq_true, if_neg hnot]
  refine ⟨fun hv => ?_, fun hv => ?_, fun hv => ?_, fun hv hfull => ?_, fun hv hroom hq => ?_⟩ <;> simp only [hv]
  · exact if_pos hfull
  · exact if_neg (by simp [hroom, hq])

end Taken
end Judge

/-! ### Delivery: R130, R171 -/

/-- R171: a frame joins the queue behind those in it. -/
theorem State.enqueue_frames {s : State} {n c : Nat} (hst : (s.qset n).stalled = false) (bytes : List Byte) (stamp : Word) :
    (((s.enqueue n c bytes stamp).qset n).q c).frames =
      ((s.qset n).q c).frames ++ [⟨((s.qset n).q c).tPos, bytes.length, stamp, bytes⟩] := by
  obtain ⟨q, hq⟩ : ∃ q : ClassQueue, q = { (s.qset n).q c with
    frames := ((s.qset n).q c).frames ++ [⟨((s.qset n).q c).tPos, bytes.length, stamp, bytes⟩]
    tPos := ((s.qset n).q c).tPos + bytes.length } := ⟨_, rfl⟩
  obtain ⟨u, hu⟩ : ∃ u, u = s.setQset n ((s.qset n).setQ c q) := ⟨_, rfl⟩
  have huq : u.qset n = (s.qset n).setQ c q := by rw [hu, State.qset_setQset_same]
  obtain ⟨hframes, -, hstall⟩ := u.settleQueue_sameFrames n c
  have hstalled : (u.qset n).stalled = (s.qset n).stalled := by
    rw [huq]
    unfold QueueSet.setQ
    split <;> rfl
  have hwake : s.enqueue n c bytes stamp = u.settleQueue n c := by
    have hsettle := State.wakePop_of_not_stalled (hstall.trans (hstalled.trans hst))
    rw [hu, hq] at hsettle
    rw [hu, hq]
    exact hsettle
  rw [hwake, hframes, huq, QueueSet.q_setQ_same, hq]

@[simp] theorem State.countRx_ingress (s : State) (p : Port) (f : List Byte) : (s.countRx p f).ingress = s.ingress := by
  have hbytes : ((s.count (Reg.RX_FRAMES p.index)).countBytes (Reg.RX_BYTES_LO p.index) f.length).ingress = s.ingress := by
    rw [State.countBytes_ingress, State.count_ingress]
  unfold State.countRx
  extract_lets i t
  have hcount : ∀ a, (t.count a).ingress = s.ingress := fun a => by rw [State.count_ingress, hbytes]
  split
  · exact hcount _
  · split
    · exact hcount _
    · exact hcount _

@[simp] theorem State.noteStreamPort_ingress (s : State) (p : Port) (f : List Byte) : (s.noteStreamPort p f).ingress = s.ingress := by
  unfold State.noteStreamPort
  split <;> rfl

/-- R130: a frame that passes every step stands at the end of its queue, with the stamp of its arrival. -/
theorem State.receive_delivered {s : State} {p : Port} {f : List Byte} {fcs : Fcs} {c : Nat}
    (hj : s.judgeFrame p f fcs = .delivered c) (hst : (s.qset p.qset).stalled = false) :
    ∃ fr, (((s.receive p f fcs).qset p.qset).q c).frames = ((s.qset p.qset).q c).frames ++ [fr] ∧
      fr.bytes = f ∧ fr.len = f.length ∧ fr.stamp = s.rxStamp p := by
  obtain ⟨u, hu⟩ : ∃ u, u = ((s.countRx p f).count (Reg.RX_DELIVERED p.index)).noteStreamPort p f := ⟨_, rfl⟩
  have hset : u.qset p.qset = s.qset p.qset := State.qset_of_ingress (by simp [hu]) _
  have hreceive : s.receive p f fcs = u.enqueue p.qset c f (s.rxStamp p) := by
    simp only [State.receive, hj, hu]
  rw [hreceive, State.enqueue_frames (hset ▸ hst), hset]
  exact ⟨_, rfl, rfl, rfl, rfl⟩

/-- Settles O18: `judgeFrame` step by step, and what `receive` does with each verdict. -/
theorem receivedFramesAreJudgedInOrder : Obligations.ReceivedFramesAreJudgedInOrder := by
  unfold Obligations.ReceivedFramesAreJudgedInOrder
  intro s p f rx hup hen run u fcs i cls length notGiant foreign taken q
  have hrun : run = .next (u.receive p f fcs) := if_neg (by simp [hup, hen])
  have hreceived : ∀ t, u.receive p f fcs = t → run = .next t := fun t ht => hrun.trans (congrArg Host.Outcome.next ht)
  have hshort : ¬length → u.judgeFrame p f fcs = .runt := fun h => if_pos (Nat.not_le.mp h)
  have hgiant : length → ¬notGiant → u.judgeFrame p f fcs = .giant := fun h hg =>
    (if_neg (Nat.not_lt.mpr h)).trans (if_pos (Nat.not_le.mp hg))
  have hfcs : length → notGiant → fcs ≠ .good → u.judgeFrame p f fcs = .fcsErr := fun h hg hf =>
    ((if_neg (Nat.not_lt.mpr h)).trans (if_neg (Nat.not_lt.mpr hg))).trans (if_pos hf)
  have hclean : fcs = .good → length → notGiant → innerType f = 0x8808 → u.judgeFrame p f fcs = .pause := fun hf h hg hp =>
    (((if_neg (Nat.not_lt.mpr h)).trans (if_neg (Nat.not_lt.mpr hg))).trans (if_neg (fun h => h hf))).trans (if_pos hp)
  have hown : fcs = .good → length → notGiant → innerType f ≠ 0x8808 → u.ownSource f = true →
      u.judgeFrame p f fcs = .ownSrc := fun hf h hg hp ho =>
    ((((if_neg (Nat.not_lt.mpr h)).trans (if_neg (Nat.not_lt.mpr hg))).trans (if_neg (fun h => h hf))).trans (if_neg hp)).trans
      (if_pos ho)
  have hfull : u.queueRefuses p cls f.length = true ↔ q.full f.length = true ∨ u.qEnabled p.qset cls = false := by
    simp only [State.queueRefuses, Bool.or_eq_true, Bool.not_eq_true']
    rfl
  refine ⟨fun h => hreceived _ ?_, fun h hg => hreceived _ ?_, fun h hg hf => hreceived _ ?_, fun hf h hg hp => hreceived _ ?_,
    fun hf h hg hp ho => hreceived _ ?_, fun hf h hg hfor htak => hreceived _ ?_, fun hf h hg hfor htak => ?_⟩
  · simp only [State.receive, hshort h]
    rfl
  · simp only [State.receive, hgiant h hg]
    rfl
  · simp only [State.receive, hfcs h hg hf]
    rfl
  · simp only [State.receive, hclean hf h hg hp]
    rfl
  · simp only [State.receive, hown hf h hg hp ho]
    rfl
  all_goals
    obtain ⟨hp, ho⟩ := hfor
    rw [hf] at hreceived
  · have hj := State.judgeFrame_filtered h hg hp ho htak
    simp only [State.receive, hf, hj]
    rfl
  · obtain ⟨hhdr, hfrag, hudp, hdrop, hdeliver⟩ := State.judgeFrame_taken h hg hp ho htak
    refine ⟨fun hv => hreceived _ ?_, fun hv => hreceived _ ?_, fun hv => hreceived _ ?_, fun hv hno => hreceived _ ?_,
      fun hv hroom hq hqen hst => ?_⟩
    · simp only [State.receive, hhdr hv]
      rfl
    · simp only [State.receive, hfrag hv]
      rfl
    · simp only [State.receive, hudp hv]
      rfl
    · simp only [State.receive, hdrop hv (hno.imp id hfull.mpr)]
      rfl
    · have hnone : u.queueRefuses p cls f.length = false := by
        rw [Bool.eq_false_iff, ne_eq, hfull]
        simp [hq, hqen]
      have hj := hdeliver hv hroom hnone
      obtain ⟨fr, hframes, hbytes, hflen, hstamp⟩ := State.receive_delivered hj hst
      exact ⟨_, fr, hreceived _ rfl, hframes, hbytes, hflen, hstamp⟩

end Sys2Proof.Machine
end

section
/-! ## The egress ports: R105, R106, R111 to R116, R121 -/

namespace Sys2Proof.Machine

@[simp] theorem State.count_mac (s : State) (a : Nat) (p : Port) : (s.count a).mac p = s.mac p := by cases p <;> rfl

@[simp] theorem State.countBytes_mac (s : State) (a n : Nat) (p : Port) : (s.countBytes a n).mac p = s.mac p := by
  cases p with
  | a => exact State.countBytes_macA _ _ _
  | b => exact State.countBytes_macB _ _ _
  | sv => exact State.countBytes_macSv _ _ _

@[simp] theorem State.fifoPeak_mac (s : State) (e p : Port) : (s.fifoPeak e).mac p = s.mac p := by
  unfold State.fifoPeak
  dsimp only
  split
  · cases p <;> rfl
  · rfl

theorem Port.ne_of_other {p e : Port} (h : p.other = some e) : p ≠ e := by
  rintro rfl
  cases p <;> simp [Port.other] at h

/-! ### Forwarding: R105, R112, R114 -/

section Forward

variable {s : State} {p e : Port} {f : List Byte} {fcs : Fcs} {ns : Nat} (hother : p.other = some e) (hfwd : s.forwards p e f = true)
include hother hfwd

theorem forwarding_drops (hfull : 32768 - fifoLevel (s.mac e) < 64) :
    exec (.forwarding p f fcs ns) s = .next (s.count (Reg.FWD_DROP e.index)) := by
  simp only [exec, execForwarding, hother, hfwd, Bool.true_eq_false, if_false, hfull, if_true]

theorem forwarding_joins (hmax : f.length ≤ s.maxLen p f) (hroom : f.length ≤ 32768 - fifoLevel (s.mac e))
    (h64 : 64 ≤ 32768 - fifoLevel (s.mac e)) :
    exec (.forwarding p f fcs ns) s = .next ((s.setMac e { s.mac e with fwd := (s.mac e).fwd ++
      [⟨f, f.length - 4, decide (fcs ≠ .good) || s.ownSource f, false, s.nowNs - ns, none⟩] }).fifoPeak e) := by
  have hlen : 64 ≤ f.length := by
    simp only [State.forwards, Bool.and_eq_true, decide_eq_true_eq] at hfwd
    obtain ⟨⟨⟨⟨⟨⟨-, hlen⟩, -⟩, -⟩, -⟩, -⟩, -⟩ := hfwd
    exact hlen
  have hkeep : ¬32768 - fifoLevel (s.mac e) < f.length - 4 + 4 := by omega
  simp only [exec, execForwarding, hother, hfwd, Bool.true_eq_false, if_false, Nat.not_lt.mpr h64, Nat.not_lt.mpr hmax,
    decide_false, Bool.false_or, Bool.false_eq_true, hkeep]

end Forward

/-! ### The frame boundary: R106, R111, R116 -/

/-- R106: the frame in transmission is complete. -/
def Mac.done (m : Mac) : Mac :=
  match m.tx with
  | some (.own f) => { m with tx := none, sent := f :: m.sent }
  | some (.fwd x) => { m with tx := none, sentFwd := x :: m.sentFwd }
  | none => m

theorem State.txDone_mac (s : State) (p : Port) : (s.txDone p).mac p = (s.mac p).done := by
  unfold State.txDone Mac.done
  dsimp only
  cases (s.mac p).tx with
  | none => rfl
  | some x =>
    cases x with
    | own f => simp
    | fwd x =>
      cases hd : x.dropped <;> cases hs : x.stomp <;> simp [hd, hs]

theorem Mac.done_fields (m : Mac) : m.done.own = m.own ∧ m.done.fwd = m.fwd ∧
    m.done.sent = (match m.tx with
      | some (.own g) => g :: m.sent
      | _ => m.sent) ∧
    m.done.sentFwd = (match m.tx with
      | some (.fwd x) => x :: m.sentFwd
      | _ => m.sentFwd) := by
  unfold Mac.done
  split <;> simp_all

/-- R115: the counters of a port's frames stand above its control registers. -/
theorem State.txDone_reg (s : State) (p : Port) {a : Nat} (h : a % 0x1000 < 0x440) : (s.txDone p).reg a = s.reg a := by
  have hcount : ∀ (t : State) c, 0x440 ≤ c % 0x1000 → (t.count c).reg a = t.reg a := fun t c hc =>
    State.reg_setReg_other t _ (by rintro rfl; omega)
  have hbytes : ∀ (t : State) c n, 0x440 ≤ c % 0x1000 → 0x440 ≤ (c + 4) % 0x1000 → (t.countBytes c n).reg a = t.reg a := fun t c n h1 h2 =>
    (State.reg_setReg_other _ _ (by rintro rfl; omega)).trans (State.reg_setReg_other t _ (by rintro rfl; omega))
  have hmac : ∀ (t : State) (q : Port) m, (t.setMac q m).reg a = t.reg a := fun t q m => by
    rw [State.reg, State.setMac_regs, ← State.reg]
  have hregs : ∀ c, c = Reg.TX_FRAMES p.index ∨ c = Reg.TX_BYTES_LO p.index ∨ c = Reg.FWD_STOMPED p.index ∨
      c = Reg.FWD_FRAMES p.index ∨ c = Reg.FWD_BYTES_LO p.index → 0x440 ≤ c % 0x1000 ∧ 0x440 ≤ (c + 4) % 0x1000 := fun c hc => by
    rcases hc with rfl | rfl | rfl | rfl | rfl <;>
      simp only [Reg.TX_FRAMES, Reg.TX_BYTES_LO, Reg.FWD_STOMPED, Reg.FWD_FRAMES, Reg.FWD_BYTES_LO] <;> omega
  unfold State.txDone
  dsimp only
  split
  · rw [hbytes _ _ _ (hregs _ (by simp)).1 (hregs _ (by simp)).2, hcount _ _ (hregs _ (by simp)).1, hmac]
  · split
    · exact hmac _ _ _
    · rw [hbytes _ _ _ (hregs _ (by simp)).1 (hregs _ (by simp)).2, hcount _ _ (hregs _ (by simp)).1]
      split
      · rw [hcount _ _ (hregs _ (by simp)).1, hmac]
      · exact hmac _ _ _
  · rfl

theorem State.txDone_time (s : State) (p : Port) : (s.txDone p).time = s.time := by
  unfold State.txDone
  dsimp only
  split
  · rw [State.countBytes_time, State.count_time, State.setMac_time]
  · split
    · exact State.setMac_time _ _ _
    · rw [State.countBytes_time, State.count_time]
      split
      · rw [State.count_time, State.setMac_time]
      · exact State.setMac_time _ _ _
  · rfl

theorem State.txDone_macCtrl (s : State) (p q : Port) : (s.txDone p).macCtrl q = s.macCtrl q :=
  congrArg BitVec.toNat (s.txDone_reg p (by simp only [Reg.MAC_CTRL]; omega))

theorem State.txDone_txNs (s : State) (p q : Port) : (s.txDone p).txNs q = s.txNs q := by
  have hreg : (s.txDone p).regN (Reg.TS_LATENCY q.index) = s.regN (Reg.TS_LATENCY q.index) :=
    congrArg BitVec.toNat (s.txDone_reg p (by simp only [Reg.TS_LATENCY]; omega))
  rw [State.txNs, State.txNs, hreg, State.nowNs, State.nowNs, State.txDone_time]

/-! ### The next frame: R106, R113 -/

theorem takeFirst_of_head {g : OwnFrame → Bool} {f : OwnFrame} {fs : List OwnFrame} (h : g f = true) :
    takeFirst g (f :: fs) = some (f, fs) := if_pos h

theorem takeFirst_of_none {g : OwnFrame → Bool} {l : List OwnFrame} (h : ∀ f ∈ l, g f = false) : takeFirst g l = none := by
  induction l with
  | nil => rfl
  | cons f fs ih =>
    rw [takeFirst, if_neg (by simp [h f List.mem_cons_self]), ih fun x hx => h x (List.mem_cons_of_mem _ hx)]
    rfl

theorem takeFirst_of_all {l : List OwnFrame} (h : (l.all fun g => !g.cls0 && decide (g.waited < 8)) = true) :
    takeFirst (fun f => f.cls0 || decide (8 ≤ f.waited)) l = none := by
  refine takeFirst_of_none fun f hf => ?_
  have := List.all_eq_true.mp h f hf
  simpa using this

theorem State.startOwn_mac (u : State) (e : Port) (g : OwnFrame) (gs : List OwnFrame) :
    ∃ w x, (u.startOwn e g gs).mac e = { u.mac e with own := gs, tx := some (.own { g with wire := w, stamp := x }) } :=
  ⟨_, _, State.setMac_mac _ _ _⟩

/-- R111, R113: a forwarded frame leaves cut and stomped as it came in, and corrected where the transparent clock is on. -/
theorem State.startFwd_mac (u : State) (e : Port) (x : FwdFrame) (xs : List FwdFrame) :
    ∃ y : FwdFrame, (u.startFwd e x xs).mac e = { u.mac e with
      fwd := xs, own := (u.mac e).own.map fun g => { g with waited := g.waited + 1 }, tx := some (.fwd y) } ∧
      y.keep = x.keep ∧ y.stomp = x.stomp ∧ y.dropped = x.dropped ∧
      y.bytes = (if bit (u.macCtrl e) 7 then (transparent x.bytes (u.txNs e - x.ingressNs)).1 else x.bytes).take x.keep := by
  refine ⟨{ x with
    bytes := (if bit (u.macCtrl e) 7 then (transparent x.bytes (u.txNs e - x.ingressNs)).1 else x.bytes).take x.keep
    stamp := if isPtpEvent x.bytes then some (BitVec.ofNat 32 (u.txNs e)) else none }, ?_, rfl, rfl, rfl, rfl⟩
  unfold State.startFwd
  cases hbit : bit (u.macCtrl e) 7 with
  | false => simp
  | true =>
    simp only [if_true]
    split <;> split <;> simp

section Boundary

variable {s : State} {e : Port} (hup : (s.mac e).up = true)
include hup

theorem exec_frameBoundary : exec (.frameBoundary e) s = .next ((s.txDone e).startNext e) :=
  if_neg (by simp [hup])

/-- R106: an own frame starts where it is the next one. -/
theorem frameBoundary_own {g : OwnFrame} {gs : List OwnFrame}
    (hnext : (s.txDone e).startNext e = (s.txDone e).startOwn e g gs) :
    ∃ t w x, exec (.frameBoundary e) s = .next t ∧ (t.mac e).sent = (s.mac e).done.sent ∧
      (t.mac e).sentFwd = (s.mac e).done.sentFwd ∧ (t.mac e).own = gs ∧
      (t.mac e).tx = some (.own { g with wire := w, stamp := x }) ∧ (t.mac e).fwd = (s.mac e).done.fwd := by
  obtain ⟨w, x, hmac⟩ := (s.txDone e).startOwn_mac e g gs
  rw [State.txDone_mac] at hmac
  refine ⟨_, w, x, (exec_frameBoundary hup).trans (congrArg Host.Outcome.next hnext), ?_⟩
  rw [hmac]
  exact ⟨rfl, rfl, rfl, rfl, rfl⟩

/-- R106, R111: a forwarded frame starts where no own one goes before it. -/
theorem frameBoundary_fwd {x : FwdFrame} {xs : List FwdFrame}
    (hfirst : ((s.mac e).own.all fun g => !g.cls0 && decide (g.waited < 8)) = true) (hfwd : (s.mac e).fwd = x :: xs) :
    ∃ t y, exec (.frameBoundary e) s = .next t ∧ (t.mac e).sent = (s.mac e).done.sent ∧
      (t.mac e).sentFwd = (s.mac e).done.sentFwd ∧ (t.mac e).fwd = xs ∧ (t.mac e).tx = some (.fwd y) ∧
      y.keep = x.keep ∧ y.stomp = x.stomp ∧ y.dropped = x.dropped ∧
      y.bytes = (if bit (s.macCtrl e) 7 then (transparent x.bytes (s.txNs e - x.ingressNs)).1 else x.bytes).take x.keep ∧
      (t.mac e).own = (s.mac e).own.map fun g => { g with waited := g.waited + 1 } := by
  obtain ⟨hown, hfwd', -, -⟩ := (s.mac e).done_fields
  have hnext : (s.txDone e).startNext e = (s.txDone e).startFwd e x xs := by
    simp only [State.startNext, State.txDone_mac, hown, takeFirst_of_all hfirst, hfwd', hfwd]
  obtain ⟨y, hmac, hkeep, hstomp, hdropped, hbytes⟩ := (s.txDone e).startFwd_mac e x xs
  rw [State.txDone_mac, hown] at hmac
  rw [State.txDone_macCtrl, State.txDone_txNs] at hbytes
  refine ⟨_, y, (exec_frameBoundary hup).trans (congrArg Host.Outcome.next hnext), ?_⟩
  rw [hmac]
  exact ⟨rfl, rfl, rfl, rfl, hkeep, hstomp, hdropped, hbytes, rfl⟩

end Boundary

/-- Settles O20: the four things an egress port does with a frame, by what waits there. -/
theorem egressForwardsInOrder : Obligations.EgressForwardsInOrder := by
  unfold Obligations.EgressForwardsInOrder
  intro s p e f fcs ns m noneFirst ended
  obtain ⟨hown, hfwd, hsent, hsentFwd⟩ := (s.mac e).done_fields
  refine ⟨fun hother hforwards hmax hroom h64 => ⟨_, forwarding_joins hother hforwards hmax hroom h64, ?_, ?_, ?_⟩,
    fun hother hforwards hfull => forwarding_drops hother hforwards hfull, fun g gs hup hg hcls => ?cls0,
    fun x xs hup hfirst hx => ?fwd, fun g gs hup hg hnone hfirst => ?own⟩
  · rw [State.fifoPeak_mac, State.setMac_mac]
  · rw [State.fifoPeak_mac, State.setMac_mac]
  · rw [State.fifoPeak_mac, State.setMac_mac_other _ _ (Port.ne_of_other hother)]
  case cls0 =>
    have hnext : (s.txDone e).startNext e = (s.txDone e).startOwn e g gs := by
      have htake := takeFirst_of_head (g := fun f => f.cls0 || decide (8 ≤ f.waited)) (f := g) (fs := gs) (by simp [hcls])
      simp only [State.startNext, State.txDone_mac, hown, show (s.mac e).own = g :: gs from hg, htake]
    obtain ⟨t, w, x, hexec, h1, h2, h3, h4, h5⟩ := frameBoundary_own hup hnext
    exact ⟨t, w, x, hexec, ⟨h1.trans hsent, h2.trans hsentFwd⟩, h3, h4, h5.trans hfwd⟩
  case fwd =>
    obtain ⟨t, y, hexec, h1, h2, hrest⟩ := frameBoundary_fwd hup hfirst hx
    exact ⟨t, y, hexec, ⟨h1.trans hsent, h2.trans hsentFwd⟩, hrest⟩
  case own =>
    have hnext : (s.txDone e).startNext e = (s.txDone e).startOwn e g gs := by
      have htake : takeFirst (fun f => f.cls0 || decide (8 ≤ f.waited)) (s.mac e).own = none := takeFirst_of_all hfirst
      rw [State.startNext]
      simp only [State.txDone_mac, hown, htake, hfwd, show (s.mac e).fwd = [] from hnone]
      simp only [show (s.mac e).own = g :: gs from hg]
    obtain ⟨t, w, x, hexec, h1, h2, h3, h4, -⟩ := frameBoundary_own hup hnext
    exact ⟨t, w, x, hexec, ⟨h1.trans hsent, h2.trans hsentFwd⟩, h3, h4⟩

end Sys2Proof.Machine
end

section
/-! ## Links: R97 to R99, R117, R143, R431 -/

namespace Sys2Proof.Machine

/-! ### What comes with a link -/

theorem State.mac_congr {s t : State} (ha : t.macA = s.macA) (hb : t.macB = s.macB) (hsv : t.macSv = s.macSv) (p : Port) :
    t.mac p = s.mac p := by
  cases p
  · exact ha
  · exact hb
  · exact hsv

theorem State.KeepsEvents.after {s t u : State} (h : t.regs = s.regs) (hu : t.KeepsEvents u) : s.KeepsEvents u :=
  (State.keepsEvents_of_regs h).trans hu

theorem State.Shows.after {s t u : State} {e : Ev} (h : t.regs = s.regs) (hu : t.Shows u e) : s.Shows u e :=
  (State.keepsEvents_of_regs h).shows hu

theorem State.marginLow_mac (s : State) (i x y : Nat) (p : Port) : (s.marginLow i x y).mac p = s.mac p := by
  unfold State.marginLow
  split
  · rw [State.raiseAt_mac]
    exact State.mac_congr rfl rfl rfl p
  · rfl

theorem State.class1_mac (s : State) (i : Nat) (p : Port) : (s.class1 i).mac p = s.mac p := by
  unfold State.class1
  rw [State.marginLow_mac]
  exact State.mac_congr rfl rfl rfl p

theorem State.marginLow_up (s : State) (i x y : Nat) : (s.marginLow i x y).up = s.up := by
  unfold State.marginLow
  split <;> simp

theorem State.marginLow_red (s : State) (i x y : Nat) : (s.marginLow i x y).red = s.red := by
  unfold State.marginLow
  split <;> simp

theorem State.class1_up (s : State) (i : Nat) : (s.class1 i).up = s.up := State.marginLow_up _ _ _ _

theorem State.class1_red (s : State) (i : Nat) : (s.class1 i).red = s.red := State.marginLow_red _ _ _ _

theorem State.domainLeaves_mac (s : State) (p q : Port) (b : Bool) : (s.domainLeaves p b).mac q = s.mac q := by
  have hdom : ∀ d, (s.setDom b d).mac q = s.mac q := fun d => by cases b <;> exact State.mac_congr rfl rfl rfl q
  unfold State.domainLeaves
  split
  · split
    · exact hdom _
    · rfl
  · rfl

theorem State.domainLeaves_regs (s : State) (p : Port) (b : Bool) : (s.domainLeaves p b).regs = s.regs := by
  have hdom : ∀ d, (s.setDom b d).regs = s.regs := fun d => by cases b <;> rfl
  unfold State.domainLeaves
  split
  · split
    · exact hdom _
    · rfl
  · rfl

theorem State.domainLeaves_fs (s : State) (p : Port) (b : Bool) : (s.domainLeaves p b).fs = s.fs := by
  have hdom : ∀ d, (s.setDom b d).fs = s.fs := fun d => by cases b <;> rfl
  unfold State.domainLeaves
  split
  · split
    · exact hdom _
    · rfl
  · rfl

theorem State.unbindPort_mac (s : State) (p q : Port) : (s.unbindPort p).mac q = s.mac q := State.mac_congr rfl rfl rfl q

theorem State.unbindPort_regs (s : State) (p : Port) : (s.unbindPort p).regs = s.regs := rfl

/-- R143: no stream stays bound to the port. -/
theorem State.unbindPort_bound (s : State) (p : Port) : ∀ x ∈ (s.unbindPort p).fs.streams, x.2.bound ≠ some p := by
  intro x hx
  obtain ⟨q, -, rfl⟩ := List.mem_map.mp hx
  split
  · simp
  · assumption

/-! ### A port's link -/

section
variable {s : State} {p : Port} {speed : Nat}

/-- The port's state as its link comes up. -/
def State.linked (s : State) (p : Port) (speed : Nat) : Mac :=
  { s.mac p with
    up := true, speed := s.seekSpeed p, fecActive := s.fecRuns p
    sgmii := if p = .sv ∧ s.speedSel p = 1 then speed else if p = .sv then 2 else 0 }

/-- The rest of a link's coming up, on the state of that time: the MAC and the latency are set, and the events raised. -/
def State.showLink (s : State) (p : Port) (m : Mac) (latency : Nat) (fallback : Bool) : State :=
  let t := (((s.setMac p m).setRegN (Reg.TS_LATENCY p.index) latency).class1 p.index).raiseAt (Ev.LINK_UP p.index) p.index
  if fallback then t.raiseAt (Ev.SPEED_FALLBACK p.index) p.index else t

theorem State.showLink_mac (s : State) (p : Port) (m : Mac) (n : Nat) (b : Bool) : (s.showLink p m n b).mac p = m := by
  have hset : ((s.setMac p m).setRegN (Reg.TS_LATENCY p.index) n).mac p = m :=
    (State.mac_congr rfl rfl rfl p).trans (s.setMac_mac p m)
  unfold State.showLink
  cases b <;> simp [State.class1_mac, hset]

theorem State.showLink_up (s : State) (p : Port) (m : Mac) (n : Nat) (b : Bool) : (s.showLink p m n b).up = s.up := by
  unfold State.showLink
  cases b <;> simp [State.class1_up]

theorem State.class1_keepsEvents (s : State) (i : Nat) : s.KeepsEvents (s.class1 i) := by
  unfold State.class1 State.marginLow
  simp only
  split
  · refine State.KeepsEvents.after ?_ (State.raiseAt_keepsEvents _ _ _)
    rfl
  · exact State.keepsEvents_of_regs rfl

theorem State.showLink_sees {s : State} (hs : s.regsOk) (p : Port) (m : Mac) (n : Nat) (b : Bool) :
    (s.showLink p m n b).sees (Ev.LINK_UP p.index) = true := by
  have hflag : (Ev.LINK_UP p.index).flag := by cases p <;> decide
  have hset : ((s.setMac p m).setRegN (Reg.TS_LATENCY p.index) n).regsOk :=
    State.setRegN_regsOk (show (s.setMac p m).regsOk from (by cases p <;> exact hs)) _ _
  have hshows := (State.class1_keepsEvents ((s.setMac p m).setRegN (Reg.TS_LATENCY p.index) n) p.index).shows
    (State.raiseAt_shows _ hflag p.index)
  unfold State.showLink
  cases b
  · exact hshows.sees hset
  · exact (hshows.trans hflag (State.raiseAt_keepsEvents _ _ _)).sees hset

theorem State.portUp_eq {due : Nat} (hdue : due = (s.mac p).lockUp + lockHoldNs) (hup : (s.mac p).up = false)
    (htest : s.testing 0 p.index = false) (htrain : (s.mac p).trained = true)
    (hen : s.portEn p = true) (hspeed : s.speedOk p speed = true) (hlock : s.lockHolds p = true) :
    s.portUp p speed = State.showLink { s.reach due with draws := (s.reach due).draws + 1 } p (s.linked p speed)
      (Config.freeNat (s.reach due).draws % 2 ^ 32) (decide (p ≠ .sv) && decide (s.speedSel p = 0) && decide (speed = 1)) := by
  subst hdue
  unfold State.portUp
  rw [if_neg (by simp [hup, htest, htrain, hen, hspeed, hlock])]
  rfl

theorem State.showLink_reach (due : Nat) (m : Mac) (n : Nat) (b : Bool) :
    let t := State.showLink { s.reach due with draws := (s.reach due).draws + 1 } p m n b
    t.mac p = m ∧ due ≤ t.up ∧ (s.regsOk → t.sees (Ev.LINK_UP p.index) = true) := by
  refine ⟨State.showLink_mac _ _ _ _ _, ?_, fun hs => State.showLink_sees ?_ _ _ _ _⟩
  · rw [State.showLink_up]
    exact State.le_reach_up s due
  · exact ((s.reach_keepsEvents due) hs).1

/-! ### The end of a link -/

/-- R117: the MAC of a port whose link has ended. -/
def Mac.ended (m : Mac) (up : Nat) : Mac :=
  { m with
    up := false, speed := 0, fecActive := false, blockLock := false, aligned := false, win25 := true, winUp := up
    rxBlocked := none, own := [], fwd := [], tx := none }

theorem State.countN_mac (s : State) (a n : Nat) (p : Port) : (s.countN a n).mac p = s.mac p := State.mac_congr rfl rfl rfl p

theorem portDown_ends (hup : (s.mac p).up = true) :
    (s.portDown p).mac p = (s.mac p).ended s.up ∧ (s.regsOk → (s.portDown p).sees (Ev.LINK_DOWN p.index) = true) ∧
      ∀ x ∈ (s.portDown p).fs.streams, x.2.bound ≠ some p := by
  have hflag : (Ev.LINK_DOWN p.index).flag := by cases p <;> decide
  have hreg : (Ev.LINK_DOWN p.index).reg ≠ Reg.LINK_DOWN_COUNT p.index := by cases p <;> decide
  simp only [State.portDown, hup, Bool.true_eq_false, if_false]
  refine ⟨?_, fun hs => ?_, ?_⟩
  · rw [State.domainLeaves_mac, State.domainLeaves_mac]
    rw [State.unbindPort_mac, State.count_mac, State.raiseAt_mac, State.countN_mac, State.setMac_mac]
    rfl
  · have hset : ((s.setMac p ((s.mac p).ended s.up)).countN (Reg.FWD_DROP p.index) (s.mac p).discarded).regsOk :=
      State.setRegN_regsOk (show State.regsOk _ from (by cases p <;> exact hs)) _ _
    rw [State.sees_of_regs (State.domainLeaves_regs _ _ _), State.sees_of_regs (State.domainLeaves_regs _ _ _),
      State.sees_of_regs (State.unbindPort_regs _ _), State.count_sees hreg]
    exact (State.raiseAt_shows _ hflag p.index).sees hset
  · rw [State.domainLeaves_fs, State.domainLeaves_fs]
    exact State.unbindPort_bound _ p

/-- When the line was locked is no part of whether it is. -/
theorem setMac_lockHolds_lockUp {m m' : Mac} {c : Prop} [Decidable c] (h : m' = if c then { m with lockUp := s.up } else m) :
    (s.setMac p m').lockHolds p = (s.setMac p m).lockHolds p := by
  subst h
  split
  · cases p <;> rfl
  · rfl

theorem Mac.fields_of_lockUp {m m' : Mac} {up : Nat} {c : Prop} [Decidable c]
    (h : m' = if c then { m with lockUp := up } else m) :
    m'.blockLock = m.blockLock ∧ m'.aligned = m.aligned ∧ m'.hiBer = m.hiBer ∧ m'.hiBerUp = m.hiBerUp := by
  subst h
  split <;> exact ⟨rfl, rfl, rfl, rfl⟩

/-- R99: the line's state changes the port's MAC and nothing else. -/
theorem State.setLine_eq (m : Mac) : ∃ m', s.setLine p m = s.setMac p m' ∧
    m' = if (s.setMac p m).lockHolds p = true ∧ s.lockHolds p = false then { m with lockUp := s.up } else m := by
  refine ⟨_, ?_, rfl⟩
  unfold State.setLine
  simp only
  split
  · cases p <;> rfl
  · rfl

end

/-! ### The mirror link -/

theorem State.sendMirror_frame (s : State) (type : Nat) (x : MirrorPayload) :
    (s.sendMirror type x).red.mirrorUp = s.red.mirrorUp ∧ (s.sendMirror type x).red.stale = s.red.stale ∧
      (s.sendMirror type x).regs = s.regs ∧ (s.sendMirror type x).up = s.up := by
  unfold State.sendMirror
  split <;> exact ⟨rfl, rfl, rfl, rfl⟩

theorem State.mirrorIsUp_up (s : State) : s.mirrorIsUp.up = s.up := State.class1_up _ _

theorem State.mirrorIsUp_mirrorUp (s : State) : s.mirrorIsUp.red.mirrorUp = true := by
  unfold State.mirrorIsUp
  rw [State.class1_red]

theorem State.askResync_frame (s : State) : s.askResync.red.mirrorUp = s.red.mirrorUp ∧ s.askResync.up = s.up := by
  unfold State.askResync
  obtain ⟨hmup, -, -, hup⟩ := State.sendMirror_frame { s with red := { s.red with resyncWanted := true } } 7 (.bytes [])
  exact ⟨hmup, hup⟩

/-- What follows once the lock has held long enough. -/
def State.mirrorJoins (s : State) : State :=
  if s.mirrorIsUp.red.role = .standby ∧ s.mirrorIsUp.red.stale then s.mirrorIsUp.askResync else s.mirrorIsUp

theorem State.mirrorJoins_frame (s : State) : s.mirrorJoins.red.mirrorUp = true ∧ s.mirrorJoins.up = s.up := by
  unfold State.mirrorJoins
  split
  · rw [(State.askResync_frame _).1, (State.askResync_frame _).2, State.mirrorIsUp_up]
    exact ⟨State.mirrorIsUp_mirrorUp _, rfl⟩
  · exact ⟨State.mirrorIsUp_mirrorUp _, State.mirrorIsUp_up _⟩

theorem State.mirrorLinkUp_eq {s : State} {due : Nat} (hdue : due = s.red.mirrorLockUp + lockHoldNs) (hfw : s.firmwareUp = true)
    (hdown : s.red.mirrorUp = false) (hlock : s.red.mirrorLock = true) (hber : s.red.mirrorHiBer = false)
    (hset3 : s.sys.set3Lost = false) (htest : s.testing 0 3 = false) : s.mirrorLinkUp = (s.reach due).mirrorJoins := by
  subst hdue
  unfold State.mirrorLinkUp
  rw [if_neg (by simp [hfw, hdown, hlock, hber, hset3, htest])]
  rfl

/-- The first half of `setStale`: the flag and its event. -/
def State.markStale (s : State) : State :=
  if s.red.stale then s else { s with red := { s.red with stale := true } }.raise Ev.STALE

/-- The second half of `setStale`: the standby asks for a copy. -/
def State.wantResync (s : State) : State :=
  if s.red.resyncWanted ∨ !s.red.mirrorUp then s
  else { s with red := { s.red with resyncWanted := true } }.sendMirror 7 (.bytes [])

theorem State.setStale_eq (s : State) : s.setStale = s.markStale.wantResync := rfl

theorem State.markStale_frame (s : State) : s.markStale.red.stale = true ∧ s.markStale.red.mirrorUp = s.red.mirrorUp ∧
    s.KeepsEvents s.markStale := by
  unfold State.markStale
  split
  · next h => exact ⟨h, rfl, s.keepsEvents_refl⟩
  · refine ⟨by simp, by simp, State.KeepsEvents.after ?_ (State.raise_keepsEvents _ _)⟩
    rfl

theorem State.wantResync_frame (s : State) : s.wantResync.red.stale = s.red.stale ∧
    s.wantResync.red.mirrorUp = s.red.mirrorUp ∧ s.wantResync.regs = s.regs := by
  unfold State.wantResync
  split
  · exact ⟨rfl, rfl, rfl⟩
  · obtain ⟨hmup, hstale, hregs, -⟩ := State.sendMirror_frame { s with red := { s.red with resyncWanted := true } } 7 (.bytes [])
    exact ⟨hstale, hmup, hregs⟩

theorem State.setStale_frame (s : State) : s.setStale.red.stale = true ∧ s.setStale.red.mirrorUp = s.red.mirrorUp ∧
    s.KeepsEvents s.setStale := by
  obtain ⟨hstale, hmup, hkeeps⟩ := s.markStale_frame
  obtain ⟨hstale', hmup', hregs⟩ := s.markStale.wantResync_frame
  rw [State.setStale_eq]
  exact ⟨hstale'.trans hstale, hmup'.trans hmup, hkeeps.trans (State.keepsEvents_of_regs hregs)⟩

theorem State.mirrorLinkDown_ends {s : State} (hup : s.red.mirrorUp = true) :
    s.mirrorLinkDown.red.mirrorUp = false ∧ s.Shows s.mirrorLinkDown Ev.MIRROR_DOWN ∧
      (s.red.role = .standby → s.mirrorLinkDown.red.stale = true) := by
  have hflag : Ev.MIRROR_DOWN.flag := by decide
  have hshows : s.Shows ({ s.breakRecord with red := { s.breakRecord.red with
      mirrorUp := false, mirrorLock := false, resyncWanted := false, copy := none } }.raise Ev.MIRROR_DOWN) Ev.MIRROR_DOWN :=
    by
    refine State.Shows.after ?_ (State.raise_shows _ hflag)
    rfl
  simp only [State.mirrorLinkDown, hup, Bool.true_eq_false, if_false]
  split
  · obtain ⟨hstale, hmup, hkeeps⟩ := State.setStale_frame ({ s.breakRecord with red := { s.breakRecord.red with
      mirrorUp := false, mirrorLock := false, resyncWanted := false, copy := none } }.raise Ev.MIRROR_DOWN)
    refine ⟨hmup.trans ?_, hshows.trans hflag hkeeps, fun _ => hstale⟩
    simp
  · next hrole =>
    refine ⟨by simp, hshows, fun h => absurd ?_ hrole⟩
    simp [State.breakRecord, h]

/-- Settles O21: each command of a link, from the state of its MAC. -/
theorem linksComeUpAndGoDown : Obligations.LinksComeUpAndGoDown := by
  unfold Obligations.LinksComeUpAndGoDown
  intro s p l speed b hl m
  refine ⟨fun hup htest htrain hen hspeed hlock => ?_, fun hup => ?_, fun hsv hup htrain hen hsel => ?_, fun hup => ?_,
    fun htrain hen => ?_, ?_, fun hfw hdown hlock hber hset3 htest => ?_, fun hup => ?_⟩
  · obtain ⟨due, hdue⟩ : ∃ due, due = m.lockUp + lockHoldNs := ⟨_, rfl⟩
    have heq := State.portUp_eq hdue hup htest htrain hen hspeed hlock
    obtain ⟨hmac, htime, hsees⟩ := State.showLink_reach (s := s) (p := p) due (s.linked p speed)
      (Config.freeNat (s.reach due).draws % 2 ^ 32) (decide (p ≠ .sv) && decide (s.speedSel p = 0) && decide (speed = 1))
    rw [← heq] at hmac htime hsees
    rw [← hdue]
    refine ⟨s.portUp p speed, by simp only [exec, execLinkUp, hl], ?_, htime, ?_, ?_, hsees⟩ <;> rw [hmac] <;> rfl
  · obtain ⟨u, hu⟩ : ∃ u, u = if m.hiBer = true then s.reach (m.hiBerUp + hiBerHoldNs) else s := ⟨_, rfl⟩
    have humac : u.mac p = m := by rw [hu]; split <;> simp [m]
    have huregs : s.KeepsEvents u := by
      rw [hu]
      split
      · exact s.reach_keepsEvents _
      · exact s.keepsEvents_refl
    obtain ⟨hmac, hsees, hbound⟩ := portDown_ends (s := u) (p := p) (by rw [humac]; exact hup)
    refine ⟨u.portDown p, ?_, ?_⟩
    · simp only [exec, execLinkDown, hl, hu]
      rw [if_pos hup]
    · rw [hmac]
      exact ⟨rfl, rfl, rfl, rfl, rfl, rfl, fun hs => hsees (huregs hs).1, hbound⟩
  · obtain ⟨due, hdue⟩ : ∃ due, due = m.winUp + windowNs m.win25 := ⟨_, rfl⟩
    rw [← hdue]
    refine ⟨(s.reach due).setMac p { m with win25 := !m.win25, winUp := (s.reach due).up, blockLock := false, aligned := false },
      ?_, ?_, ?_⟩
    · simp only [exec, execSearchWindow]
      rw [if_neg (by simp_all [m]), hdue]
    · rw [State.setMac_up]
      exact State.le_reach_up s due
    · rw [State.setMac_mac, State.setMac_up]
  · simp only [exec, execSearchWindow]
    rw [if_pos (Or.inr (Or.inl hup))]
  · obtain ⟨m', hline, hm'⟩ := State.setLine_eq (s := s) (p := p) { m with blockLock := true, aligned := b }
    refine ⟨s.setMac p m', ?_, ?_⟩
    · simp only [exec, execBlockLock, hl]
      rw [if_pos ⟨htrain, hen⟩, hline]
    · obtain ⟨hblock, haligned, -, -⟩ := Mac.fields_of_lockUp hm'
      rw [setMac_lockHolds_lockUp hm', State.setMac_mac]
      exact ⟨hblock, haligned, fun h1 h2 => by rw [hm', if_pos ⟨h2, h1⟩], rfl⟩
  · obtain ⟨m', hline, hm'⟩ := State.setLine_eq (s := s) (p := p)
      { m with hiBer := b, hiBerUp := if b ∧ m.hiBer = false then s.up else m.hiBerUp }
    refine ⟨s.setMac p m', ?_, ?_⟩
    · simp only [exec, execHiBer, hl]
      exact congrArg _ hline
    · obtain ⟨-, -, hber, hberUp⟩ := Mac.fields_of_lockUp hm'
      rw [State.setMac_mac]
      exact ⟨hber, fun h1 h2 => hberUp.trans (if_pos ⟨h1, h2⟩), rfl⟩
  · obtain ⟨due, hdue⟩ : ∃ due, due = s.red.mirrorLockUp + lockHoldNs := ⟨_, rfl⟩
    rw [← hdue]
    refine ⟨(s.reach due).mirrorJoins, ?_, (State.mirrorJoins_frame _).1, ?_⟩
    · simp only [exec, execLinkUp, Link.port, State.mirrorLinkUp_eq hdue hfw hdown hlock hber hset3 htest]
    · rw [(State.mirrorJoins_frame _).2]
      exact State.le_reach_up s due
  · obtain ⟨u, hu⟩ : ∃ u, u = if s.red.mirrorHiBer = true then s.reach (s.red.mirrorHiBerUp + hiBerHoldNs) else s := ⟨_, rfl⟩
    have hured : u.red = s.red := by rw [hu]; split <;> simp
    have hukeeps : s.KeepsEvents u := by
      rw [hu]
      split
      · exact s.reach_keepsEvents _
      · exact s.keepsEvents_refl
    obtain ⟨hdown, hshows, hstale⟩ := State.mirrorLinkDown_ends (s := u) (by rw [hured]; exact hup)
    refine ⟨u.mirrorLinkDown, ?_, hdown, fun hs => (hukeeps.shows hshows).sees hs, fun hrole => hstale (by rw [hured]; exact hrole)⟩
    simp only [exec, execLinkDown, Link.port, hu]

end Sys2Proof.Machine
end

section
/-! ## Own frames: R125, R126 -/

namespace Sys2Proof.Machine

/-! ### An own frame joins the queue of its port -/

theorem State.sendOwn_of_up {s : State} {p : Port} (h : (s.mac p).up = true) (f : OwnFrame) :
    s.sendOwn p f = s.setMac p { s.mac p with own := (s.mac p).own ++ [f] } := by
  unfold State.sendOwn
  exact if_pos h

theorem State.sendOwn_of_down {s : State} {p : Port} (h : (s.mac p).up = false) (f : OwnFrame) : s.sendOwn p f = s := by
  unfold State.sendOwn
  exact if_neg (by simp [h])

theorem State.sendOwn_mac_other {p q : Port} (h : q ≠ p) (s : State) (f : OwnFrame) : (s.sendOwn p f).mac q = s.mac q := by
  unfold State.sendOwn
  simp only
  split
  · exact State.setMac_mac_other s _ h
  · rfl

theorem State.setMac_self (s : State) (p : Port) : s.setMac p (s.mac p) = s := by cases p <;> rfl

theorem State.setMac_setMac (s : State) (p : Port) (m m' : Mac) : (s.setMac p m).setMac p m' = s.setMac p m' := by cases p <;> rfl

/-- Frames sent one after another on a port with link stand in its queue in that order. -/
theorem State.foldl_sendOwn_mac {s : State} {p : Port} (h : (s.mac p).up = true) {α : Type} (f : α → OwnFrame) (l : List α) :
    l.foldl (fun t x => t.sendOwn p (f x)) s = s.setMac p { s.mac p with own := (s.mac p).own ++ l.map f } := by
  induction l generalizing s with
  | nil =>
    rw [List.foldl_nil, List.map_nil, List.append_nil]
    exact (s.setMac_self p).symm
  | cons x l ih =>
    have hup : ((s.sendOwn p (f x)).mac p).up = true := by simp [State.sendOwn_of_up h, h]
    rw [List.foldl_cons, ih hup, State.sendOwn_of_up h, State.setMac_setMac, State.setMac_mac]
    simp

/-- One frame sent on several ports: a port among them with link gets it once, and no other changes. -/
theorem State.foldl_sendOwn_ports {f : OwnFrame} {p : Port} {l : List Port} (hl : l.Nodup) (s : State) :
    (p ∈ l → (s.mac p).up = true → ((l.foldl (fun t q => t.sendOwn q f) s).mac p).own = (s.mac p).own ++ [f]) ∧
    (p ∉ l ∨ (s.mac p).up = false → (l.foldl (fun t q => t.sendOwn q f) s).mac p = s.mac p) := by
  induction l generalizing s with
  | nil => simp
  | cons q l ih =>
    obtain ⟨hq, hl⟩ := List.nodup_cons.mp hl
    obtain ⟨ihin, ihout⟩ := ih hl (s.sendOwn q f)
    by_cases hpq : p = q
    · subst hpq
      refine ⟨fun _ hup => ?_, fun h => ?_⟩
      · rw [List.foldl_cons, ihout (Or.inl hq), State.sendOwn_of_up hup, State.setMac_mac]
      · have hdown : (s.mac p).up = false := h.resolve_left (by simp)
        rw [List.foldl_cons, ihout (Or.inl hq), State.sendOwn_of_down hdown]
    · rw [State.sendOwn_mac_other hpq] at ihin ihout
      simpa [hpq] using ⟨ihin, ihout⟩

/-- What a list of answers on one port changes. -/
theorem State.foldl_sendOwn_answers {s : State} {p : Port} (h : (s.mac p).up = true) {α : Type} (f : α → OwnFrame) (l : List α) :
    let t := l.foldl (fun t x => t.sendOwn p (f x)) s
    (t.mac p).own = (s.mac p).own ++ l.map f ∧ t = s.setMac p (t.mac p) := by
  intro t
  have ht : t = _ := State.foldl_sendOwn_mac h f l
  rw [ht, State.setMac_mac]
  exact ⟨rfl, rfl⟩

theorem State.foldl_sendOwn_frame (f : OwnFrame) (l : List Port) (s : State) :
    (l.foldl (fun t q => t.sendOwn q f) s).up = s.up ∧ (l.foldl (fun t q => t.sendOwn q f) s).groups = s.groups ∧
      (l.foldl (fun t q => t.sendOwn q f) s).reports = s.reports := by
  induction l generalizing s with
  | nil => exact ⟨rfl, rfl, rfl⟩
  | cons q l ih =>
    obtain ⟨hup, hgroups, hreports⟩ := ih (s.sendOwn q f)
    refine ⟨hup.trans ?_, hgroups.trans ?_, hreports.trans ?_⟩ <;> unfold State.sendOwn <;> simp only <;> split <;> simp

theorem State.reportPorts_nodup (s : State) : s.reportPorts.Nodup := by
  unfold State.reportPorts
  split <;> decide

/-! ### R125: membership reports -/

/-- Settles O22: a report is one frame on each port that carries reports, an answer one frame for each group. -/
theorem groupsAreReported : Obligations.GroupsAreReported := by
  unfold Obligations.GroupsAreReported
  intro s g r p ms hfw
  refine ⟨fun hfind => ?_, fun hp hup => ⟨?_, ?_⟩⟩
  · obtain ⟨u, hu⟩ : ∃ u, u = ({ s.reach r.2 with reports := (s.reach r.2).reports.erase r } : State) := ⟨_, rfl⟩
    have hframe : u.reportFrame g false = s.reportFrame g false := by
      rw [hu]
      exact (s.reach_sameButClock r.2).congr (f := fun x => x.reportFrame g false) fun _ _ _ _ _ _ _ _ _ => rfl
    have hports : u.reportPorts = s.reportPorts := by
      rw [hu]
      exact (s.reach_sameButClock r.2).congr (f := State.reportPorts) fun _ _ _ _ _ _ _ _ _ => rfl
    have hmac : u.mac p = s.mac p := by
      rw [hu]
      exact (State.mac_congr rfl rfl rfl p).trans (s.reach_mac r.2 p)
    have hdone : u.reports = s.reports.erase r ∧ r.2 ≤ u.up ∧ u.groups = s.groups := by
      rw [hu]
      exact ⟨by simp, s.le_reach_up r.2, by simp⟩
    obtain ⟨hsent, hquiet⟩ := State.foldl_sendOwn_ports (f := s.reportFrame g false) (p := p) s.reportPorts_nodup u
    obtain ⟨hup, hgroups, hreports⟩ := State.foldl_sendOwn_frame (s.reportFrame g false) s.reportPorts u
    rw [hmac] at hsent hquiet
    refine ⟨s.reportPorts.foldl (fun t q => t.sendOwn q (s.reportFrame g false)) u, ?_, hreports.trans hdone.1,
      Nat.le_trans hdone.2.1 (Nat.le_of_eq hup.symm), hgroups.trans hdone.2.2, hsent, hquiet⟩
    simp only [exec, execMembershipReport, hfind]
    rw [if_pos hfw, ← hu]
    unfold State.sendReport
    rw [hports, hframe]
  · refine ⟨_, ?_, State.foldl_sendOwn_answers hup (fun x => s.reportFrame x true) s.groups⟩
    simp only [exec, execMulticastQuery]
    rw [if_pos ⟨hfw, hp⟩]
  · refine ⟨_, ?_, State.foldl_sendOwn_answers hup (fun x => s.reportFrame x true) (s.groups.filter fun x => decide (x = g))⟩
    simp only [exec, execMulticastQuery]
    rw [if_pos ⟨hfw, hp⟩]

/-! ### R126: the answers of the firmware -/

section
variable {s : State} {p : Port}

theorem State.setIp_mac (i : IpState) (q : Port) : (s.setIp p i).mac q = s.mac q := by
  cases p <;> exact State.mac_congr rfl rfl rfl q

theorem State.setIp_ipOf (i : IpState) : (s.setIp p i).ipOf p = i := by cases p <;> rfl

/-- What one answer on a port with link changes. -/
theorem State.sendOwn_answers (h : (s.mac p).up = true) (f : OwnFrame) :
    s.sendOwn p f = s.setMac p ((s.sendOwn p f).mac p) ∧ ((s.sendOwn p f).mac p).own = (s.mac p).own ++ [f] := by
  rw [State.sendOwn_of_up h, State.setMac_mac]
  exact ⟨rfl, rfl⟩

/-- R126: a DHCP message leaves with what the port's address state became. -/
theorem State.dhcpSend_of_setIp {t : State} {i : IpState} (hmac : t.mac p = s.mac p) (hip : t.ipOf p = i)
    (h : (s.mac p).up = true) (type : Nat) (ciaddr : Word) (opts : List Byte) :
    (t.dhcpSend p type ciaddr opts).ipOf p = i ∧ ∃ f, ((t.dhcpSend p type ciaddr opts).mac p).own = (s.mac p).own ++ [f] ∧
      f.kind = .dhcp := by
  have hup : (t.mac p).up = true := by rw [hmac, h]
  unfold State.dhcpSend
  refine ⟨?_, _, (State.sendOwn_answers hup _).2.trans (by rw [hmac]), rfl⟩
  rw [State.sendOwn_of_up hup]
  cases p <;> exact hip

theorem State.dhcpBegin_mac (i : IpState) : (s.dhcpBegin p i).mac p = s.mac p := by
  unfold State.dhcpBegin
  rw [State.setIp_mac]
  exact State.mac_congr rfl rfl rfl p

theorem State.dhcpBegin_ipOf (i : IpState) : (s.dhcpBegin p i).ipOf p = { i with xid := Config.freeNat s.draws % 2 ^ 32 } :=
  State.setIp_ipOf _

end

/-- Settles O23: each message of R126 for an address of the port. -/
theorem firmwareAnswersForItsAddresses : Obligations.FirmwareAnswersForItsAddresses := by
  unfold Obligations.FirmwareAnswersForItsAddresses
  intro s p target ip mask gw server a b data mac lease hfw hup i sends only
  refine ⟨fun hne haddr => ?_, fun haddr => ?_, fun ha => ?_, fun h1 h2 => ?_, fun ha => ?_, fun hon => ?_⟩
  · refine ⟨_, ?_, State.sendOwn_answers hup _⟩
    simp only [exec, execArpRequest]
    rw [if_pos ⟨hfw, hne, haddr⟩]
    rfl
  · simp only [exec, execArpRequest]
    rw [if_neg (fun h => haddr h.2.2)]
  · refine ⟨_, ?_, State.sendOwn_answers hup _⟩
    simp only [exec, execNeighbourSolicitation]
    rw [if_pos ⟨hfw, ha⟩]
  · simp only [exec, execNeighbourSolicitation]
    rw [if_neg (fun h => h.2.elim h1 fun h => h2 h.1)]
  · refine ⟨_, ?_, State.sendOwn_answers hup _⟩
    simp only [exec, execEchoRequest]
    rw [if_pos ⟨hfw, ha⟩]
    rfl
  · have hoff : ¬(s.firmwareUp = false ∨ s.dhcpOn p = false) := by simp [hfw, hon]
    refine ⟨?_, fun h => ?_, ?_, fun h => ?_, fun hne hlt => ?_⟩
    · obtain ⟨hip, f, hsent, hkind⟩ := State.dhcpSend_of_setIp (State.setIp_mac { i with requested := true } p)
        (State.setIp_ipOf { i with requested := true }) hup 3 0
        ([50, 4] ++ beBytes 4 ip.toNat ++ [54, 4] ++ beBytes 4 server.toNat)
      refine ⟨_, f, ?_, hip, hsent, hkind⟩
      simp only [exec, execDhcpv4]
      rw [if_neg hoff]
    · simp only [exec, execDhcpv4]
      rw [if_neg hoff, if_pos h]
    · simp only [exec, execDhcpv4]
      rw [if_neg hoff]
    · obtain ⟨hip, f, hsent, hkind⟩ := State.dhcpSend_of_setIp (State.dhcpBegin_mac { i with addr := 0, requested := false })
        (State.dhcpBegin_ipOf { i with addr := 0, requested := false }) hup 1 0 []
      refine ⟨_, f, ?_, ?_, ?_, hsent, hkind⟩
      · simp only [exec, execDhcpv4]
        rw [if_neg hoff, if_pos h]
      · rw [hip]
      · rw [hip]
    · obtain ⟨hip, f, hsent, hkind⟩ := State.dhcpSend_of_setIp (State.dhcpBegin_mac { i with requested := true })
        (State.dhcpBegin_ipOf { i with requested := true }) hup 3 i.addr []
      refine ⟨_, f, ?_, ?_, ?_, hsent, hkind⟩
      · simp only [exec, execDhcpv4]
        rw [if_neg hoff, if_neg fun h => h.elim hne (Nat.not_le.mpr hlt)]
      · rw [hip]
      · rw [hip]

end Sys2Proof.Machine
end

section
/-! ## Pixel transport: R133 to R168 -/

namespace Sys2Proof.Machine

/-! ### R148: the first failing step of a packet -/

section
variable {s : State} {p : Port} {c : Carrier} {mac d : List Byte}

/-- A packet on a port that takes packets is judged from step 1 on. -/
theorem exec_hptPacket (hon : s.ingressOn p = true) (hctrl : bit (s.regN Reg.ING_CTRL) 0 = true) (hearly : hptEarly d = none) :
    exec (.hptPacket p c mac d) s = .next (s.hptJudge p c mac d) := by
  simp [exec, execHptPacket, hon, hctrl, hearly]

/-- Steps 5 and 6: a packet of a source that the filter passes is judged on by its owner. -/
theorem State.hptJudge_of_stream {i : Nat} (hstream : s.hptStream c (parseHpt d).sid = some i)
    (hsrc : s.srcRefused i c mac = false) {s1 : State} {b : Bool}
    (hown : s.hptSource i p (sourceOf c mac) (decide ((parseHpt d).version = 1)) = (s1, b)) :
    s.hptJudge p c mac d =
      if b = false then s1.count Reg.HPT_FOREIGN
      else if (parseHpt d).version = 3 ∧ (parseHpt d).slotLayer ≠ s1.slotLayer i then s1.count Reg.HPT_BAD_BINDING
      else if (parseHpt d).version = 1 then s1.hptFinish i p (sourceOf c mac) (parseHpt d) d
      else
        match (s1.stream i).judgeSeq (parseHpt d).seq with
        | .dup => s1.count Reg.HPT_DUP
        | .old => s1.count Reg.HPT_SEQ_OLD
        | .newSpace => State.hptFinish (((s1.setStream i { s1.stream i with high := none, seen := [] }).count
            Reg.HPT_SEQ_RESET).raiseAt Ev.SEQ_RESET i) i p (sourceOf c mac) (parseHpt d) d
        | .pass => s1.hptFinish i p (sourceOf c mac) (parseHpt d) d := by
  unfold State.hptJudge
  simp only [hstream, hsrc, hown]
  cases b <;> rfl

end

/-- Settles O24: the step that fails decides, in the order of R148. -/
theorem rejectedPacketsMoveOneCounter : Obligations.RejectedPacketsMoveOneCounter := by
  unfold Obligations.RejectedPacketsMoveOneCounter
  intro s p c mac d hon h
  refine ⟨fun hctrl => ?_, fun hctrl => ⟨fun k hk => ?_, fun hearly hstream => ?_, fun i hearly hstream =>
    ⟨fun href => ?_, fun s1 href hown => ?_, fun s1 href hown => ?_⟩⟩⟩
  · simp [exec, execHptPacket, hon, hctrl]
  · simp [exec, execHptPacket, hon, hctrl, hk]
  · rw [exec_hptPacket hon hctrl hearly]
    simp only [State.hptJudge, h] at hstream ⊢
    rw [hstream]
  · rw [exec_hptPacket hon hctrl hearly]
    simp only [State.hptJudge, h] at hstream ⊢
    rw [hstream]
    exact congrArg _ (if_pos href)
  · rw [exec_hptPacket hon hctrl hearly, State.hptJudge_of_stream hstream href hown]
    rfl
  · rw [exec_hptPacket hon hctrl hearly, State.hptJudge_of_stream hstream href hown, if_neg (by simp)]
    refine ⟨fun hv hbind => ?_, fun hv hbind => ?_⟩
    · rw [if_pos ⟨hv, hbind⟩]
    · rw [if_neg (fun hx => hx.2 (hbind hx.1)), if_neg hv]
      refine ⟨fun hj => ?_, fun hj => ?_⟩ <;> rw [hj]

/-! ### R142, R143, R168: silence -/

/-- R142: after `n` silent ticks the owner may be replaced. -/
def Stream.releasedAfter (t : Stream) (n : Nat) : Stream :=
  if t.owner.isSome ∧ n ≤ t.silentTicks then { t with ownerReleased := true } else t

/-- R143: after `n` silent ticks the bound port is given up. -/
def Stream.unboundAfter (t : Stream) (n : Nat) : Stream :=
  if t.bound.isSome ∧ n ≤ t.boundSilent then { t with bound := none, boundSilent := 0 } else t

theorem exec_sourceFailover (s : State) (i : Fin 64) : exec (.sourceFailover i) s = .next (s.setStream i
    (((s.stream i).releasedAfter (s.param P.SOURCE_FAILOVER)).unboundAfter (s.param P.SOURCE_FAILOVER))) := rfl

theorem Stream.unboundAfter_of_heard {t : Stream} {n : Nat} (h : t.boundSilent < n) : t.unboundAfter n = t :=
  if_neg fun hx => absurd hx.2 (Nat.not_le.mpr h)

theorem Stream.releasedAfter_of_heard {t : Stream} {n : Nat} (h : t.silentTicks < n) : t.releasedAfter n = t :=
  if_neg fun hx => absurd hx.2 (Nat.not_le.mpr h)

/-- Settles O26: SOURCE_FAILOVER and STREAM_TIMEOUT, each as its condition says. -/
theorem silentStreamsFailOverAndGoDown : Obligations.SilentStreamsFailOverAndGoDown := by
  unfold Obligations.SilentStreamsFailOverAndGoDown
  intro s i t n
  refine ⟨fun hown hsil hbound => ?_, fun hbound hsil hown => ?_, fun hup hsil => ?_, fun h => ?_⟩
  · have hrel : t.releasedAfter n = { t with ownerReleased := true } := if_pos ⟨hown, hsil⟩
    have hkeep : ({ t with ownerReleased := true } : Stream).unboundAfter n = { t with ownerReleased := true } :=
      Stream.unboundAfter_of_heard hbound
    rw [exec_sourceFailover, hrel, hkeep]
  · have hgone : t.unboundAfter n = { t with bound := none, boundSilent := 0 } := if_pos ⟨hbound, hsil⟩
    rw [exec_sourceFailover, Stream.releasedAfter_of_heard hown, hgone]
  · simp only [exec, execStreamDown]
    rw [if_pos ⟨hup, hsil⟩]
  · simp only [exec, execStreamDown]
    rw [if_neg]
    rintro ⟨h1, h2⟩
    rcases h with h | h
    · exact absurd (h1.symm.trans h) (by decide)
    · exact absurd h2 (Nat.not_le.mpr h)

/-! ### R162 to R167: the sources of E1.31 -/

section
variable {s : State} {u : Nat}

/-- A universe tracks what was last set for it. -/
theorem State.sources_setSources (s : State) (u : Nat) (l : List SacnSource) : (s.setSources u l).sources u = l := by
  have hrest : (s.ingress.universes.filter fun v => decide (v.num ≠ u)).find? (fun v => decide (v.num = u)) = none := by
    simp [List.find?_eq_none]
  unfold State.sources State.universe? State.setSources
  cases l with
  | nil =>
    simp only [List.isEmpty_nil, if_true]
    rw [hrest]
  | cons x l =>
    simp only [List.isEmpty_cons, Bool.false_eq_true, if_false]
    rw [List.find?_append, hrest]
    simp

theorem State.sources_congr {s t : State} (h : t.ingress.universes = s.ingress.universes) (u : Nat) :
    t.sources u = s.sources u := by
  unfold State.sources State.universe?
  rw [h]

theorem State.sources_count (s : State) (a u : Nat) : (s.count a).sources u = s.sources u := State.sources_congr rfl u

theorem State.sources_raise (s : State) (e : Ev) (u : Nat) : (s.raise e).sources u = s.sources u := State.sources_congr (by simp) u

/-- R167: the merged slots change no source. -/
theorem State.handDmx_universes (s : State) (u : Nat) : (s.handDmx u).ingress.universes = s.ingress.universes := by
  unfold State.handDmx
  split
  · simp only
    split <;> rfl
  · rfl

theorem State.handDmx_regs (s : State) (u : Nat) : (s.handDmx u).regs = s.regs := by
  unfold State.handDmx
  split
  · simp only
    split <;> rfl
  · rfl

theorem State.handDmx_up (s : State) (u : Nat) : (s.handDmx u).up = s.up := by
  unfold State.handDmx
  split
  · simp only
    split <;> rfl
  · rfl

/-- R163: the source that is dropped is tracked no longer, and the loss shows. -/
theorem State.dropSource_drops (s : State) (u cid : Nat) :
    (s.dropSource u cid).sources u = (s.sources u).filter (fun x => decide (x.cid ≠ cid)) ∧
      (s.dropSource u cid).up = s.up ∧ (s.regsOk → (s.dropSource u cid).sees Ev.SACN_SRC_LOST = true) := by
  have hflag : Ev.SACN_SRC_LOST.flag := by decide
  unfold State.dropSource
  simp only
  refine ⟨?_, ?_, fun hs => ?_⟩
  · rw [State.sources_congr (State.handDmx_universes _ _), State.sources_raise, State.sources_count, State.sources_setSources]
  · rw [State.handDmx_up]
    simp
  · rw [State.sees_of_regs (State.handDmx_regs _ _)]
    refine (State.raise_shows _ hflag).sees ?_
    exact State.setRegN_regsOk hs _ _

/-- R163, R164: the sources of the universe after a packet is merged. -/
theorem State.mergePacket_sources (s : State) (m : SacnMsg) (old : Option SacnSource) :
    ∃ since, (∀ y, old = some y → y.priority = m.priority → since = y.rankSince) ∧ (s.mergePacket m old).sources m.univ =
      if old.isSome then (s.sources m.univ).map (fun y => if y.cid = m.cid then ⟨m.cid, m.seq, m.priority, since, m.slots, s.up⟩ else y)
      else s.sources m.univ ++ [⟨m.cid, m.seq, m.priority, since, m.slots, s.up⟩] := by
  refine ⟨match old with
    | some x => if x.priority = m.priority then x.rankSince else s.ingress.sacnOrder
    | none => s.ingress.sacnOrder, ?_, ?_⟩
  · rintro y rfl hp
    simp [hp]
  · unfold State.mergePacket
    simp only
    rw [State.sources_congr (State.handDmx_universes _ _), State.sources_count]
    exact State.sources_setSources _ _ _

end

section
variable {s : State} {p : Port} {m : SacnMsg}

theorem exec_sacnPacket (hon : s.ingressOn p = true) (hen : s.paramOn P.SACN_ENABLE = true) :
    exec (.sacnPacket p m) s = .next (s.sacnJudge m) := by
  simp [exec, execSacnPacket, hon, hen]

/-- R163: a plain packet of a mapped universe, by the source that is tracked for its CID. -/
def State.judgeSource (s : State) (m : SacnMsg) : Option SacnSource → State
  | some x =>
    if sacnOutOfOrder m.seq x.seq then (s.hearSource m.univ m.cid).count Reg.SACN_OUT_OF_ORDER
    else if m.terminated then s.dropSource m.univ m.cid
    else s.mergePacket m (some x)
  | none =>
    if 8 ≤ (s.sources m.univ).length then (s.count Reg.SACN_SRC_OVERFLOW).raise Ev.SACN_SRC_OVERFLOW
    else if m.terminated then s
    else s.mergePacket m none

/-- A well-formed data packet is judged by its universe and its source. -/
theorem State.sacnJudge_plain (hother : sacnIsOther m = false) (hwell : m.wellFormed = true) (hdata : sacnIsData m = true)
    (h1 : 1 ≤ m.univ) (h2 : m.univ ≤ 63999) (h3 : m.priority ≤ 200) :
    s.sacnJudge m =
      if m.preview then (s.hearSource m.univ m.cid).count Reg.SACN_PREVIEW
      else if m.startCode ≠ 0 then (s.hearSource m.univ m.cid).count Reg.SACN_ALT_START
      else if (s.mapOf m.univ).isNone then s.count Reg.SACN_UNMAPPED
      else s.judgeSource m ((s.sources m.univ).find? fun (x : SacnSource) => decide (x.cid = m.cid)) := by
  unfold State.sacnJudge
  rw [if_neg (by simp [hother]), if_neg (by simp [hwell, hdata]; omega)]
  simp only
  cases (s.sources m.univ).find? fun (x : SacnSource) => decide (x.cid = m.cid) <;> rfl

/-- A plain packet of a mapped universe: the rules of its source. -/
theorem State.sacnJudge_known {t u v w : State}
    (h : s.sacnJudge m = if m.preview then t else if m.startCode ≠ 0 then u else if (s.mapOf m.univ).isNone then v else w)
    (hprev : m.preview = false) (hstart : m.startCode = 0) (hmap : (s.mapOf m.univ).isSome = true) : s.sacnJudge m = w := by
  rw [h, if_neg (by simp [hprev]), if_neg (by simp [hstart]), if_neg (by simpa [Option.isSome_iff_ne_none] using hmap)]

end

/-- Settles O27: the cases of R162 to R164, and the timeout of a source. -/
theorem sacnSourcesAreTracked : Obligations.SacnSourcesAreTracked := by
  unfold Obligations.SacnSourcesAreTracked
  intro s p m hon hen good old plain
  have hexec : exec (.sacnPacket p m) s = .next (s.sacnJudge m) := exec_sacnPacket hon hen
  have hjudge := fun hg : good => State.sacnJudge_plain (s := s) hg.2.1 hg.1 hg.2.2.1 hg.2.2.2.1 hg.2.2.2.2.1 hg.2.2.2.2.2
  rw [hexec]
  have hsource : good → plain → s.sacnJudge m = s.judgeSource m old := fun hg hp =>
    State.sacnJudge_known (hjudge hg) hp.1 hp.2.1 hp.2.2
  refine ⟨fun h => ?_, fun hg hprev => ?_, fun hg hprev hstart => ?_, fun y hy hcid => ?_, fun hg hprev hstart hmap => ?_,
    fun hg hp hold hterm hlen => ?_, fun y hg hp hold hseq => ?_, fun hother hg => ?_, fun hg hp hold hlen => ?_,
    fun hg hp hold hterm hlen => ?_, fun y hg hp hold hseq hterm => ?_, fun y hg hp hold hseq hterm => ?_, fun y hold => ?_⟩
  · unfold State.sacnJudge
    rw [if_pos h]
  · rw [hjudge hg, if_pos hprev]
  · rw [hjudge hg, if_neg (by simp [hprev]), if_pos hstart]
  · unfold State.hearSource at hy
    rw [State.sources_setSources] at hy
    obtain ⟨z, -, rfl⟩ := List.mem_map.mp hy
    split at hcid
    · next h => rw [if_pos h]
    · next h => exact absurd hcid h
  · rw [hjudge hg, if_neg (by simp [hprev]), if_neg (by simp [hstart]), if_pos (by simp [hmap])]
  · obtain ⟨since, -, hsrc⟩ := s.mergePacket_sources m none
    rw [hsource hg hp, hold, State.judgeSource, if_neg (Nat.not_le.mpr hlen), if_neg (by simp [hterm])]
    exact ⟨_, _, rfl, hsrc, rfl, rfl, rfl, rfl, rfl⟩
  · rw [hsource hg hp, hold, State.judgeSource, if_pos hseq]
  · unfold State.sacnJudge
    rw [if_neg (by simp [hother]), if_pos]
    refine Classical.byContradiction fun hno => ?_
    simp only [Bool.not_eq_eq_eq_not, Bool.not_true, not_or, Bool.not_eq_false, Nat.not_lt] at hno
    obtain ⟨hwell, hdata, huniv, hlast, hprio⟩ := hno
    exact hg ⟨hwell, hother, hdata, Nat.pos_of_ne_zero huniv, hlast, hprio⟩
  · rw [hsource hg hp, hold, State.judgeSource, if_pos hlen]
  · rw [hsource hg hp, hold, State.judgeSource, if_neg (Nat.not_le.mpr hlen), if_pos hterm]
  · obtain ⟨since, hsince, hsrc⟩ := s.mergePacket_sources m (some y)
    rw [hsource hg hp, hold, State.judgeSource, if_neg (by simp [hseq]), if_neg (by simp [hterm])]
    exact ⟨_, since, rfl, hsince y rfl, hsrc⟩
  · obtain ⟨hdrop, -, hsees⟩ := s.dropSource_drops m.univ m.cid
    rw [hsource hg hp, hold, State.judgeSource, if_neg (by simp [hseq]), if_pos hterm]
    exact ⟨_, rfl, by simp [hdrop], hsees⟩
  · generalize hdue : y.lastUp + s.param P.SACN_TIMEOUT * 1000000 = due
    obtain ⟨hdrop, hup, hsees⟩ := (s.reach due).dropSource_drops m.univ m.cid
    refine ⟨(s.reach due).dropSource m.univ m.cid, ?_, ?_, ?_, fun hs => hsees ((s.reach_keepsEvents due) hs).1⟩
    · simp only [exec, execSacnSrcLost]
      rw [show (s.sources m.univ).find? (fun x => decide (x.cid = m.cid)) = some y from hold]
      simp only [hdue]
    · rw [hdrop, State.sources_congr (t := s.reach due) (s := s) (by simp)]
    · rw [hup]
      exact s.le_reach_up due

end Sys2Proof.Machine
end

section
/-! ## An accepted packet's pixels: R141, R152 -/

namespace Sys2Proof.Machine

/-! ### The pixels of a payload -/

theorem unpackUnit_length {l : Nat} (h5 : l ≠ 5) (h7 : l ≠ 7) (u : List Byte) : (unpackUnit l u).length = 1 := by
  unfold unpackUnit
  split
  case h_5 => exact absurd rfl h5
  case h_6 => exact absurd rfl h7
  all_goals rfl

theorem unpackUnits_length {l n : Nat} (hl : ∀ u, (unpackUnit l u).length = n) (size k : Nat) (p : List Byte) :
    (unpackUnits l size k p).length = n * k := by
  induction k generalizing p with
  | zero => rfl
  | succ k ih => simp [unpackUnits, hl, ih, Nat.mul_succ, Nat.add_comm]

theorem unpack_length_le (l count : Nat) (p : List Byte) : (unpack l count p).length ≤ count := by
  unfold unpack
  split
  · rw [unpackUnits_length (n := 2) fun _ => rfl]
    omega
  · rw [unpackUnits_length (n := 2) fun _ => rfl]
    omega
  · next h5 h7 =>
    rw [unpackUnits_length (n := 1) (unpackUnit_length h5 h7)]
    omega

/-! ### Where the ring keeps them -/

section
variable {s : State} {i e : Nat}

theorem State.writePixels_other (key : Nat) (ws : List Nat) (q : Nat) (ring counts : SMap Nat)
    (h : ∀ k, k < ws.length → key ≠ ringKey e (s.canvasX i (q + k)) (s.canvasY i (q + k))) :
    SMap.get (fun _ => 0) (s.writePixels i e q ws ring counts).1 key = SMap.get (fun _ => 0) ring key := by
  induction ws generalizing q ring counts with
  | nil => rfl
  | cons w ws ih =>
    unfold State.writePixels
    rw [ih (q + 1) _ _ fun k hk => by
      have := h (k + 1) (by simpa using hk)
      rwa [show q + (k + 1) = q + 1 + k by omega] at this]
    exact SMap.get_insert_other _ _ _ (by simpa using h 0 (by simp))

/-- Pixels written to places of their own are read there. -/
theorem State.writePixels_ring (ws : List Nat) (q : Nat) (ring counts : SMap Nat)
    (h : ∀ j k, j < ws.length → k < ws.length → j ≠ k → ringKey e (s.canvasX i (q + j)) (s.canvasY i (q + j)) ≠
      ringKey e (s.canvasX i (q + k)) (s.canvasY i (q + k))) {k : Nat} (hk : k < ws.length) :
    SMap.get (fun _ => 0) (s.writePixels i e q ws ring counts).1 (ringKey e (s.canvasX i (q + k)) (s.canvasY i (q + k))) =
      ws.getD k 0 + 1 := by
  induction ws generalizing q ring counts k with
  | nil => exact absurd hk (Nat.not_lt_zero _)
  | cons w ws ih =>
    unfold State.writePixels
    cases k with
    | zero =>
      rw [State.writePixels_other _ ws (q + 1) _ _ fun k hk => by
        have := h 0 (k + 1) (by simp) (by simpa using hk) (by omega)
        rwa [show q + (k + 1) = q + 1 + k by omega] at this]
      exact SMap.get_insert_same _ _ _ _
    | succ k =>
      have hstep := ih (q + 1) (ringSet ring e (s.canvasX i q) (s.canvasY i q) w)
        (SMap.set (fun _ => 0) counts (regionOf (s.canvasX i q) (s.canvasY i q))
          (SMap.get (fun _ => 0) counts (regionOf (s.canvasX i q) (s.canvasY i q)) + 1))
        (fun j k hj hk hne => by
          have := h (j + 1) (k + 1) (by simpa using hj) (by simpa using hk) (by omega)
          rwa [show q + (j + 1) = q + 1 + j by omega, show q + (k + 1) = q + 1 + k by omega] at this)
        (k := k) (by simpa using hk)
      rw [show q + (k + 1) = q + 1 + k by omega, hstep]
      rfl

/-- The places of different pixels of a rectangle on the canvas are different. -/
theorem State.ringKey_inj (hx : s.rectX i + s.rectW i ≤ 2 ^ 14) {a b : Nat}
    (ha : a < s.rectW i * s.rectH i) (hb : b < s.rectW i * s.rectH i)
    (h : ringKey e (s.canvasX i a) (s.canvasY i a) = ringKey e (s.canvasX i b) (s.canvasY i b)) : a = b := by
  have hw : 0 < s.rectW i := Nat.pos_of_mul_pos_right (Nat.zero_lt_of_lt ha)
  have hxa := Nat.mod_lt a hw
  have hxb := Nat.mod_lt b hw
  have hya : a / s.rectW i < s.rectH i := Nat.div_lt_of_lt_mul ha
  have hyb : b / s.rectW i < s.rectH i := Nat.div_lt_of_lt_mul hb
  unfold ringKey State.canvasX State.canvasY at h
  have hmod : a % s.rectW i = b % s.rectW i := by omega
  have hdiv : a / s.rectW i = b / s.rectW i := by omega
  rw [← Nat.div_add_mod a (s.rectW i), ← Nat.div_add_mod b (s.rectW i), hmod, hdiv]

end

/-! ### What the way to the ring leaves as it is -/

/-- The step from `s` to `t` keeps parameters, canonical registers and the count of accepted packets. -/
def State.keepsPixelSetup (s t : State) : Prop :=
  t.ctrl.live = s.ctrl.live ∧ t.nvm = s.nvm ∧ (s.regsOk → t.regsOk) ∧ t.reg Reg.HPT_ACCEPTED = s.reg Reg.HPT_ACCEPTED

section
variable {s t u : State}

theorem State.keepsPixelSetup_of_frame (hctrl : t.ctrl = s.ctrl) (hnvm : t.nvm = s.nvm) (hregs : t.regs = s.regs) :
    s.keepsPixelSetup t :=
  ⟨by rw [hctrl], hnvm, (State.keepsEvents_of_regs hregs · |>.1), by unfold State.reg; rw [hregs]⟩

theorem State.keepsPixelSetup.trans (h1 : s.keepsPixelSetup t) (h2 : t.keepsPixelSetup u) : s.keepsPixelSetup u := by
  obtain ⟨hl1, hn1, hr1, ha1⟩ := h1
  obtain ⟨hl2, hn2, hr2, ha2⟩ := h2
  exact ⟨hl2.trans hl1, hn2.trans hn1, hr2 ∘ hr1, ha2.trans ha1⟩

theorem State.keepsPixelSetup.layer (h : s.keepsPixelSetup t) (i : Nat) : t.layerOf i = s.layerOf i := by
  obtain ⟨hlive, hnvm, -, -⟩ := h
  unfold State.layerOf State.slotLayer State.streamCfg State.mapCfg State.paramBytes
  rw [hlive, hnvm]

theorem State.keepsPixelSetup.rect (h : s.keepsPixelSetup t) (i : Nat) : t.rectBytes i = s.rectBytes i := by
  obtain ⟨hlive, hnvm, -, -⟩ := h
  unfold State.rectBytes State.streamCfg State.mapCfg State.paramBytes
  rw [hlive, hnvm]

theorem State.keepsPixelSetup.sizes (h : s.keepsPixelSetup t) (i : Nat) : t.rectX i = s.rectX i ∧ t.rectY i = s.rectY i ∧
    t.rectW i = s.rectW i ∧ t.rectH i = s.rectH i := by
  unfold State.rectX State.rectY State.rectW State.rectH
  rw [h.rect i]
  exact ⟨rfl, rfl, rfl, rfl⟩

theorem State.keepsPixelSetup.canvas (h : s.keepsPixelSetup t) (i q : Nat) : t.canvasX i q = s.canvasX i q ∧
    t.canvasY i q = s.canvasY i q := by
  obtain ⟨hX, hY, hW, -⟩ := h.sizes i
  unfold State.canvasX State.canvasY
  rw [hX, hY, hW]
  exact ⟨rfl, rfl⟩

/-- An event's register and the journal's are all that raising it writes. -/
theorem State.raiseWith_reg (s : State) {e : Ev} {a : Nat} (he : a ≠ e.reg) (hj : a ∉ journalRegs) (index detail : Nat) :
    (s.raiseWith e index detail).reg a = s.reg a := by
  unfold State.raiseWith
  simp only
  split
  · exact State.reg_setReg_other _ _ he
  · rw [State.emit_reg _ _ _ _ _ hj]
    exact State.reg_setReg_other _ _ he

theorem State.raiseWith_keepsPixelSetup (s : State) {e : Ev} (he : Reg.HPT_ACCEPTED ≠ e.reg) (index detail : Nat) :
    s.keepsPixelSetup (s.raiseWith e index detail) :=
  ⟨by simp, by simp, fun hs => State.raiseWith_regsOk hs e index detail, State.raiseWith_reg s he (by decide) index detail⟩

theorem State.countN_keepsPixelSetup (s : State) {a : Nat} (ha : Reg.HPT_ACCEPTED ≠ a) (n : Nat) : s.keepsPixelSetup (s.countN a n) :=
  ⟨rfl, rfl, fun hs => State.setRegN_regsOk hs _ _, State.reg_setRegN_other _ _ ha⟩

theorem State.setStream_keepsPixelSetup (s : State) (i : Nat) (x : Stream) : s.keepsPixelSetup (s.setStream i x) :=
  State.keepsPixelSetup_of_frame rfl rfl rfl

theorem State.issueOn_frame (s : State) (cls c : Nat) : (s.issueOn cls c).fs = s.fs ∧ s.keepsPixelSetup (s.issueOn cls c) := by
  unfold State.issueOn State.setChannelArb
  simp only
  split
  · split <;> exact ⟨rfl, State.keepsPixelSetup_of_frame rfl rfl rfl⟩
  · exact ⟨rfl, State.keepsPixelSetup_of_frame rfl rfl rfl⟩

theorem State.issue_frame (s : State) (cls : Nat) : (s.issue cls).fs = s.fs ∧ s.keepsPixelSetup (s.issue cls) := by
  obtain ⟨hfs0, h0⟩ := s.issueOn_frame cls 0
  obtain ⟨hfs1, h1⟩ := (s.issueOn cls 0).issueOn_frame cls 1
  exact ⟨hfs1.trans hfs0, h0.trans h1⟩

theorem State.boundPass_keepsPixelSetup (s : State) (i : Nat) (p : Port) : s.keepsPixelSetup (s.boundPass i p).1 := by
  unfold State.boundPass
  simp only
  split
  · exact State.keepsPixelSetup_of_frame rfl rfl rfl
  · split
    · exact s.setStream_keepsPixelSetup i _
    · split
      · exact State.keepsPixelSetup_of_frame rfl rfl rfl
      · exact s.setStream_keepsPixelSetup i _

theorem State.ownerTakes_keepsPixelSetup (s : State) (i : Nat) (src : List Byte) : s.keepsPixelSetup (s.ownerTakes i src) :=
  (s.setStream_keepsPixelSetup i _).trans (State.raiseWith_keepsPixelSetup _ (by decide) _ _)

theorem State.hptSource_keepsPixelSetup (s : State) (i : Nat) (p : Port) (src : List Byte) (v1 : Bool) :
    s.keepsPixelSetup (s.hptSource i p src v1).1 := by
  have hrefl : s.keepsPixelSetup s := State.keepsPixelSetup_of_frame rfl rfl rfl
  unfold State.hptSource
  split
  · exact hrefl
  · next o _ =>
    have htakes : s.keepsPixelSetup (if o = src then s else s.ownerTakes i src) := by
      split
      · exact hrefl
      · exact s.ownerTakes_keepsPixelSetup i src
    split
    · exact hrefl
    · simp only
      split
      · exact htakes.trans (State.boundPass_keepsPixelSetup _ i p)
      · exact htakes

theorem State.loseMark_keepsPixelSetup (s : State) (i : Nat) : s.keepsPixelSetup (s.loseMark i) := by
  unfold State.loseMark
  simp only
  split
  · exact ((s.setStream_keepsPixelSetup i _).trans (State.setStream_keepsPixelSetup _ i _)).trans
      (State.raiseWith_keepsPixelSetup _ (by decide) _ _)
  · exact State.keepsPixelSetup_of_frame rfl rfl rfl

theorem State.openIn_keepsPixelSetup (s : State) (i e : Nat) (p : Part) : s.keepsPixelSetup (s.openIn i e p) :=
  State.keepsPixelSetup_of_frame rfl rfl rfl

/-! ### A new frame has its part -/

theorem State.stream_setStream_of_ne {i : Nat} {x : Stream} (h : x ≠ {}) : (s.setStream i x).stream i = x :=
  SMap.get_set_same_ne _ _ h

theorem Stream.frameOf_congr {x y : Stream} (h : x.parts = y.parts) (f : Nat) : x.frameOf f = y.frameOf f := by
  unfold Stream.frameOf
  rw [h]

theorem Stream.frameOf_append {x : Stream} {l : List Part} {q : Part} {f : Nat} (h : x.parts = l ++ [q]) (hf : q.frame = f)
    (hq : q.former = false) : (x.frameOf f).isSome = true := by
  unfold Stream.frameOf
  rw [h, List.find?_isSome]
  exact ⟨q, by simp, by simp [hf, hq]⟩

/-- R181: the frame that is opened has a part of its number. -/
theorem State.openIn_frameOf (s : State) (i e : Nat) {p : Part} {f : Nat} (hf : p.frame = f) (hq : p.former = false) :
    (((s.openIn i e p).stream i).frameOf f).isSome = true := by
  have hstream : (s.openIn i e p).stream i = { s.stream i with
      parts := (s.stream i).parts ++ [{ p with entry := e }], format := p.format, frame := p.frame } :=
    State.stream_setStream_of_ne fun h => by
      have := congrArg (fun x : Stream => x.parts.length) h
      simp at this
  rw [hstream]
  exact Stream.frameOf_append (q := { p with entry := e }) rfl hf hq

theorem State.openFrame_opens {s1 : State} {i : Nat} {p : Part} (h : s.openFrame i p = (s1, none)) {f : Nat} (hf : p.frame = f)
    (hq : p.former = false) : s.keepsPixelSetup s1 ∧ ((s1.stream i).frameOf f).isSome = true := by
  unfold State.openFrame at h
  simp only at h
  generalize hs0 : (if (p.v1 && (s.stream i).parts.any fun q => q.v1 && decide (q.st = .open_)) = true then
    (s.setStream i ((s.stream i).freeParts fun q => q.v1 && decide (q.st = .open_))).count Reg.FS_ABANDONED else s) = s0 at h
  have h0 : s.keepsPixelSetup s0 := by
    rw [← hs0]
    split
    · exact (s.setStream_keepsPixelSetup i _).trans (State.countN_keepsPixelSetup _ (by decide) 1)
    · exact State.keepsPixelSetup_of_frame rfl rfl rfl
  split at h
  · exact absurd (Prod.mk.inj h).2 (by simp)
  · split at h
    · obtain ⟨rfl, -⟩ := Prod.mk.inj h
      exact ⟨h0.trans (State.openIn_keepsPixelSetup _ _ _ _), State.openIn_frameOf _ _ _ hf hq⟩
    · obtain ⟨rfl, -⟩ := Prod.mk.inj h
      exact ⟨((h0.trans (s0.loseMark_keepsPixelSetup i)).trans (State.setStream_keepsPixelSetup _ i _)).trans
        (State.openIn_keepsPixelSetup _ _ _ _), State.openIn_frameOf _ _ _ hf hq⟩
    · exact absurd (Prod.mk.inj h).2 (by simp)
    · exact absurd (Prod.mk.inj h).2 (by simp)

/-! ### The pixels in their part -/

theorem State.partDone_fields (s : State) (i : Nat) (p : Part) :
    (s.partDone i p).entry = p.entry ∧ (s.partDone i p).frame = p.frame ∧ (s.partDone i p).former = p.former := by
  unfold State.partDone
  split <;> exact ⟨rfl, rfl, rfl⟩

/-- The part that a frame has is put back in its place. -/
theorem Stream.frameOf_putPart {x : Stream} {p q : Part} {f : Nat} (h : x.frameOf f = some p) (he : q.entry = p.entry)
    (hf : q.frame = f) (hq : q.former = false) : (x.putPart q).frameOf f = some q := by
  unfold Stream.frameOf at *
  simp only [Stream.putPart]
  generalize x.parts = l at h
  induction l with
  | nil => exact absurd h (by simp)
  | cons y ys ih =>
    rw [List.map_cons, List.find?_cons]
    by_cases hy : y.entry = q.entry
    · simp [hy, hf, hq]
    · rw [List.find?_cons] at h
      have hno : (decide (y.frame = f) && !y.former) = false := by
        refine Bool.eq_false_iff.mpr fun hyes => ?_
        rw [hyes] at h
        exact hy (by rw [Option.some.inj h, he])
      rw [if_neg hy, hno]
      rw [hno] at h
      exact ih h

/-- The state with a ring of its own, on its way to the part. -/
def State.withRing (s : State) (ring : SMap Nat) : State := State.issue { s with fs := { s.fs with ring := ring } } 3

theorem State.withRing_frame (s : State) (ring : SMap Nat) (i : Nat) : (s.withRing ring).fs.ring = ring ∧
    (s.withRing ring).stream i = s.stream i ∧ s.keepsPixelSetup (s.withRing ring) := by
  obtain ⟨hfs, hkeeps⟩ := State.issue_frame { s with fs := { s.fs with ring := ring } } 3
  refine ⟨congrArg _ hfs, ?_, ?_⟩
  · unfold State.stream State.withRing
    rw [hfs]
  · exact (State.keepsPixelSetup_of_frame rfl rfl rfl).trans hkeeps

/-- The part that holds a written frame. -/
def State.writtenPart (s : State) (i : Nat) (p : Part) (q : Nat) (ws : List Nat) : Part :=
  (s.withRing (s.writePixels i p.entry q ws s.fs.ring p.counts).1).partDone i
    { p with counts := (s.writePixels i p.entry q ws s.fs.ring p.counts).2 }

theorem State.placePixels_eq (s : State) (i : Nat) (p : Part) (q : Nat) (ws : List Nat) : s.placePixels i p q ws =
    (s.withRing (s.writePixels i p.entry q ws s.fs.ring p.counts).1).setStream i
      ((s.stream i).putPart (s.writtenPart i p q ws)) := by
  obtain ⟨-, hstream, -⟩ := s.withRing_frame (s.writePixels i p.entry q ws s.fs.ring p.counts).1 i
  rw [← hstream]
  rfl

theorem Stream.frameOf_fields {x : Stream} {f : Nat} {p : Part} (h : x.frameOf f = some p) : p.frame = f ∧ p.former = false := by
  unfold Stream.frameOf at h
  simpa using List.find?_some h

theorem Stream.ne_default_of_frameOf {x : Stream} {f : Nat} {p : Part} (h : x.frameOf f = some p) : x ≠ {} := by
  rintro rfl
  exact absurd h (by simp [Stream.frameOf])

theorem State.placePixels_places {i q : Nat} {p : Part} {ws : List Nat} {f : Nat} (h : (s.stream i).frameOf f = some p)
    (hx : s.rectX i + s.rectW i ≤ 2 ^ 14) (hq : q + ws.length ≤ s.rectW i * s.rectH i) :
    s.keepsPixelSetup (s.placePixels i p q ws) ∧ ∃ part, ((s.placePixels i p q ws).stream i).frameOf f = some part ∧
      ∀ k, k < ws.length → (s.placePixels i p q ws).ringAt part.entry (s.canvasX i (q + k)) (s.canvasY i (q + k)) = ws.getD k 0 := by
  obtain ⟨hring, -, hkeeps⟩ := s.withRing_frame (s.writePixels i p.entry q ws s.fs.ring p.counts).1 i
  obtain ⟨hentry, hframe, hformer⟩ := State.partDone_fields (s.withRing (s.writePixels i p.entry q ws s.fs.ring p.counts).1) i
    { p with counts := (s.writePixels i p.entry q ws s.fs.ring p.counts).2 }
  have hp := Stream.frameOf_fields h
  have hput : ((s.stream i).putPart (s.writtenPart i p q ws)).frameOf f = some (s.writtenPart i p q ws) :=
    Stream.frameOf_putPart h hentry (hframe.trans hp.1) (hformer.trans hp.2)
  rw [State.placePixels_eq]
  refine ⟨hkeeps.trans (State.setStream_keepsPixelSetup _ i _), s.writtenPart i p q ws, ?_, fun k hk => ?_⟩
  · rw [State.stream_setStream_of_ne (Stream.ne_default_of_frameOf hput), hput]
  · have hget := s.writePixels_ring (i := i) (e := p.entry) ws q s.fs.ring p.counts
      (fun j k hj hk hne heq => hne (by have := s.ringKey_inj hx (by omega) (by omega) heq; omega)) hk
    have hplace : (s.writtenPart i p q ws).entry = p.entry := hentry
    unfold State.ringAt
    rw [show (State.setStream _ i _).fs.ring = _ from hring, hplace, hget]
    simp

/-- R141: an accepted packet of layer 0 stands in the part of its frame. -/
theorem State.hptWrite_places {i : Nat} {h : Hpt} {payload : List Byte} {s2 : State} (hlayer : s.layerOf i = 0)
    (hx : s.rectX i + s.rectW i ≤ 2 ^ 14) (hfit : h.y * s.rectW i + h.x + h.count ≤ s.rectW i * s.rectH i)
    (hwrite : s.hptWrite i h payload = (s2, none)) :
    s.keepsPixelSetup s2 ∧ ∃ part, (s2.stream i).frameOf h.frame = some part ∧
      ∀ k, k < (unpack (fmtLayout h.format) h.count payload).length →
        s2.ringAt part.entry (s.canvasX i (h.y * s.rectW i + h.x + k)) (s.canvasY i (h.y * s.rectW i + h.x + k)) =
          (unpack (fmtLayout h.format) h.count payload).getD k 0 := by
  have hlen := unpack_length_le (fmtLayout h.format) h.count payload
  unfold State.hptWrite at hwrite
  simp only at hwrite
  rw [if_pos hlayer] at hwrite
  generalize unpack (fmtLayout h.format) h.count payload = ws at hlen hwrite
  split at hwrite
  · next p hp =>
    obtain ⟨rfl, -⟩ := Prod.mk.inj hwrite
    exact State.placePixels_places hp hx (by omega)
  · split at hwrite
    · exact absurd (Prod.mk.inj hwrite).2 (by simp)
    · next s1 hopen =>
      obtain ⟨hkeeps, hsome⟩ := State.openFrame_opens hopen rfl rfl
      split at hwrite
      · next p hp =>
        obtain ⟨rfl, -⟩ := Prod.mk.inj hwrite
        obtain ⟨hX, -, hW, hH⟩ := hkeeps.sizes i
        obtain ⟨hkeeps1, part, hpart, hpix⟩ := State.placePixels_places (q := h.y * s.rectW i + h.x) (ws := ws) hp
          (by rw [hX, hW]; exact hx) (by rw [hW, hH]; omega)
        refine ⟨hkeeps.trans hkeeps1, part, hpart, fun k hk => ?_⟩
        obtain ⟨hcX, hcY⟩ := hkeeps.canvas i (h.y * s.rectW i + h.x + k)
        rw [← hcX, ← hcY]
        exact hpix k hk
      · next hnone => exact absurd hsome (by simp [hnone])

/-! ### Acceptance: R142, R143, R150 -/

theorem Stream.ne_default_of_high {x : Stream} (h : x.high.isSome = true) : x ≠ {} := by
  rintro rfl
  exact absurd h (by simp)

theorem Stream.ne_default_of_up {x : Stream} (h : x.up = true) : x ≠ {} := by
  rintro rfl
  exact absurd h (by simp)

/-- R150: the number is seen; parts, pixels and setup stay. -/
theorem State.seeSeq_frame (s : State) {i : Nat} (hi : i < 64) (q : Nat) : s.keepsPixelSetup (s.seeSeq i q) ∧
    (s.seeSeq i q).fs.ring = s.fs.ring ∧ ((s.seeSeq i q).stream i).parts = (s.stream i).parts ∧
    ((s.seeSeq i q).stream i).high.isSome = true ∧ q ∈ ((s.seeSeq i q).stream i).seen := by
  have hlost : Reg.HPT_ACCEPTED ≠ Reg.STRM_LOST i := by
    unfold Reg.HPT_ACCEPTED Reg.STRM_LOST
    omega
  have hset : ∀ x : Stream, x.high.isSome = true → x.parts = (s.stream i).parts → q ∈ x.seen → s.keepsPixelSetup (s.setStream i x) ∧
      (s.setStream i x).fs.ring = s.fs.ring ∧ ((s.setStream i x).stream i).parts = (s.stream i).parts ∧
      ((s.setStream i x).stream i).high.isSome = true ∧ q ∈ ((s.setStream i x).stream i).seen := fun x hhigh hparts hseen => by
    rw [State.stream_setStream_of_ne (Stream.ne_default_of_high hhigh)]
    exact ⟨s.setStream_keepsPixelSetup i x, rfl, hparts, hhigh, hseen⟩
  unfold State.seeSeq
  simp only
  split
  · exact hset _ rfl rfl (by simp)
  · next h0 hhigh =>
    split
    · exact hset _ (by simp [hhigh]) rfl (by simp)
    · obtain ⟨hkeeps, hring, hparts, hhigh', hseen⟩ := hset { s.stream i with
        high := some q
        seen := q :: (s.stream i).seen.filter fun (v : Nat) => decide (-4096 ≤ signed32 ((v : Int) - q))
        first := if signed32 (((s.stream i).first : Int) - q) < -4096 then (BitVec.ofInt 32 ((q : Int) - 4096)).toNat
          else (s.stream i).first } rfl rfl (by simp)
      exact ⟨(hkeeps.trans (State.countN_keepsPixelSetup _ (by decide) _)).trans (State.countN_keepsPixelSetup _ hlost _),
        hring, hparts, hhigh', hseen⟩

/-- R142, R143: an accepted packet makes its stream UP and owned. -/
theorem State.hptAccepted_frame (s : State) (i : Nat) (p : Port) (src : List Byte) (v : Nat) :
    s.keepsPixelSetup (s.hptAccepted i p src v) ∧ (s.hptAccepted i p src v).fs.ring = s.fs.ring ∧
    ((s.hptAccepted i p src v).stream i).parts = (s.stream i).parts ∧
    ((s.hptAccepted i p src v).stream i).high = (s.stream i).high ∧ ((s.hptAccepted i p src v).stream i).seen = (s.stream i).seen ∧
    ((s.hptAccepted i p src v).stream i).up = true ∧ ((s.hptAccepted i p src v).stream i).owner.isSome = true ∧
    ((s.hptAccepted i p src v).stream i).silentTicks = 0 := by
  have hset : ∀ x : Stream, x.up = true → (s.setStream i x).stream i = x := fun x h =>
    State.stream_setStream_of_ne (Stream.ne_default_of_up h)
  unfold State.hptAccepted
  simp only
  split
  · rw [hset _ rfl]
    exact ⟨s.setStream_keepsPixelSetup i _, rfl, rfl, rfl, rfl, rfl, rfl, rfl⟩
  · rw [State.raiseAt_stream, hset _ rfl]
    exact ⟨(s.setStream_keepsPixelSetup i _).trans (State.raiseWith_keepsPixelSetup _ (by decide) _ _), by simp [State.setStream],
      rfl, rfl, rfl, rfl, rfl, rfl⟩

theorem State.hptStream_lt {c : Carrier} {sid i : Nat} (h : s.hptStream c sid = some i) : i < 64 := by
  unfold State.hptStream at h
  exact List.mem_range.mp (List.mem_of_find?_eq_some h)

/-- Accept the packet: it is counted, its number seen, and its stream UP. -/
def State.hptTaken (s : State) (i : Nat) (p : Port) (src : List Byte) (h : Hpt) : State :=
  let t := s.count Reg.HPT_ACCEPTED
  (if h.version = 1 then t else t.seeSeq i h.seq).hptAccepted i p src h.version

theorem State.hptFinish_eq {i : Nat} {p : Port} {src d : List Byte} {h : Hpt} (hpar : h.parity = false) (hgroup : h.inGroup = false)
    (htail : s.hptTail i h (d.drop (hptHeaderLen h.version)) = none)
    (hwrite : s.hptWrite i h (d.drop (hptHeaderLen h.version)) = (t, none)) : s.hptFinish i p src h d = t.hptTaken i p src h := by
  unfold State.hptFinish
  simp only [htail, hpar, hwrite, hgroup, Bool.false_eq_true, if_false]
  rfl

theorem State.hptTaken_frame {i : Nat} (hi : i < 64) (p : Port) (src : List Byte) (h : Hpt) (hs : s.regsOk)
    (hmax : s.regN Reg.HPT_ACCEPTED < 2 ^ 32 - 1) :
    (s.hptTaken i p src h).regN Reg.HPT_ACCEPTED = s.regN Reg.HPT_ACCEPTED + 1 ∧ (s.hptTaken i p src h).fs.ring = s.fs.ring ∧
    ((s.hptTaken i p src h).stream i).parts = (s.stream i).parts ∧ ((s.hptTaken i p src h).stream i).up = true ∧
    ((s.hptTaken i p src h).stream i).owner.isSome = true ∧ ((s.hptTaken i p src h).stream i).silentTicks = 0 ∧
    (h.version ≠ 1 → ((s.hptTaken i p src h).stream i).high.isSome = true ∧ h.seq ∈ ((s.hptTaken i p src h).stream i).seen) := by
  have hcount : (s.count Reg.HPT_ACCEPTED).regN Reg.HPT_ACCEPTED = s.regN Reg.HPT_ACCEPTED + 1 := by
    rw [State.count, State.countN, State.regN_setRegN_same hs]
    omega
  unfold State.hptTaken
  simp only
  by_cases hv : h.version = 1
  · rw [if_pos hv]
    obtain ⟨⟨-, -, -, hreg⟩, hring, hparts, -, -, hup, howner, hsil⟩ :=
      (s.count Reg.HPT_ACCEPTED).hptAccepted_frame i p src h.version
    exact ⟨(congrArg BitVec.toNat hreg).trans hcount, hring, hparts, hup, howner, hsil, fun hne => absurd hv hne⟩
  · rw [if_neg hv]
    obtain ⟨⟨-, -, -, hreg0⟩, hring0, hparts0, hhigh0, hseen0⟩ := (s.count Reg.HPT_ACCEPTED).seeSeq_frame hi h.seq
    obtain ⟨⟨-, -, -, hreg⟩, hring, hparts, hhigh, hseen, hup, howner, hsil⟩ :=
      ((s.count Reg.HPT_ACCEPTED).seeSeq i h.seq).hptAccepted_frame i p src h.version
    refine ⟨(congrArg BitVec.toNat (hreg.trans hreg0)).trans hcount, hring.trans hring0, hparts.trans hparts0, hup, howner, hsil,
      fun _ => ⟨?_, ?_⟩⟩
    · rw [hhigh]
      exact hhigh0
    · rw [hseen]
      exact hseen0

/-- A DATA packet that passes step 16 lies in its rectangle. -/
theorem State.hptTail_fits {i : Nat} {h : Hpt} {payload : List Byte} (hp : h.parity = false) (ht : s.hptTail i h payload = none) :
    h.y * s.rectW i + h.x + h.count ≤ s.rectW i * s.rectH i := by
  unfold State.hptTail at ht
  simp only [hp, Bool.false_eq_true, if_false] at ht
  split at ht
  · exact absurd ht (by simp)
  · split at ht
    · exact absurd ht (by simp)
    · split at ht
      · exact absurd ht (by simp)
      · next hfit =>
        simp only [Bool.not_eq_true, Bool.not_eq_false', Bool.and_eq_true, decide_eq_true_eq] at hfit
        exact hfit.2

end

/-- Settles O25: the packet's pixels are placed by `hptWrite`, and its acceptance leaves them there. -/
theorem acceptedPacketWritesItsPixels : Obligations.AcceptedPacketWritesItsPixels := by
  unfold Obligations.AcceptedPacketWritesItsPixels
  intro s s1 s2 p c mac d i h payload q pixels hon hctrl hearly hstream href hown hbind htype hgroup hseq htail hlayer hx hy hwrite
    hregs hcount
  have hi := State.hptStream_lt hstream
  have hparity : h.parity = false := by simp [Hpt.parity, htype]
  have hk1 : s.keepsPixelSetup s1 := by
    have := s.hptSource_keepsPixelSetup i p (sourceOf c mac) (decide (h.version = 1))
    rwa [hown] at this
  obtain ⟨hX, -, hW, hH⟩ := hk1.sizes i
  obtain ⟨hk2, part, hpart, hpix⟩ := State.hptWrite_places ((hk1.layer i).trans hlayer) (by rw [hX, hW]; exact hx)
    (State.hptTail_fits hparity htail) hwrite
  obtain ⟨-, -, hok, hreg⟩ := hk1.trans hk2
  have hregN : s2.regN Reg.HPT_ACCEPTED = s.regN Reg.HPT_ACCEPTED := congrArg BitVec.toNat hreg
  obtain ⟨hacc, hring, hparts, hup, howner, hsil, hseen⟩ := State.hptTaken_frame hi p (sourceOf c mac) h (hok hregs) (hregN ▸ hcount)
  have hexec : exec (.hptPacket p c mac d) s = .next (s2.hptTaken i p (sourceOf c mac) h) := by
    rw [exec_hptPacket hon hctrl hearly, State.hptJudge_of_stream hstream href hown, if_neg (by simp),
      if_neg fun hx => hx.2 (hbind hx.1), ← State.hptFinish_eq hparity hgroup htail hwrite]
    by_cases hv : h.version = 1
    · rw [if_pos hv]
    · rw [if_neg hv, hseq hv]
  refine ⟨_, hexec, hacc.trans (by rw [hregN]), hup, howner, hsil, hseen, part, ?_, fun k hk => ?_⟩
  · rw [Stream.frameOf_congr hparts, hpart]
  · obtain ⟨hcX, hcY⟩ := hk1.canvas i (q + k)
    unfold State.ringAt
    rw [hring, ← hcX, ← hcY]
    have := hpix k hk
    rw [hW] at this
    exact this

end Sys2Proof.Machine
end

section
/-! ## The frame store: R187, R190 to R193 -/

namespace Sys2Proof.Machine

/-! ### Consolidation -/

/-- Every region of a list is written, whatever the store held. -/
theorem SMap.get_foldl_set {v : Nat} (hv : v ≠ 0) (l : List Nat) (m : SMap Nat) (r : Nat)
    (h : r ∈ l ∨ SMap.get (fun _ => 0) m r = v) : SMap.get (fun _ => 0) (l.foldl (fun m r => SMap.set (fun _ => 0) m r v) m) r = v := by
  induction l generalizing m with
  | nil => exact h.resolve_left (by simp)
  | cons a l ih =>
    rw [List.foldl_cons]
    refine ih _ ?_
    by_cases ha : r = a
    · exact Or.inr (by rw [ha]; exact SMap.get_set_same_ne _ m hv)
    · refine h.imp (fun hr => (List.mem_cons.mp hr).resolve_left ha) fun hget => ?_
      rw [SMap.get_set_other _ m v ha, hget]

theorem Stream.ne_default_of_target {x : Stream} (h : x.target.isSome = true) : x ≠ {} := by
  rintro rfl
  exact absurd h (by simp)

/-- A request at the DRAM changes nothing but the arbiter. -/
theorem State.issueOn_arb (s : State) (cls c : Nat) : ∃ arb, s.issueOn cls c = { s with arb := arb } := by
  unfold State.issueOn State.setChannelArb
  simp only
  split
  · split
    · exact ⟨_, rfl⟩
    · exact ⟨_, rfl⟩
  · exact ⟨s.arb, rfl⟩

theorem State.issue_arb (s : State) (cls : Nat) : ∃ arb, s.issue cls = { s with arb := arb } := by
  obtain ⟨a0, h0⟩ := s.issueOn_arb cls 0
  obtain ⟨a1, h1⟩ := (s.issueOn cls 0).issueOn_arb cls 1
  exact ⟨a1, by rw [State.issue, h1, h0]⟩

/-- A stream that is set and settled, while another class takes its turn at the DRAM. -/
theorem State.settled_frame (s : State) (i : Nat) {x : Stream} (hx : x.target.isSome = true) :
    let t := ((s.setStream i x).settle i).issue 3
    (t.stream i).src = x.src ∧ (t.stream i).copying = x.copying ∧ (∀ j, j ≠ i → t.stream j = s.stream j) ∧ t.mode = s.mode ∧
      t.regs = s.regs ∧ t.time = s.time := by
  intro t
  have hfs : t.fs = ((s.setStream i x).settle i).fs := (State.issue_frame _ 3).1
  have hstream : ∀ j, t.stream j = ((s.setStream i x).settle i).stream j := fun j => by
    unfold State.stream
    rw [hfs]
  have hsame : (s.setStream i x).stream i = x := State.stream_setStream_of_ne (Stream.ne_default_of_target hx)
  have hi : t.stream i = x.settle ((s.setStream i x).snapshot i) := by
    rw [hstream, State.settle, hsame]
    exact State.stream_setStream_of_ne (Stream.ne_default_of_target hx)
  obtain ⟨arb, harb⟩ := ((s.setStream i x).settle i).issue_arb 3
  have ht : t = { (s.setStream i x).settle i with arb := arb } := harb
  refine ⟨by rw [hi]; rfl, by rw [hi]; rfl, fun j hj => ?_, by rw [ht]; rfl, by rw [ht]; rfl, by rw [ht]; rfl⟩
  · rw [hstream, State.settle, State.stream_setStream_other _ _ hj, State.stream_setStream_other _ _ hj]

/-- Settles O28: the fold over the stream's regions writes each of them. -/
theorem consolidationMovesEveryRegion : Obligations.ConsolidationMovesEveryRegion := by
  unfold Obligations.ConsolidationMovesEveryRegion
  intro s i p hcopy hchosen
  have htarget : (s.stream i).target.isSome = true := by
    unfold Stream.newestChosen at hchosen
    cases h : (s.stream i).target with
    | none => rw [h] at hchosen; exact absurd hchosen (by simp)
    | some e => rfl
  obtain ⟨ring, hring⟩ : ∃ ring, ring = ((s.regions i).filter fun r => decide (SMap.get (fun _ => 0) (s.stream i).src r ≠ p.entry + 1)).foldl
    (s.copyRegion i p.entry) s.fs.ring := ⟨_, rfl⟩
  obtain ⟨hsrc, hcopying, hother, hmode, hregs, htime⟩ := State.settled_frame { s with fs := { s.fs with ring := ring } } i
    (x := { s.stream i with
      copying := false, src := (s.regions i).foldl (fun m r => SMap.set (fun _ => 0) m r (p.entry + 1)) (s.stream i).src }) htarget
  refine ⟨_, ?_, fun r hr => ?_, fun _ => hcopying, hother, hmode, hregs, htime⟩
  · simp only [exec, execConsolidation, hcopy, hchosen, ← hring]
    rfl
  · rw [hsrc]
    exact SMap.get_foldl_set (Nat.succ_ne_zero _) _ _ _ (Or.inl hr)

/-! ### HOLD -/

/-- What a change of the mode leaves as it is. -/
theorem State.changeMode_changes {s : State} {m : Mode} (h : s.mode ≠ m) (trigger : Nat) :
    (s.changeMode m trigger).mode = m ∧ (s.changeMode m trigger).ctrl.prevMode = s.mode ∧ (s.changeMode m trigger).fs = s.fs ∧
      s.KeepsEvents (s.changeMode m trigger) := by
  unfold State.changeMode
  rw [if_neg h]
  refine ⟨by simp [State.irq], by simp [State.irq], by simp [State.irq], ?_⟩
  refine State.KeepsEvents.after ?_ (State.emit_keepsEvents _ _ _ _ _)
  rfl

/-- An event that is raised under a condition. -/
def State.raiseIf (s : State) (b : Bool) (e : Ev) : State := if b then s.raise e else s

theorem State.raiseIf_mode (s : State) (b : Bool) (e : Ev) : (s.raiseIf b e).mode = s.mode := by
  cases b
  · rfl
  · exact s.raise_mode e

theorem State.raiseIf_fs (s : State) (b : Bool) (e : Ev) : (s.raiseIf b e).fs = s.fs := by
  cases b
  · rfl
  · exact s.raise_fs e

theorem State.raiseIf_ctrl_prevMode (s : State) (b : Bool) (e : Ev) : (s.raiseIf b e).ctrl.prevMode = s.ctrl.prevMode := by
  cases b
  · rfl
  · exact s.raise_ctrl_prevMode e

theorem State.raiseIf_keepsEvents (s : State) (b : Bool) (e : Ev) : s.KeepsEvents (s.raiseIf b e) := by
  cases b
  · exact s.keepsEvents_refl
  · exact s.raise_keepsEvents e

/-- Settling streams changes nothing but the streams. -/
theorem State.foldl_settle_frame (l : List (Nat × Stream)) (s : State) :
    ∃ streams, l.foldl (fun s p => s.settle p.1) s = { s with fs := { s.fs with streams := streams } } := by
  induction l generalizing s with
  | nil => exact ⟨s.fs.streams, rfl⟩
  | cons p l ih =>
    obtain ⟨streams, h⟩ := ih (s.settle p.1)
    exact ⟨streams, by rw [List.foldl_cons, h]; rfl⟩

theorem State.endSnapshot_eq (s : State) : ∃ streams, s.endSnapshot =
    { s with fs := { s.fs with holdSrc := [], holdTicks := 0, streams := streams } } :=
  State.foldl_settle_frame s.fs.streams _

/-- Settles O29: HOLD_ENTER and HOLD_EXIT, each in its own mode. -/
theorem holdKeepsTheFetchTable : Obligations.HoldKeepsTheFetchTable := by
  unfold Obligations.HoldKeepsTheFetchTable
  intro s
  refine ⟨fun hmode hdue => ?_, fun hmode hdue => ?_, fun h => ?_, fun h => ?_⟩
  · obtain ⟨u, hu⟩ : ∃ u, u = s.changeMode .hold Trigger.HOLD_RULE := ⟨_, rfl⟩
    obtain ⟨hm, hprev, hfs, hkeeps⟩ := State.changeMode_changes (m := .hold) (by rw [hmode]; decide) Trigger.HOLD_RULE
    rw [← hu] at hm hprev hfs hkeeps
    have hflag : Ev.HOLD_ENTER.flag := by decide
    obtain ⟨v, hv⟩ : ∃ v : State, v = { u.restartRuns with fs := { u.restartRuns.fs with
        holdTicks := 0, holdSrc := u.restartRuns.fs.streams.map fun (p : Nat × Stream) => (p.1, p.2.src) } } := ⟨_, rfl⟩
    have hshows : s.Shows (v.raise Ev.HOLD_ENTER) Ev.HOLD_ENTER := (hkeeps.trans
      (State.keepsEvents_of_regs (by rw [hv]; rfl))).shows (State.raise_shows v hflag)
    obtain ⟨b, hb⟩ : ∃ b, b = (decide (s.param P.HOLD_POLICY = 1) &&
        s.layer0Streams.all fun i => decide ((s.stream i).mark = none)) := ⟨_, rfl⟩
    refine ⟨(v.raise Ev.HOLD_ENTER).raiseIf b Ev.REPLAY_NO_MARK, ?_, ?_, ?_, ?_, ?_, ?_, fun hs => ?_⟩
    · simp only [exec, execHoldEnter, State.enterHold, ← hu, ← hv, ← hb]
      rw [if_pos ⟨hdue, hmode⟩]
      rfl
    · rw [State.raiseIf_mode, State.raise_mode, hv]
      exact hm
    · rw [State.raiseIf_fs, State.raise_fs, hv, ← hfs]
      rfl
    · rw [State.raiseIf_fs, State.raise_fs, hv, ← hfs]
      rfl
    · rw [State.raiseIf_fs, State.raise_fs, hv]
    · rw [State.raiseIf_ctrl_prevMode, State.raise_ctrl_prevMode, hv]
      exact hprev.trans hmode
    · exact (hshows.trans hflag (State.raiseIf_keepsEvents _ b Ev.REPLAY_NO_MARK)).sees hs
  · obtain ⟨u, hu⟩ : ∃ u, u = s.changeMode .live Trigger.HOLD_RULE := ⟨_, rfl⟩
    obtain ⟨hm, hprev, -, hkeeps⟩ := State.changeMode_changes (m := .live) (by rw [hmode]; decide) Trigger.HOLD_RULE
    rw [← hu] at hm hprev hkeeps
    have hflag : Ev.HOLD_EXIT.flag := by decide
    obtain ⟨streams, hend⟩ := u.restartRuns.endSnapshot_eq
    refine ⟨u.restartRuns.endSnapshot.raise Ev.HOLD_EXIT, ?_, ?_, ?_, ?_, ?_, fun hs => ?_⟩
    · simp only [exec, execHoldExit, State.exitHold, ← hu]
      rw [if_pos ⟨hdue, hmode⟩]
    · rw [State.raise_mode, hend]
      exact hm
    · rw [State.raise_fs, hend]
    · rw [State.raise_fs, hend]
    · rw [State.raise_ctrl_prevMode, hend]
      exact hprev.trans hmode
    · refine ((hkeeps.trans (State.keepsEvents_of_regs ?_)).shows (State.raise_shows _ hflag)).sees hs
      rw [hend]
      rfl
  · simp only [exec, execHoldEnter, State.enterHold]
    rw [if_neg fun hx => h hx.2]
  · simp only [exec, execHoldExit, State.exitHold]
    rw [if_neg fun hx => h hx.2]

end Sys2Proof.Machine
end

section
/-! ## The strands: rendering and the serialiser (R213 to R311) -/

namespace Sys2Proof.Machine

/-! ### One event, from operation to operation -/

/-- The step from `s` to `t` keeps the register store canonical and one event. -/
def State.KeepsEvent (s t : State) (e : Ev) : Prop := s.regsOk → t.regsOk ∧ (s.sees e = true → t.sees e = true)

section
variable {s t u : State} {e : Ev}

theorem State.KeepsEvents.one (h : s.KeepsEvents t) (he : e.flag) : s.KeepsEvent t e := fun hs =>
  ⟨(h hs).1, (h hs).2 e he⟩

theorem State.KeepsEvent.trans (h1 : s.KeepsEvent t e) (h2 : t.KeepsEvent u e) : s.KeepsEvent u e := fun hs =>
  have ⟨ht, hst⟩ := h1 hs
  ⟨(h2 ht).1, fun h => (h2 ht).2 (hst h)⟩

theorem State.keepsEvent_of_regs (h : t.regs = s.regs) : s.KeepsEvent t e := fun hs =>
  ⟨(State.keepsEvents_of_regs h hs).1, fun hse => (State.sees_of_regs h e).trans hse⟩

theorem State.setRegN_keepsEvent (s : State) {a : Nat} (h : e.reg ≠ a) (n : Nat) : s.KeepsEvent (s.setRegN a n) e := fun hs =>
  ⟨State.setRegN_regsOk hs a n, fun hse => by unfold State.sees at hse ⊢; rwa [State.reg_setRegN_other _ _ h]⟩

theorem State.Shows.keep (h1 : s.Shows t e) (h2 : t.KeepsEvent u e) : s.Shows u e := fun hs =>
  have ⟨ht, hse⟩ := h1 hs
  ⟨(h2 ht).1, (h2 ht).2 hse⟩

theorem State.KeepsEvent.shows (h1 : s.KeepsEvent t e) (h2 : t.Shows u e) : s.Shows u e := fun hs => h2 (h1 hs).1

end

/-! ### An operation on one strand -/

/-- A strand that no store takes for an unlisted one. -/
def Strand.alive (a : Strand) : Prop := a.kind ≠ .none ∨ a.rendered ≠ 0

/-- `b` is `a` later in the same frame: what it has sent only grows, and its lines and queues stand. -/
def Strand.goesOn (a b : Strand) : Prop :=
  b.sentLines = a.sentLines ∧ b.rendered = a.rendered ∧ b.buf = a.buf ∧ b.cfg = a.cfg ∧ b.cfgSent = a.cfgSent ∧
    b.underrun = a.underrun ∧ b.driving = a.driving ∧ b.kind = a.kind ∧ b.synDone = a.synDone ∧ b.banks = a.banks ∧ a.tx <+: b.tx

theorem Strand.ne_default_of_alive {a : Strand} (h : a.alive) : a ≠ {} := by
  rintro rfl
  exact h.elim (fun h => h rfl) fun h => h rfl

theorem Strand.goesOn_refl (a : Strand) : a.goesOn a := ⟨rfl, rfl, rfl, rfl, rfl, rfl, rfl, rfl, rfl, rfl, List.prefix_rfl⟩

theorem Strand.goesOn.trans {a b c : Strand} (h1 : a.goesOn b) (h2 : b.goesOn c) : a.goesOn c := by
  obtain ⟨x1, x2, x3, x4, x5, x6, x7, x8, x9, x10, x11⟩ := h1
  obtain ⟨y1, y2, y3, y4, y5, y6, y7, y8, y9, y10, y11⟩ := h2
  exact ⟨y1.trans x1, y2.trans x2, y3.trans x3, y4.trans x4, y5.trans x5, y6.trans x6, y7.trans x7, y8.trans x8, y9.trans x9,
    y10.trans x10, x11.trans y11⟩

theorem Strand.goesOn.alive {a b : Strand} (h : a.goesOn b) (ha : a.alive) : b.alive := by
  obtain ⟨-, hr, -, -, -, -, -, hk, -, -, -⟩ := h
  unfold Strand.alive
  rwa [hr, hk]

/-- The step from `s` to `t` takes the frame of strand `n` on, and touches no other strand and no parameter. -/
def State.onStrand (n : Nat) (s t : State) : Prop :=
  (∀ m, m ≠ n → t.strand m = s.strand m) ∧ ((s.strand n).alive → (s.strand n).goesOn (t.strand n)) ∧
    t.ctrl.live = s.ctrl.live ∧ t.nvm = s.nvm

section
variable {n : Nat} {s t u : State}

theorem State.onStrand.trans (h1 : s.onStrand n t) (h2 : t.onStrand n u) : s.onStrand n u := by
  obtain ⟨ho1, hg1, hl1, hn1⟩ := h1
  obtain ⟨ho2, hg2, hl2, hn2⟩ := h2
  exact ⟨fun m hm => (ho2 m hm).trans (ho1 m hm), fun ha => (hg1 ha).trans (hg2 ((hg1 ha).alive ha)), hl2.trans hl1, hn2.trans hn1⟩

theorem State.onStrand_of_frame (hs : t.strands = s.strands) (hl : t.ctrl.live = s.ctrl.live) (hn : t.nvm = s.nvm) :
    s.onStrand n t := by
  have hst : ∀ m, t.strand m = s.strand m := fun m => by unfold State.strand; rw [hs]
  exact ⟨fun m _ => hst m, fun _ => by rw [hst n]; exact Strand.goesOn_refl _, hl, hn⟩

theorem State.onStrand_refl (s : State) : s.onStrand n s := State.onStrand_of_frame rfl rfl rfl

theorem State.strand_setStrand_of_ne {x : Strand} (h : x ≠ {}) : (s.setStrand n x).strand n = x :=
  SMap.get_set_same_ne _ _ h

theorem State.setStrand_onStrand {x : Strand} (h : (s.strand n).goesOn x) : s.onStrand n (s.setStrand n x) :=
  ⟨fun _ hm => State.strand_setStrand_other s x hm, fun ha => by
    rwa [State.strand_setStrand_of_ne (Strand.ne_default_of_alive (h.alive ha))], rfl, rfl⟩

theorem State.wire_onStrand (s : State) (l : List StrandItem) : s.onStrand n (s.wire n l) := by
  unfold State.wire
  simp only
  split
  · exact State.setStrand_onStrand ⟨rfl, rfl, rfl, rfl, rfl, rfl, rfl, rfl, rfl, rfl, List.prefix_append _ _⟩
  · exact s.onStrand_refl

theorem State.toBit_onStrand (s : State) (m b : Nat) : s.onStrand n (s.toBit m b) := by
  unfold State.toBit
  exact State.onStrand_of_frame (by simp) (by simp) (by simp)

theorem State.toBit_strand (s : State) (m b k : Nat) : (s.toBit m b).strand k = s.strand k := State.advanceTo_strand _ _ _

theorem State.raiseWith_onStrand (s : State) (e : Ev) (i d : Nat) : s.onStrand n (s.raiseWith e i d) :=
  State.onStrand_of_frame (by simp) (by simp) (by simp)

theorem State.setRegN_onStrand (s : State) (a v : Nat) : s.onStrand n (s.setRegN a v) := State.onStrand_of_frame rfl rfl rfl

theorem State.sendSof_onStrand (s : State) : s.onStrand n (s.sendSof n) := by
  unfold State.sendSof
  exact (State.setStrand_onStrand (by exact Strand.goesOn_refl _)).trans (State.wire_onStrand _ _)

theorem State.sendSofs_onStrand (k : Nat) (s : State) : s.onStrand n (State.sendSofs n k s) := by
  induction k generalizing s with
  | zero => exact s.onStrand_refl
  | succ k ih => exact s.sendSof_onStrand.trans (ih _)

theorem State.openTrains_onStrand (s : State) (k : Nat) : s.onStrand n (s.openTrains n k) := State.sendSofs_onStrand _ s

theorem State.emptyTrains_onStrand (s : State) : s.onStrand n (s.emptyTrains n) := by
  unfold State.emptyTrains
  split
  · exact s.openTrains_onStrand _
  · exact s.onStrand_refl

theorem State.slotsEnd_onStrand (s : State) : s.onStrand n (s.slotsEnd n) := by
  unfold State.slotsEnd
  split
  · exact (s.toBit_onStrand n _).trans (State.raiseWith_onStrand _ _ _ _)
  · exact s.onStrand_refl

theorem State.bellows_onStrand (s : State) : s.onStrand n (s.bellows n) := by
  unfold State.bellows
  exact State.setStrand_onStrand (by exact Strand.goesOn_refl _)

theorem State.lbMin_onStrand (s : State) : s.onStrand n (s.lbMin n) := by
  unfold State.lbMin
  simp only
  split
  · exact s.setRegN_onStrand _ _
  · exact s.onStrand_refl

theorem State.lineMatched_onStrand (s : State) (i e : Nat) : s.onStrand n (s.lineMatched n i e) := by
  unfold State.lineMatched
  split
  · exact (s.toBit_onStrand n _).trans (State.raiseWith_onStrand _ _ _ _)
  · exact s.onStrand_refl

theorem State.finishFrame_onStrand (s : State) : s.onStrand n (s.finishFrame n) := by
  unfold State.finishFrame
  simp only
  split
  · exact s.onStrand_refl
  · refine s.emptyTrains_onStrand.trans (State.onStrand.trans ?_ (State.slotsEnd_onStrand _))
    refine (State.toBit_onStrand _ n _).trans (State.onStrand.trans (State.setStrand_onStrand ?_) ((State.wire_onStrand _ _).trans
      ((State.setRegN_onStrand _ _ _).trans (State.raiseWith_onStrand _ _ _ _))))
    rw [State.toBit_strand]
    exact Strand.goesOn_refl _

/-! ### What else these operations leave -/

theorem State.wire_tx {l : List StrandItem} (h : (s.strand n).driving = true) (ha : (s.strand n).alive) :
    ((s.wire n l).strand n).tx = (s.strand n).tx ++ l := by
  unfold State.wire
  simp only [h, if_true]
  rw [State.strand_setStrand_of_ne (Strand.ne_default_of_alive (a := (s.strand n).send l) ha)]
  rfl

theorem State.onStrand.lineItem (h : s.onStrand n t) (type bank : Nat) (words : List Half) :
    t.lineItem n type bank words = s.lineItem n type bank words := by
  obtain ⟨-, -, hlive, hnvm⟩ := h
  unfold State.lineItem State.hBp State.hFp State.strandCfg State.paramBytes
  rw [hlive, hnvm]

theorem Strand.goesOn.mem_tx {a b : Strand} (h : a.goesOn b) {x : StrandItem} (hx : x ∈ a.tx) : x ∈ b.tx := by
  obtain ⟨-, -, -, -, -, -, -, -, -, -, htx⟩ := h
  exact htx.subset hx

end

end Sys2Proof.Machine
end

section
/-! ## Lanes and lines: R213, R216, R238, R266 to R305 -/

namespace Sys2Proof.Machine

/-! ### R216: the most urgent strand -/

/-- One step of the choice: the later strand has to be more urgent. -/
def State.moreUrgent (s : State) (b : Option Nat) (n : Nat) : Option Nat :=
  if s.eligible n then
    match b with
    | none => some n
    | some m => if s.deadline n < s.deadline m then some n else b
  else b

/-- The choice is no later than any eligible strand seen. -/
theorem State.foldl_moreUrgent {s : State} {n : Nat} (l : List Nat) (b : Option Nat) (h : l.foldl s.moreUrgent b = some n) :
    (∀ m, b = some m → s.deadline n ≤ s.deadline m) ∧ ∀ m ∈ l, s.eligible m = true → s.deadline n ≤ s.deadline m := by
  induction l generalizing b with
  | nil => exact ⟨fun m hm => Int.le_of_eq (congrArg s.deadline (Option.some.inj (h.symm.trans hm))), by simp⟩
  | cons a l ih =>
    obtain ⟨hb, hl⟩ := ih (s.moreUrgent b a) h
    unfold State.moreUrgent at hb
    by_cases ha : s.eligible a = true
    · simp only [ha, if_true] at hb
      cases b with
      | none => exact ⟨by simp, List.forall_mem_cons.mpr ⟨fun _ => hb a rfl, hl⟩⟩
      | some m =>
        by_cases hlt : s.deadline a < s.deadline m
        · simp only [hlt, if_true] at hb
          have := hb a rfl
          exact ⟨fun x hx => Option.some.inj hx ▸ Int.le_trans this (Int.le_of_lt hlt), List.forall_mem_cons.mpr ⟨fun _ => this, hl⟩⟩
        · simp only [hlt, if_false] at hb
          have := hb m rfl
          exact ⟨fun x hx => Option.some.inj hx ▸ this, List.forall_mem_cons.mpr ⟨fun _ => Int.le_trans this (Int.not_lt.mp hlt), hl⟩⟩
    · rw [if_neg ha] at hb
      exact ⟨hb, List.forall_mem_cons.mpr ⟨fun h => absurd h ha, hl⟩⟩

theorem State.mostUrgent_le {s : State} {n m : Nat} (h : s.mostUrgent = some n) (hm : m < 128) (he : s.eligible m = true) :
    s.deadline n ≤ s.deadline m :=
  (State.foldl_moreUrgent allStrands none h).2 m (List.mem_range.mpr hm) he

/-! ### R213, R238: a line is rendered -/

section
variable {s : State} {n : Nat}

/-- What a rendered line leaves as it is but the strand's buffer. -/
def State.rendersOn (n : Nat) (s t : State) : Prop := s.onStrand n t ∧ t.mode = s.mode ∧ t.time = s.time

theorem State.rendersOn.trans {t u : State} (h1 : s.rendersOn n t) (h2 : t.rendersOn n u) : s.rendersOn n u :=
  ⟨h1.1.trans h2.1, h2.2.1.trans h1.2.1, h2.2.2.trans h1.2.2⟩

theorem State.rendersOn_refl (s : State) : s.rendersOn n s := ⟨s.onStrand_refl, rfl, rfl⟩

theorem State.setRegN_rendersOn (s : State) (a v : Nat) : s.rendersOn n (s.setRegN a v) := ⟨s.setRegN_onStrand a v, rfl, rfl⟩

theorem State.issue_rendersOn (s : State) (cls : Nat) : s.rendersOn n (s.issue cls) := by
  obtain ⟨arb, h⟩ := s.issue_arb cls
  rw [h]
  exact ⟨State.onStrand_of_frame rfl rfl rfl, rfl, rfl⟩

theorem State.lineRequests_rendersOn (s : State) (line slot : Nat) : s.rendersOn n (s.lineRequests n line slot) := by
  unfold State.lineRequests
  split
  · exact s.rendersOn_refl
  · have hpixel : s.rendersOn n (if s.pixelReads slot = true then s.issue (if (s.strand n).bellows then 0 else 1) else s) := by
      split
      · exact s.issue_rendersOn _
      · exact s.rendersOn_refl
    simp only
    generalize (if s.pixelReads slot = true then s.issue (if (s.strand n).bellows then 0 else 1) else s) = u at hpixel ⊢
    split
    · exact hpixel.trans ⟨State.onStrand_of_frame rfl rfl rfl, rfl, rfl⟩
    · exact hpixel.trans (State.issue_rendersOn _ _)

theorem State.bellows_rendersOn (s : State) : s.rendersOn n (s.bellows n) := ⟨s.bellows_onStrand, rfl, rfl⟩

theorem State.maxReg_rendersOn (s : State) (a v : Nat) : s.rendersOn n (s.maxReg a v) := by
  unfold State.maxReg
  split
  · exact s.setRegN_rendersOn a v
  · exact s.rendersOn_refl

theorem State.endRender_rendersOn (s : State) : s.rendersOn n s.endRender := by
  unfold State.endRender
  split
  · refine State.rendersOn.trans (t := State.setRegN _ _ _) ?_ (State.maxReg_rendersOn _ _ _)
    exact ⟨State.onStrand_of_frame rfl rfl rfl, rfl, rfl⟩
  · exact s.rendersOn_refl

end

/-- Settles O30: the line of the most urgent strand, and the counters of its channels. -/
theorem laneRendersTheMostUrgentLine : Obligations.LaneRendersTheMostUrgentLine := by
  unfold Obligations.LaneRendersTheMostUrgentLine
  intro s lane n hrender hurgent t0 slot
  obtain ⟨u, hu⟩ : ∃ u, u = s.setStrand n { t0 with
    buf := t0.buf ++ [(slot, (s.renderLine n (t0.rendered % s.vActive n) slot).1)], rendered := t0.rendered + 1 } := ⟨_, rfl⟩
  have hstrand : u.strand n = { t0 with
      buf := t0.buf ++ [(slot, (s.renderLine n (t0.rendered % s.vActive n) slot).1)], rendered := t0.rendered + 1 } := by
    rw [hu]
    exact State.strand_setStrand_of_ne (Strand.ne_default_of_alive (Or.inr (Nat.succ_ne_zero _)))
  have halive : (u.strand n).alive := Or.inr (by rw [hstrand]; exact Nat.succ_ne_zero _)
  obtain ⟨ch, hch⟩ : ∃ ch, ch = (s.renderLine n (t0.rendered % s.vActive n) slot).2 := ⟨_, rfl⟩
  obtain ⟨t, ht⟩ : ∃ t, t = ((((((u.lineRequests n (t0.rendered % s.vActive n) slot).countN Reg.CLIP_HIGH
    (countFlag (·.clipHigh) ch)).countN Reg.CLIP_NEG (countFlag (·.clipNeg) ch)).countN Reg.MASKED_CH
    (countFlag (·.masked) ch)).countN Reg.LOW_RANGE_CH (countFlag (·.low) ch)).bellows n).endRender := ⟨_, rfl⟩
  have hon : u.rendersOn n t := by
    rw [ht]
    exact ((((((u.lineRequests_rendersOn _ _).trans (State.setRegN_rendersOn _ _ _)).trans (State.setRegN_rendersOn _ _ _)).trans
      (State.setRegN_rendersOn _ _ _)).trans (State.setRegN_rendersOn _ _ _)).trans (State.bellows_rendersOn _)).trans
      (State.endRender_rendersOn _)
  obtain ⟨⟨hother, hgoes, -, -⟩, hmode, htime⟩ := hon
  obtain ⟨-, hrendered, hbuf, -⟩ := hgoes halive
  refine ⟨t, _, ?_, hbuf.trans (by rw [hstrand]), hrendered.trans (by rw [hstrand]), ?_, ?_, fun m hm => ?_, hmode.trans (by rw [hu]; rfl),
    htime.trans (by rw [hu]; rfl), fun m hm he => State.mostUrgent_le hurgent hm he⟩
  · simp only [exec, execLineRender, hrender, Bool.true_eq_false, if_false, hurgent, ht, hu, hch]
    rfl
  · simp [State.renderLine]
  · simp [State.renderLine]
  · rw [hother m hm, hu, State.strand_setStrand_other _ _ hm]

end Sys2Proof.Machine
end

section
/-! ## The serialiser: R266 to R305 -/

namespace Sys2Proof.Machine

section
variable {s : State} {n : Nat}

/-! ### What is sent at a bit of the frame -/

/-- The strand is written at bit `b`, and items leave if the device drives it. -/
def State.sendAt (s : State) (n b : Nat) (x : Strand) (l : List StrandItem) : State := ((s.toBit n b).setStrand n x).wire n l

theorem State.strand_sendAt_other {m : Nat} (hm : m ≠ n) (s : State) (b : Nat) (x : Strand) (l : List StrandItem) :
    (s.sendAt n b x l).strand m = s.strand m := by
  obtain ⟨hother, -⟩ := State.wire_onStrand (n := n) ((s.toBit n b).setStrand n x) l
  exact (hother m hm).trans ((State.strand_setStrand_other _ _ hm).trans (s.toBit_strand n b m))

/-- From the send on, the frame goes on as it was written. -/
theorem State.sendAt_goesOn {u t : State} {b : Nat} {x : Strand} {l : List StrandItem} (hu : s.onStrand n u) (hx : x.alive)
    (ht : (u.sendAt n b x l).onStrand n t) :
    x.goesOn (t.strand n) ∧ (x.driving = true → ∀ y ∈ l, y ∈ (t.strand n).tx) ∧ ∀ m, m ≠ n → t.strand m = s.strand m := by
  have hstrand : ((u.toBit n b).setStrand n x).strand n = x := State.strand_setStrand_of_ne (Strand.ne_default_of_alive hx)
  have hwire : x.goesOn ((u.sendAt n b x l).strand n) := by
    have := (State.wire_onStrand (n := n) ((u.toBit n b).setStrand n x) l).2.1 (by rwa [hstrand])
    rwa [hstrand] at this
  have hgo := ht.2.1 (hwire.alive hx)
  refine ⟨hwire.trans hgo, fun hdrive y hy => hgo.mem_tx ?_, fun m hm => ?_⟩
  · unfold State.sendAt
    rw [State.wire_tx (by rw [hstrand]; exact hdrive) (by rw [hstrand]; exact hx)]
    exact List.mem_append_right _ hy
  · rw [ht.1 m hm, State.strand_sendAt_other hm, hu.1 m hm]

theorem State.lineItem_congr {u v : State} (hlive : v.ctrl.live = u.ctrl.live) (hnvm : v.nvm = u.nvm) (m type bank : Nat)
    (words : List Half) : v.lineItem m type bank words = u.lineItem m type bank words := by
  unfold State.lineItem State.hBp State.hFp State.strandCfg State.paramBytes
  rw [hlive, hnvm]

/-- R266: the form of a line depends on the parameters alone. -/
theorem State.lineItem_written {u : State} (hu : s.onStrand n u) (b : Nat) (x : Strand) (type bank : Nat) (words : List Half) :
    ((u.toBit n b).setStrand n x).lineItem n type bank words = s.lineItem n type bank words :=
  (State.lineItem_congr (by rw [State.setStrand_ctrl]) (by rw [State.setStrand_nvm]) n type bank words).trans
    ((hu.trans (u.toBit_onStrand n b)).lineItem type bank words)

/-! ### DATA lines -/

/-- R266: the next DATA line is sent with its CRC, and the frame goes on. -/
theorem State.sendData_sends (hk : (s.strand n).kind ≠ .none) (words : List Half) : ∃ bank,
    ((s.sendData n words).strand n).sentLines = (s.strand n).sentLines + 1 ∧
    ((s.sendData n words).strand n).buf = (s.strand n).buf.drop 1 ∧
    ((s.strand n).driving = true → s.lineItem n 0xA bank words ∈ ((s.sendData n words).strand n).tx) ∧
    ∀ m, m ≠ n → (s.sendData n words).strand m = s.strand m := by
  obtain ⟨u, hu⟩ : ∃ u, u = s.openTrains n ((s.strand n).sentLines / s.vActive n + 1) := ⟨_, rfl⟩
  have hopen : s.onStrand n u := by rw [hu]; exact s.openTrains_onStrand _
  obtain ⟨hsent, -, hbuf, -, -, -, hdrive, hkind, -⟩ := hopen.2.1 (Or.inl hk)
  obtain ⟨place, hplace⟩ : ∃ place, place = u.linePlace n (u.hActive n) (u.strand n).pos := ⟨_, rfl⟩
  obtain ⟨x, hx⟩ : ∃ x, x = { u.strand n with
    pos := place.2, sentLines := (s.strand n).sentLines + 1, buf := (u.strand n).buf.drop 1 } := ⟨_, rfl⟩
  obtain ⟨v, hv⟩ : ∃ v, v = (u.toBit n place.1).setStrand n x := ⟨_, rfl⟩
  obtain ⟨bank, hbank⟩ : ∃ bank, bank = (((v.strand n).banks[(s.strand n).sentLines / v.vActive n]?).getD 0) := ⟨_, rfl⟩
  have hline : v.lineItem n 0xA bank words = s.lineItem n 0xA bank words := by
    rw [hv]
    exact State.lineItem_written hopen _ _ _ _ _
  have heq : s.sendData n words = ((((u.sendAt n place.1 x [s.lineItem n 0xA bank words]).lbMin n).lineMatched n
      (s.strand n).sentLines place.2).bellows n).finishFrame n := by
    rw [← hline, hbank, hv, hx, hplace, hu]
    rfl
  obtain ⟨⟨hsent', -, hbuf', -⟩, htx, hother⟩ := State.sendAt_goesOn (b := place.1) (l := [s.lineItem n 0xA bank words])
    (t := s.sendData n words) hopen (x := x) (Or.inl (by rw [hx]; exact hkind ▸ hk)) (by
      rw [heq]
      exact (((State.lbMin_onStrand _).trans (State.lineMatched_onStrand _ _ _)).trans (State.bellows_onStrand _)).trans
        (State.finishFrame_onStrand _))
  rw [hx] at hsent' hbuf' htx
  exact ⟨bank, hsent', hbuf'.trans (by rw [← hbuf]), fun hd => htx (hdrive.trans hd) _ (List.mem_singleton_self _), hother⟩

/-! ### CONFIG and RAW lines -/

/-- R270: the next CONFIG or RAW line is sent at a bit of its own, and counted. -/
theorem State.sendCfg_eq (s : State) (n : Nat) (l : CfgLine) (rest : List CfgLine) : ∃ b x,
    (∃ pos ret, x = { (s.emptyTrains n).strand n with
      pos := pos, cfg := rest, cfgSent := ((s.emptyTrains n).strand n).cfgSent + 1, ret := ret }) ∧
    s.sendCfg n l rest = ((s.emptyTrains n).sendAt n b x [(((s.emptyTrains n).toBit n b).setStrand n x).lineItem n
      (if l.raw then 0xC else 0x5) 0 (lineHeader (if l.raw then 0xC else 0x5) (l.words.length + 1) 0 ::
        BitVec.ofNat 16 l.driver :: l.words)]).count (Reg.CFG_SENT n) :=
  ⟨_, _, ⟨_, _, rfl⟩, rfl⟩

theorem State.sendCfg_sends {l : CfgLine} {rest : List CfgLine} (hk : (s.strand n).kind ≠ .none) :
    let t := (s.sendCfg n l rest).finishFrame n
    (t.strand n).cfg = rest ∧ (t.strand n).cfgSent = (s.strand n).cfgSent + 1 ∧
      ((s.strand n).driving = true → s.lineItem n (if l.raw then 0xC else 0x5) 0
        (lineHeader (if l.raw then 0xC else 0x5) (l.words.length + 1) 0 :: BitVec.ofNat 16 l.driver :: l.words) ∈ (t.strand n).tx) := by
  intro t
  obtain ⟨u, hu⟩ : ∃ u, u = s.emptyTrains n := ⟨_, rfl⟩
  have hopen : s.onStrand n u := by rw [hu]; exact s.emptyTrains_onStrand
  obtain ⟨-, -, -, -, hcfg, -, hdrive, hkind, -⟩ := hopen.2.1 (Or.inl hk)
  obtain ⟨b, x, ⟨pos, ret, hx⟩, heq⟩ := s.sendCfg_eq n l rest
  rw [← hu] at hx heq
  obtain ⟨⟨-, -, -, hcfg', hsent', -⟩, htx, -⟩ := State.sendAt_goesOn hopen (x := x) (Or.inl (by rw [hx]; exact hkind ▸ hk))
    (t := t) (by
      rw [show t = (s.sendCfg n l rest).finishFrame n from rfl, heq]
      exact (State.setRegN_onStrand _ _ _).trans (State.finishFrame_onStrand _))
  rw [State.lineItem_written hopen] at htx
  rw [hx] at hcfg' hsent' htx
  exact ⟨hcfg', hsent'.trans (by rw [← hcfg]), fun hd => htx (hdrive.trans hd) _ (List.mem_singleton_self _)⟩

/-! ### An underrun and SYN -/

theorem State.breakLine_breaks (hk : (s.strand n).kind ≠ .none) {t : State} (ht : (s.breakLine n).onStrand n t) :
    (t.strand n).underrun = true ∧ (t.strand n).sentLines = (s.strand n).sentLines ∧
      ((s.strand n).driving = true → StrandItem.brk ∈ (t.strand n).tx) := by
  obtain ⟨u, hu⟩ : ∃ u, u = s.openTrains n ((s.strand n).sentLines / s.vActive n + 1) := ⟨_, rfl⟩
  have hopen : s.onStrand n u := by rw [hu]; exact s.openTrains_onStrand _
  obtain ⟨hsent, -, -, -, -, -, hdrive, hkind, -⟩ := hopen.2.1 (Or.inl hk)
  obtain ⟨b, hb⟩ : ∃ b, b = placeSymbol 10 (u.fixedBits n) (u.strand n).pos := ⟨_, rfl⟩
  obtain ⟨x, hx⟩ : ∃ x, x = { u.strand n with underrun := true, pos := b + 10 } := ⟨_, rfl⟩
  have heq : s.breakLine n = u.sendAt n b x [.brk] := by
    rw [hx, hb, hu]
    rfl
  obtain ⟨⟨hsent', -, -, -, -, hunder, -⟩, htx, -⟩ := State.sendAt_goesOn (b := b) (l := [.brk]) (t := t) hopen (x := x)
    (Or.inl (by rw [hx]; exact hkind ▸ hk)) (by rw [← heq]; exact ht)
  rw [hx] at hsent' hunder htx
  exact ⟨hunder, hsent'.trans hsent, fun hd => htx (hdrive.trans hd) _ (List.mem_singleton_self _)⟩

/-! ### The event of an underrun -/

theorem Ev.UNDERRUN_flag (n : Fin 128) : (Ev.UNDERRUN n).flag := by
  refine ⟨?_, ?_, show 3 < 32 by decide⟩
  · unfold Ev.UNDERRUN Reg.STR_EVENTS Reg.JNL_OVERWRITTEN
    simp only
    omega
  · unfold Ev.UNDERRUN Reg.STR_EVENTS Reg.JNL_STREAM_SKIPPED
    simp only
    omega

theorem State.wire_regs (s : State) (n : Nat) (l : List StrandItem) : (s.wire n l).regs = s.regs := by
  unfold State.wire
  simp only
  split <;> rfl

theorem State.sendAt_keepsEvents (s : State) (n b : Nat) (x : Strand) (l : List StrandItem) : s.KeepsEvents (s.sendAt n b x l) := by
  refine State.KeepsEvents.trans (State.advanceTo_keepsEvents s (s.bitUnits n b)) (State.keepsEvents_of_regs ?_)
  unfold State.sendAt
  rw [State.wire_regs, State.setStrand_regs]
  rfl

theorem State.sendSofs_regs (n k : Nat) (s : State) : (State.sendSofs n k s).regs = s.regs := by
  induction k generalizing s with
  | zero => rfl
  | succ k ih => exact (ih _).trans (State.wire_regs _ _ _)

theorem State.emptyTrains_regs (s : State) (n : Nat) : (s.emptyTrains n).regs = s.regs := by
  unfold State.emptyTrains
  split
  · exact State.sendSofs_regs _ _ _
  · rfl

theorem State.breakLine_regsOk {s : State} (hs : s.regsOk) (n : Nat) : (s.breakLine n).regsOk := by
  obtain ⟨u, hu⟩ : ∃ u, u = s.openTrains n ((s.strand n).sentLines / s.vActive n + 1) := ⟨_, rfl⟩
  have hregs : u.regs = s.regs := by rw [hu]; exact State.sendSofs_regs _ _ _
  have heq : s.breakLine n = u.sendAt n (placeSymbol 10 (u.fixedBits n) (u.strand n).pos) { u.strand n with
      underrun := true, pos := placeSymbol 10 (u.fixedBits n) (u.strand n).pos + 10 } [.brk] := by
    rw [hu]
    rfl
  rw [heq]
  exact (State.sendAt_keepsEvents _ _ _ _ _ (State.keepsEvents_of_regs hregs hs).1).1

theorem State.bellows_keepsEvents (s : State) (n : Nat) : s.KeepsEvents (s.bellows n) := State.keepsEvents_of_regs rfl

theorem State.slotsEnd_keepsEvents (s : State) (n : Nat) : s.KeepsEvents (s.slotsEnd n) := by
  unfold State.slotsEnd
  split
  · exact (State.advanceTo_keepsEvents s _).trans (State.raiseAt_keepsEvents _ _ _)
  · exact s.keepsEvents_refl

/-- The bit at which EOF follows. -/
def State.eofBit (s : State) (n : Nat) : Nat := placeSymbol 10 (s.fixedBits n) (s.strand n).pos

/-- R269: EOF follows once nothing is left to send. -/
theorem State.finishFrame_eq {s : State} {n : Nat}
    (h : ¬((s.strand n).kind = .none ∨ (s.strand n).eof = true ∨ (s.strand n).sending = true)) :
    s.finishFrame n = (((((s.emptyTrains n).sendAt n ((s.emptyTrains n).eofBit n) { (s.emptyTrains n).strand n with
      eof := true, eofAt := (s.emptyTrains n).eofBit n, pos := (s.emptyTrains n).eofBit n + 10 } [.eof]).countN (Reg.CFG_DEFERRED n)
      ((s.emptyTrains n).strand n).cfg.length).raiseAt (Ev.START_OF_BLANK n) n).slotsEnd n) := by
  unfold State.finishFrame
  rw [if_neg h]
  rfl

theorem State.finishFrame_keepsUnderrun (s : State) (n : Fin 128) : s.KeepsEvent (s.finishFrame n) (Ev.UNDERRUN n) := by
  have hflag := Ev.UNDERRUN_flag n
  have hdeferred : (Ev.UNDERRUN n).reg ≠ Reg.CFG_DEFERRED n := by
    unfold Ev.UNDERRUN Reg.STR_EVENTS Reg.CFG_DEFERRED
    simp only
    omega
  by_cases h : (s.strand n).kind = .none ∨ (s.strand n).eof = true ∨ (s.strand n).sending = true
  · unfold State.finishFrame
    rw [if_pos h]
    exact s.keepsEvents_refl.one hflag
  · rw [State.finishFrame_eq h]
    exact ((State.keepsEvent_of_regs (s.emptyTrains_regs n)).trans ((State.sendAt_keepsEvents _ _ _ _ _).one hflag)).trans
      ((State.setRegN_keepsEvent _ hdeferred _).trans (((State.raiseAt_keepsEvents _ _ _).one hflag).trans
        ((State.slotsEnd_keepsEvents _ _).one hflag)))

theorem State.endRender_keepsUnderrun (s : State) (n : Fin 128) : s.KeepsEvent s.endRender (Ev.UNDERRUN n) := by
  have hend : (Ev.UNDERRUN n).reg ≠ Reg.ANVIL_END := by
    unfold Ev.UNDERRUN Reg.STR_EVENTS Reg.ANVIL_END
    simp only
    omega
  have hmax : (Ev.UNDERRUN n).reg ≠ Reg.ANVIL_END_MAX := by
    unfold Ev.UNDERRUN Reg.STR_EVENTS Reg.ANVIL_END_MAX
    simp only
    omega
  have hmaxReg : ∀ (u : State) (v : Nat), u.KeepsEvent (u.maxReg Reg.ANVIL_END_MAX v) (Ev.UNDERRUN n) := fun u v => by
    unfold State.maxReg
    split
    · exact u.setRegN_keepsEvent hmax v
    · exact State.keepsEvent_of_regs rfl
  unfold State.endRender
  split
  · refine State.KeepsEvent.trans (t := State.setRegN _ Reg.ANVIL_END _) ?_ (hmaxReg _ _)
    refine State.KeepsEvent.trans (t := { s with anvil := { s.anvil with rendering := false } }) ?_ (State.setRegN_keepsEvent _ hend _)
    exact State.keepsEvent_of_regs rfl
  · exact State.keepsEvent_of_regs rfl

end

/-- Settles O32: each case of the serialiser, by what it sends at its bit of the frame. -/
theorem serialiserSendsLinesInOrder : Obligations.SerialiserSendsLinesInOrder := by
  unfold Obligations.SerialiserSendsLinesInOrder
  intro s n hnsp t0
  refine ⟨fun words hk heof henum hlt hun hnext => ?_, fun l rest hk heof henum hdone hcfg hlt => ?_, fun hk heof hun hlt hnext => ?_,
    fun b hk hdown hdead hsyn => ?_⟩
  · obtain ⟨bank, hsent, hbuf, htx, hother⟩ := State.sendData_sends hk words
    refine ⟨s.sendData n words, bank, ?_, hsent, hbuf, htx, hother⟩
    simp only [exec, execDataLineSend]
    rw [if_neg (by simp [hnsp]; exact ⟨hk, heof, henum⟩), if_pos ⟨hlt, hun⟩]
    simp only [hnext]
  · refine ⟨_, ?_, State.sendCfg_sends hk⟩
    simp only [exec, execDataLineSend]
    rw [if_neg (by simp [hnsp]; exact ⟨hk, heof, henum⟩), if_neg]
    · rw [show (s.strand n).cfg = l :: rest from hcfg]
      exact if_pos hlt
    · rintro ⟨h1, h2⟩
      exact hdone.elim (fun h => absurd h1 (Nat.not_lt.mpr h)) fun h => absurd (h.symm.trans h2) (by decide)
  · obtain ⟨u, hu⟩ : ∃ u, u = ((s.breakLine n).countN Reg.LINES_SKIPPED (s.renderLines n - t0.rendered)).count (Reg.UNDERRUNS n) :=
      ⟨_, rfl⟩
    obtain ⟨t, ht⟩ : ∃ t, t = ((((u.raiseWith (Ev.UNDERRUN n) n (t0.sentLines * 2 ^ 45)).bellows n).finishFrame n).endRender) :=
      ⟨_, rfl⟩
    have hon : (s.breakLine n).onStrand n t := by
      rw [ht, hu]
      exact (((((State.setRegN_onStrand _ _ _).trans (State.setRegN_onStrand _ _ _)).trans (State.raiseWith_onStrand _ _ _ _)).trans
        (State.bellows_onStrand _)).trans (State.finishFrame_onStrand _)).trans (State.endRender_rendersOn _).1
    obtain ⟨hunder, hsent, htx⟩ := State.breakLine_breaks (by rw [show (s.strand n).kind = .render from hk]; decide) hon
    refine ⟨t, ?_, hunder, hsent, htx, fun hs => ?_⟩
    · simp only [exec, execUnderrun]
      rw [if_neg (by simp [hnsp, hnext]; exact ⟨hk, heof, hun, hlt⟩), ht, hu]
    · have hflag := Ev.UNDERRUN_flag n
      have hu' : u.regsOk := by
        rw [hu]
        exact State.setRegN_regsOk (State.setRegN_regsOk (State.breakLine_regsOk hs n) _ _) _ _
      rw [ht]
      exact (((u.raiseWith_shows hflag n _).keep ((State.bellows_keepsEvents _ n).one hflag)).keep
        ((State.finishFrame_keepsUnderrun _ n).trans (State.endRender_keepsUnderrun _ n))).sees hu'
  · obtain ⟨x, hx⟩ : ∃ x, x = { t0 with synDone := t0.synDone + 1 } := ⟨_, rfl⟩
    have halive : x.alive := Or.inl (by
      rw [hx]
      intro h
      rcases hk with hk | hk <;> exact absurd (hk.symm.trans h) (by decide))
    have hstrand : ((s.toBit n b).setStrand n x).strand n = x := State.strand_setStrand_of_ne (Strand.ne_default_of_alive halive)
    obtain ⟨-, hgo, -⟩ := State.wire_onStrand (n := n) ((s.toBit n b).setStrand n x) [.syn]
    obtain ⟨-, -, -, -, -, -, -, -, hdone, -⟩ := hgo (by rwa [hstrand])
    refine ⟨s.sendAt n b x [.syn], ?_, hdone.trans (by rw [hstrand, hx]), fun hd => ?_⟩
    · simp only [exec, execSyn]
      rw [if_neg]
      · rw [hx]
        rw [show (s.synBits n)[(s.strand n).synDone]? = some b from hsyn]
        rfl
      · rintro (h | ⟨h1, h2⟩ | h | h)
        · exact absurd (hnsp.symm.trans h) (by decide)
        · exact hk.elim h1 h2
        · exact absurd (hdown.symm.trans h) (by decide)
        · exact absurd (hdead.symm.trans h) (by decide)
    · unfold State.sendAt
      rw [State.wire_tx (by rw [hstrand, hx]; exact hd) (by rwa [hstrand]), hstrand, hx]

end Sys2Proof.Machine
end

section
/-! ## Enumerations: R281, R282 -/

namespace Sys2Proof.Machine

/-! ### A store that lists a strand twice

A statement over all states covers stores that are not in canonical form. Where strand 0 is listed twice, the write of an
unlisted strand's value takes out the first of the two entries only, and the second is read from then on. -/

/-- A strand whose enumeration has ended without a driver, and that differs in nothing else from an unlisted one. -/
def emptyEnumeration : Strand := { enumerating := true, scan := { ended := true } }

/-- The reset machine with that strand listed twice. -/
def twiceListed : State := { State.reset with strands := [(0, emptyEnumeration), (0, emptyEnumeration)] }

theorem twiceListed_enumStrand : ((twiceListed.enumStrand 0).strand 0).enumerating = true := by decide

/-- Refutes O34: where the store lists a strand twice, the end of its empty enumeration uncovers the entry behind, which still
enumerates. -/
theorem not_enumerationFillsTheStrand : ¬ Obligations.EnumerationFillsTheStrand := by
  unfold Obligations.EnumerationFillsTheStrand
  intro h
  obtain ⟨-, -, hend, -⟩ := h twiceListed 0 ⟨0, [], 0, 0⟩ false [0]
  obtain ⟨t, hexec, hdone, -⟩ := hend (List.mem_singleton_self _) rfl rfl
  have hnamed : (allStrands.filter fun n => [(0 : Fin 128)].any fun m => decide (m.val = n)) = [0] := by decide
  simp only [exec, execEnumerationComplete, hnamed, List.foldl_cons, List.foldl_nil] at hexec
  have ht := (Host.Outcome.next.inj hexec).symm
  rw [ht, State.completeWaiting_strand] at hdone
  exact absurd (twiceListed_enumStrand.symm.trans hdone) (by decide)

end Sys2Proof.Machine
end

section
/-! ## Drivers and their returns: R270 to R278 -/

namespace Sys2Proof.Machine

/-! ### Strands with a driver -/

theorem Strand.ne_default_of_driver {a : Strand} {h : Nat} {d : Driver} (hd : a.driver? h = some d) : a ≠ {} := by
  rintro rfl
  exact absurd hd (by simp [Strand.driver?])

theorem Strand.driver?_setDriver {a : Strand} {h : Nat} {d : Driver} (hd : a.driver? h = some d) (v : Driver) :
    (a.setDriver h v).driver? h = some v := by
  obtain ⟨hlt, -⟩ := List.getElem?_eq_some_iff.mp hd
  unfold Strand.driver? Strand.setDriver
  simp [hlt]

section
variable {s t u : State} {n h : Nat} {d : Driver}

/-- Operations that leave all strands as they are. -/
theorem State.slotsEnd_strand (s : State) (m k : Nat) : (s.slotsEnd m).strand k = s.strand k := by
  unfold State.slotsEnd
  split
  · rw [State.raiseAt_strand]
    exact s.toBit_strand m _ k
  · rfl

theorem State.count_strand (s : State) (a m : Nat) : (s.count a).strand m = s.strand m := rfl

/-! ### R277: a slot that fails -/

/-- The strand after its slot failed. -/
theorem State.slotFailed_fails {r : RetSlot} (hd : (s.strand n).driver? r.driver = some d) (hcmd : r.forCommand = false) :
    ((s.slotFailed n r).strand n).awaiting = none ∧
      ((s.slotFailed n r).strand n).driver? r.driver = some { d with failed := d.failed + 1, lost := d.lost || decide (3 ≤ d.failed + 1) } ∧
      ((Ev.DRIVER_LOST n).flag → d.failed = 2 → s.Shows (s.slotFailed n r) (Ev.DRIVER_LOST n)) := by
  have hd' : ({ s.strand n with awaiting := none, released := false } : Strand).driver? r.driver = some d := hd
  obtain ⟨x, hx⟩ : ∃ x, x = ({ s.strand n with awaiting := none, released := false } : Strand).setDriver r.driver
    { d with failed := d.failed + 1, lost := d.lost || decide (3 ≤ d.failed + 1) } := ⟨_, rfl⟩
  have hdx : x.driver? r.driver = some { d with failed := d.failed + 1, lost := d.lost || decide (3 ≤ d.failed + 1) } := by
    rw [hx]
    exact Strand.driver?_setDriver hd' _
  have hax : x.awaiting = none := by rw [hx]; rfl
  have heq : s.slotFailed n r = if d.failed + 1 = 3 then (s.setStrand n x).raiseAt (Ev.DRIVER_LOST n) n else s.setStrand n x := by
    rw [hx]
    simp only [State.slotFailed, hd', hcmd, Bool.false_eq_true, if_false]
  have hstrand : (s.slotFailed n r).strand n = x := by
    rw [heq]
    split
    · rw [State.raiseAt_strand, State.strand_setStrand_of_ne (Strand.ne_default_of_driver hdx)]
    · exact State.strand_setStrand_of_ne (Strand.ne_default_of_driver hdx)
  rw [hstrand]
  refine ⟨hax, hdx, fun hflag h2 => ?_⟩
  rw [heq, if_pos (by rw [h2])]
  refine State.Shows.after ?_ (State.raiseAt_shows _ hflag n)
  rfl

theorem Ev.DRIVER_LOST_flag (n : Fin 128) : (Ev.DRIVER_LOST n).flag := by
  refine ⟨?_, ?_, show 4 < 32 by decide⟩
  · unfold Ev.DRIVER_LOST Reg.STR_EVENTS Reg.JNL_OVERWRITTEN
    simp only
    omega
  · unfold Ev.DRIVER_LOST Reg.STR_EVENTS Reg.JNL_STREAM_SKIPPED
    simp only
    omega

/-- What the failure of a slot leaves behind: from `s`, and with the driver as it was. -/
def State.driverFailed (s t : State) (n h : Nat) (d : Driver) : Prop :=
  (t.strand n).awaiting = none ∧ (∃ d', (t.strand n).driver? h = some d' ∧ d'.failed = d.failed + 1 ∧ (2 ≤ d.failed → d'.lost = true)) ∧
    (s.regsOk → d.failed = 2 → t.sees (Ev.DRIVER_LOST n) = true)

/-- R277: a slot fails once the strand has been moved on and the failure counted. -/
theorem State.driverFailed_of_slot {n : Fin 128} {x : Strand} {r : RetSlot} (hx : x.driver? r.driver = some d)
    (hcmd : r.forCommand = false) (hu : s.KeepsEvents u) (a : Nat) :
    s.driverFailed ((((u.setStrand n x).count a).slotFailed n r).slotsEnd n) n r.driver d := by
  have hstrand : ((u.setStrand n x).count a).strand n = x := by
    rw [State.count_strand]
    exact State.strand_setStrand_of_ne (Strand.ne_default_of_driver hx)
  obtain ⟨hawait, hdriver, hshows⟩ := State.slotFailed_fails (s := (u.setStrand n x).count a) (n := n) (d := d)
    (by rw [hstrand]; exact hx) hcmd
  unfold State.driverFailed
  rw [State.slotsEnd_strand]
  refine ⟨hawait, ⟨_, hdriver, rfl, fun h2 => ?_⟩, fun hs h2 => ?_⟩
  · simp only [Bool.or_eq_true, decide_eq_true_eq]
    exact Or.inr (by omega)
  · have hcount : ((u.setStrand n x).count a).regsOk :=
      State.setRegN_regsOk (show (u.setStrand n x).regsOk from (hu hs).1) _ _
    have hflag := Ev.DRIVER_LOST_flag n
    exact ((hshows hflag h2).trans hflag (State.slotsEnd_keepsEvents _ n)).sees hcount

/-! ### R275: a valid STATUS reply -/

/-- The driver's reply stands: what it said, and its failures ended. -/
def Strand.replied (a : Strand) (h : Nat) (status temp : Half) : Prop :=
  a.awaiting = none ∧ a.released = false ∧ ∃ d, a.driver? h = some d ∧ d.status = status ∧ d.temp = temp ∧ d.failed = 0 ∧ d.lost = false

theorem Strand.replied.ne_default {a : Strand} {status temp : Half} (ha : a.replied h status temp) : a ≠ {} := by
  obtain ⟨-, -, d, hd, -⟩ := ha
  exact Strand.ne_default_of_driver hd

theorem State.replied_of_frame (hs : t.strands = s.strands) {status temp : Half} (h : Nat) (hr : (s.strand n).replied h status temp) :
    (t.strand n).replied h status temp := by
  unfold State.strand at hr ⊢
  rwa [hs]

theorem State.replied_setStrand {status temp : Half} {m : Nat} {x : Strand} (hr : (s.strand n).replied h status temp)
    (hx : m = n → x.replied h status temp) : ((s.setStrand m x).strand n).replied h status temp := by
  by_cases hm : m = n
  · subst hm
    rw [State.strand_setStrand_of_ne (hx rfl).ne_default]
    exact hx rfl
  · rwa [State.strand_setStrand_other _ _ (Ne.symm hm)]

theorem State.queueCfg_replied {status temp : Half} (m : Nat) (l : CfgLine) (hr : (s.strand n).replied h status temp) :
    ((s.queueCfg m l).strand n).replied h status temp := by
  unfold State.queueCfg
  refine State.replied_setStrand hr fun hm => ?_
  rw [hm]
  exact hr

/-- R326: the currents of a zone are queued; no reply is changed. -/
theorem State.overtemp_replied {status temp st : Half} (m k : Nat) (hr : (s.strand n).replied h status temp) :
    ((s.overtemp m k st).strand n).replied h status temp := by
  unfold State.overtemp State.applyCurrents
  simp only
  split
  · split
    · exact State.replied_of_frame rfl h hr
    · exact State.replied_of_frame (t := State.putZone _ _ _ _) rfl h (State.queueCfg_replied _ _ hr)
  · exact State.replied_of_frame rfl h hr

theorem mapDrivers_getElem? (f : Nat → Driver → Driver) (l : List Driver) (a i : Nat) :
    (mapDrivers f a l)[i]? = l[i]?.map (f (a + i)) := by
  induction l generalizing a i with
  | nil => simp [mapDrivers]
  | cons d l ih =>
    cases i with
    | zero => simp [mapDrivers]
    | succ i =>
      simp only [mapDrivers, List.getElem?_cons_succ]
      rw [ih, show a + 1 + i = a + (i + 1) by omega]

theorem Strand.replied_written {a : Strand} {status temp : Half} (ha : a.replied h status temp) (l : Nat) : ({ a with
    drivers := mapDrivers (fun k d => if k = h then { d with written := l } else d) 0 a.drivers } : Strand).replied h status temp := by
  obtain ⟨hawait, hrel, d, hd, hfields⟩ := ha
  refine ⟨hawait, hrel, { d with written := l }, ?_, hfields⟩
  unfold Strand.driver? at hd ⊢
  rw [mapDrivers_getElem?, hd]
  simp

theorem State.phaseRange_strands (s : State) (m k l : Nat) : (s.phaseRange m k l).strands = s.strands := by
  unfold State.phaseRange
  simp only
  split
  · exact State.raiseWith_strands _ _ _ _
  · rfl

/-- R309: a sample of the latency is filtered into the driver, and its correction queued. -/
theorem State.latencySample_replied {status temp : Half} (sample : Nat) (hr : (s.strand n).replied h status temp) :
    ((s.latencySample n h sample).strand n).replied h status temp := by
  obtain ⟨hawait, hrel, d, hd, hstatus, htemp, hfailed, hlost⟩ := id hr
  obtain ⟨l, hl⟩ : ∃ l, l = ((d.lambda : Int) + ((sample : Int) - d.lambda).tdiv 8).toNat := ⟨_, rfl⟩
  obtain ⟨x, hx⟩ : ∃ x, x = (s.strand n).setDriver h { d with lambda := l, sampledMs := s.upMs } := ⟨_, rfl⟩
  have hxr : x.replied h status temp := by
    rw [hx]
    exact ⟨hawait, hrel, _, Strand.driver?_setDriver hd _, hstatus, htemp, hfailed, hlost⟩
  have hset := State.replied_setStrand (m := n) hr fun _ => hxr
  unfold State.latencySample
  simp only [hd]
  split
  · exact State.replied_of_frame rfl h hr
  · rw [← hl, ← hx]
    split
    · refine State.replied_of_frame (t := State.count _ _) rfl h ?_
      unfold State.queueComp
      have hrange := State.replied_of_frame (State.phaseRange_strands (s.setStrand n x) n h l) h hset
      exact State.queueCfg_replied _ _ (State.replied_setStrand hrange fun _ => Strand.replied_written hrange l)
    · exact hset

/-- R274, R275: a valid STATUS reply of the driver that was asked. -/
theorem State.slotReply_valid {slot : RetSlot} {r : ReplyIn} {status temp : Half} {sense : List Half}
    (hd : (s.strand n).driver? slot.driver = some d) (hcrc : crc16Words (r.head :: r.words) = r.crc)
    (hfrom : bits r.head.toNat 15 6 = slot.driver) (htype : bits r.head.toNat 5 3 = 0) (hwords : r.words = status :: temp :: sense)
    (hsense : slot.sense = false) (hcmd : slot.forCommand = false) :
    ((s.slotReply n slot r).strand n).replied slot.driver status temp := by
  obtain ⟨len, hlen⟩ : ∃ len, len = s.slotBits n slot d - 26 := ⟨_, rfl⟩
  obtain ⟨x, hx⟩ : ∃ x, x = ({ s.strand n with awaiting := none, released := false, pos := (s.strand n).pos + len } : Strand).setDriver
    slot.driver { d with failed := 0, lost := false } := ⟨_, rfl⟩
  have hdx : x.driver? slot.driver = some { d with failed := 0, lost := false } := by
    rw [hx]
    exact Strand.driver?_setDriver hd _
  obtain ⟨u, hu⟩ : ∃ u, u = (s.setStrand n x).count (Reg.RET_REPLIES n) := ⟨_, rfl⟩
  have hstrand : u.strand n = x := by
    rw [hu, State.count_strand]
    exact State.strand_setStrand_of_ne (Strand.ne_default_of_driver hdx)
  have heq : s.slotReply n slot r = (u.applyStatus n slot r).slotsEnd n := by
    unfold State.slotReply
    rw [if_neg (by simp [hcrc, hfrom])]
    have hd' : ({ s.strand n with awaiting := none, released := false, pos := (s.strand n).pos + len } : Strand).driver? slot.driver =
      some d := hd
    simp only [hd, ← hlen, hd', ← hx, htype, hcmd, Bool.false_eq_true, if_false, if_true, hu]
  have hstart : ((u.setStrand n (x.setDriver slot.driver { d with
      failed := 0, lost := false, status := status, temp := temp, tempMs := if temp = 0x8000 then d.tempMs else u.upMs })).strand n).replied
      slot.driver status temp := by
    rw [State.strand_setStrand_of_ne (Strand.ne_default_of_driver (Strand.driver?_setDriver hdx _))]
    exact ⟨by rw [hx]; rfl, by rw [hx]; rfl, _, Strand.driver?_setDriver hdx _, rfl, rfl, rfl, rfl⟩
  rw [heq, State.slotsEnd_strand]
  unfold State.applyStatus
  simp only [hstrand, hdx, hwords, hsense, Bool.false_eq_true, if_false]
  exact State.latencySample_replied _ (State.overtemp_replied _ _ hstart)

/-! ### R278: RTS -/

theorem State.slotBits_congr (hlive : t.ctrl.live = s.ctrl.live) (hnvm : t.nvm = s.nvm)
    (henum : (t.strand n).enumerating = (s.strand n).enumerating) (r : RetSlot) (d : Driver) :
    t.slotBits n r d = s.slotBits n r d := by
  unfold State.slotBits State.strandBps State.coder State.rateCode State.param State.strandCfg State.paramBytes
  rw [hlive, hnvm, henum]

/-- One turn of `startSlot`, as the compiled recursion has it; its own equation makes the kernel evaluate `slotStart`, which holds
sums with numerals of 10^9. -/
theorem State.startSlot_turn (s : State) (n : Nat) (r : RetSlot) (rest : List RetSlot) :
    ∃ go, State.startSlot n (r :: rest) s = State.startSlot._f n (r :: rest) go s := by
  delta State.startSlot
  dsimp only
  exact ⟨_, rfl⟩

theorem State.startSlot_first {r : RetSlot} {b : Nat} (rest : List RetSlot) (hd : (s.strand n).driver? r.driver = some d)
    (hb : s.slotStart n r d = some b) {u v : State}
    (hu : u = (s.toBit n b).setStrand n { s.strand n with
      ret := rest, awaiting := some r, slotsRun := (s.strand n).slotsRun + 1, pos := b + 26, released := true })
    (hv : v = u.wire n [.rts r.driver r.sense (relayOf (u.slotBits n r d))]) :
    State.startSlot n (r :: rest) s = if r.sense then v.count Reg.SENSE_POLLS else v := by
  obtain ⟨go, hgo⟩ := s.startSlot_turn n r rest
  obtain ⟨start, hstart⟩ : ∃ f, f = s.slotStart n r := ⟨_, rfl⟩
  rw [← hstart] at hb
  rw [hgo]
  dsimp -zeta only [State.startSlot._f]
  rw [← hstart]
  dsimp only
  simp only [hd, hb]
  rw [hv, hu]

theorem State.startSlot_starts {r : RetSlot} {rest : List RetSlot} {b : Nat} (hd : (s.strand n).driver? r.driver = some d)
    (hb : s.slotStart n r d = some b) (hdrive : (s.strand n).driving = true) :
    let t := State.startSlot n (r :: rest) s
    (t.strand n).awaiting = some r ∧ (t.strand n).ret = rest ∧ (t.strand n).released = true ∧
      (t.strand n).tx = (s.strand n).tx ++ [.rts r.driver r.sense (relayOf (s.slotBits n r d))] := by
  obtain ⟨x, hx⟩ : ∃ x, x = { s.strand n with
    ret := rest, awaiting := some r, slotsRun := (s.strand n).slotsRun + 1, pos := b + 26, released := true } := ⟨_, rfl⟩
  have hdx : x.driver? r.driver = some d := by rw [hx]; exact hd
  obtain ⟨u, hu⟩ : ∃ u, u = (s.toBit n b).setStrand n x := ⟨_, rfl⟩
  have hstrand : u.strand n = x := by rw [hu]; exact State.strand_setStrand_of_ne (Strand.ne_default_of_driver hdx)
  have hbits : u.slotBits n r d = s.slotBits n r d := by
    refine State.slotBits_congr ?_ ?_ ?_ r d
    · rw [hu, State.setStrand_ctrl]
      exact (State.toBit_onStrand (n := n) s n b).2.2.1
    · rw [hu, State.setStrand_nvm]
      exact (State.toBit_onStrand (n := n) s n b).2.2.2
    · rw [hstrand, hx]
  have hwire : u.wire n [.rts r.driver r.sense (relayOf (s.slotBits n r d))] =
      u.setStrand n (x.send [.rts r.driver r.sense (relayOf (s.slotBits n r d))]) := by
    unfold State.wire
    rw [hstrand, if_pos (by rw [hx]; exact hdrive)]
  have hsent : (u.setStrand n (x.send [.rts r.driver r.sense (relayOf (s.slotBits n r d))])).strand n =
      x.send [.rts r.driver r.sense (relayOf (s.slotBits n r d))] :=
    State.strand_setStrand_of_ne (Strand.ne_default_of_driver (h := r.driver) (d := d) hdx)
  have heq : (State.startSlot n (r :: rest) s).strand n = x.send [.rts r.driver r.sense (relayOf (s.slotBits n r d))] := by
    rw [State.startSlot_first (u := u) rest hd hb (by rw [hu, hx]) rfl, hbits, hwire]
    split
    · rw [State.count_strand, hsent]
    · exact hsent
  intro t
  rw [heq, hx]
  exact ⟨rfl, rfl, rfl, rfl⟩

/-! ### R270: a command frame -/

/-- One line of the frame: the queue gets shorter by it, and what was sent stands. -/
theorem State.sendCfg_shortens {l : CfgLine} {rest : List CfgLine} (hk : (s.strand n).kind ≠ .none) :
    ((s.sendCfg n l rest).strand n).cfg = rest ∧ ((s.sendCfg n l rest).strand n).kind = (s.strand n).kind ∧
      (s.strand n).tx <+: ((s.sendCfg n l rest).strand n).tx := by
  have hopen : s.onStrand n (s.emptyTrains n) := s.emptyTrains_onStrand
  obtain ⟨-, -, -, -, -, -, -, hkind, -, -, htx⟩ := hopen.2.1 (Or.inl hk)
  obtain ⟨b, x, ⟨pos, ret, hx⟩, heq⟩ := s.sendCfg_eq n l rest
  obtain ⟨⟨-, -, -, hcfg, -, -, -, hkind', -, -, htx'⟩, -, -⟩ := State.sendAt_goesOn hopen (x := x)
    (Or.inl (by rw [hx]; exact hkind ▸ hk)) (t := s.sendCfg n l rest) (by rw [heq]; exact State.setRegN_onStrand _ _ _)
  rw [hx] at hcfg hkind' htx'
  exact ⟨hcfg, hkind'.trans hkind, htx.trans htx'⟩

/-- R270: up to `k` lines of the queue are sent. -/
theorem State.sendCfgs_shortens (k : Nat) {s : State} (hk : (s.strand n).kind ≠ .none) :
    ((State.sendCfgs n k s).strand n).cfg = (s.strand n).cfg.drop k ∧
      ((State.sendCfgs n k s).strand n).kind = (s.strand n).kind ∧ (s.strand n).tx <+: ((State.sendCfgs n k s).strand n).tx := by
  induction k generalizing s with
  | zero => exact ⟨rfl, rfl, List.prefix_rfl⟩
  | succ k ih =>
    unfold State.sendCfgs
    split
    · next l rest hcfg =>
      obtain ⟨hrest, hkind, htx⟩ := State.sendCfg_shortens (l := l) (rest := rest) hk
      obtain ⟨hcfg', hkind', htx'⟩ := ih (s := s.sendCfg n l rest) (by rw [hkind]; exact hk)
      rw [hrest] at hcfg'
      exact ⟨by rw [hcfg', hcfg]; rfl, hkind'.trans hkind, htx.trans htx'⟩
    · next hcfg => exact ⟨by rw [hcfg]; rfl, rfl, List.prefix_rfl⟩

/-- R270: SOF, the first 32 lines of the queue, and EOF. -/
theorem commandFrame_sends {n : Fin 128} (hok : s.commandFrameOk n = true) : ∃ t, exec (.commandFrame n) s = .next t ∧
    (t.strand n).kind = .command ∧ (t.strand n).cfg = (s.strand n).cfg.drop 32 ∧ ((s.strand n).tx ++ [.sof]) <+: (t.strand n).tx := by
  have hdrive : (s.strand n).driving = true := by
    unfold State.commandFrameOk at hok
    simp only [Bool.and_eq_true] at hok
    obtain ⟨⟨⟨⟨⟨⟨⟨-, hdrive⟩, -⟩, -⟩, -⟩, -⟩, -⟩, -⟩ := hok
    exact hdrive
  obtain ⟨x, hx⟩ : ∃ x, x = { s.strand n with
    kind := .command, lines := 0, banks := [], pos := max (s.strand n).pos (s.vBp n), cfgSent := 0, eof := false
    ret := (s.strand n).ret ++ s.pollSlots n } := ⟨_, rfl⟩
  have hkx : x.kind = .command := by rw [hx]
  have halive : x.alive := Or.inl (by rw [hkx]; decide)
  obtain ⟨u, hu⟩ : ∃ u, u = s.setStrand n x := ⟨_, rfl⟩
  have hstrand : u.strand n = x := by rw [hu]; exact State.strand_setStrand_of_ne (Strand.ne_default_of_alive halive)
  obtain ⟨-, hgo, -⟩ := State.wire_onStrand (n := n) u [.sof]
  obtain ⟨-, -, -, hcfg, -, -, -, hkind, -⟩ := hgo (by rwa [hstrand])
  have htx := State.wire_tx (l := [.sof]) (s := u) (n := n) (by rw [hstrand, hx]; exact hdrive) (by rwa [hstrand])
  rw [hstrand] at hcfg hkind htx
  have hk : ((u.wire n [.sof]).strand n).kind ≠ .none := by rw [hkind, hkx]; decide
  obtain ⟨hcfgs, hkinds, htxs⟩ := State.sendCfgs_shortens 32 hk
  obtain ⟨-, hfin, -⟩ := (State.sendCfgs n 32 (u.wire n [.sof])).finishFrame_onStrand (n := n)
  obtain ⟨-, -, -, hcfgf, -, -, -, hkindf, -, -, htxf⟩ := hfin (Or.inl (by rw [hkinds]; exact hk))
  refine ⟨(State.sendCfgs n 32 (u.wire n [.sof])).finishFrame n, ?_, ?_, ?_, ?_⟩
  · simp only [exec, execCommandFrame, hok, Bool.true_eq_false, if_false, hu, hx]
  · rw [hkindf, hkinds, hkind, hkx]
  · rw [hcfgf, hcfgs, hcfg, hx]
  · rw [htx, hx] at htxs
    exact htxs.trans htxf

/-- A reply that is not valid: the slot fails, counted with the CRC errors. -/
theorem State.slotReply_invalid {slot : RetSlot} {r : ReplyIn}
    (h : ¬(crc16Words (r.head :: r.words) = r.crc ∧ bits r.head.toNat 15 6 = slot.driver)) : ∃ pos, s.slotReply n slot r =
      (((s.setStrand n { s.strand n with pos := pos }).count (Reg.RET_CRC_ERR n)).slotFailed n slot).slotsEnd n := by
  unfold State.slotReply
  rw [if_pos (Decidable.not_and_iff_not_or_not.mp h)]
  exact ⟨_, rfl⟩

/-- No reply: the slot fails, counted with the timeouts. -/
theorem State.slotTimeout_eq (s : State) (n : Nat) (slot : RetSlot) : ∃ pos b, s.slotTimeout n slot =
    ((((s.toBit n b).setStrand n { s.strand n with pos := pos }).count (Reg.RET_TIMEOUT n)).slotFailed n slot).slotsEnd n := by
  unfold State.slotTimeout
  exact ⟨_, _, rfl⟩

/-- A frame whose EOF has been sent goes straight to its slots. -/
theorem State.nextSlot_of_eof (heof : (s.strand n).eof = true) : s.nextSlot n =
    if (s.strand n).driving = false ∨ (s.strand n).eof = false ∨ (s.strand n).awaiting.isSome = true ∨ (s.strand n).ret.isEmpty then s
    else State.startSlot n (s.strand n).ret s := by
  have hfin : s.finishFrame n = s := by
    unfold State.finishFrame
    rw [if_pos (Or.inr (Or.inl heof))]
  unfold State.nextSlot
  rw [hfin]

end

/-- Settles O33: command frames, the first return slot, and the outcomes of a slot. -/
theorem driversAreAskedAndAnswer : Obligations.DriversAreAskedAndAnswer := by
  unfold Obligations.DriversAreAskedAndAnswer
  intro s n slot rest d r t0 hd ok failed
  refine ⟨commandFrame_sends, fun hok => ?_, fun henum => ?_⟩
  · simp only [exec, execCommandFrame, hok, if_true]
  · have hruns : ¬(s.enumRuns n = true ∧ (s.strand n).scan.awaiting = true) := by
      rintro ⟨h, -⟩
      simp only [State.enumRuns] at h
      rw [show (s.strand n).enumerating = false from henum] at h
      exact absurd h (by simp)
    have hreply : t0.awaiting = some slot → exec (.reply n r) s = .next (s.slotReply n slot r) := fun hawait => by
      simp only [exec, execReply]
      rw [if_neg hruns, show (s.strand n).awaiting = some slot from hawait]
    refine ⟨fun b hnsp hdrive heof hawait hret hb => ?_, fun status temp sense hawait hok htype hwords hsense hcmd => ?_,
      fun hawait hok hcmd => ?_, fun hawait hcmd => ?_⟩
    · refine ⟨_, ?_, State.startSlot_starts hd hb hdrive⟩
      simp only [exec, execRts]
      rw [if_neg (by simp [hnsp]), if_neg (by rw [show (s.strand n).enumerating = false from henum]; decide)]
      rw [State.nextSlot_of_eof heof, if_neg, show (s.strand n).ret = slot :: rest from hret]
      rintro (h | h | h | h)
      · exact absurd (hdrive.symm.trans h) (by decide)
      · exact absurd (heof.symm.trans h) (by decide)
      · rw [show (s.strand n).awaiting = none from hawait] at h
        exact absurd h (by decide)
      · rw [show (s.strand n).ret = slot :: rest from hret] at h
        exact absurd h (by simp)
    · obtain ⟨hnone, hrel, d', hd', hst, htm, hf, hl⟩ := State.slotReply_valid hd hok.1 hok.2 htype hwords hsense hcmd
      exact ⟨_, d', hreply hawait, hnone, hrel, hd', hst, htm, hf, hl⟩
    · obtain ⟨pos, heq⟩ := State.slotReply_invalid (s := s) (n := n) hok
      refine ⟨_, hreply hawait, ?_⟩
      rw [heq]
      exact State.driverFailed_of_slot (x := { t0 with pos := pos }) hd hcmd s.keepsEvents_refl _
    · refine ⟨s.slotTimeout n slot, ?_, ?_⟩
      · simp only [exec, execReplyTimeout]
        rw [if_neg hruns, show (s.strand n).awaiting = some slot from hawait]
      · obtain ⟨pos, b, heq⟩ := State.slotTimeout_eq s n slot
        rw [heq]
        exact State.driverFailed_of_slot (x := { t0 with pos := pos }) hd hcmd (State.advanceTo_keepsEvents s _) _

end Sys2Proof.Machine
end

section
/-! ## What waits, and registers while time passes -/

namespace Sys2Proof.Machine

/-! ### The commands that wait -/

section
variable (s : State)

theorem State.sendOwn_waiting (p : Port) (f : OwnFrame) : (s.sendOwn p f).ctrl = s.ctrl := by
  unfold State.sendOwn
  simp only
  split
  · exact State.setMac_ctrl _ _ _
  · rfl

theorem State.sendMessage_waiting (ch : Chan) (ep : Endpoint) (bytes : List Byte) : (s.sendMessage ch ep bytes).ctrl = s.ctrl := by
  unfold State.sendMessage State.sendMirror
  split
  · rfl
  · split <;> rfl
  · split
    · exact s.sendOwn_waiting _ _
    · rfl

theorem State.setClient_waiting (ch : Chan) (ep : Endpoint) (c : Client) : (s.setClient ch ep c).ctrl.waiting = s.ctrl.waiting := by
  cases ch <;> rfl

theorem State.sendSlot_waiting (ch : Chan) (ep : Endpoint) (q : Word) : (s.sendSlot ch ep q).ctrl.waiting = s.ctrl.waiting := by
  unfold State.sendSlot
  simp only
  split
  · split
    · rw [State.setClient_waiting, State.sendMessage_waiting]
    · rw [State.sendMessage_waiting]
  · rfl

theorem State.complete_waiting (ch : Chan) (ep : Endpoint) (q : Word) (status : Nat) (payload : List Byte) :
    (s.complete ch ep q status payload).ctrl.waiting = s.ctrl.waiting := by
  unfold State.complete
  simp only
  split
  · split
    · rfl
    · split
      · exact s.setClient_waiting _ _ _
      · rw [State.sendSlot_waiting, State.setClient_waiting]
  · rfl

/-- What is answered waits no longer; the rest waits on. -/
theorem State.completeWaiting_waiting (f : Waiting → Option (Nat × List Byte)) :
    (s.completeWaiting f).ctrl.waiting = s.ctrl.waiting.filter fun w => (f w).isNone := by
  have hfold : ∀ (l : List Waiting) (t : State), (l.foldl (fun s w =>
      match f w with
      | some (st, p) => (s.complete w.chan w.ep w.seq st p).restartLease w.client
      | none => s) t).ctrl.waiting = t.ctrl.waiting := fun l => by
    induction l with
    | nil => exact fun _ => rfl
    | cons w l ih =>
      intro t
      refine (ih _).trans ?_
      dsimp only
      split
      · exact t.complete_waiting _ _ _ _ _
      · rfl
  exact hfold s.ctrl.waiting { s with ctrl := { s.ctrl with waiting := s.ctrl.waiting.filter fun w => (f w).isNone } }

end

/-! ### Registers while time passes -/

section
variable (s : State) {a : Nat}

theorem State.journalTurn_reg (h : a ∉ journalRegs) : s.journalTurn.reg a = s.reg a := by
  unfold State.journalTurn
  split
  · split
    · rw [State.jAccept_reg _ _ h]
      rfl
    · rfl
  · rfl

theorem State.journalTurns_reg (h : a ∉ journalRegs) (n : Nat) (s : State) : (State.journalTurns n s).reg a = s.reg a := by
  induction n generalizing s with
  | zero => rfl
  | succ n ih => exact (ih _).trans (s.journalTurn_reg h)

theorem State.journalTo_reg (h : a ∉ journalRegs) (u : Nat) : (s.journalTo u).reg a = s.reg a := by
  unfold State.journalTo State.takeWaiting
  exact State.journalTurns_reg h _ s

theorem State.reg_congr {s t : State} (h : t.regs = s.regs) (a : Nat) : t.reg a = s.reg a := by
  unfold State.reg
  rw [h]

theorem State.crossEpoch_reg (h : a ∉ journalRegs) (b : Nat) : (s.crossEpoch b).reg a = s.reg a := by
  unfold State.crossEpoch State.emitEpoch
  rw [State.emit_reg _ _ _ _ _ h, State.reg_congr (State.setUnits_regs _ _), State.journalTo_reg _ h]

theorem State.foldl_crossEpoch_reg (h : a ∉ journalRegs) (l : List Nat) (s : State) :
    (l.foldl State.crossEpoch s).reg a = s.reg a := by
  induction l generalizing s with
  | nil => rfl
  | cons b l ih => exact (ih _).trans (s.crossEpoch_reg h b)

/-- Time that passes writes the journal's registers only. -/
theorem State.advanceTo_reg (h : a ∉ journalRegs) (u : Nat) : (s.advanceTo u).reg a = s.reg a := by
  unfold State.advanceTo
  split
  · rfl
  · rw [State.reg_congr (State.setClock_regs _ _ _), State.journalTo_reg _ h, State.foldl_crossEpoch_reg h]

end

/-! ## Legacy and DMX ports: R291 to R295 -/

section
variable {s : State} {n : Nat}

theorem Reg.LEG_SKIP_not_journal (n : Fin 128) : Reg.LEG_SKIP n ∉ journalRegs := by
  have h1 : Reg.LEG_SKIP n ≠ Reg.CTRL_EVENTS := by unfold Reg.LEG_SKIP Reg.CTRL_EVENTS; omega
  have h2 : Reg.LEG_SKIP n ≠ Reg.JNL_OVERWRITTEN := by unfold Reg.LEG_SKIP Reg.JNL_OVERWRITTEN; omega
  have h3 : Reg.LEG_SKIP n ≠ Reg.JNL_STREAM_SKIPPED := by unfold Reg.LEG_SKIP Reg.JNL_STREAM_SKIPPED; omega
  simp [journalRegs, h1, h2, h3]

theorem State.legacyForm_congr {t : State} (h : s.sameButClock t) (n : Nat) : t.legacyForm n = s.legacyForm n :=
  h.congr (f := fun u => u.legacyForm n) fun _ _ _ _ _ _ _ _ _ => rfl

/-- What the wait for the frame's moment leaves. -/
theorem State.advanceNs_frame (s : State) (n : Fin 128) (ns : Nat) : s.sameButClock (s.advanceNs ns) ∧
    (s.advanceNs ns).regN (Reg.LEG_SKIP n) = s.regN (Reg.LEG_SKIP n) ∧ s.KeepsEvents (s.advanceNs ns) := by
  unfold State.advanceNs
  generalize ns * 2 ^ 32 = u
  exact ⟨s.advanceTo_sameButClock u, congrArg BitVec.toNat (s.advanceTo_reg (Reg.LEG_SKIP_not_journal n) u), s.advanceTo_keepsEvents u⟩

/-- R291: a legacy frame at its moment: sent when it is fully rendered, and otherwise skipped. -/
theorem exec_legacyFrame {n : Fin 128} {v : State}
    (hv : v = s.advanceNs (s.nextTickNs - s.param P.LEG_LATCH * 1000 - s.legacyNs n)) (hleg : s.isLegacy n = true) (hkind : (s.strand n).kind = .render)
    (heof : (s.strand n).eof = false) : exec (.legacyFrame n) s =
      if (s.strand n).lines ≠ 0 ∧ (s.strand n).buf.length = (s.strand n).lines then
        .next ((v.setStrand n { s.strand n with buf := [], sentLines := (s.strand n).lines, eof := true }).wire n
          [.legacy (v.legacyForm n) ((s.strand n).buf.flatMap fun l => l.2.drop 1)])
      else .next ((v.setStrand n { s.strand n with eof := true }).count (Reg.LEG_SKIP n)) := by
  simp only [exec, execLegacyFrame]
  rw [if_neg (by simp [hleg, hkind, heof]), ← hv]

/-- EOF of a strand stands through what it then sends. -/
theorem State.wire_eof (s : State) (n : Nat) (l : List StrandItem) (ha : (s.strand n).alive) :
    ((s.wire n l).strand n).eof = (s.strand n).eof := by
  unfold State.wire
  simp only
  split
  · rw [State.strand_setStrand_of_ne (Strand.ne_default_of_alive (a := (s.strand n).send l) ha)]
    rfl
  · rfl

/-- The answer to the RDM_REQUEST that is in progress. -/
def rdmAnswer (p : Fin 64) (r : RdmReq) (brk : Bool) (m : RdmIn) (w : Waiting) : Option (Nat × List Byte) :=
  if w.chan = r.chan ∧ w.ep = r.from_ ∧ w.seq = r.seq ∧ w.why = .rdm p then
    some (Status.OK, beBytes 1 (rdmResult r.discovery brk m) ++ [0] ++ beBytes 2 (m.bytes.take 257).length ++ m.bytes.take 257)
  else none

theorem rdmAnswer_isNone (p : Fin 64) (r : RdmReq) (brk : Bool) (m : RdmIn) (w : Waiting) : (rdmAnswer p r brk m w).isNone =
    !(decide (w.chan = r.chan) && decide (w.ep = r.from_) && decide (w.seq = r.seq) && decide (w.why = .rdm p)) := by
  unfold rdmAnswer
  split
  · next h =>
    obtain ⟨h1, h2, h3, h4⟩ := h
    simp [h1, h2, h3, h4]
  · next h =>
    rw [Eq.comm]
    simp only [Option.isNone_none, Bool.not_eq_true', ← Bool.not_eq_true, Bool.and_eq_true, decide_eq_true_eq]
    exact fun hx => h ⟨hx.1.1.1, hx.1.1.2, hx.1.2, hx.2⟩

end

/-- Settles O35: each port's frame or request, by the conditions under which it is sent. -/
theorem legacyAndDmxPortsSendFrames : Obligations.LegacyAndDmxPortsSendFrames := by
  unfold Obligations.LegacyAndDmxPortsSendFrames
  intro s n p brk m r rest t0 d0 tick far
  obtain ⟨v, hv⟩ : ∃ v, v = s.advanceNs (s.nextTickNs - s.param P.LEG_LATCH * 1000 - s.legacyNs n) := ⟨_, rfl⟩
  obtain ⟨hsame, hreg, hkeeps⟩ := s.advanceNs_frame n (s.nextTickNs - s.param P.LEG_LATCH * 1000 - s.legacyNs n)
  rw [← hv] at hsame hreg hkeeps
  refine ⟨fun hleg hkind heof hlines hbuf hdrive => ?_, fun hleg hkind heof hbuf hs hmax => ?_, fun hon hnow hend hfar => ?_,
    fun hon hnow hrdm hframe => ?_, fun hnow => ?_⟩
  · obtain ⟨x, hx⟩ : ∃ x, x = { t0 with buf := [], sentLines := t0.lines, eof := true } := ⟨_, rfl⟩
    have halive : x.alive := Or.inl (by rw [hx]; intro h; exact absurd (hkind.symm.trans h) (by decide))
    obtain ⟨u, hu⟩ : ∃ u, u = v.setStrand n x := ⟨_, rfl⟩
    have hux : u.strand n = x := by rw [hu]; exact State.strand_setStrand_of_ne (Strand.ne_default_of_alive halive)
    refine ⟨u.wire n [.legacy (v.legacyForm n) (t0.buf.flatMap fun l => l.2.drop 1)], ?_, ?_, ?_, ?_⟩
    · rw [exec_legacyFrame hv hleg hkind heof, if_pos ⟨hlines, hbuf⟩, hu, hx]
    · rw [State.wire_eof _ _ _ (by rwa [hux]), hux, hx]
    · rw [State.wire_tx (by rw [hux, hx]; exact hdrive) (by rwa [hux]), hux, hx, State.legacyForm_congr hsame]
    · rw [← hreg]
      exact congrArg BitVec.toNat (State.reg_congr ((State.wire_regs _ _ _).trans (by rw [hu]; rfl)) _)
  · obtain ⟨x, hx⟩ : ∃ x, x = { t0 with eof := true } := ⟨_, rfl⟩
    have halive : x.alive := Or.inl (by rw [hx]; intro h; exact absurd (hkind.symm.trans h) (by decide))
    refine ⟨(v.setStrand n x).count (Reg.LEG_SKIP n), ?_, ?_, ?_⟩
    · rw [exec_legacyFrame hv hleg hkind heof, if_neg (fun h => hbuf h.2), hx]
    · rw [State.count_strand, State.strand_setStrand_of_ne (Strand.ne_default_of_alive halive), hx]
    · have hok : (v.setStrand n x).regsOk := (hkeeps hs).1
      have hsetreg : (v.setStrand n x).regN (Reg.LEG_SKIP n) = s.regN (Reg.LEG_SKIP n) := hreg
      rw [State.count, State.countN, State.regN_setRegN_same hok, hsetreg]
      omega
  · simp only [exec, execDmxFrame]
    rw [if_neg]
    rintro (h | h | h | ⟨h1, h2⟩)
    · exact absurd (hon.symm.trans h) (by decide)
    · rw [show (s.strand (2 * p.val)).rdmNow = none from hnow] at h
      exact absurd h (by decide)
    · exact absurd h (Nat.not_lt.mpr hend)
    · rcases hfar with hfar | hfar
      · rw [show (s.strand (2 * p.val)).dmxFrame = [] from hfar] at h1
        exact absurd h1 (by decide)
      · exact absurd h2 (Nat.not_lt.mpr hfar)
  · simp only [exec, execRdmTransaction]
    rw [show (s.strand (2 * p.val)).rdm = r :: rest from hrdm]
    simp only
    rw [if_neg, if_pos]
    · rw [show (s.strand (2 * p.val)).dmxFrame = [] from hframe]
      rfl
    · rintro (h | h)
      · exact absurd (hon.symm.trans h) (by decide)
      · rw [show (s.strand (2 * p.val)).rdmNow = none from hnow] at h
        exact absurd h (by decide)
  · obtain ⟨u, hu⟩ : ∃ u, u = s.setStrand (2 * p.val) { d0 with rdmNow := none, rdmEndUp := s.up } := ⟨_, rfl⟩
    obtain ⟨v, hv⟩ : ∃ v, v = if rdmResult r.discovery brk m = 1 then u.count (Reg.RDM_NO_RESPONSE (2 * p.val)) else u := ⟨_, rfl⟩
    have hstrands : v.strands = u.strands ∧ v.ctrl = u.ctrl := by
      rw [hv]
      split <;> exact ⟨rfl, rfl⟩
    refine ⟨v.completeWaiting (rdmAnswer p r brk m), ?_, ?_, ?_⟩
    · simp only [exec, execRdmResponse]
      rw [show (s.strand (2 * p.val)).rdmNow = some r from hnow]
      rw [hv, hu]
      rfl
    · rw [State.completeWaiting_waiting, hstrands.2, hu]
      exact List.filter_congr fun w _ => rdmAnswer_isNone p r brk m w
    · rw [State.completeWaiting_strands, hstrands.1, hu]

end Sys2Proof.Machine
end

section
/-! ## Zones without temperature: R321 -/

namespace Sys2Proof.Machine

/-- A zone is what the store of the zones holds at its key. -/
theorem State.zone_eq (s : State) (n h : Nat) :
    s.zone n h = SMap.get (fun _ => freshZone s.upMs) s.lamp.zones (zoneKey n h) := by
  unfold State.zone
  induction s.lamp.zones with
  | nil => rfl
  | cons p m ih =>
    by_cases hp : p.1 = zoneKey n h
    · rw [List.find?_cons_of_pos (by simpa using hp)]
      exact (if_pos hp.symm).symm
    · rw [List.find?_cons_of_neg (by simpa using hp)]
      exact ih.trans (if_neg (Ne.symm hp)).symm

theorem State.zone_putZone (s : State) (n h : Nat) (z : Zone) : (s.putZone n h z).zone n h = z := by
  rw [State.zone_eq]
  exact SMap.get_insert_same _ _ _ _

theorem State.zone_raiseAt (s : State) (e : Ev) (i n h : Nat) : (s.raiseAt e i).zone n h = s.zone n h := by
  rw [State.zone_eq, State.zone_eq, State.raiseAt_lamp, State.upMs, State.raiseAt_up, State.upMs]

/-- R321: the fallback of a zone. -/
theorem State.zoneLost_lost (s : State) (n h : Nat) :
    ((s.zoneLost n h).zone n h).lost = true ∧ (s.zoneLost n h).lamp.anyLost = true ∧ (s.zoneLost n h).up = s.up ∧
      (s.zoneLost n h).regs = s.regs :=
  ⟨congrArg Zone.lost (State.zone_putZone s n h _), rfl, rfl, rfl⟩

/-- A zone that falls back once its time has come. -/
theorem execZoneTempLost_falls {s : State} {n : Fin 128} {h due : Nat} {d : Driver}
    (hd : (s.strand n).driver? h = some d) (hm : s.mode ≠ .shadow) (hz : s.zoneSource n h d = none)
    (hl : (s.zone n h).lost = false)
    (hdue : due = ((s.zone n h).lastSourceMs + s.param P.TEMP_LOST_TIME * 1000) * 1000000) :
    execZoneTempLost n h s = .next (((s.reach due).zoneLost n h).raiseAt Ev.ZONE_TEMP_LOST n) := by
  subst hdue
  simp only [execZoneTempLost, hd, hz, hl, hm, Option.isSome_none, Bool.false_eq_true, or_self, if_false]

/-- A zone that has a source. -/
theorem execZoneTempLost_stays {s : State} {n : Fin 128} {h : Nat} {d : Driver}
    (hd : (s.strand n).driver? h = some d) (hz : (s.zoneSource n h d).isSome = true) : execZoneTempLost n h s = .next s := by
  simp only [execZoneTempLost, hd, hz, or_true, if_true]

/-- Settles O37: a zone that falls back does so at its time, and nothing before that raises the event. -/
theorem zoneFallsBackWithoutTemperature : Obligations.ZoneFallsBackWithoutTemperature := by
  unfold Obligations.ZoneFallsBackWithoutTemperature
  intro s n h d hd hm
  refine ⟨fun hz hl => ?_, fun hz => execZoneTempLost_stays hd hz⟩
  obtain ⟨due, hdue⟩ : ∃ due, due = ((s.zone n h).lastSourceMs + s.param P.TEMP_LOST_TIME * 1000) * 1000000 := ⟨_, rfl⟩
  obtain ⟨hlost, hany, hup, hregs⟩ := (s.reach due).zoneLost_lost n h
  refine ⟨_, execZoneTempLost_falls hd hm hz hl hdue, ?_, ?_, fun hs => ?_, ?_⟩
  · rw [State.zone_raiseAt, hlost]
  · rw [State.raiseAt_lamp, hany]
  · refine State.Shows.sees (State.KeepsEvents.shows ?_ (State.raiseAt_shows _ (by decide) _)) hs
    exact (s.reach_keepsEvents due).trans (State.keepsEvents_of_regs hregs)
  · rw [State.raiseAt_up, hup, ← hdue]
    exact s.le_reach_up due

end Sys2Proof.Machine
end

section
/-! ## The end of the start-up, and the download window: R494, R497 to R500 -/

namespace Sys2Proof.Machine

/-! ### What the steps of the start-up leave as it is -/

/-- The step keeps the image that runs, what the start-up has found out about it, and the monotonic time. -/
def State.bootsOn (s t : State) : Prop :=
  t.work.running = s.work.running ∧ t.work.downloaded = s.work.downloaded ∧ t.sys.fwVersion = s.sys.fwVersion ∧
    t.sys.strap = s.sys.strap ∧ t.sys.dlTimeout = s.sys.dlTimeout ∧ t.up = s.up

theorem State.bootsOn_refl (s : State) : s.bootsOn s := ⟨rfl, rfl, rfl, rfl, rfl, rfl⟩

theorem State.bootsOn.trans {s t u : State} (h : s.bootsOn t) (h' : t.bootsOn u) : s.bootsOn u := by
  obtain ⟨hrun, hdl, hver, hstrap, hto, hup⟩ := h
  obtain ⟨hrun', hdl', hver', hstrap', hto', hup'⟩ := h'
  exact ⟨hrun'.trans hrun, hdl'.trans hdl, hver'.trans hver, hstrap'.trans hstrap, hto'.trans hto, hup'.trans hup⟩

theorem State.bootsOn_of_eq {s t : State} (hw : t.work = s.work) (hs : t.sys = s.sys) (hup : t.up = s.up) : s.bootsOn t := by
  refine ⟨?_, ?_, ?_, ?_, ?_, hup⟩ <;> simp only [hw, hs]

theorem State.bootsOn_foldl {α : Type} {f : State → α → State} (hf : ∀ (t : State) (x : α), t.bootsOn (f t x)) (l : List α)
    (s : State) : s.bootsOn (l.foldl f s) := by
  induction l generalizing s with
  | nil => exact s.bootsOn_refl
  | cons x l ih => exact (hf s x).trans (ih _)

theorem State.raiseWith_bootsOn (s : State) (e : Ev) (i d : Nat) : s.bootsOn (s.raiseWith e i d) :=
  State.bootsOn_of_eq (State.raiseWith_work _ _ _ _) (State.raiseWith_sys _ _ _ _) (State.raiseWith_up _ _ _ _)

theorem State.raise_bootsOn (s : State) (e : Ev) : s.bootsOn (s.raise e) := s.raiseWith_bootsOn e 0 0

theorem State.raiseAt_bootsOn (s : State) (e : Ev) (i : Nat) : s.bootsOn (s.raiseAt e i) := s.raiseWith_bootsOn e i 0

theorem State.setRegN_bootsOn (s : State) (a n : Nat) : s.bootsOn (s.setRegN a n) := State.bootsOn_of_eq rfl rfl rfl

theorem State.sendOwn_bootsOn (s : State) (p : Port) (f : OwnFrame) : s.bootsOn (s.sendOwn p f) := by
  apply State.bootsOn_of_eq <;> unfold State.sendOwn <;> simp only <;> split <;> simp

/-! ### Steps 7 to 11 -/

theorem State.loadSetting_bootsOn (s : State) (b : Bool) (c : Settings) (id : Nat) : s.bootsOn (s.loadSetting b c id) := by
  apply State.bootsOn_of_eq <;> unfold State.loadSetting <;> simp only <;> split <;> (try split) <;> simp

theorem State.bootSettings_bootsOn (s : State) : s.bootsOn s.bootSettings := by
  unfold State.bootSettings
  split
  · exact State.bootsOn.trans (t := { s with work := { s.work with defaulted := true } }) ⟨rfl, rfl, rfl, rfl, rfl, rfl⟩
      (State.raise_bootsOn _ _)
  · refine State.bootsOn.trans ?_ (State.bootsOn_foldl (fun t id => t.loadSetting_bootsOn _ _ id) _ _)
    exact ⟨rfl, rfl, rfl, rfl, rfl, rfl⟩

theorem State.loadParamReg_bootsOn (s : State) (id : Nat) : s.bootsOn (s.loadParamReg id) := by
  apply State.bootsOn_of_eq <;> unfold State.loadParamReg State.setPortField State.writeArbRank State.setField <;> simp only <;>
    split <;> (try split) <;> simp [State.setRegN_up]

theorem State.syncGroups_bootsOn (s old : State) : s.bootsOn (s.syncGroups old) := by
  unfold State.syncGroups State.loadFilters
  refine State.bootsOn.trans ?_ (State.bootsOn_foldl (fun t g => State.bootsOn_foldl (fun v p => v.sendOwn_bootsOn p _) _ t) _ _)
  have filters : ∀ (p : Port) (l : List (Nat × Bool)) (t : State), t.bootsOn (t.loadFilters p l) := fun p l t =>
    State.bootsOn_foldl (fun v i => by
      split
      · exact (v.setRegN_bootsOn _ _).trans (State.setRegN_bootsOn _ _ _)
      · exact (v.setRegN_bootsOn _ _).trans (State.setRegN_bootsOn _ _ _)) _ _
  refine State.bootsOn.trans ?_ ((filters .a _ _).trans ((filters .b _ _).trans (filters .sv _ _)))
  exact State.bootsOn_of_eq rfl rfl rfl

theorem State.bootParams_bootsOn (s : State) : s.bootsOn s.bootParams := by
  have hregs : s.bootsOn s.loadParamRegs := State.bootsOn_foldl State.loadParamReg_bootsOn regParams s
  unfold State.bootParams
  generalize s.loadParamRegs = t at hregs ⊢
  refine hregs.trans (State.bootsOn.trans ?_ (State.syncGroups_bootsOn _ _))
  exact State.bootsOn_of_eq rfl rfl rfl

theorem State.bootBanks_bootsOn (s : State) (b : BootInputs) : s.bootsOn (s.bootBanks b) := by
  have hset : ∀ (t : State) (i : Nat) (k : Bank), t.bootsOn (t.setBank i k) := fun _ _ _ => State.bootsOn_of_eq rfl rfl rfl
  unfold State.bootBanks
  exact State.bootsOn_foldl (fun t i => hset t i _) _ _

theorem State.marginLow_bootsOn (s : State) (target value floor : Nat) : s.bootsOn (s.marginLow target value floor) := by
  unfold State.marginLow
  split
  · exact State.bootsOn.trans (t := { s with trim := { s.trim with marginLow := true } }) (State.bootsOn_of_eq rfl rfl rfl)
      (State.raiseAt_bootsOn _ _ _)
  · exact s.bootsOn_refl

theorem State.bootEyes_bootsOn (s : State) (b : BootInputs) : s.bootsOn (s.bootEyes b) := by
  unfold State.bootEyes
  refine State.bootsOn.trans ?_ (State.bootsOn_foldl (fun t i => t.marginLow_bootsOn _ _ _) _ _)
  exact State.bootsOn_of_eq rfl rfl rfl

theorem State.putTable_bootsOn (s : State) (id : Nat) (m : SMap Nat) : s.bootsOn (s.putTable id m) := by
  unfold State.putTable
  split
  · exact State.bootsOn_of_eq rfl rfl rfl
  · split <;> exact State.bootsOn_of_eq rfl rfl rfl

theorem State.loadBank_bootsOn (s : State) (b : FlashBank) : s.bootsOn (s.loadBank b) := by
  unfold State.loadBank
  refine State.bootsOn.trans ?_ (State.bootsOn_foldl (fun t q => t.putTable_bootsOn _ _) _ _)
  exact State.bootsOn_of_eq rfl rfl rfl

theorem State.loadBanks_bootsOn (s : State) : s.bootsOn s.loadBanks := by
  have bad : ∀ t : State, t.bootsOn (({ t with sys := { t.sys with calBankBad := true } } : State).raise Ev.CAL_BANK_BAD) := fun t =>
    State.bootsOn.trans (t := { t with sys := { t.sys with calBankBad := true } }) ⟨rfl, rfl, rfl, rfl, rfl, rfl⟩
      (State.raise_bootsOn _ _)
  unfold State.loadBanks
  split
  · exact s.loadBank_bootsOn _
  · refine State.bootsOn.trans (State.bootsOn.trans ?_ (bad _)) (State.loadBank_bootsOn _ _)
    exact State.bootsOn_of_eq rfl rfl rfl
  · exact bad s

theorem State.imageBad_bootsOn (s : State) (which : Nat) (f : Option FlashImage) : s.bootsOn (s.imageBad which f) := by
  unfold State.imageBad
  split
  · exact s.raiseWith_bootsOn _ _ _
  · split
    · exact s.bootsOn_refl
    · exact s.raiseWith_bootsOn _ _ _

theorem State.loadImages_bootsOn (s : State) : s.bootsOn s.loadImages := by
  unfold State.loadImages
  refine State.bootsOn.trans ?_ ((State.imageBad_bootsOn _ _ _).trans (State.imageBad_bootsOn _ _ _))
  exact State.bootsOn_of_eq rfl rfl rfl

theorem State.bootUpdate_bootsOn (s : State) : s.bootsOn s.bootUpdate := by
  unfold State.bootUpdate
  split <;> exact ⟨rfl, rfl, rfl, rfl, rfl, rfl⟩

/-- What the ROM found is raised. -/
theorem State.bootEngines_bootsOn (s : State) :
    State.bootsOn { s with sys := { s.sys with fwVersion := (s.work.running.map (·.fwVersion)).getD 0 } } s.bootEngines := by
  unfold State.bootEngines
  simp only
  refine State.bootsOn.trans ?_ (State.bootsOn_foldl (fun t _ => t.raise_bootsOn _) _ _)
  refine State.bootsOn.trans ?_ (State.bootsOn_foldl (fun t n => t.raiseAt_bootsOn _ n) _ _)
  generalize (s.work.running.map (·.fwVersion)).getD 0 = v
  have hemit : ∀ t : State, t.bootsOn t.emitEpoch := fun t =>
    State.bootsOn_of_eq (State.emit_work _ _ _ _ _) (State.emit_sys _ _ _ _ _) (State.emit_up _ _ _ _ _)
  have hstart : State.bootsOn { s with sys := { s.sys with fwVersion := v } }
      ({ s with sys := { s.sys with fwVersion := v, phase := 4 }, jnl := { s.jnl with started := true } } : State).emitEpoch :=
    State.bootsOn.trans ⟨rfl, rfl, rfl, rfl, rfl, rfl⟩ (hemit _)
  split
  · exact hstart.trans (State.raise_bootsOn _ _)
  · exact hstart

theorem State.changeModeOpen_mode (s : State) (m : Mode) : (s.changeModeOpen m).mode = m := by
  unfold State.changeModeOpen
  split
  · assumption
  · rename_i h
    exact (State.changeMode_changes (s := { s with draws := s.draws + 1 }) h _).1

theorem State.changeModeOpen_frame (s : State) (m : Mode) :
    (s.changeModeOpen m).sys = s.sys ∧ (s.changeModeOpen m).work = s.work ∧ (s.changeModeOpen m).up = s.up ∧
      (s.changeModeOpen m).ctrl.reqFree = s.ctrl.reqFree := by
  unfold State.changeModeOpen
  split
  · exact ⟨rfl, rfl, rfl, rfl⟩
  · unfold State.changeMode
    simp only
    rw [if_neg (by assumption)]
    exact ⟨by simp, by simp, by simp, by simp [State.irq]⟩

theorem State.startLockout_frame (s : State) :
    s.startLockout.sys = s.sys ∧ s.startLockout.work.running = s.work.running ∧ s.startLockout.work.downloaded = s.work.downloaded ∧
      s.startLockout.up = s.up ∧ s.startLockout.mode = s.mode ∧ s.startLockout.ctrl.reqFree = s.ctrl.reqFree := by
  unfold State.startLockout
  split
  · exact ⟨rfl, rfl, rfl, rfl, rfl, rfl⟩
  · exact ⟨by simp, by simp, by simp, by simp, by simp, by simp⟩

/-- R494, step 11: the device is in IDLE. -/
theorem State.bootEnd_idle (s : State) :
    s.bootEnd.sys = { s.sys with phase := 5, faultN := false } ∧ s.bootEnd.mode = .idle ∧ s.bootEnd.ctrl.reqFree = true ∧
      s.bootEnd.work.running = s.work.running ∧ s.bootEnd.work.downloaded = s.work.downloaded ∧ s.bootEnd.up = s.up := by
  unfold State.bootEnd
  generalize hu : ({ s with
    sys := { s.sys with phase := 5, faultN := false }
    ctrl := { s.ctrl with reqFree := true, autoLiveArmed := true }
    hearth := { s.hearth with od := { driving := s.drivesAtBoot } }
    work := { s.work with idleUp := s.up, bootEndUp := s.up, confirmWindow := s.param P.CONFIRM_WINDOW } } : State) = u
  obtain ⟨hsys, hrun, hdl, hup, hmode, hfree⟩ := ((u.changeModeOpen .idle).irq Irq.REQ_FREE).startLockout_frame
  obtain ⟨hsys', hwork', hup', hfree'⟩ := u.changeModeOpen_frame .idle
  have husys : u.sys = { s.sys with phase := 5, faultN := false } := hu ▸ rfl
  have hurun : u.work.running = s.work.running ∧ u.work.downloaded = s.work.downloaded := hu ▸ ⟨rfl, rfl⟩
  have huup : u.up = s.up ∧ u.ctrl.reqFree = true := hu ▸ ⟨rfl, rfl⟩
  refine ⟨hsys.trans (hsys'.trans husys), hmode.trans (u.changeModeOpen_mode .idle), hfree.trans (hfree'.trans huup.2), ?_, ?_,
    hup.trans (hup'.trans huup.1)⟩
  · exact hrun.trans ((congrArg Work.running hwork').trans hurun.1)
  · exact hdl.trans ((congrArg Work.downloaded hwork').trans hurun.2)

theorem State.portsTrained_bootsOn (s : State) : s.bootsOn s.portsTrained := State.bootsOn_of_eq rfl rfl rfl

theorem State.layoutDram_bootsOn (s : State) : s.bootsOn s.layoutDram := State.bootsOn_of_eq rfl rfl rfl

theorem State.bootRole_bootsOn (s : State) : s.bootsOn s.bootRole := State.bootsOn_of_eq rfl rfl rfl

/-- R494: steps 7 to 11 end in `bootEnd`, with the image that runs in place. -/
theorem State.finishBoot_ends {s : State} {b : BootInputs} (h : s.sys.boot = some b) : ∃ z : State, s.finishBoot = z.bootEnd ∧
    State.bootsOn { s with sys := { s.sys with fwVersion := (s.work.running.map (·.fwVersion)).getD 0 } } z := by
  have settings := s.bootEngines_bootsOn.trans ((State.bootSettings_bootsOn _).trans (State.bootParams_bootsOn _))
  have board := fun t : State => ((t.bootBanks_bootsOn b).trans (State.bootEyes_bootsOn _ b)).trans (State.portsTrained_bootsOn _)
  have content := fun t : State => (t.loadBanks_bootsOn.trans (State.layoutDram_bootsOn _)).trans (State.loadImages_bootsOn _)
  have role := fun t : State => t.bootRole_bootsOn.trans (State.bootUpdate_bootsOn _)
  refine ⟨_, ?_, ((settings.trans (board _)).trans (content _)).trans (role _)⟩
  unfold State.finishBoot
  simp only [h]

/-- R494: what the end of the start-up shows of the device and of the image that runs. -/
structure State.upAndIdle (s t : State) : Prop where
  phase : t.sys.phase = 5
  mode : t.mode = .idle
  faultN : t.sys.faultN = false
  reqFree : t.ctrl.reqFree = true
  version : t.sys.fwVersion = (s.work.running.map (·.fwVersion)).getD 0
  running : t.work.running = s.work.running
  downloaded : t.work.downloaded = s.work.downloaded
  strap : t.sys.strap = s.sys.strap
  dlTimeout : t.sys.dlTimeout = s.sys.dlTimeout
  up : t.up = s.up

/-- R494: steps 7 to 11 bring the device up. -/
theorem State.finishBoot_upAndIdle {s : State} {b : BootInputs} (h : s.sys.boot = some b) : s.upAndIdle s.finishBoot := by
  obtain ⟨z, hz, hrun, hdl, hver, hstrap, hto, hup⟩ := State.finishBoot_ends h
  obtain ⟨hsys, hmode, hfree, hrun', hdl', hup'⟩ := z.bootEnd_idle
  rw [hz]
  constructor
  · rw [hsys]
  · exact hmode
  · rw [hsys]
  · exact hfree
  · rw [hsys]
    exact hver
  · exact hrun'.trans hrun
  · exact hdl'.trans hdl
  · rw [hsys]
    exact hstrap
  · rw [hsys]
    exact hto
  · exact hup'.trans hup

/-! ### The download window -/

/-- R499: a download with more bytes in hand. -/
def Download.taken (d : Download) (l : List Byte) : Download :=
  { d with st := dlReceiving, bytes := d.bytes ++ l, next := d.next + l.length }

theorem length_bytesOfWords (ws : List Word) : (bytesOfWords ws).length = 4 * ws.length := by
  induction ws with
  | nil => rfl
  | cons w ws ih =>
    rw [bytesOfWords, List.length_append, length_beBytes, ih, List.length_cons]
    omega

/-- R499: the bytes of the submit buffer. -/
def State.dlBuffer (s : State) : List Byte := bytesOfWords ((List.range 256).map fun i => SMap.get (fun _ => 0) s.sys.dl.buf i)

theorem State.length_dlBuffer (s : State) : s.dlBuffer.length = 1024 := by
  unfold State.dlBuffer
  rw [length_bytesOfWords, List.length_map, List.length_range]

/-- R499: bytes that start at DL_NEXT are taken. -/
theorem State.dlTake_at {s : State} {off : Nat} {data : List Byte} (hoff : s.sys.dl.next = off) (hdata : 1 ≤ data.length) :
    s.dlTake off data = { s with sys := { s.sys with dl := (s.dlRun 1024 (s.sys.dl.taken data)).verdict } } := by
  have hne : data.isEmpty = false := by cases data <;> simp at hdata ⊢
  subst hoff
  unfold State.dlTake
  simp only [hne, Nat.lt_irrefl, Bool.false_eq_true, or_self, if_false, Nat.sub_self, List.drop_zero]
  rfl

/-- R499: bytes past DL_NEXT are ignored. -/
theorem State.dlTake_past {s : State} {off : Nat} (hoff : s.sys.dl.next < off) (data : List Byte) : s.dlTake off data = s := by
  unfold State.dlTake
  simp only
  rw [if_pos (Or.inr hoff)]

/-- R497: fewer bytes than a manifest has wait for more. -/
theorem State.dlRun_waits (s : State) {d : Download} (hm : d.manifest = none) (hlen : d.bytes.length < 256) (fuel : Nat) :
    s.dlRun (fuel + 1) d = d := by
  have hstep : s.dlStep d = (d, false) := by
    unfold State.dlStep
    simp only [hm, hlen, if_true]
  simp [State.dlRun, hstep]

theorem State.dlRun_taken (s : State) {d : Download} {l : List Byte} (hm : d.manifest = none) (hd : d.bytes = [])
    (hlen : l.length < 256) : (s.dlRun 1024 (d.taken l)).verdict = d.taken l := by
  rw [s.dlRun_waits (d := d.taken l) hm (by simpa [Download.taken, hd] using hlen) 1023]
  unfold Download.verdict Download.taken
  simp only [hm]

theorem State.dlBoot_waits {s : State} (h : s.sys.dl.st ≠ dlAccepted) : s.dlBoot = s := if_pos h

/-- R497: an accepted package runs. -/
theorem State.dlBoot_runs {s : State} {m : Manifest} (hb : s.sys.boot.isSome = true) (h : s.sys.dl.st = dlAccepted)
    (hm : s.sys.dl.manifest = some m) : s.dlBoot.sys.phase = 5 ∧ s.dlBoot.mode = .idle ∧ s.dlBoot.work.downloaded = true ∧
      s.dlBoot.work.running = some m ∧ s.dlBoot.sys.fwVersion = m.fwVersion ∧ s.dlBoot.sys.faultN = false := by
  obtain ⟨b, hb⟩ := Option.isSome_iff_exists.mp hb
  unfold State.dlBoot
  simp only [h, ne_eq, not_true_eq_false, if_false]
  generalize hu : ({ s with
      sys := { s.sys with dl := { strap := s.sys.dl.strap } }
      work := { s.work with
        upd := .none, downloaded := true, running := s.sys.dl.manifest, runningBlocks := s.sys.dl.blocks } } : State) = u
  have hrun : u.work.running = some m := by rw [← hu, ← hm]
  have hdl : u.work.downloaded = true := by rw [← hu]
  have hboot : u.sys.boot = some b := by rw [← hu, ← hb]
  have up := State.finishBoot_upAndIdle hboot
  exact ⟨up.phase, up.mode, up.downloaded.trans hdl, up.running.trans hrun,
    up.version.trans (by rw [hrun]; rfl), up.faultN⟩

/-! ### DL_CTRL -/

/-- R499: SUBMIT of `len` bytes. -/
theorem writeDlCtrl_submits {s : State} {len : Nat} (hp : s.sys.phase = 3) (hs : s.sys.strap = 1) (h1 : 1 ≤ len)
    (h2 : len ≤ 1024) : s.writeDlCtrl (BitVec.ofNat 32 (len * 65536 + 1)) =
      (s.dlTake s.sys.dl.offset.toNat (s.dlBuffer.take len)).dlBoot := by
  have hv : (BitVec.ofNat 32 (len * 65536 + 1)).toNat = len * 65536 + 1 := by
    rw [BitVec.toNat_ofNat]
    omega
  have hlen : bits (len * 65536 + 1) 26 16 = len := by
    unfold bits
    omega
  have hbit : (BitVec.ofNat 32 (len * 65536 + 1)).getLsbD 0 = true := by
    rw [BitVec.getLsbD, hv, Nat.testBit_zero]
    simp
    omega
  unfold State.writeDlCtrl
  simp only [hv, hlen, hbit, hp, hs]
  rw [if_neg (by simp; omega)]
  rfl

/-- R500: a datagram of the download. -/
theorem execDownloadDatagram_takes {s : State} {off : Nat} {data : List Byte} (src : Endpoint) (hp : s.sys.phase = 3)
    (hs : s.sys.strap = 2) (hoff : off < 2 ^ 32) (h1 : 1 ≤ data.length) (h2 : data.length ≤ 1024) :
    execDownloadDatagram true src (beBytes 2 0x444C ++ [0, 0] ++ beBytes 4 off ++ data) s =
      .next ({ s.dlTake off data with macSv := { (s.dlTake off data).macSv with
        sent := dlAnswer (s.dlTake off data).sys.dl src :: (s.dlTake off data).macSv.sent } } : State).dlBoot := by
  obtain ⟨head, hhead⟩ : ∃ head, head = beBytes 2 0x444C ++ [0, 0] ++ beBytes 4 off := ⟨_, rfl⟩
  have hlen : head.length = 8 := by rw [hhead]; simp [length_beBytes]
  have hmagic : field (head ++ data) 0 2 = 0x444C := by
    rw [hhead, List.append_assoc, List.append_assoc]
    exact field_beBytes_append_of_lt (by decide) _
  have hfield : field (head ++ data) 4 4 = off := by
    rw [hhead, List.append_assoc, field_append_of_le (by simp [length_beBytes])]
    exact field_beBytes_append_of_lt (by omega) _
  have hdrop : (head ++ data).drop 8 = data := List.drop_left' hlen
  rw [← hhead]
  unfold execDownloadDatagram
  rw [if_neg (by rw [List.length_append, hlen, hmagic]; simp [hp, hs]; omega), hfield, hdrop]

/-- R497: the download after the bytes that complete a package. -/
theorem State.dlTake_accepts {s : State} {off : Nat} {data : List Byte} {m : Manifest} (hoff : s.sys.dl.next = off)
    (hdata : 1 ≤ data.length) (hacc : (s.dlRun 1024 (s.sys.dl.taken data)).verdict.st = dlAccepted)
    (hman : (s.dlRun 1024 (s.sys.dl.taken data)).verdict.manifest = some m) :
    (s.dlTake off data).sys.dl.st = dlAccepted ∧ (s.dlTake off data).sys.dl.manifest = some m ∧
      (s.dlTake off data).sys.boot = s.sys.boot := by
  rw [State.dlTake_at hoff hdata]
  exact ⟨hacc, hman, rfl⟩

/-- R497: the download after bytes that complete no manifest. -/
theorem State.dlTake_waits {s : State} {off : Nat} {data : List Byte} (hoff : s.sys.dl.next = off) (hdata : 1 ≤ data.length)
    (hlen : data.length < 256) (hm : s.sys.dl.manifest = none) (hb : s.sys.dl.bytes = []) :
    s.dlTake off data = { s with sys := { s.sys with dl := s.sys.dl.taken data } } := by
  rw [State.dlTake_at hoff hdata, State.dlRun_taken s hm hb hlen]

/-- R498: the end of the window boots the slot of step 3. -/
theorem execDlWindowClose_boots {s : State} (hp : s.sys.phase = 3) (hboot : s.sys.boot.isSome = true) :
    ∃ t, execDlWindowClose s = .next t ∧ t.sys.dlTimeout = true ∧ t.sys.phase = 5 ∧ t.mode = .idle ∧
      s.sys.releaseUp + 1000000000 ≤ t.up := by
  obtain ⟨due, hdue⟩ : ∃ due, due = s.sys.releaseUp + 1000000000 := ⟨_, rfl⟩
  obtain ⟨b, hb⟩ := Option.isSome_iff_exists.mp hboot
  unfold execDlWindowClose
  rw [if_neg (by simp [hp]), ← hdue]
  have hb' : (s.reach due).sys.boot = some b := by rw [State.reach_sys, hb]
  have up := State.finishBoot_upAndIdle (s := { s.reach due with
    sys := { (s.reach due).sys with dlTimeout := true, dl := { strap := (s.reach due).sys.dl.strap } } }) hb'
  exact ⟨_, rfl, up.dlTimeout, up.phase, up.mode, Nat.le_trans (s.le_reach_up due) (Nat.le_of_eq up.up.symm)⟩

/-- Settles O60: bytes past DL_NEXT change nothing, bytes at DL_NEXT are taken, and the package that is whole and whose digest
holds starts the rest of the start-up, as the end of the window does. -/
theorem downloadWindowTakesBytesInOrder : Obligations.DownloadWindowTakesBytesInOrder := by
  unfold Obligations.DownloadWindowTakesBytesInOrder
  intro s len src off data m hp
  have hbuf : 1 ≤ len → len ≤ 1024 → (s.dlBuffer.take len).length = len := fun _ h2 => by
    rw [List.length_take, s.length_dlBuffer, Nat.min_eq_left h2]
  refine ⟨fun hs h1 h2 hst hoff => ?_, fun hs h1 h2 hoff hm hb => ?_, fun hs hoff h1 h2 hnext hm hb => ?_,
    fun hs hoff h1 h2 hnext hboot hacc hman => ?_, fun hs h1 h2 hoff hboot hacc hman => ?_, execDlWindowClose_boots hp⟩
  · rw [exec, execDlCtrl, writeDlCtrl_submits hp hs h1 h2, State.dlTake_past hoff, State.dlBoot_waits hst]
  · have hl := hbuf h1 (by omega)
    have htake := State.dlTake_waits hoff.symm (by omega) (by omega : (s.dlBuffer.take len).length < 256) hm hb
    refine ⟨_, congrArg Host.Outcome.next (writeDlCtrl_submits hp hs h1 (by omega)), ?_⟩
    rw [htake, State.dlBoot_waits (by decide : dlReceiving ≠ dlAccepted)]
    exact ⟨congrArg (s.sys.dl.next + ·) hl, by rw [Download.taken, hb]; exact hl, rfl, rfl⟩
  · refine ⟨_, execDownloadDatagram_takes src hp hs hoff h1 (by omega), ?_⟩
    rw [State.dlTake_waits hnext h1 h2 hm hb, State.dlBoot_waits (by decide : dlReceiving ≠ dlAccepted)]
    exact ⟨by rw [Download.taken, hb]; rfl, congrArg (· + data.length) hnext, rfl, rfl⟩
  · obtain ⟨hst, hman', hboot'⟩ := State.dlTake_accepts hnext h1 hacc hman
    exact ⟨_, execDownloadDatagram_takes src hp hs hoff h1 h2, State.dlBoot_runs (hboot' ▸ hboot) hst hman'⟩
  · obtain ⟨hst, hman', hboot'⟩ := State.dlTake_accepts hoff.symm ((hbuf h1 h2).symm ▸ h1) hacc hman
    exact ⟨_, congrArg Host.Outcome.next (writeDlCtrl_submits hp hs h1 h2), State.dlBoot_runs (hboot' ▸ hboot) hst hman'⟩

end Sys2Proof.Machine
end

section
/-! ## The start-up from its release: R459, R472, R493 to R496, R525 -/

namespace Sys2Proof.Machine

/-- R494: the ROM runs, and has found no fault so far. -/
structure State.inRom (t : State) (b : BootInputs) : Prop where
  phase : t.sys.phase = 0
  mode : t.mode = .boot
  faultN : t.sys.faultN = true
  strap : t.sys.strap = b.bootStrap.toNat
  boot : t.sys.boot = some b

/-- R459: a slot of the device passes step 3. -/
def Nvm.hasSlot (n : Nvm) : Prop := (n.slotIfValid false).isSome ∨ (n.slotIfValid true).isSome

theorem Nvm.hasSlot_of_some {n : Nvm} {k : Bool} {f : FwSlot} (h : n.slotIfValid k = some f) : n.hasSlot := by
  cases k
  · exact Or.inl (by rw [h]; rfl)
  · exact Or.inr (by rw [h]; rfl)

theorem Nvm.hasSlot_iff (n : Nvm) (k : Bool) :
    n.hasSlot ↔ (n.slotIfValid k).isSome ∨ (n.slotIfValid (!k)).isSome := by
  cases k
  · exact Iff.rfl
  · exact or_comm

/-- R459: with a slot that is valid the ROM runs on. -/
theorem State.bootActive_runs {s : State} {b : BootInputs} (h : s.inRom b) (hslot : s.nvm.hasSlot) : s.bootActive.inRom b := by
  unfold State.bootActive
  simp only
  split
  · exact ⟨h.phase, h.mode, h.faultN, h.strap, h.boot⟩
  · exact ⟨h.phase, h.mode, h.faultN, h.strap, h.boot⟩
  · rename_i ha hb
    rcases (s.nvm.hasSlot_iff s.nvm.activeSlotB).mp hslot with hslot | hslot
    · rw [ha] at hslot
      cases hslot
    · rw [hb] at hslot
      cases hslot

/-- R496: what a start-up that failed shows. -/
structure State.bootStopped (t : State) : Prop where
  phase : t.sys.phase = 7
  mode : t.mode = .boot
  faultN : t.sys.faultN = true

/-- R496: NO_SLOT. -/
theorem State.bootActive_fails {s : State} {b : BootInputs} (h : s.inRom b) (hslot : ¬s.nvm.hasSlot) :
    s.bootActive.bootStopped ∧ s.bootActive.sys.noSlot = true := by
  unfold State.bootActive
  simp only
  split
  · rename_i ha
    exact absurd (Nvm.hasSlot_of_some ha) hslot
  · rename_i hb
    exact absurd (Nvm.hasSlot_of_some hb) hslot
  · exact ⟨⟨rfl, h.mode, h.faultN⟩, rfl⟩

/-- R472: the trial that is given up leaves the slots as they are. -/
def State.trialBack (s : State) : State :=
  { s with nvm := { s.nvm with trialState := 0 }.logBoot, sys := { s.sys with fallback := true } }

/-- R472: the trial runs its own slot, or the start-up goes on with the active one. -/
theorem State.bootTrial_cases (s : State) : s.bootTrial = s.bootActive ∨ s.bootTrial = s.trialBack.bootActive ∨
    ∃ f, s.nvm.slotIfValid s.nvm.trialSlotB = some f ∧ s.bootTrial = ({ s with
      nvm := { s.nvm with trialState := 2 }.logBoot, work := { s.work with upd := .trial } } : State).runSlot s.nvm.trialSlotB f := by
  unfold State.bootTrial
  simp only
  split
  · exact Or.inl rfl
  · rename_i f _ hf
    exact Or.inr (Or.inr ⟨f, hf, rfl⟩)
  · exact Or.inr (Or.inl rfl)

theorem State.bootTrial_runs {s : State} {b : BootInputs} (h : s.inRom b) (hslot : s.nvm.hasSlot) : s.bootTrial.inRom b := by
  rcases s.bootTrial_cases with he | he | ⟨f, -, he⟩ <;> rw [he]
  · exact State.bootActive_runs h hslot
  · exact State.bootActive_runs (s := s.trialBack) ⟨h.phase, h.mode, h.faultN, h.strap, h.boot⟩ hslot
  · exact ⟨h.phase, h.mode, h.faultN, h.strap, h.boot⟩

theorem State.bootTrial_fails {s : State} {b : BootInputs} (h : s.inRom b) (hslot : ¬s.nvm.hasSlot) :
    s.bootTrial.bootStopped ∧ s.bootTrial.sys.noSlot = true := by
  rcases s.bootTrial_cases with he | he | ⟨f, hf, -⟩
  · rw [he]
    exact State.bootActive_fails h hslot
  · rw [he]
    exact State.bootActive_fails (s := s.trialBack) ⟨h.phase, h.mode, h.faultN, h.strap, h.boot⟩ hslot
  · exact absurd (Nvm.hasSlot_of_some hf) hslot

theorem State.andBoot_of_stopped {s : State} (h : s.bootStopped) (f : State → State) : s.andBoot f = s := if_pos h.phase

theorem State.andBoot_of_inRom {s : State} {b : BootInputs} (h : s.inRom b) (f : State → State) : s.andBoot f = f s :=
  if_neg (by rw [h.phase]; decide)

theorem State.bootRepair_fails {s : State} {b : BootInputs} (h : s.inRom b) (hc : b.critical = true) :
    (s.bootRepair b).bootStopped ∧ (s.bootRepair b).sys.criticalMem = true := by
  unfold State.bootRepair
  simp only [hc, if_true]
  exact ⟨⟨rfl, h.mode, h.faultN⟩, rfl⟩

theorem State.bootRepair_runs {s : State} {b : BootInputs} (h : s.inRom b) (hc : b.critical = false) :
    (s.bootRepair b).inRom b := by
  unfold State.bootRepair
  simp only [hc, Bool.false_eq_true, if_false]
  exact ⟨h.phase, h.mode, h.faultN, h.strap, h.boot⟩

/-- R496: the DRAM that a start-up needs. -/
def enoughDram (b : BootInputs) : Prop := (b.ch0 = true ∨ b.ch1 = true) ∧ 512 ≤ b.mb

theorem State.bootDram_fails {s : State} {b : BootInputs} (h : s.inRom b) (hd : ¬enoughDram b) : (s.bootDram b).bootStopped := by
  unfold State.bootDram
  rw [if_neg (by simpa [enoughDram] using hd)]
  exact ⟨rfl, h.mode, h.faultN⟩

theorem State.bootDram_runs {s : State} {b : BootInputs} (h : s.inRom b) (hd : enoughDram b) : (s.bootDram b).inRom b := by
  unfold State.bootDram
  rw [if_pos (by simpa [enoughDram] using hd)]
  exact ⟨h.phase, h.mode, h.faultN, h.strap, h.boot⟩

theorem State.bootJournal_runs {s : State} {b : BootInputs} (h : s.inRom b) : (s.bootJournal b).inRom b :=
  ⟨h.phase, h.mode, h.faultN, h.strap, h.boot⟩

/-- R493: the state in which the ROM starts. -/
theorem State.bootFlash_inRom (s : State) (b : BootInputs) : ((s.bootLatch b).bootFlash b).inRom b := ⟨rfl, rfl, rfl, rfl, rfl⟩

/-! ### The outcomes of a start-up -/

theorem State.runBoot_noSlot {s : State} (b : BootInputs) (h : ¬s.nvm.hasSlot) :
    (s.runBoot b).bootStopped ∧ (s.runBoot b).sys.noSlot = true := by
  have ht := State.bootTrial_fails (s.bootFlash_inRom b) h
  unfold State.runBoot
  rw [State.andBoot_of_stopped ht.1, State.andBoot_of_stopped ht.1, State.andBoot_of_stopped ht.1,
    State.andBoot_of_stopped ht.1]
  exact ht

theorem State.runBoot_critical {s : State} {b : BootInputs} (h : s.nvm.hasSlot) (hc : b.critical = true) :
    (s.runBoot b).bootStopped ∧ (s.runBoot b).sys.criticalMem = true := by
  have ht := State.bootTrial_runs (s.bootFlash_inRom b) h
  have hr := State.bootRepair_fails ht hc
  unfold State.runBoot
  rw [State.andBoot_of_inRom ht, State.andBoot_of_stopped hr.1, State.andBoot_of_stopped hr.1, State.andBoot_of_stopped hr.1]
  exact hr

theorem State.runBoot_noDram {s : State} {b : BootInputs} (h : s.nvm.hasSlot) (hc : b.critical = false) (hd : ¬enoughDram b) :
    (s.runBoot b).bootStopped := by
  have ht := State.bootTrial_runs (s.bootFlash_inRom b) h
  have hr := State.bootRepair_runs ht hc
  have hm := State.bootDram_fails hr hd
  unfold State.runBoot
  rw [State.andBoot_of_inRom ht, State.andBoot_of_inRom hr, State.andBoot_of_stopped hm, State.andBoot_of_stopped hm]
  exact hm

/-- R494: with everything in order the ROM comes to step 6. -/
theorem State.runBoot_strap {s : State} {b : BootInputs} (h : s.nvm.hasSlot) (hc : b.critical = false) (hd : enoughDram b) :
    ∃ t : State, t.inRom b ∧ s.runBoot b = t.bootStrapStep := by
  have ht := State.bootTrial_runs (s.bootFlash_inRom b) h
  have hr := State.bootRepair_runs ht hc
  have hm := State.bootDram_runs hr hd
  have hj := State.bootJournal_runs hm
  refine ⟨_, hj, ?_⟩
  unfold State.runBoot
  rw [State.andBoot_of_inRom ht, State.andBoot_of_inRom hr, State.andBoot_of_inRom hm, State.andBoot_of_inRom hj]

theorem State.bootStrapStep_holds {t : State} {b : BootInputs} (h : t.inRom b) (hb : b.bootStrap = 3) :
    t.bootStrapStep.sys.phase = 6 ∧ t.bootStrapStep.mode = .boot ∧ t.bootStrapStep.sys.faultN = false := by
  unfold State.bootStrapStep
  rw [h.strap, hb]
  exact ⟨rfl, h.mode, rfl⟩

theorem State.bootStrapStep_boots {t : State} {b : BootInputs} (h : t.inRom b) (hb : b.bootStrap = 0) :
    t.bootStrapStep.sys.phase = 5 ∧ t.bootStrapStep.mode = .idle ∧ t.bootStrapStep.sys.faultN = false ∧
      t.bootStrapStep.ctrl.reqFree = true ∧ t.bootStrapStep.sys.strap = 0 := by
  have hs : t.sys.strap = 0 := by rw [h.strap, hb]; rfl
  have up := State.finishBoot_upAndIdle h.boot
  unfold State.bootStrapStep
  rw [hs]
  exact ⟨up.phase, up.mode, up.faultN, up.reqFree, up.strap.trans hs⟩

/-- R405: AUTO_LIVE acts once. -/
theorem execAutoLive_acts {v : State} (hm : v.mode = .idle) (ha : v.ctrl.autoLiveArmed = true)
    (hp : v.paramOn P.AUTO_LIVE = true) (hr : v.red.role ≠ .standby) (hl : v.hearth.servo = .locked) :
    execAutoLive v = .next { v with ctrl := { v.ctrl with autoLiveArmed := false, autoLiveDue := true } } := by
  unfold execAutoLive
  rw [if_pos ⟨ha, hm, hp, hr, by simp [State.mayPresent, hl]⟩]

/-- R496: the outcomes of a start-up. -/
def startUpOutcome (some_ : Prop) (b : BootInputs) (t : State) : Prop :=
  (¬some_ → t.sys.phase = 7 ∧ t.sys.noSlot = true ∧ t.mode = .boot ∧ t.sys.faultN = true) ∧
  (some_ → b.critical = true → t.sys.phase = 7 ∧ t.sys.criticalMem = true ∧ t.mode = .boot ∧ t.sys.faultN = true) ∧
  (some_ → b.critical = false → ¬enoughDram b → t.sys.phase = 7 ∧ t.mode = .boot ∧ t.sys.faultN = true) ∧
  (some_ → b.critical = false → enoughDram b → b.bootStrap = 3 → t.sys.phase = 6 ∧ t.mode = .boot ∧ t.sys.faultN = false) ∧
  (some_ → b.critical = false → enoughDram b → b.bootStrap = 0 → t.sys.phase = 5 ∧ t.mode = .idle ∧ t.sys.faultN = false ∧
    t.ctrl.reqFree = true ∧ t.sys.strap = 0)

theorem State.runBoot_outcome (s : State) (b : BootInputs) : startUpOutcome s.nvm.hasSlot b (s.runBoot b) := by
  refine ⟨fun h => ?_, fun h hc => ?_, fun h hc hd => ?_, fun h hc hd hb => ?_, fun h hc hd hb => ?_⟩
  · obtain ⟨stopped, hslot⟩ := s.runBoot_noSlot b h
    exact ⟨stopped.phase, hslot, stopped.mode, stopped.faultN⟩
  · obtain ⟨stopped, hmem⟩ := State.runBoot_critical h hc
    exact ⟨stopped.phase, hmem, stopped.mode, stopped.faultN⟩
  · have stopped := State.runBoot_noDram h hc hd
    exact ⟨stopped.phase, stopped.mode, stopped.faultN⟩
  · obtain ⟨t, ht, he⟩ := State.runBoot_strap h hc hd
    rw [he]
    exact State.bootStrapStep_holds ht hb
  · obtain ⟨t, ht, he⟩ := State.runBoot_strap h hc hd
    rw [he]
    exact State.bootStrapStep_boots ht hb

/-- Settles O59: the ROM goes on from step to step while it finds no fault, and ends at the first that it finds, or at what the
straps say. -/
theorem releaseRunsTheStartUp : Obligations.ReleaseRunsTheStartUp := by
  unfold Obligations.ReleaseRunsTheStartUp
  intro s b hreset
  refine ⟨fun hsup => ⟨s.runBoot b, ?_, s.runBoot_outcome b⟩, fun hsup hboot => ?_, fun v hm ha hp hr hl => ?_⟩
  · show execResetRelease b s = _
    unfold execResetRelease
    rw [hreset, hsup]
    rfl
  · refine ⟨({ s with sys := { s.sys with supervisor := false } } : State).runBoot b, ?_,
      State.runBoot_outcome { s with sys := { s.sys with supervisor := false } } b⟩
    show execSupplyReturn s = _
    unfold execSupplyReturn
    rw [hreset, hsup]
    simp only [hboot, Bool.true_eq_false, or_self, if_false]
  · refine ⟨_, execAutoLive_acts hm ha hp hr hl, rfl, ?_⟩
    show execAutoLive _ = _
    unfold execAutoLive
    rw [if_neg (by simp)]

end Sys2Proof.Machine
end

section
/-! ## Reset entry: R490 to R492, R473, R525 -/

namespace Sys2Proof.Machine

/-- R491: what every reset entry resets. -/
theorem State.enterReset_blocksReset (s : State) (cause : Nat) (warm keep : Bool) :
    (s.enterReset cause warm keep).blocksReset cause := by
  have hod : (Hearth.atReset s warm).od = {} := by
    unfold Hearth.atReset
    split <;> rfl
  unfold State.blocksReset State.enterReset
  exact ⟨rfl, rfl, rfl, rfl, rfl, rfl, rfl, rfl, rfl, rfl, rfl, rfl, rfl, rfl, rfl, rfl, rfl, rfl, rfl, hod, rfl, rfl, rfl,
    rfl, rfl⟩

/-- R370: the flight record outlives a warm reset. -/
theorem Journal.atReset_flight (j : Journal) (keep : Bool) : (j.atReset true keep).flight = j.flight := by
  unfold Journal.atReset
  cases h : keep && j.frozen <;> simp

theorem Journal.atReset_frozen {j : Journal} (h : j.frozen = true) : j.atReset true true = j := by
  unfold Journal.atReset
  simp [h]

theorem State.warmReset_reach (s : State) (cause due : Nat) : ((s.reach due).warmReset cause).blocksReset cause ∧
    due ≤ ((s.reach due).warmReset cause).up ∧ ((s.reach due).warmReset cause).nvm = s.nvm :=
  ⟨State.enterReset_blocksReset _ _ _ _, s.le_reach_up due, State.reach_nvm s due⟩

theorem execConfirmWindow_resets {s : State} {due : Nat} (hu : s.work.upd = .trial) (hf : s.firmwareUp = true)
    (hdue : due = s.work.bootEndUp + s.work.confirmWindow * 1000000000) :
    execConfirmWindow s = .next ((s.reach due).warmReset causeConfirm) := by
  unfold execConfirmWindow
  rw [if_pos ⟨hu, hf⟩, ← hdue]

theorem execResetAfterResponse_resets {s : State} {cause due : Nat} (h : s.work.resetDue = some (cause, due)) :
    execResetAfterResponse s = .next ((s.reach due).warmReset cause) := by
  unfold execResetAfterResponse
  rw [h]

theorem execSupervisorUndervoltage_resets {s : State} {mv ns c : Nat} (hmv : 30 < mv) (h : 1000 ≤ ns)
    (hr : s.sys.inReset = false) (hc : c = Config.freeNat s.draws % 8) : execSupervisorUndervoltage mv ns s =
      .next { ({ s with draws := s.draws + 1 } : State).enterReset c true false with
        sys := { (({ s with draws := s.draws + 1 } : State).enterReset c true false).sys with supervisor := true } } := by
  unfold execSupervisorUndervoltage
  rw [if_neg (by omega)]
  simp only [hr, Bool.false_eq_true, if_false, hc]

/-- Settles O58: each entry is `enterReset` of the state whose time has come. -/
theorem resetEntryResetsEveryBlock : Obligations.ResetEntryResetsEveryBlock := by
  unfold Obligations.ResetEntryResetsEveryBlock
  intro s ns mv
  refine ⟨fun h => ?_, fun h hr => ?_, fun hmv h hr => ?_, fun cause due h => ?_, fun hu hf => ?_, fun h => ⟨?_, ?_, ?_⟩⟩
  · refine ⟨(s.enterReset 0 false false).pinsHeld, if_neg (by omega), s.enterReset_blocksReset 0 false false, ?_⟩
    exact ⟨rfl, rfl, rfl, rfl, rfl⟩
  · refine ⟨(s.warmReset 1).pinsHeld, if_neg (by simp [hr]; omega), s.enterReset_blocksReset 1 true true, ?_⟩
    exact ⟨rfl, Bool.true_and _, rfl, s.jnl.atReset_flight true, fun hfrozen => Journal.atReset_frozen hfrozen⟩
  · obtain ⟨c, hc⟩ : ∃ c, c = Config.freeNat s.draws % 8 := ⟨_, rfl⟩
    refine ⟨_, c, execSupervisorUndervoltage_resets hmv h hr hc, State.enterReset_blocksReset _ c true false, rfl, rfl, rfl⟩
  · exact ⟨_, execResetAfterResponse_resets h, s.warmReset_reach cause due⟩
  · obtain ⟨due, hdue⟩ : ∃ due, due = s.work.bootEndUp + s.work.confirmWindow * 1000000000 := ⟨_, rfl⟩
    obtain ⟨hblocks, hup, hnvm⟩ := s.warmReset_reach causeConfirm due
    exact ⟨_, execConfirmWindow_resets hu hf hdue, hblocks, hdue ▸ hup, hnvm⟩
  · exact if_pos h
  · exact if_pos (Or.inl h)
  · exact if_pos (Or.inr h)

end Sys2Proof.Machine
end

section
/-! ## Boundary scan: R492, R517, R518 -/

namespace Sys2Proof.Machine

/-- R517: the modes in which the pins may be driven from the TAP. -/
def State.scanRest (s : State) : Prop := s.mode = .boot ∨ s.mode = .idle ∨ s.mode = .service

/-- R517: who may use the debug port. -/
def State.scanDebug (s : State) : Prop := s.scanRest ∧ s.sys.inReset = false ∧ (s.nvm.level ≠ 2 ∨ s.debugRight = true)

theorem State.scanAvailable_rest {s : State} {ir : Nat} (h : ir = 0 ∨ ir = 3 ∨ ir = 4 ∨ ir = 5 ∨ ir = 6) :
    s.scanAvailable ir = true ↔ s.scanRest := by
  rcases h with rfl | rfl | rfl | rfl | rfl <;> simp [State.scanAvailable, State.scanRest, or_assoc]

theorem State.scanAvailable_debug {s : State} {ir : Nat} (h : ir = 0x10 ∨ ir = 0x11) :
    s.scanAvailable ir = true ↔ s.scanDebug := by
  rcases h with rfl | rfl <;> simp [State.scanAvailable, State.scanDebug, State.scanRest, or_assoc, and_assoc]

/-- R518: `t` has instruction `k` selected where it is available, else BYPASS, and differs from `s` in the TAP alone unless an
instruction that held the pins was left. -/
def State.scans (s t : State) (k : Nat) (ok : Prop) : Prop :=
  (ok → t.tap.ir = k) ∧ (¬ok → t.tap.ir = 0xFF) ∧ t.nvm = s.nvm ∧ (s.tap.holdsPins = false → t = { s with tap := t.tap })

theorem State.leaveScan_nvm (s : State) (ir : Nat) : (s.leaveScan ir).nvm = s.nvm := by
  unfold State.leaveScan
  split
  · split <;> rfl
  · rfl

theorem State.leaveScan_of_free {s : State} (h : s.tap.holdsPins = false) (ir : Nat) : s.leaveScan ir = s := by
  unfold State.leaveScan
  rw [if_neg (by simp [h])]

/-- R518: the instruction register takes what is available. -/
theorem State.loadIr_scans {s : State} {ir : Nat} {ok : Prop} (h : s.scanAvailable ir = true ↔ ok) :
    s.scans (s.loadIr ir) ir ok := by
  refine ⟨fun hok => if_pos (h.mpr hok), fun hok => if_neg (mt h.mp hok), State.leaveScan_nvm _ _, fun hfree => ?_⟩
  unfold State.loadIr
  simp only [State.leaveScan_of_free hfree]

theorem State.loadIr_bypass {s : State} {ir : Nat} (h : s.scanAvailable ir = false) :
    s.scans (s.loadIr ir) 0xFF True := by
  obtain ⟨-, hno, hnvm, hfree⟩ := State.loadIr_scans (s := s) (ir := ir) (ok := False) (by simp [h])
  exact ⟨fun _ => hno not_false, fun hn => absurd trivial hn, hnvm, hfree⟩

/-- The other registers of the TAP change as well. -/
theorem State.scans.withTap {s t : State} {k : Nat} {ok : Prop} (h : s.scans t k ok) {p : Tap} (hp : p.ir = t.tap.ir) :
    s.scans { t with tap := p } k ok := by
  obtain ⟨hok, hno, hnvm, hfree⟩ := h
  refine ⟨fun h => hp.trans (hok h), fun h => hp.trans (hno h), hnvm, fun hf => ?_⟩
  show { t with tap := p } = { s with tap := p }
  rw [hfree hf]

theorem State.scans.shiftBoundary {s t : State} {k : Nat} {ok : Prop} (h : s.scans t k ok) (ir : Nat) (bs : List Bool) :
    s.scans (t.shiftBoundary ir bs) k ok := by
  unfold State.shiftBoundary
  split
  · exact h.withTap rfl
  · exact h

theorem State.scans.freeTdo {s t : State} {k : Nat} {ok : Prop} (h : s.scans t k ok) (ir : Nat) :
    s.scans (t.freeTdo ir) k ok := by
  unfold State.freeTdo
  split
  · exact h.withTap rfl
  · exact h

theorem State.shiftBoundary_boundary {t : State} {ir : Nat} (h : t.tap.ir = ir) (bs : List Bool) :
    (t.shiftBoundary ir bs).tap.boundary = bs := by
  unfold State.shiftBoundary
  rw [if_pos h]

/-- R518: EXTEST. -/
theorem State.extest_scans (s : State) (bs : List Bool) : s.scans ((s.loadIr 0).shiftBoundary 0 bs) 0 s.scanRest :=
  (State.loadIr_scans (State.scanAvailable_rest (Or.inl rfl))).shiftBoundary 0 bs

/-- R492, R518: an instruction that held the pins is left. -/
theorem State.scanExit_resets {s : State} (h : s.tap.holdsPins = true) :
    (s.loadIr 0xFF).tap.ir = 0xFF ∧ (s.loadIr 0xFF).nvm = s.nvm ∧ (s.sys.inReset = false → (s.loadIr 0xFF).blocksReset 5) := by
  obtain ⟨hir, -, hnvm, -⟩ := State.loadIr_bypass (s := s) (ir := 0xFF) rfl
  refine ⟨hir trivial, hnvm, fun hr => ?_⟩
  have hne : s.tap.ir ≠ 0xFF := fun he => by
    rw [Tap.holdsPins, he] at h
    exact absurd h (by decide)
  have hl : s.leaveScan 0xFF = s.warmReset causeScan := by
    unfold State.leaveScan
    rw [if_pos ⟨h, hne⟩, hr]
    rfl
  unfold State.loadIr
  simp only [show s.scanAvailable 0xFF = false from rfl, Bool.false_eq_true, if_false, hl]
  exact State.enterReset_blocksReset s causeScan true true

/-- Settles O57: each instruction is a load of the instruction register, and what it writes besides stays in the TAP. -/
theorem scanSelectsWhatIsAvailable : Obligations.ScanSelectsWhatIsAvailable := by
  unfold Obligations.ScanSelectsWhatIsAvailable
  intro s bs e v ir
  have free : ∀ k : Nat, s.scanAvailable k = true → s.scans (s.loadIr k) k True := fun k hk =>
    State.loadIr_scans (by simp [hk])
  have rest : ∀ k : Nat, k = 0 ∨ k = 3 ∨ k = 4 ∨ k = 5 ∨ k = 6 → s.scans (s.loadIr k) k s.scanRest := fun k hk =>
    State.loadIr_scans (State.scanAvailable_rest hk)
  have debug : ∀ k : Nat, k = 0x10 ∨ k = 0x11 → s.scans (s.loadIr k) k s.scanDebug := fun k hk =>
    State.loadIr_scans (State.scanAvailable_debug hk)
  have preload := (free 1 rfl).shiftBoundary 1 bs
  refine ⟨⟨_, rfl, s.extest_scans bs⟩, ⟨_, rfl, preload.withTap rfl⟩, ⟨_, rfl, (free 2 rfl).withTap rfl⟩,
    ⟨_, rfl, rest 3 (by decide)⟩, ⟨_, rfl, rest 4 (by decide)⟩, ⟨_, rfl, rest 5 (by decide)⟩, ⟨_, rfl, rest 6 (by decide)⟩,
    ⟨_, rfl, ?_⟩, ⟨_, rfl, (debug 0x11 (Or.inr rfl)).freeTdo 0x11⟩, ⟨_, rfl, (free 0x12 rfl).freeTdo 0x12⟩,
    ⟨_, rfl, free 2 rfl⟩, fun h => ⟨_, rfl, ?_⟩, ⟨_, rfl, ?_, ?_⟩, ⟨_, rfl, rfl⟩, fun h => ⟨_, rfl, ?_⟩,
    fun h => ⟨_, rfl, State.loadIr_bypass h⟩, fun h => ⟨_, if_pos h, State.scanExit_resets h⟩, fun h => if_neg (by simp [h])⟩
  · split
    · exact (debug 0x10 (Or.inl rfl)).withTap rfl
    · exact debug 0x10 (Or.inl rfl)
  · exact State.shiftBoundary_boundary ((rest 0 (Or.inl rfl)).1 h) bs
  · exact State.shiftBoundary_boundary ((free 1 rfl).1 trivial) bs
  · simp
  · have hir := (debug 0x10 (Or.inl rfl)).1 h
    rw [if_pos hir]

end Sys2Proof.Machine
end

section
/-! ## What the commands answer that read out: R371, R406, R408, R410 -/

namespace Sys2Proof.Machine

/-- A request that has begun answers what its command answers. -/
theorem State.answers_of_body {s u t : State} {op : Nat} {r : Request} {body : Body} {rep : Reply}
    (h : s.begun op r = some u) (hbody : body u r = (t, rep)) :
    (.next (s.mailbox op r body) : Host.Outcome State Fault Refusal) = .next (t.replied op r rep) :=
  congrArg _ (State.mailbox_begun_of_body h hbody)

theorem State.length_regReadWords (s : State) (a n : Nat) : (s.regReadWords a n).2.length = n := by
  induction n generalizing s a with
  | zero => rfl
  | succ n ih => exact congrArg (· + 1) (ih _ _)

theorem State.length_readCounters (s : State) (l : List Nat) : (s.readCounters l).2.length = l.length := by
  induction l generalizing s with
  | nil => rfl
  | cons a l ih => exact congrArg (· + 1) (ih _)

theorem b2n_and_not_add_b2n_le (b c : Bool) : b2n (b && !c) + b2n c ≤ 1 := by
  cases b <;> cases c <;> decide

/-- R410: each word is written, refused, or without a register. -/
theorem State.regWriteWords_counts_le (s : State) (by_ : Accessor) (a : Nat) (ws : List Word) :
    (s.regWriteWords by_ a ws).2.1 + (s.regWriteWords by_ a ws).2.2 ≤ ws.length := by
  induction ws generalizing s a with
  | nil => exact Nat.le_refl 0
  | cons w ws ih =>
    have hrest := ih (s.regWriteWord by_ a w) (a + 4)
    have hfirst := b2n_and_not_add_b2n_le (regRow a).isSome (s.ignoredRwl by_ a)
    rw [List.length_cons, State.regWriteWords]
    dsimp only
    omega

theorem length_wordsOf (p : List Byte) (n : Nat) : (wordsOf p n).length = n := by
  induction n generalizing p with
  | zero => rfl
  | succ n ih => exact congrArg (· + 1) (ih _)

/-- R371: the entries behind the header of the reply. -/
theorem State.journalReply_entries (s : State) (l : List (Nat × JEntry)) {first : Nat} (h : first < 2 ^ 64 - 1) (count kinds : Nat) :
    (s.journalReply l first count kinds).drop 24 =
      ((l.filter fun e => decide (first ≤ e.1) && kindSelected kinds e.2).take count).flatMap fun e => e.2.bytes := by
  have hne : first ≠ oldestEntry := by unfold oldestEntry; omega
  unfold State.journalReply
  simp only [hne, if_false]
  refine List.drop_left' ?_
  simp [length_beBytes]

theorem bodyJournalRead_reads {u : State} {r : Request} {l : List (Nat × JEntry)} (h1 : 1 ≤ byteAt r.payload 8)
    (h61 : byteAt r.payload 8 ≤ 61) (hsrc : byteAt r.payload 9 ≤ 1) (hkeep : bit (byteAt r.payload 10) 0 = false)
    (hl : u.jSourceEntries (decide (byteAt r.payload 9 = 1)) = some l) :
    bodyJournalRead u r = ({ u with draws := u.draws + 1 },
      .done Status.OK (u.journalReply l (field r.payload 0 8) (byteAt r.payload 8) (field r.payload 12 4))) := by
  unfold bodyJournalRead
  simp only
  rw [if_neg (by omega)]
  simp only [hl, hkeep, Bool.false_eq_true, if_false]

/-- Settles O44: each command has one case for what its request names, and its reply is that case. -/
theorem readoutCommandsAnswer : Obligations.ReadoutCommandsAnswer := by
  unfold Obligations.ReadoutCommandsAnswer
  intro s u r
  refine ⟨fun h hok => ⟨State.answers_of_body h ?_, State.length_regReadWords _ _ _⟩, fun h hbad => State.answers_of_body h ?_,
    fun h hok => ⟨State.answers_of_body h ?_, ?_⟩, fun h hok => ⟨State.answers_of_body h ?_, State.length_readCounters _ _⟩,
    fun l h h1 h61 hsrc hkeep hl => ⟨State.answers_of_body h (bodyJournalRead_reads h1 h61 hsrc hkeep hl),
      fun hfirst => State.journalReply_entries u l hfirst _ _⟩,
    fun h hmax hsub => State.answers_of_body h ?_, fun h hmax hsub =>
      ⟨.done Status.OK (eventsReply (u.client r.chan r.from_) (byteAt r.payload 1)), State.answers_of_body h ?_⟩⟩
  · simp only [bodyRegRead, hok, Bool.true_eq_false, if_false]
  · simp only [bodyRegRead, hbad, if_true]
  · simp only [bodyRegWrite, hok, Bool.true_eq_false, if_false]
  · exact Nat.le_trans (State.regWriteWords_counts_le _ _ _ _) (Nat.le_of_eq (length_wordsOf _ _))
  · simp only [bodyCountersRead, hok, Bool.true_eq_false, if_false]
  · simp only [bodyEventsRead, Nat.not_lt.mpr hmax, if_false, hsub, Bool.false_eq_true, eventsReply, List.length_take]
  · simp only [bodyEventsRead, Nat.not_lt.mpr hmax, if_false, hsub, if_true]

end Sys2Proof.Machine
end

section
/-! ## The commands of modes, time and roles: R6 to R9, R66, R79 to R82, R409, R416, R430, R444 -/

namespace Sys2Proof.Machine

theorem bodyModeSet_judges {u : State} {r : Request} {m : Mode} (hm : modeOf (byteAt r.payload 0) = some m)
    (hw : u.modeSetWaits = false) (hh : u.mode = .hold → m ≠ .live) :
    bodyModeSet u r = (u, if u.modeSetOk m then .wait (.modeSet m) else .plain Status.DENIED_MODE) := by
  have hlive : ¬(u.mode = .hold ∧ m = .live) := fun h => hh h.1 h.2
  unfold bodyModeSet
  simp only [hm, hw, hlive, Bool.false_eq_true, if_false]
  split <;> rfl

theorem bodyModeSet_busy {u : State} {r : Request} (hm : (modeOf (byteAt r.payload 0)).isSome = true)
    (hw : u.modeSetWaits = true) : bodyModeSet u r = (u, .plain Status.BUSY) := by
  obtain ⟨m, hm⟩ := Option.isSome_iff_exists.mp hm
  unfold bodyModeSet
  simp only [hm, hw, if_true]

/-- A number stands where its bytes stand. -/
theorem field_beBytes_at {a : List Byte} {off k n : Nat} (p : List Byte) (h : a.length = off) :
    field (a ++ (beBytes k n ++ p)) off k = n % 256 ^ k := by
  rw [field_append_of_le (Nat.le_of_eq h), h, Nat.sub_self, field_beBytes_append]

theorem pow_bytes4 : 256 ^ 4 = 2 ^ 32 := by decide

theorem pow_bytes8 : 256 ^ 8 = 2 ^ 64 := by decide

/-- R66: the reply of TIME_GET. -/
theorem bodyTimeGet_shows (u : State) (r : Request) : ∃ out, bodyTimeGet u r = (u, .done Status.OK out) ∧ out.length = 48 ∧
    field out 0 8 = u.nowNs % 2 ^ 64 ∧ field out 8 4 = u.nowNs % 2 ^ 32 ∧ byteAt out 12 = u.hearth.servo.code := by
  refine ⟨_, rfl, by simp [length_beBytes], ?_, ?_, ?_⟩ <;> simp only [List.append_assoc]
  · rw [field_beBytes_append, pow_bytes8]
  · rw [field_beBytes_at _ (length_beBytes 8 _), State.short, BitVec.toNat_ofNat, pow_bytes4, Nat.mod_mod]
  · rw [byteAt, ← List.append_assoc, field_beBytes_at _ (by simp [length_beBytes])]
    cases u.hearth.servo <;> rfl

theorem bodyTimingSet_schedules {u : State} {r : Request} {y : Retime} (hok : (requestTiming r.payload).ok = true)
    (hgap : u.hearth.gap = 0) (hsoon : u.tooSoon (namedTime r.payload) = false)
    (hcap : u.timingCapacity (requestTiming r.payload) = none) (hbusy : u.retimeBusy = false)
    (hy : y = u.retimeAt (requestTiming r.payload) (u.retimeIndex (namedTime r.payload))) :
    bodyTimingSet u r = ({ u with hearth := { u.hearth with retime := some y } },
      .done Status.OK (beBytes 8 y.tNs ++ beBytes 8 y.uNs)) := by
  subst hy
  unfold bodyTimingSet
  simp only [hok, hgap, hsoon, hcap, hbusy, Bool.true_eq_false, Bool.false_eq_true, ne_eq, not_true_eq_false, if_false]

theorem bodyDomainSelect_waits {u : State} {r : Request} {d : Bool} (hd : u.domOf (byteAt r.payload 0) = some d) :
    bodyDomainSelect u r = (u, if u.hearth.secondActive = d then .plain Status.OK
      else if (u.dom d).st = .locked then .wait (.domain d) else .plain Status.NO_RESOURCE) := by
  unfold bodyDomainSelect
  simp only [hd]
  split
  · rfl
  · split <;> rfl

/-- R416: the reply of ROLE_GET. -/
theorem bodyRoleGet_shows (u : State) (r : Request) : ∃ out, bodyRoleGet u r = (u, .done Status.OK out) ∧
    byteAt out 0 = u.red.role.code ∧ byteAt out 2 = (if u.red.peerHeard then u.red.peerRole.code else 255) ∧
    field out 12 8 = u.red.expiry % 2 ^ 64 := by
  refine ⟨_, rfl, ?_, ?_, ?_⟩ <;> simp only [List.append_assoc]
  · rw [byteAt, field_beBytes_append]
    cases u.red.role <;> rfl
  · rw [byteAt, ← List.append_assoc, field_beBytes_at _ (by simp [length_beBytes])]
    cases u.red.peerHeard
    · rfl
    · cases u.red.peerRole <;> rfl
  · simp only [← List.append_assoc]
    rw [List.append_assoc _ (beBytes 8 u.red.expiry), field_beBytes_at _ (by simp [length_beBytes]),
      pow_bytes8]

theorem bodyRoleSet_judges {u : State} {r : Request} {x : Role} (hbit : bit (byteAt r.payload 1) 1 = false)
    (hx : roleOf (byteAt r.payload 0) = some x) :
    (u.roleSetOk x = false → bodyRoleSet u r = (u, .plain Status.DENIED_MODE)) ∧
    (u.roleSetOk x = true → (x = .standby → u.peerRefused = none) →
      bodyRoleSet u r = (u, .wait (.roleSet x (if bit (byteAt r.payload 1) 0 then .warm else .hot) false))) := by
  unfold bodyRoleSet
  simp only [hbit, hx, Bool.false_eq_true, if_false]
  refine ⟨fun h => if_pos h, fun h hpeer => ?_⟩
  rw [if_neg (by simp [h])]
  have hnone : (if x = .standby then u.peerRefused else none) = none := by
    split
    · exact hpeer (by assumption)
    · rfl
  rw [hnone]

/-- R430: a SWITCHOVER that may be ordered. -/
theorem bodySwitchover_schedules {u : State} {r : Request} {k ns : Nat}
    (hk : u.switchTick (field r.payload 0 8) = some (k, ns, false)) (hready : u.switchReady = true) :
    ∃ v : State, bodySwitchover u r = (v, .done Status.OK (beBytes 8 ns)) ∧
      v.red.switchX = some k ∧ v.red.role = u.red.role ∧ v.mode = u.mode ∧
      (r.chan ≠ .c3 → ∃ h q, h.length = 16 ∧ q.length = 16 ∧
        v.red.mirrorSent = ⟨5, h, .bytes (q ++ beBytes 8 ns)⟩ :: u.red.mirrorSent) := by
  obtain ⟨w, hw⟩ : ∃ w, w = ({ u with red := { u.red with switchX := some k } } : State).journalSwitch ns := ⟨_, rfl⟩
  have hred : w.red = { u.red with switchX := some k } := by
    rw [hw]
    exact State.emit_red _ _ _ _ _
  have hmode : w.mode = u.mode := by
    rw [hw]
    exact State.emit_mode _ _ _ _ _
  have hbody : bodySwitchover u r = (if r.chan = .c3 then w else w.sendRequest Op.SWITCHOVER 0 (beBytes 8 ns),
      .done Status.OK (beBytes 8 ns)) := by
    unfold bodySwitchover
    simp only [hk, hready, Bool.true_eq_false, Bool.false_eq_true, if_false, ← hw]
  have hup : w.red.mirrorUp = true := by
    rw [hred]
    unfold State.switchReady at hready
    simp only [Bool.and_eq_true] at hready
    exact hready.1.1.2
  refine ⟨_, hbody, ?_⟩
  split
  · rename_i hc
    exact ⟨by rw [hred], by rw [hred], hmode, fun h => absurd hc h⟩
  · unfold State.sendRequest State.sendMirror
    simp only [hup, if_true]
    refine ⟨by rw [hred], by rw [hred], hmode, fun _ => ⟨_, _, ?_, ?_, congrArg _ (by rw [hred])⟩⟩
    · simp [State.mirrorHeader, length_beBytes]
    · simp [length_beBytes]

/-- Settles O47: each command has one case for what its request names and the state allows. -/
theorem modeTimeAndRoleCommands : Obligations.ModeTimeAndRoleCommands := by
  unfold Obligations.ModeTimeAndRoleCommands
  intro s u r m x d
  refine ⟨fun h => State.answers_of_body h rfl, fun h hm hw hh => State.answers_of_body h (bodyModeSet_judges hm hw hh),
    fun h hm hw => State.answers_of_body h (bodyModeSet_busy hm hw), fun h => ?_,
    fun h hok hgap hsoon hcap hbusy => State.answers_of_body h (bodyTimingSet_schedules hok hgap hsoon hcap hbusy rfl),
    fun h hok => State.answers_of_body h ?_, fun h hd => State.answers_of_body h (bodyDomainSelect_waits hd), fun h => ?_,
    fun h hbit => State.answers_of_body h ?_, fun h hbit hx => ?_, fun k ns h hk hready => ?_⟩
  · obtain ⟨out, hbody, hout⟩ := bodyTimeGet_shows u r
    exact ⟨out, State.answers_of_body h hbody, hout⟩
  · simp only [bodyTimingSet, hok, if_true]
  · obtain ⟨out, hbody, hout⟩ := bodyRoleGet_shows u r
    exact ⟨out, State.answers_of_body h hbody, hout⟩
  · simp only [bodyRoleSet, hbit, if_true]
  · obtain ⟨hno, hyes⟩ := bodyRoleSet_judges (u := u) hbit hx
    exact ⟨fun hx => State.answers_of_body h (hno hx), fun hx hpeer => State.answers_of_body h (hyes hx hpeer)⟩
  · obtain ⟨v, hbody, hv⟩ := bodySwitchover_schedules (r := r) hk hready
    exact ⟨v, State.answers_of_body h hbody, hv⟩

end Sys2Proof.Machine
end

section
/-! ## Parameters: R398 to R404, R456, R457 -/

namespace Sys2Proof.Machine

/-- R399: the staging area as a lookup. -/
def stagedValue (l : List (Nat × List Byte)) (id : Nat) : Option (List Byte) :=
  (l.find? fun q => decide (q.1 = id)).map Prod.snd

theorem stagedValue_stageValue {l : List (Nat × List Byte)} {q : Nat × List Byte} {id : Nat} (h : q.1 ≠ id) :
    stagedValue (stageValue l q) id = stagedValue l id := by
  unfold stagedValue stageValue
  split
  · rw [List.find?_map]
    have hkey : ((fun x : Nat × List Byte => decide (x.1 = id)) ∘ fun x => if x.1 = q.1 then q else x) =
        fun x => decide (x.1 = id) := by
      funext x
      by_cases hx : x.1 = q.1 <;> simp [hx]
    rw [hkey, Option.map_map]
    cases hf : l.find? fun x => decide (x.1 = id) with
    | none => rfl
    | some y =>
      have hy : y.1 = id := by simpa using List.find?_some hf
      have hne : y.1 ≠ q.1 := fun he => h (he.symm.trans hy)
      simp [hne]
  · rw [List.find?_append]
    simp [h]

/-- R399: what a PARAM_SET that is accepted stages. -/
theorem stageAll_ok {recs l m : List (Nat × List Byte)} (h : stageAll m recs = .ok l) :
    stagedBytes l ≤ max 4096 (stagedBytes m) ∧ (∀ q ∈ recs, paramOk q.1 q.2 = true) ∧
      ∀ i, (∀ q ∈ recs, q.1 ≠ i) → stagedValue l i = stagedValue m i := by
  induction recs generalizing m with
  | nil =>
    obtain rfl : m = l := by simpa [stageAll] using h
    exact ⟨Nat.le_max_right _ _, by simp, fun _ _ => rfl⟩
  | cons q qs ih =>
    unfold stageAll at h
    split at h
    · cases h
    · rename_i hok
      split at h
      · cases h
      · rename_i hfits
        obtain ⟨hbytes, hall, hothers⟩ := ih h
        refine ⟨by omega, ?_, fun i hi => ?_⟩
        · exact List.forall_mem_cons.mpr ⟨by simpa using hok, hall⟩
        · rw [hothers i fun x hx => hi x (List.mem_cons_of_mem _ hx), stagedValue_stageValue (hi q List.mem_cons_self)]

theorem bodyParamGet_shows {u : State} {r : Request} (h1 : 1 ≤ (requestIds r.payload).length)
    (h250 : (requestIds r.payload).length ≤ 250) (hrow : ∀ i ∈ requestIds r.payload, (paramRow i).isSome = true)
    (hlen : ((requestIds r.payload).flatMap
      (u.getRecord (u.client r.chan r.from_) (bit (field r.payload 0 2) 0))).length ≤ 1008) :
    bodyParamGet u r = (u, .done Status.OK ((requestIds r.payload).flatMap
      (u.getRecord (u.client r.chan r.from_) (bit (field r.payload 0 2) 0)))) := by
  have hfind : ((requestIds r.payload).find? fun id => (paramRow id).isNone) = none := by
    rw [List.find?_eq_none]
    intro i hi
    simp [Option.isSome_iff_ne_none.mp (hrow i hi)]
  unfold bodyParamGet
  simp only [hfind, Nat.not_lt.mpr hlen, if_false]
  rw [if_neg (by omega)]

theorem bodyParamSet_stages {u : State} {r : Request} {recs l : List (Nat × List Byte)}
    (hp : parseRecords (r.len.toNat / 4 + 1) (r.payload.take r.len.toNat) = some recs)
    (hl : stageAll (u.client r.chan r.from_).staging recs = .ok l) : bodyParamSet u r =
      (u.setClient r.chan r.from_ { u.client r.chan r.from_ with staging := l }, .plain Status.OK) := by
  simp only [bodyParamSet, hp, hl]

theorem bodyParamSet_refuses {u : State} {r : Request} {recs : List (Nat × List Byte)} {e : Nat × Nat}
    (hp : parseRecords (r.len.toNat / 4 + 1) (r.payload.take r.len.toNat) = some recs)
    (he : stageAll (u.client r.chan r.from_).staging recs = .error e) :
    bodyParamSet u r = (u, .done e.1 (beBytes 2 e.2)) := by
  simp only [bodyParamSet, hp, he]

theorem bodyParamCommit_stages {u : State} {r : Request} (hbit : bit (byteAt r.payload 0) 0 = false)
    (hne : (u.client r.chan r.from_).staging ≠ []) (hok : u.commitRefused (u.client r.chan r.from_).staging = none) :
    bodyParamCommit u r = ((u.emptyStaging r).stage (.commit (u.client r.chan r.from_).staging
      (u.startsRetime (u.client r.chan r.from_).staging)), .wait (.change u.ctrl.stagedId)) := by
  simp only [bodyParamCommit, hbit, List.isEmpty_iff, hne, Bool.false_eq_true, or_self, if_false, hok]

theorem bodyParamCommit_refuses {u : State} {r : Request} {d : Nat × List Byte} (hbit : bit (byteAt r.payload 0) 0 = false)
    (hne : (u.client r.chan r.from_).staging ≠ []) (hd : u.commitRefused (u.client r.chan r.from_).staging = some d) :
    bodyParamCommit u r = (u, .done d.1 d.2) := by
  simp only [bodyParamCommit, hbit, List.isEmpty_iff, hne, Bool.false_eq_true, or_self, if_false, hd]

/-- R456: STORE erases the copy that it will write. -/
theorem bodyStore_erases {u : State} {r : Request} (hs : u.work.storing = none) (hd : u.work.resetDue = none) :
    ∃ t : State, bodyStore u r = (t, .wait .store) ∧
      t.work.storing = some (u.nvm.storeTarget.1, ⟨u.nvm.storeTarget.2, u.sys.fwVersion, u.settingsRecords⟩) ∧
      (u.nvm.storeTarget.1 = true → t.nvm = { u.nvm with copyB := none }) ∧
      (u.nvm.storeTarget.1 = false → t.nvm = { u.nvm with copyA := none }) := by
  unfold bodyStore
  rw [hs, hd, if_neg (by simp)]
  exact ⟨_, rfl, rfl, fun h => if_pos h, fun h => if_neg (by simp [h])⟩

theorem execStoreComplete_writes {s : State} {b : Bool} {c : Settings} (h : s.work.storing = some (b, c)) :
    ∃ t, execStoreComplete s = .next t ∧ t.work.storing = none ∧
      t.nvm = (if b then { s.nvm with copyB := some c } else { s.nvm with copyA := some c }) := by
  unfold execStoreComplete
  rw [h]
  exact ⟨_, rfl, by simp, by simp⟩

/-- R457: FACTORY_RESET erases what it names. -/
theorem bodyFactoryReset_erases {u : State} {r : Request} (hb : byteAt r.payload 0 % 4 ≠ 0) (hd : u.work.resetDue = none) :
    ∃ t : State, bodyFactoryReset u r = (t, .plain Status.OK) ∧ t.work.resetDue = some (3, u.up + 100000000) ∧
      (bit (byteAt r.payload 0) 0 = true → t.nvm.copyA = none ∧ t.nvm.copyB = none) ∧
      (bit (byteAt r.payload 0) 0 = false → t.nvm.copyA = u.nvm.copyA ∧ t.nvm.copyB = u.nvm.copyB) ∧
      (bit (byteAt r.payload 0) 1 = true → t.nvm.level = 0 ∧ t.nvm.key = none ∧ t.nvm.pwDigest = none) ∧
      (bit (byteAt r.payload 0) 1 = false → t.nvm.level = u.nvm.level ∧ t.nvm.key = u.nvm.key) := by
  unfold bodyFactoryReset
  simp only [hb, if_false]
  refine ⟨_, rfl, ?_, ?_⟩
  · simp only [State.dueReset, hd]
    rfl
  · unfold State.dueReset
    cases bit (byteAt r.payload 0) 0 <;> cases bit (byteAt r.payload 0) 1 <;> simp

/-- Settles O46: each command has one case for what its request names; PARAM_SET stages record after record. -/
theorem parametersAreStagedCommittedAndStored : Obligations.ParametersAreStagedCommittedAndStored := by
  unfold Obligations.ParametersAreStagedCommittedAndStored
  intro s u r l recs e b c
  refine ⟨fun h h1 h250 hrow hlen => State.answers_of_body h (bodyParamGet_shows h1 h250 hrow hlen),
    fun ⟨h, hp⟩ hl => ⟨State.answers_of_body h (bodyParamSet_stages hp hl), stageAll_ok hl⟩,
    fun ⟨h, hp⟩ he => State.answers_of_body h (bodyParamSet_refuses hp he), fun h hbit hne hok => State.answers_of_body h (bodyParamCommit_stages hbit hne hok),
    fun d h hbit hne hd => State.answers_of_body h (bodyParamCommit_refuses hbit hne hd), fun h hs hd => ?_, execStoreComplete_writes, fun h hb hd => ?_⟩
  · obtain ⟨t, hbody, ht⟩ := bodyStore_erases (r := r) hs hd
    exact ⟨t, State.answers_of_body h hbody, ht⟩
  · obtain ⟨t, hbody, ht⟩ := bodyFactoryReset_erases hb hd
    exact ⟨t, State.answers_of_body h hbody, ht⟩

end Sys2Proof.Machine
end

section
/-! ## Strands that are halted, and the commands of strands and drivers: R259, R281, R282, R295 to R297, R425 -/

namespace Sys2Proof.Machine

/-! ### What work on strands leaves as it is -/

/-- `t` is `s` but for the strands and for the answers that clients and the peer get. -/
def State.sameButStrands (s t : State) : Prop :=
  t = { s with
    strands := t.strands, macA := t.macA, macB := t.macB, macSv := t.macSv
    red := { s.red with mirrorSent := t.red.mirrorSent, mirrorSeq := t.red.mirrorSeq }
    ctrl := { s.ctrl with
      ch0 := t.ctrl.ch0, ch1 := t.ctrl.ch1, ch2 := t.ctrl.ch2, ch3 := t.ctrl.ch3
      irq := t.ctrl.irq, sessions := t.ctrl.sessions, waiting := t.ctrl.waiting } }

theorem State.sameButStrands_refl (s : State) : s.sameButStrands s := rfl

theorem State.sameButStrands.trans {s t u : State} (h1 : s.sameButStrands t) (h2 : t.sameButStrands u) : s.sameButStrands u := by
  unfold State.sameButStrands at *
  rw [h1] at h2
  exact h2

theorem State.sameButAnswers.sameButStrands {s t : State} (h : s.sameButAnswers t) : s.sameButStrands t := by
  unfold State.sameButAnswers at h
  unfold State.sameButStrands
  rw [h]

/-- A function that looks at no strand and no answer shows the same before and after. -/
theorem State.sameButStrands.congr {s t : State} {α : Type} {f : State → α} (h : s.sameButStrands t)
    (hf : ∀ strands macA macB macSv sent seq ch0 ch1 ch2 ch3 irq sessions waiting, f { s with
      strands := strands, macA := macA, macB := macB, macSv := macSv, red := { s.red with mirrorSent := sent, mirrorSeq := seq }
      ctrl := { s.ctrl with
        ch0 := ch0, ch1 := ch1, ch2 := ch2, ch3 := ch3, irq := irq, sessions := sessions, waiting := waiting } } = f s) :
    f t = f s := by
  unfold State.sameButStrands at h
  rw [h, hf]

theorem State.setStrand_sameButStrands (s : State) (n : Nat) (t : Strand) : s.sameButStrands (s.setStrand n t) := rfl

theorem State.wire_sameButStrands (s : State) (n : Nat) (l : List StrandItem) : s.sameButStrands (s.wire n l) := by
  unfold State.wire
  dsimp only
  split <;> rfl

theorem State.completeWaiting_sameButStrands (s : State) (f : Waiting → Option (Nat × List Byte)) :
    s.sameButStrands (s.completeWaiting f) := (s.completeWaiting_sameButAnswers f).sameButStrands

theorem State.sameButStrands_foldl {α : Type} {f : State → α → State} (hf : ∀ (t : State) (x : α), t.sameButStrands (f t x))
    (l : List α) (s : State) : s.sameButStrands (l.foldl f s) := by
  induction l generalizing s with
  | nil => exact s.sameButStrands_refl
  | cons x l ih => exact (hf s x).trans (ih _)

theorem State.dropSlots_sameButStrands (s : State) (n : Nat) (l : List RetSlot) : s.sameButStrands (s.dropSlots n l) := by
  unfold State.dropSlots
  refine State.sameButStrands_foldl (fun t r => ?_) l s
  split
  · exact t.completeWaiting_sameButStrands _
  · exact t.sameButStrands_refl

theorem State.haltStrand_sameButStrands (s : State) (n : Nat) : s.sameButStrands (s.haltStrand n) := by
  unfold State.haltStrand
  dsimp only
  split
  · exact ((s.wire_sameButStrands n _).trans (State.setStrand_sameButStrands _ _ _)).trans (State.dropSlots_sameButStrands _ _ _)
  · exact (s.setStrand_sameButStrands n _).trans (State.dropSlots_sameButStrands _ _ _)

theorem State.sameButStrands.isNsp {s t : State} (h : s.sameButStrands t) (n : Nat) : t.isNsp n = s.isNsp n :=
  h.congr (f := fun u => u.isNsp n) (by intros; rfl)

/-! ### The strands themselves -/

theorem State.dropSlots_strand (s : State) (n : Nat) (l : List RetSlot) (m : Nat) : (s.dropSlots n l).strand m = s.strand m := by
  unfold State.dropSlots
  induction l generalizing s with
  | nil => rfl
  | cons r l ih =>
    rw [List.foldl_cons, ih]
    split
    · exact State.completeWaiting_strand _ _ _
    · rfl

theorem State.wire_strand_of_ne {n m : Nat} (h : m ≠ n) (s : State) (l : List StrandItem) :
    (s.wire n l).strand m = s.strand m := by
  unfold State.wire
  dsimp only
  split
  · exact State.strand_setStrand_other s _ h
  · rfl

theorem State.haltStrand_strand_of_ne {n m : Nat} (h : m ≠ n) (s : State) : (s.haltStrand n).strand m = s.strand m := by
  unfold State.haltStrand
  dsimp only
  rw [State.dropSlots_strand, State.strand_setStrand_other _ _ h]
  split
  · exact State.wire_strand_of_ne h _ _
  · rfl

theorem Strand.ne_default_of_enumerating {x : Strand} (h : x.enumerating = true) : x ≠ {} := fun he => by
  rw [he] at h
  cases h

/-! ### Enumerations by command -/

/-- R281: a strand that is to be enumerated. -/
def Strand.startsEnum (x : Strand) : Prop := x.enumerating = true ∧ x.scan = {} ∧ x.kind = .none

theorem State.startEnum_sameButStrands (s : State) (n : Nat) : s.sameButStrands (s.startEnum n) := by
  unfold State.startEnum
  split
  · exact (s.haltStrand_sameButStrands n).trans (State.setStrand_sameButStrands _ _ _)
  · exact s.sameButStrands_refl

theorem State.startEnum_strand_of_ne {n m : Nat} (h : m ≠ n) (s : State) : (s.startEnum n).strand m = s.strand m := by
  unfold State.startEnum
  split
  · dsimp only
    rw [State.strand_setStrand_other _ _ h, State.haltStrand_strand_of_ne h]
  · rfl

theorem State.startEnum_starts {s : State} {n : Nat} (h : s.isNsp n = true) : ((s.startEnum n).strand n).startsEnum := by
  unfold State.startEnum
  rw [if_pos h]
  dsimp only
  rw [State.strand_setStrand_of_ne (Strand.ne_default_of_enumerating rfl)]
  exact ⟨rfl, rfl, rfl⟩

theorem State.foldl_startEnum_strand_of_notMem {l : List Nat} {m : Nat} (h : m ∉ l) (s : State) :
    (l.foldl State.startEnum s).strand m = s.strand m := by
  induction l generalizing s with
  | nil => rfl
  | cons n l ih =>
    rw [List.mem_cons, not_or] at h
    rw [List.foldl_cons, ih h.2, State.startEnum_strand_of_ne h.1]

/-- R281: every NSP strand that is named starts its enumeration. -/
theorem State.foldl_startEnum_starts {l : List Nat} {m : Nat} {s : State} (hm : m ∈ l) (hnsp : s.isNsp m = true) :
    ((l.foldl State.startEnum s).strand m).startsEnum := by
  induction l generalizing s with
  | nil => cases hm
  | cons n l ih =>
    have hnsp' : (s.startEnum n).isNsp m = true := (s.startEnum_sameButStrands n).isNsp m ▸ hnsp
    rw [List.foldl_cons]
    by_cases hl : m ∈ l
    · exact ih hl hnsp'
    · obtain rfl : m = n := (List.mem_cons.mp hm).resolve_right hl
      rw [State.foldl_startEnum_strand_of_notMem hl]
      exact State.startEnum_starts hnsp

/-- R281: the strands that a STRAND_ENUMERATE names. -/
def namedStrands (p : List Byte) : List Nat := allStrands.filter fun n => bit (field p 0 16) n

theorem bodyStrandEnumerate_waits {u : State} {r : Request}
    (hfree : ∀ m ∈ namedStrands r.payload, (u.strand m).enumerating = false)
    (hnsp : ∃ m ∈ namedStrands r.payload, u.isNsp m = true) : bodyStrandEnumerate u r =
      ((namedStrands r.payload).foldl State.startEnum u, .wait (.enumerate (namedStrands r.payload))) := by
  unfold bodyStrandEnumerate
  simp only
  rw [← namedStrands.eq_def, if_neg (by simpa using hfree), if_pos (by simpa using hnsp)]

theorem bodyStrandEnumerate_none {u : State} {r : Request}
    (hfree : ∀ m ∈ namedStrands r.payload, (u.strand m).enumerating = false)
    (hnsp : ∀ m ∈ namedStrands r.payload, u.isNsp m = false) : bodyStrandEnumerate u r =
      (u, .done Status.OK (u.enumPayload (namedStrands r.payload))) := by
  unfold bodyStrandEnumerate
  simp only
  rw [← namedStrands.eq_def, if_neg (by simpa using hfree), if_neg (by simpa using hnsp)]

/-! ### STRAND_STATUS -/

theorem length_driverStatus (h : Nat) (d : Driver) : (driverStatus h d).length = 16 := by
  simp [driverStatus, length_beBytes]

/-- As many items as are asked have 16 bytes each. -/
theorem length_flatMap_range {f : Nat → List Byte} {count k : Nat} (h : ∀ i, i < count → (f i).length = k) :
    ((List.range count).flatMap f).length = k * count := by
  induction count with
  | zero => rfl
  | succ n ih =>
    rw [List.range_succ, List.flatMap_append, List.length_append, ih fun i hi => h i (by omega), List.flatMap_singleton,
      h n (by omega), Nat.mul_succ]

/-- R295: the reply of STRAND_STATUS. -/
theorem bodyStrandStatus_shows {u : State} {r : Request} (hn : byteAt r.payload 0 ≤ 127) (hc : byteAt r.payload 1 ≤ 62)
    (hd : field r.payload 2 2 + byteAt r.payload 1 ≤ (u.strand (byteAt r.payload 0)).drivers.length) :
    ∃ out, bodyStrandStatus u r = ({ u with draws := u.draws + 1 }, .done Status.OK out) ∧
      out.length = 16 + 16 * byteAt r.payload 1 ∧ byteAt out 0 = byteAt r.payload 0 ∧
      byteAt out 1 = u.coder (byteAt r.payload 0) % 256 := by
  refine ⟨_, if_neg (by omega), ?_, ?_, ?_⟩
  · rw [List.length_append, length_flatMap_range (k := 16) fun i hi => ?_]
    · simp [State.strandHead, length_beBytes]
    · rw [List.getElem?_eq_getElem (by omega)]
      exact length_driverStatus _ _
  · rw [State.strandHead]
    simp only [List.append_assoc]
    exact field_beBytes_append_of_lt (by omega) _
  · rw [State.strandHead]
    simp only [List.append_assoc]
    exact field_beBytes_at _ (length_beBytes 1 _)

/-! ### DRIVER_COMMAND and RDM_REQUEST -/

theorem mem_queueLine (l : CfgLine) (xs : List CfgLine) : l ∈ queueLine l xs := by
  induction xs with
  | nil => exact List.mem_singleton_self l
  | cons x xs ih =>
    rw [queueLine]
    split
    · exact List.mem_cons_self
    · exact List.mem_cons_of_mem _ ih

theorem length_queueLine (l : CfgLine) (xs : List CfgLine) : (queueLine l xs).length = xs.length + 1 := by
  induction xs with
  | nil => rfl
  | cons x xs ih =>
    rw [queueLine]
    split
    · rfl
    · exact congrArg (· + 1) ih

theorem State.queueCfg_cfg (s : State) (n : Nat) (l : CfgLine) :
    ((s.queueCfg n l).strand n).cfg = queueLine l (s.strand n).cfg := by
  unfold State.queueCfg
  dsimp only
  rw [State.strand_setStrand_of_ne]
  intro h
  have hnil : queueLine l (s.strand n).cfg = [] := congrArg Strand.cfg h
  exact List.not_mem_nil (hnil ▸ mem_queueLine l _)

/-- R296: a DRIVER_COMMAND queues its line. -/
theorem bodyDriverCommand_queues {u : State} {r : Request} (hn : byteAt r.payload 0 ≤ 127)
    (hnsp : u.isNsp (byteAt r.payload 0) = true)
    (hd : (commandLine r.payload (u.ctrl.commandId + 1)).driver < (u.strand (byteAt r.payload 0)).drivers.length)
    (hl : lineCountOk (commandLine r.payload (u.ctrl.commandId + 1)).raw
      (commandLine r.payload (u.ctrl.commandId + 1)).words.length = true) :
    bodyDriverCommand u r =
      (u.nextCommand.queueCfg (byteAt r.payload 0) (commandLine r.payload (u.ctrl.commandId + 1)),
        .wait (.driver (byteAt r.payload 0) (u.ctrl.commandId + 1))) := by
  unfold bodyDriverCommand
  dsimp only
  rw [if_neg]
  simp only [hnsp, hl, Bool.true_eq_false, or_false, false_or]
  omega

theorem bodyRdmRequest_judges {u : State} {r : Request} (hn : byteAt r.payload 0 ≤ 63)
    (hdmx : u.isDmx (2 * byteAt r.payload 0) = true) (hlen : byteAt r.payload 15 ≤ 231) : bodyRdmRequest u r =
      if 4 ≤ (u.strand (2 * byteAt r.payload 0)).rdm.length then (u, .plain Status.BUSY)
      else (u.setStrand (2 * byteAt r.payload 0) { u.strand (2 * byteAt r.payload 0) with
        rdm := (u.strand (2 * byteAt r.payload 0)).rdm ++ [rdmOf r] }, .wait (.rdm (byteAt r.payload 0))) := by
  unfold bodyRdmRequest
  dsimp only
  rw [if_neg]
  simp only [hdmx, Bool.true_eq_false, false_or]
  omega

/-- Settles O51: an enumeration works strand by strand, and a line that is queued makes its strand differ from an unlisted
one. -/
theorem strandCommandsQueueTheirWork : Obligations.StrandCommandsQueueTheirWork := by
  unfold Obligations.StrandCommandsQueueTheirWork
  intro s u r
  refine ⟨fun h hfree hnsp => ⟨_, State.answers_of_body h (bodyStrandEnumerate_waits hfree hnsp),
      fun m hm hnsp => State.foldl_startEnum_starts hm hnsp, fun m hm => State.foldl_startEnum_strand_of_notMem hm u⟩,
    fun h hfree hnsp => State.answers_of_body h (bodyStrandEnumerate_none hfree hnsp), fun h hn hc hd => ?_,
    fun h hn hnsp hd hl => ?_, fun h hn hdmx hlen => ?_⟩
  · obtain ⟨out, hbody, hout⟩ := bodyStrandStatus_shows hn hc hd
    exact ⟨out, State.answers_of_body h hbody, hout⟩
  · have hcfg := u.nextCommand.queueCfg_cfg (byteAt r.payload 0) (commandLine r.payload (u.ctrl.commandId + 1))
    refine ⟨_, State.answers_of_body h (bodyDriverCommand_queues hn hnsp hd hl), rfl, ?_, ?_, fun m hm => ?_⟩
    · rw [hcfg]
      exact mem_queueLine _ _
    · rw [hcfg]
      exact length_queueLine _ _
    · exact State.strand_setStrand_other _ _ hm
  · have hbody := bodyRdmRequest_judges hn hdmx hlen
    refine ⟨fun hroom => ?_, fun hfull => State.answers_of_body h (hbody.trans (if_pos hfull))⟩
    rw [if_neg (Nat.not_le.mpr hroom)] at hbody
    refine ⟨_, State.answers_of_body h hbody, State.strand_setStrand_of_ne fun he => ?_, fun m hm =>
      State.strand_setStrand_other _ _ hm⟩
    exact List.append_ne_nil_of_right_ne_nil _ (List.cons_ne_nil _ _) (congrArg Strand.rdm he)

end Sys2Proof.Machine
end

section
/-! ## The commands of maps, buffers, layers and marks: R195 to R209, R218 to R222 -/

namespace Sys2Proof.Machine

/-! ### MAP_WRITE -/

section
variable {u : State} {r : Request}

/-- R219: a part that is not the last is staged. -/
theorem bodyMapWrite_stages (hm : u.mode ≠ .shadow ∨ r.chan = .c3) (hn : byteAt r.payload 0 ≤ 127)
    (hlast : bit (byteAt r.payload 1) 1 = false) :
    bodyMapWrite u r = (u.putStagedMap ((u.stagedMap (byteAt r.payload 0)).write r.payload), .plain Status.OK) := by
  have hmode : ¬(u.mode = .shadow ∧ r.chan ≠ .c3) := fun h => hm.elim (fun hm => hm h.1) fun hc => h.2 hc
  simp only [bodyMapWrite, hmode, Nat.not_lt.mpr hn, hlast, if_true, if_false]

/-- R219: the last part of a map that passes its checks. -/
theorem bodyMapWrite_accepts {w : PixMap} (hm : u.mode ≠ .shadow ∨ r.chan = .c3) (hn : byteAt r.payload 0 ≤ 127)
    (hlast : bit (byteAt r.payload 1) 1 = true)
    (hw : ((u.stagedMap (byteAt r.payload 0)).write r.payload).whole u.planned = some w)
    (hc : u.mapChecks (byteAt r.payload 0) w = none) : bodyMapWrite u r = u.acceptMap r (byteAt r.payload 0) w := by
  have hmode : ¬(u.mode = .shadow ∧ r.chan ≠ .c3) := fun h => hm.elim (fun hm => hm h.1) fun hc => h.2 hc
  simp only [bodyMapWrite, hmode, Nat.not_lt.mpr hn, hlast, hw, hc, Bool.true_eq_false, if_false]

/-- R219: the last part of a map that is not whole. -/
theorem bodyMapWrite_drops (hm : u.mode ≠ .shadow ∨ r.chan = .c3) (hn : byteAt r.payload 0 ≤ 127)
    (hlast : bit (byteAt r.payload 1) 1 = true)
    (hw : ((u.stagedMap (byteAt r.payload 0)).write r.payload).whole u.planned = none) :
    bodyMapWrite u r = (u.dropStagedMap (byteAt r.payload 0), .plain Status.BAD_PARAM) := by
  have hmode : ¬(u.mode = .shadow ∧ r.chan ≠ .c3) := fun h => hm.elim (fun hm => hm h.1) fun hc => h.2 hc
  simp only [bodyMapWrite, hmode, Nat.not_lt.mpr hn, hlast, hw, Bool.true_eq_false, if_false]

/-- R222: an accepted map waits for its tick, or on the standby for the record. -/
theorem State.acceptMap_waits (u : State) (r : Request) (n : Nat) (w : PixMap) :
    (u.acceptMap r n w).2.accepts = true ∧ (u.acceptMap r n w).1.anvil.maps = u.anvil.maps ∧
      (u.acceptMap r n w).1.anvil.acceptedMaps = u.anvil.acceptedMaps ++ [(n, w)] ∧
      (r.chan ≠ .c3 → (u.acceptMap r n w).1.ctrl.staged = u.ctrl.staged ++ [⟨u.ctrl.stagedId, false, .mapSwitch n⟩] ∧
        (u.acceptMap r n w).2 = .wait (.change u.ctrl.stagedId)) := by
  unfold State.acceptMap
  by_cases hc : r.chan = .c3
  · simp only [hc, if_true]
    exact ⟨rfl, rfl, rfl, fun h => absurd rfl h⟩
  · simp only [hc, if_false]
    exact ⟨rfl, rfl, rfl, fun _ => ⟨rfl, rfl⟩⟩

/-! ### Buffers -/

theorem State.handle_of_buffer? {s : State} {h : Nat} {b : Buffer} (hb : s.buffer? h = some b) : b.handle = h := by
  simpa using List.find?_some hb

/-- R200: the buffer that takes the place of one of its handle. -/
theorem State.buffer?_putBuffer (s : State) (b : Buffer) (h : Nat) : (s.putBuffer b).buffer? h =
    if h = b.handle then (s.buffer? h).map fun _ => b else s.buffer? h := by
  have hkey : ((fun c : Buffer => decide (c.handle = h)) ∘ fun c => if c.handle = b.handle then b else c) =
      fun c => decide (c.handle = h) := by
    funext c
    by_cases hc : c.handle = b.handle <;> simp [hc]
  show List.find? _ (List.map _ _) = _
  rw [List.find?_map, hkey]
  split
  · rename_i hh
    cases hf : s.buffer? h with
    | none => rw [State.buffer?] at hf; rw [hf]; rfl
    | some c =>
      have hc := (State.handle_of_buffer? hf).trans hh
      rw [State.buffer?] at hf
      rw [hf]
      exact congrArg some (if_pos hc)
  · rename_i hh
    cases hf : s.buffer? h with
    | none => rw [State.buffer?] at hf; rw [hf]; rfl
    | some c =>
      have hc : c.handle ≠ b.handle := fun he => hh ((State.handle_of_buffer? hf).symm.trans he)
      rw [State.buffer?] at hf
      rw [hf]
      exact congrArg some (if_neg hc)

/-- R200: a buffer changes in place. -/
theorem State.putBuffer_changes {s : State} {h : Nat} {b c : Buffer} (hb : s.buffer? h = some b) (hc : c.handle = b.handle) :
    (s.putBuffer c).buffer? h = some c ∧ ∀ x, x ≠ h → (s.putBuffer c).buffer? x = s.buffer? x := by
  have hh : h = c.handle := (State.handle_of_buffer? hb).symm.trans hc.symm
  refine ⟨?_, fun x hx => ?_⟩
  · rw [State.buffer?_putBuffer, if_pos hh, hb]
    rfl
  · rw [State.buffer?_putBuffer, if_neg fun he => hx (he.trans hh.symm)]

/-- R200: a new buffer is found. -/
theorem State.buffer?_addBuffer {s : State} {b : Buffer} (h : s.buffer? b.handle = none) :
    (s.addBuffer b).buffer? b.handle = some b := by
  show List.find? _ (s.fs.buffers ++ [b]) = _
  rw [State.buffer?] at h
  rw [List.find?_append, h]
  simp

/-- R203: a buffer that is freed. -/
def State.removeBuffer (s : State) (h : Nat) : State :=
  { s with fs := { s.fs with buffers := s.fs.buffers.filter fun x => decide (x.handle ≠ h) } }

theorem State.buffer?_removeBuffer (s : State) (h x : Nat) :
    (s.removeBuffer h).buffer? x = if x = h then none else s.buffer? x := by
  show List.find? _ (List.filter _ _) = _
  rw [List.find?_filter]
  split
  · rename_i hx
    rw [List.find?_eq_none]
    intro c _
    simp [hx]
  · rename_i hx
    refine congrArg (fun f => List.find? f s.fs.buffers) (funext fun c => ?_)
    by_cases hc : c.handle = x <;> simp [hc, hx]

theorem bodyBufferAlloc_adds {b : Buffer} (hb : b = requestBuffer r.payload (u.bufferHandle r)) (hsize : b.sizeOk = true)
    (hfmt : byteAt r.payload 4 ≤ 1) (hnew : u.buffer? b.handle = none) (hroom : u.fs.buffers.length < 64)
    (hdram : (u.planned.addBuffer b).dramShort = false) :
    bodyBufferAlloc u r = (u.addBuffer b, .done Status.OK (beBytes 2 b.handle)) := by
  unfold bodyBufferAlloc
  simp only [← hb, hsize, hnew, hdram]
  rw [if_neg (by simp; omega), if_neg (by simp; omega)]

/-- R204: a write to a buffer. -/
theorem bodyBufferWrite_judges {h off : Nat} {ws : List Word} {b : Buffer} (hh : h = field r.payload 0 2)
    (hoff : off = field r.payload 4 4) (hws : ws = wordsOf (r.payload.drop 8) ((r.len.toNat - 8) / 4)) (hlt : h < 0xFFFE)
    (hb : u.buffer? h = some b) (h4 : off % 4 = 0) (hfit : off + 4 * ws.length ≤ 4 * b.words) :
    (u.bufferLocked b = false → bodyBufferWrite u r =
      (u.putBuffer { b with data := putWords (fun _ => 0) b.data (off / 4) ws }, .plain Status.OK)) ∧
    (u.bufferLocked b = true → bodyBufferWrite u r = (u, .plain Status.BUFFER_IN_USE)) := by
  unfold bodyBufferWrite
  simp only [← hh, ← hoff, ← hws, hb]
  rw [if_neg (by omega), if_neg (by omega)]
  exact ⟨fun hl => if_neg (by simp [hl]), fun hl => if_pos hl⟩

/-- R206: a write to an image. -/
theorem bodyBufferWrite_image {h off : Nat} {ws : List Word} (hh : h = field r.payload 0 2)
    (hoff : off = field r.payload 4 4) (hws : ws = wordsOf (r.payload.drop 8) ((r.len.toNat - 8) / 4))
    (himage : h = 0xFFFE ∨ h = 0xFFFF) (hrest : u.atRest = true) (h4 : off % 4 = 0)
    (hfit : off + 4 * ws.length ≤ 4 * u.mappedPixels) :
    bodyBufferWrite u r = (u.writeImage (decide (h = 0xFFFF)) (off / 4) ws, .plain Status.OK) := by
  unfold bodyBufferWrite State.imageWriteCmd
  simp only [← hh, ← hoff, ← hws]
  rw [if_pos himage, if_neg (by simp [hrest]), if_neg (by omega)]

/-- R203: BUFFER_FREE defers the end of a buffer that a layer binds. -/
theorem bodyBufferFree_frees {h : Nat} {b : Buffer} (hh : h = field r.payload 0 2) (hb : u.buffer? h = some b)
    (hfree : b.freeDeferred = false) : bodyBufferFree u r =
      if u.bound h then (u.putBuffer { b with freeDeferred := true }, .done Status.OK [1])
      else (u.removeBuffer h, .done Status.OK [0]) := by
  have hhandle := State.handle_of_buffer? hb
  unfold bodyBufferFree
  simp only [← hh, hb, hfree, hhandle, Bool.false_eq_true, if_false]
  rfl

/-! ### Layers, marks and rewinds -/

theorem bodyLayerSet_stages (hlayer : (requestLayer r.payload).layer = 1 ∨ (requestLayer r.payload).layer = 2)
    (hok : u.layerRefused (requestLayer r.payload) = none) :
    bodyLayerSet u r = (u.stage (.layer (requestLayer r.payload)), .wait (.change u.ctrl.stagedId)) := by
  unfold bodyLayerSet
  dsimp only
  rw [if_neg (by omega), if_neg (show (requestLayer r.payload).layer ≠ 3 by omega), hok]

theorem bodyLayerSet_stages3 (hlayer : (requestLayer r.payload).layer = 3) (hok : layer3Ok (requestLayer r.payload) = true) :
    bodyLayerSet u r = (u.stage (.layer (requestLayer r.payload)), .wait (.change u.ctrl.stagedId)) := by
  unfold bodyLayerSet
  dsimp only
  rw [if_neg (by simp [hlayer, hok]), if_pos hlayer]

theorem bodyMarkSet_stages {f : Nat} (hi : byteAt r.payload 0 ≤ 63) (hen : u.enabled (byteAt r.payload 0) = true)
    (hlayer : u.layerOf (byteAt r.payload 0) = 0) (hf : u.markedFrame r.payload = some f)
    (hkeep : bit (byteAt r.payload 1) 1 = true ∨ (u.stream (byteAt r.payload 0)).keeps f = true) :
    bodyMarkSet u r = (({ u with draws := u.draws + 1 } : State).stage (.mark ⟨byteAt r.payload 0, bit (byteAt r.payload 1) 0,
      bit (byteAt r.payload 1) 1, bit (byteAt r.payload 1) 2, f⟩), .wait (.change u.ctrl.stagedId)) := by
  unfold bodyMarkSet
  dsimp only
  rw [if_neg (by simp [hen, hlayer]; omega), hf]
  exact if_pos hkeep

theorem bodyRewind_stages (hi : byteAt r.payload 0 ≤ 63) (hmark : (u.stream (byteAt r.payload 0)).mark.isSome = true)
    (hlive : u.mode = .live) (hplay : (u.stream (byteAt r.payload 0)).play = none) :
    bodyRewind u r = (u.stage (.rewind (byteAt r.payload 0)), .wait (.change u.ctrl.stagedId)) := by
  unfold bodyRewind
  dsimp only
  rw [if_neg (by omega), if_neg (by rw [Option.isNone_iff_eq_none]; exact Option.isSome_iff_ne_none.mp hmark),
    if_neg (by simp [hlive]), if_neg (by simp [hplay])]

end

/-- Settles O52: each command has one case for what its request names, and a buffer changes in place. -/
theorem contentCommandsStageTheirChange : Obligations.ContentCommandsStageTheirChange := by
  unfold Obligations.ContentCommandsStageTheirChange
  intro s u r w b f
  refine ⟨fun ⟨h, hm, hn⟩ hlast => State.answers_of_body h (bodyMapWrite_stages hm hn hlast),
    fun ⟨h, hm, hn⟩ hlast hw hc => ⟨_, _, State.answers_of_body h (bodyMapWrite_accepts hm hn hlast hw hc),
      u.acceptMap_waits r _ w⟩,
    fun ⟨h, hm, hn⟩ hlast hw => State.answers_of_body h (bodyMapWrite_drops hm hn hlast hw),
    fun h hsize hfmt hnew hroom hdram => ⟨_, State.answers_of_body h (bodyBufferAlloc_adds rfl hsize hfmt hnew hroom hdram),
      State.buffer?_addBuffer hnew, rfl⟩,
    fun h hlt hb h4 hfit => ?_,
    fun h himage hrest h4 hfit => State.answers_of_body h (bodyBufferWrite_image rfl rfl rfl himage hrest h4 hfit),
    fun h hb hfree => ?_, fun h hlayer hok => State.answers_of_body h (bodyLayerSet_stages hlayer hok),
    fun h hlayer hok => State.answers_of_body h (bodyLayerSet_stages3 hlayer hok),
    fun h hi hen hlayer hf hkeep => ⟨_, State.answers_of_body h (bodyMarkSet_stages hi hen hlayer hf hkeep), rfl, rfl⟩,
    fun h hi hmark hlive hplay => State.answers_of_body h (bodyRewind_stages hi hmark hlive hplay)⟩
  · obtain ⟨hopen, hlocked⟩ := bodyBufferWrite_judges (u := u) (r := r) rfl rfl rfl hlt hb h4 hfit
    exact ⟨fun hl => ⟨_, State.answers_of_body h (hopen hl), State.putBuffer_changes hb rfl⟩,
      fun hl => State.answers_of_body h (hlocked hl)⟩
  · have hbody := bodyBufferFree_frees rfl hb hfree
    cases hbound : u.bound (field r.payload 0 2) with
    | true =>
      rw [hbound, if_pos rfl] at hbody
      obtain ⟨hsome, hothers⟩ := State.putBuffer_changes (c := { b with freeDeferred := true }) hb rfl
      exact ⟨_, State.answers_of_body h hbody, fun _ => hsome, fun hno => absurd hno (by decide), hothers⟩
    | false =>
      rw [hbound, if_neg (by decide)] at hbody
      refine ⟨_, State.answers_of_body h hbody, fun hno => absurd hno (by decide), fun _ => ?_, fun x hx => ?_⟩
      · rw [State.buffer?_removeBuffer, if_pos rfl]
      · rw [State.buffer?_removeBuffer, if_neg hx]

end Sys2Proof.Machine
end

section
/-! ## Calibration and stored images: R242 to R247, R475 to R478 -/

namespace Sys2Proof.Machine

/-! ### CAL_BEGIN, CAL_WRITE and CAL_COMMIT -/

theorem State.endCopy_activeB (s : State) : s.endCopy.anvil.activeB = s.anvil.activeB := by
  unfold State.endCopy
  split
  · rw [State.completeWaiting_anvil]
  · rfl

/-- R242: the inactive plane is open. -/
def State.openPlane (s : State) : State :=
  { s.endCopy with anvil := { s.endCopy.anvil with staging := true, calMoved := false } }

section
variable {u : State} {r : Request}

theorem bodyCalBegin_opens (hb : u.work.bankNew = none) (hp : u.anvil.calPending = false)
    (hbit : bit (byteAt r.payload 0) 0 = false) :
    bodyCalBegin u r = (u.openPlane, .done Status.OK (beBytes 1 (b2n (!u.anvil.activeB)))) := by
  unfold bodyCalBegin
  rw [if_neg (by simp [hb, hp])]
  simp only [hbit, Bool.false_eq_true, if_false]
  show (u.openPlane, Reply.done Status.OK (beBytes 1 (b2n (!u.endCopy.anvil.activeB)))) = _
  rw [u.endCopy_activeB]

theorem bodyCalBegin_copies (hb : u.work.bankNew = none) (hp : u.anvil.calPending = false)
    (hbit : bit (byteAt r.payload 0) 0 = true) : bodyCalBegin u r =
      (({ u.openPlane with anvil := { u.openPlane.anvil with copying := true } } : State).issue 7, .wait .calCopy) := by
  unfold bodyCalBegin
  rw [if_neg (by simp [hb, hp])]
  simp only [hbit, if_true]
  rfl

/-- R243: what a change of the inactive plane does. -/
theorem State.mapInactive_plane (s : State) (f : Bool → Plane → Plane) :
    (s.mapInactive f).plane s.anvil.activeB = s.plane s.anvil.activeB ∧
      (s.mapInactive f).plane (!s.anvil.activeB) = f (!s.anvil.activeB) (s.plane (!s.anvil.activeB)) ∧
      (s.mapInactive f).anvil.activeB = s.anvil.activeB := by
  unfold State.mapInactive State.plane
  cases h : s.anvil.activeB <;> simp [h]

theorem bodyCalWrite_writes (hp : u.anvil.calPending = false) (hs : u.anvil.staging = true) (hn : byteAt r.payload 0 ≤ 127)
    (h1 : 1 ≤ field r.payload 4 2) (h62 : field r.payload 4 2 ≤ 62)
    (hfit : field r.payload 2 2 + field r.payload 4 2 ≤ (u.map (byteAt r.payload 0)).pixels) : bodyCalWrite u r =
      (u.mapInactive fun b pl => pl.writeRecords b (u.recordBase (byteAt r.payload 0) + field r.payload 2 2)
        ((List.range (field r.payload 4 2)).map fun i => field r.payload (8 + 16 * i) 16), .plain Status.OK) := by
  unfold bodyCalWrite
  simp only [hp, hs, Bool.true_eq_false, Bool.false_eq_true, false_or, if_false]
  rw [if_neg (by omega)]

theorem bodyCalCommit_waits (hb : u.work.bankNew = none) (hs : u.anvil.staging = true) (hp : u.anvil.calPending = false)
    (hc : u.anvil.copying = false) (hm : u.mode ≠ .shadow) (hmoved : u.anvil.calMoved = false) : bodyCalCommit u r =
      (({ u with anvil := { u.anvil with calPending := true } } : State).stage (.calSwitch (u.planeCrc (!u.anvil.activeB))),
        .wait (.change u.ctrl.stagedId)) := by
  simp only [bodyCalCommit, hb, hs, hp, hc, hm, hmoved, Option.isSome_none, Bool.true_eq_false, Bool.false_eq_true, or_self,
    if_false]

/-- R476: while BANK runs. -/
theorem bodyCal_busy {bk : FlashBank} (hb : u.work.bankNew = some bk) :
    bodyCalBegin u r = (u, .plain Status.BUSY) ∧ bodyCalCommit u r = (u, .plain Status.BUSY) ∧
      bodyColourTableWrite u r = (u, .plain Status.BUSY) := by
  refine ⟨if_pos (Or.inr (by rw [hb]; rfl)), if_pos (by rw [hb]; rfl), if_pos (by rw [hb]; rfl)⟩

/-- R244: the copy of the active plane is done. -/
theorem execCalCopyDone_copies {s : State} (hc : s.anvil.copying = true) : ∃ t, execCalCopyDone s = .next t ∧
    t.anvil.copying = false ∧ t.anvil.activeB = s.anvil.activeB ∧ t.plane (!s.anvil.activeB) = s.plane s.anvil.activeB ∧
      t.plane s.anvil.activeB = s.plane s.anvil.activeB := by
  unfold execCalCopyDone
  rw [if_neg (by simp [hc])]
  refine ⟨_, rfl, ?_⟩
  unfold State.plane
  rw [State.completeFirst_anvil]
  cases s.anvil.activeB <;> simp

/-! ### COLOUR_TABLE_WRITE -/

/-- R229: a part of a table that is in its bounds. -/
theorem bodyColourTableWrite_judges {size n : Nat} {ws : List Word} {m : SMap Nat} (hn : n = byteAt r.payload 0)
    (hws : ws = wordsOf (r.payload.drop 12) (field r.payload 4 2))
    (hm : m = putWords (u.tableDefault n) (u.stagedTable n) (field r.payload 2 2) ws)
    (hb : u.work.bankNew = none) (hsize : tableEntries n = some size) (h248 : field r.payload 4 2 ≤ 248)
    (hfit : field r.payload 2 2 + ws.length ≤ size) (hmax : ∀ v ∈ ws, v.toNat ≤ tableMax n) : bodyColourTableWrite u r =
      if bit (byteAt r.payload 1) 0 = false then (u.putStagedTable n m, .plain Status.OK)
      else if entriesCrc size (SMap.get (u.tableDefault n) m) = field r.payload 8 4 then u.acceptTable r n m
      else ((u.dropStagedTable n).raise Ev.TABLE_CHECK_FAIL, .plain Status.CHECK_FAILED) := by
  unfold bodyColourTableWrite
  simp only [← hn, ← hws, ← hm, hb, hsize, Option.isSome_none, Bool.false_eq_true, if_false]
  rw [if_neg]
  simp only [List.any_eq_true, decide_eq_true_eq, not_or, Nat.not_lt, not_exists, not_and]
  exact ⟨h248, hfit, hmax⟩

/-- R230: an accepted table waits for its tick, or on the standby for the record. -/
theorem State.acceptTable_waits (u : State) (r : Request) (n : Nat) (m : SMap Nat) :
    (u.acceptTable r n m).2.accepts = true ∧
      (u.acceptTable r n m).1.anvil.acceptedTables = u.anvil.acceptedTables ++ [(n, m)] ∧
      (u.acceptTable r n m).1.activeTable n = u.activeTable n := by
  unfold State.acceptTable
  by_cases hc : r.chan = .c3
  · simp only [hc, if_true]
    exact ⟨rfl, rfl, rfl⟩
  · simp only [hc, if_false]
    exact ⟨rfl, rfl, rfl⟩

/-- What the active tables look at. -/
theorem State.activeTable_congr {s t : State} (ha : t.anvil = s.anvil) (hl : t.lamp = s.lamp) (n : Nat) :
    t.activeTable n = s.activeTable n := by
  unfold State.activeTable State.tableMap
  rw [ha, hl]

theorem State.dropStagedTable_raise_activeTable (s : State) (n : Nat) (e : Ev) :
    ((s.dropStagedTable n).raise e).activeTable n = s.activeTable n := by
  rw [State.activeTable_congr (State.raise_anvil _ _) (State.raise_lamp _ _)]
  rfl

/-! ### CAL_STORE -/

/-- R468: the records of the 64 KB steps go to the checkpoint log. -/
theorem Nvm.logCals_eq (n : Nvm) (content : Nat) (bytes : List Byte) (a k : Nat) :
    ∃ log, n.logCals content bytes a k = { n with ckptLog := log } := by
  unfold Nvm.logCals
  induction List.range k generalizing n with
  | nil => exact ⟨n.ckptLog, rfl⟩
  | cons i l ih => exact ih _

theorem Nvm.setOtherBank_banks (n : Nvm) (b : Option FlashBank) :
    (n.setOtherBank b).otherBank = b ∧ (n.setOtherBank b).activeBank = n.activeBank ∧
      (n.setOtherBank b).activeBankB = n.activeBankB := by
  unfold Nvm.setOtherBank Nvm.otherBank Nvm.activeBank
  cases n.activeBankB <;> simp

/-- R476: BANK erases the bank that is not active and begins to write it. -/
theorem bodyBank_begins (hb : u.work.bankNew = none) (hbit : bit (byteAt r.payload 1) 0 = false) :
    ∃ t : State, bodyBank u r = (t, .wait .bankStore) ∧ t.work.bankNew = some u.bankImage ∧ t.nvm.otherBank = none ∧
      t.nvm.activeBank = u.nvm.activeBank ∧ t.nvm.activeBankB = u.nvm.activeBankB := by
  obtain ⟨hother, hactive, hactiveB⟩ := u.nvm.setOtherBank_banks none
  unfold bodyBank
  simp only [hb, hbit, Option.isSome_none, Bool.false_eq_true, false_and, if_false]
  generalize Config.freeNat u.draws % _ = k
  generalize (0 + k) * 65536 = done
  obtain ⟨log, hlog⟩ := Nvm.logCals_eq ({ u.nvm.setOtherBank none with calCkpt := some (crc32c u.bankImage.bytes, done) })
    (crc32c u.bankImage.bytes) u.bankImage.bytes 0 k
  rw [hlog]
  exact ⟨_, rfl, rfl, hother, hactive, hactiveB⟩

/-- R476: the bank that was written becomes the active one. -/
theorem execBankStoreComplete_switches {s : State} {bk : FlashBank} (hb : s.work.bankNew = some bk) :
    ∃ t, execBankStoreComplete s = .next t ∧ t.work.bankNew = none ∧ t.nvm.activeBankB = !s.nvm.activeBankB ∧
      t.nvm.activeBank = some bk ∧ t.nvm.otherBank = (if s.nvm.activeBankB then s.nvm.bankB else s.nvm.bankA) ∧
      t.nvm.calCkpt = none := by
  unfold execBankStoreComplete
  simp only [hb]
  generalize bk.bytes.length / 65536 - _ = left
  generalize (s.nvm.calCkpt.map (·.2)).getD 0 / 65536 = done
  obtain ⟨log, hlog⟩ := Nvm.logCals_eq ({ s.nvm.setOtherBank (some bk) with
    activeBankB := !s.nvm.activeBankB, calCkpt := none }) (crc32c bk.bytes) bk.bytes done left
  rw [hlog]
  refine ⟨_, rfl, ?_⟩
  rw [State.completeFirst_work, State.completeFirst_nvm]
  refine ⟨rfl, rfl, ?_⟩
  unfold Nvm.activeBank Nvm.otherBank Nvm.setOtherBank
  cases h : s.nvm.activeBankB <;> exact ⟨rfl, rfl, rfl⟩

theorem bodyLibSave_erases {b : Buffer} {e : Nat} (he : e = byteAt r.payload 4) (hb : u.buffer? (field r.payload 2 2) = some b)
    (h7 : e ≤ 7) (hwords : b.words ≤ 1048576) : bodyLibSave u r =
      ({ u with nvm := { u.nvm with library := u.nvm.library.map fun x =>
          if x.entry = e then { x with data := erased (x.width * x.height * (if x.rgba16 then 2 else 1)) } else x } },
        .wait (.imageWrite 3 e b)) := by
  unfold bodyLibSave
  simp only [← he, hb]
  rw [if_neg (by omega)]

theorem bodyLibLoad_reads {b : Buffer} {x : LibEntry} {e : Nat} (he : e = byteAt r.payload 4)
    (hx : (u.nvm.library.find? fun z => decide (z.entry = e) && decide (z.width ≠ 0)) = some x)
    (hb : u.buffer? (field r.payload 2 2) = some b) (hw : x.width = b.width) (hh : x.height = b.height)
    (hfmt : x.rgba16 = b.rgba16) : bodyLibLoad u r =
      (u, if u.bufferLocked b then .plain Status.BUFFER_IN_USE else .wait (.imageWrite 4 e b)) := by
  unfold bodyLibLoad
  simp only [← he, hx, hb, hw, hh, hfmt, ne_eq, not_true_eq_false, or_self, if_false]
  split <;> rfl

end

/-- R477: the image or the entry that was written. -/
theorem State.finishImage_writes (s : State) (op k : Nat) (b : Buffer) (h1 : 1 ≤ op) (h3 : op ≤ 3) :
    (op = 1 → (s.finishImage op k b).1.nvm.safe.map FlashImage.data = some b.data ∧
      (s.finishImage op k b).1.nvm.emerg = s.nvm.emerg) ∧
    (op = 2 → (s.finishImage op k b).1.nvm.emerg.map FlashImage.data = some b.data ∧
      (s.finishImage op k b).1.nvm.safe = s.nvm.safe) ∧
    (op = 3 → ∃ z ∈ (s.finishImage op k b).1.nvm.library, z.entry = k ∧ z.data = b.data ∧ z.width = b.width ∧
      z.height = b.height) := by
  refine ⟨?_, ?_, ?_⟩ <;> rintro rfl
  · exact ⟨rfl, rfl⟩
  · exact ⟨rfl, rfl⟩
  · exact ⟨_, List.mem_append_right _ (List.mem_singleton_self _), rfl, rfl, rfl, rfl⟩

/-- R477: the first image write that waits completes. -/
theorem execImageWriteComplete_writes {s : State} {y : Waiting} {rest : List Waiting} {op k : Nat} {b : Buffer}
    (hw : s.ctrl.waiting = y :: rest) (hy : y.why = .imageWrite op k b) : execImageWriteComplete s =
      .next ((s.finishImage op k b).1.completeWaiting fun w => if w = y then some (s.finishImage op k b).2 else none) := by
  unfold execImageWriteComplete
  simp only [hw, List.find?_cons, hy]

/-- Settles O53: each command has one case for what its request names; the logs of the flash hold no bank. -/
theorem calibrationIsStagedAndStored : Obligations.CalibrationIsStagedAndStored := by
  unfold Obligations.CalibrationIsStagedAndStored
  intro s u r b x y bk size
  refine ⟨fun h hb hp hbit => State.answers_of_body h (bodyCalBegin_opens hb hp hbit),
    fun h hb hp hbit => State.answers_of_body h (bodyCalBegin_copies hb hp hbit),
    fun h hp hs hn h1 h62 hfit => ⟨_, State.answers_of_body h (bodyCalWrite_writes hp hs hn h1 h62 hfit), u.mapInactive_plane _⟩,
    fun h hb hs hp hc hm hmoved => ⟨_, State.answers_of_body h (bodyCalCommit_waits hb hs hp hc hm hmoved), rfl, rfl⟩,
    fun hb => ?_, execCalCopyDone_copies, fun ⟨h, hb, hsize, h248, hfit, hmax⟩ hlast => State.answers_of_body h ?_,
    fun ⟨h, hb, hsize, h248, hfit, hmax⟩ hlast hcrc => ⟨_, _, State.answers_of_body h ?_, u.acceptTable_waits r _ _⟩,
    fun ⟨h, hb, hsize, h248, hfit, hmax⟩ hlast hcrc => ⟨_, State.answers_of_body h ?_, u.dropStagedTable_raise_activeTable _ _,
      fun hs => (State.raise_shows (u.dropStagedTable _) (by decide)).sees (s := u.dropStagedTable _) hs⟩, fun h hb hbit => ?_, execBankStoreComplete_switches,
    fun h => State.answers_of_body h rfl, fun h => State.answers_of_body h rfl,
    fun h hb h7 hwords => ⟨_, State.answers_of_body h (bodyLibSave_erases rfl hb h7 hwords), fun z hz hne => ?_⟩,
    fun h hx hb hw hh hfmt => State.answers_of_body h (bodyLibLoad_reads rfl hx hb hw hh hfmt), fun op k rest hw hy h1 h3 => ?_⟩
  · obtain ⟨hbegin, hcommit, htable⟩ := bodyCal_busy (r := r) hb
    exact ⟨fun h => State.answers_of_body h hbegin, fun h => State.answers_of_body h hcommit,
      fun h => State.answers_of_body h htable⟩
  · rw [bodyColourTableWrite_judges rfl rfl rfl hb hsize h248 hfit hmax, if_pos hlast]
  · rw [bodyColourTableWrite_judges rfl rfl rfl hb hsize h248 hfit hmax, if_neg (by simp [hlast]), if_pos hcrc]
  · rw [bodyColourTableWrite_judges rfl rfl rfl hb hsize h248 hfit hmax, if_neg (by simp [hlast]), if_neg hcrc]
  · obtain ⟨t, hbody, ht⟩ := bodyBank_begins hb hbit
    exact ⟨t, State.answers_of_body h hbody, ht⟩
  · exact List.mem_map.mpr ⟨z, hz, if_neg hne⟩
  · refine ⟨_, execImageWriteComplete_writes hw hy, ?_, ?_⟩
    · rw [State.completeWaiting_waiting, List.mem_filter]
      simp
    · rw [State.completeWaiting_nvm]
      exact s.finishImage_writes op k b h1 h3

end Sys2Proof.Machine
end

section
/-! ## Updates: R464 to R473 -/

namespace Sys2Proof.Machine

/-! ### UPD_OPEN -/

/-- R465: what a manifest that is taken has shown. -/
theorem State.judgeOpen_none {u : State} {m : Manifest} {resume : Bool} (h : u.judgeOpen m resume = none) :
    m.verifies = true ∧ u.nvm.secFloor ≤ m.security := by
  unfold State.judgeOpen at h
  simp only at h
  split at h
  · cases h
  · split at h
    · cases h
    · rename_i hver
      split at h
      · cases h
      · split at h
        · cases h
        · rename_i hsec
          exact ⟨by simpa using hver, by omega⟩

/-- R467, R470: the stores of an update that begins: no checkpoint, and an empty target slot. -/
def Nvm.opened (n : Nvm) (id : Nat) (digest : List Byte) : Nvm :=
  ({ (({ n with ckpt := none, ckptHead := none } : Nvm).logHead 0 []).setTarget none with
    partBlocks := [], lastCkptId := id, ckptHead := some digest } : Nvm).logHead id digest

theorem Nvm.opened_clears (n : Nvm) (id : Nat) (digest : List Byte) : (n.opened id digest).partBlocks = [] ∧
    (n.opened id digest).ckpt = none ∧
      (n.activeSlotB = true → (n.opened id digest).slotA = none ∧ (n.opened id digest).slotB = n.slotB) ∧
      (n.activeSlotB = false → (n.opened id digest).slotB = none ∧ (n.opened id digest).slotA = n.slotA) := by
  unfold Nvm.opened Nvm.setTarget Nvm.logHead Nvm.logCkpt
  refine ⟨rfl, ?_, fun h => ?_, fun h => ?_⟩
  · dsimp only
    split <;> rfl
  · simp [h]
  · simp [h]

section
variable {u : State} {r : Request}

/-- R467, R470: the state in which a new update receives. -/
theorem bodyUpdOpen_opens {new : Manifest} (hnew : new = parseManifest ((r.payload.drop 4).take 256))
    (hfresh : bit (byteAt r.payload 0) 0 = false) (hj : u.judgeOpen new false = none) :
    ∃ t : State, bodyUpdOpen u r = (t, .done Status.OK (beBytes 4 256 ++ beBytes 4 0)) ∧ t.work.upd = .receiving ∧
      t.work.manifest = some new ∧ t.nvm.partBlocks = [] ∧ t.nvm.ckpt = none ∧
      (u.nvm.activeSlotB = true → t.nvm.slotA = none ∧ t.nvm.slotB = u.nvm.slotB) ∧
      (u.nvm.activeSlotB = false → t.nvm.slotB = none ∧ t.nvm.slotA = u.nvm.slotA) := by
  unfold bodyUpdOpen
  simp only [hfresh, ← hnew, hj]
  generalize _ % _ + 1 = id
  generalize sha384 new.bytes = digest
  exact ⟨_, rfl, rfl, rfl, u.nvm.opened_clears id digest⟩

/-! ### UPD_BLOCK -/

theorem State.takeBytes_empty (m : Manifest) (fuel : Nat) {s : State} (h : s.work.partial_ = []) :
    State.takeBytes m (fuel + 1) s = (s, Status.OK) := by
  rw [State.takeBytes]
  simp only [h, List.isEmpty_nil, if_true]

/-- R463: a record that is well formed so far is not the one behind the last. -/
theorem blocks_of_recordHeadOk {m : Manifest} {done start : Nat} {p : List Byte} (h : recordHeadOk m done start p = true) :
    done < m.blocks := by
  unfold recordHeadOk at h
  simp only [Bool.and_eq_true, decide_eq_true_eq] at h
  exact h.1.1.1.1.2

/-- R466: a record that is not complete waits for more bytes. -/
theorem State.takeBytes_waits {m : Manifest} {s : State} {p : List Byte} (fuel : Nat) (hp : s.work.partial_ = p)
    (h8 : 8 ≤ p.length) (hok : recordHeadOk m s.nvm.partBlocks.length (s.work.nextOffset - p.length) p = true)
    (hshort : p.length < 12 ∨ p.length < field p 4 4) : State.takeBytes m (fuel + 1) s = (s, Status.OK) := by
  have hne : p.isEmpty = false := by cases p <;> simp at h8 ⊢
  have hblocks := blocks_of_recordHeadOk hok
  rw [State.takeBytes]
  simp only [hp, hne, hok, Bool.true_eq_false, Bool.false_eq_true, and_false, if_false, Nat.not_le.mpr hblocks, hshort, if_true]

theorem State.writeCheckpoint_frame (s : State) (m : Manifest) : (s.writeCheckpoint m).work = s.work ∧
    (s.writeCheckpoint m).nvm.partBlocks = s.nvm.partBlocks := ⟨rfl, rfl⟩

/-- R466: the record that a packet completes becomes a block. -/
theorem State.takeBytes_builds {m : Manifest} {s : State} {p out : List Byte} (fuel : Nat) (hp : s.work.partial_ = p)
    (h12 : 12 ≤ p.length) (hok : recordHeadOk m s.nvm.partBlocks.length (s.work.nextOffset - p.length) p = true)
    (hlen : p.length = field p 4 4) (hout : s.buildBlock m p = .ok out) :
    ∃ t : State, State.takeBytes m (fuel + 2) s = (t, Status.OK) ∧ t.nvm.partBlocks = s.nvm.partBlocks ++ [out] ∧
      t.work.partial_ = [] ∧ t.work.nextOffset = s.work.nextOffset := by
  have hne : p.isEmpty = false := by cases p <;> simp at h12 ⊢
  have hblocks := blocks_of_recordHeadOk hok
  rw [State.takeBytes]
  simp only [hp, hne, hok, Bool.true_eq_false, Bool.false_eq_true, and_false, if_false, Nat.not_le.mpr hblocks, ← hlen,
    Nat.not_lt.mpr h12, Nat.lt_irrefl, or_self, List.take_length, List.drop_length, hout]
  refine ⟨_, State.takeBytes_empty m fuel rfl, ?_, rfl, rfl⟩
  split
  · exact (State.writeCheckpoint_frame _ m).2
  · rfl

/-- The state with the bytes in hand. -/
def State.withBytes (u : State) (data : List Byte) : State :=
  { u with work := { u.work with
      partial_ := u.work.partial_ ++ data, nextOffset := u.work.nextOffset + data.length } }

theorem bodyUpdBlock_takes {m : Manifest} {t : State} (hu : u.work.upd = .receiving) (hm : u.work.manifest = some m)
    (hoff : u.work.nextOffset = field r.payload 0 4)
    (ht : State.takeBytes m 64 (u.withBytes ((r.payload.take r.len.toNat).drop 4)) = (t, Status.OK)) :
    bodyUpdBlock u r = (t, .done Status.OK t.updReply) := by
  unfold bodyUpdBlock
  split
  · rename_i n _ hn
    obtain rfl : n = m := Option.some.inj (hn.symm.trans hm)
    simp only [← hoff, Nat.lt_irrefl, if_false, Nat.sub_self, List.drop_zero]
    unfold State.withBytes at ht
    rw [ht]
    exact if_pos rfl
  · rename_i hno
    exact absurd hm (hno m hu)

theorem bodyUpdBlock_gap {m : Manifest} (hu : u.work.upd = .receiving) (hm : u.work.manifest = some m)
    (hoff : u.work.nextOffset < field r.payload 0 4) : bodyUpdBlock u r = (u, .plain Status.BAD_PARAM) := by
  simp only [bodyUpdBlock, hu, hm, hoff, if_true]

/-! ### UPD_FINISH and UPD_ACTIVATE -/

theorem bodyUpdFinish_verifies {m : Manifest} (hu : u.work.upd = .receiving) (hm : u.work.manifest = some m) :
    (u.nvm.partBlocks.length = m.blocks →
      bodyUpdFinish u r = ({ u with work := { u.work with upd := .verifying } }, .wait .verify)) ∧
    (u.nvm.partBlocks.length ≠ m.blocks → bodyUpdFinish u r = (u, .plain Status.BAD_PARAM)) := by
  unfold bodyUpdFinish
  simp only [hu, hm]
  exact ⟨fun h => if_neg (by simp [h]), fun h => if_pos h⟩

theorem bodyUpdActivate_arms (hu : u.work.upd = .ready) (hd : u.work.resetDue = none) :
    ∃ t : State, bodyUpdActivate u r = (t, .plain Status.OK) ∧
      t.nvm = ({ u.nvm with trialSlotB := !u.nvm.activeSlotB, trialState := 1 } : Nvm).logBoot ∧
      t.work.resetDue = some (2, u.up + 100000000) := by
  refine ⟨_, if_neg (by simp [hu]), rfl, ?_⟩
  unfold State.dueReset
  simp only [hd]
  rfl

/-- R466: the reply of UPD_STATUS. -/
theorem bodyUpdStatus_shows (u : State) (r : Request) : ∃ out, bodyUpdStatus u r = (u, .done Status.OK out) ∧
    out.length = 12 ∧ byteAt out 0 = u.work.upd.code := by
  refine ⟨_, rfl, ?_, ?_⟩
  · cases u.work.upd <;> cases u.nvm.ckpt <;> simp [length_beBytes, State.updReply]
  · rw [byteAt, List.append_assoc, field_beBytes_append]
    cases u.work.upd <;> rfl

end

/-! ### The read-back and the confirmation -/

theorem execVerifyComplete_judges {s : State} {m : Manifest} (hu : s.work.upd = .verifying) (hm : s.work.manifest = some m) :
    ∃ t, execVerifyComplete s = .next t ∧
      (sha384 s.nvm.partBlocks.flatten = m.imageDigest → t.work.upd = .ready ∧
        t.nvm = s.nvm.setTarget (some ⟨m, s.nvm.partBlocks⟩)) ∧
      (sha384 s.nvm.partBlocks.flatten ≠ m.imageDigest → t.work.upd = .none ∧
        t.nvm = ({ s.nvm with ckpt := none, ckptHead := none } : Nvm).logHead 0 []) := by
  unfold execVerifyComplete
  simp only [hu, hm]
  generalize sha384 s.nvm.partBlocks.flatten = digest
  split
  · rename_i h
    refine ⟨_, rfl, fun _ => ?_, fun hno => absurd h hno⟩
    rw [State.completeFirst_work, State.completeFirst_nvm]
    exact ⟨rfl, rfl⟩
  · rename_i h
    refine ⟨_, rfl, fun hyes => absurd hyes h, fun _ => ?_⟩
    rw [State.completeFirst_work, State.completeFirst_nvm]
    exact ⟨rfl, rfl⟩

/-- R464, R473: what a confirmation changes. -/
theorem State.confirm_confirms (x : State) : x.confirm.nvm.activeSlotB = x.nvm.trialSlotB ∧ x.confirm.nvm.trialState = 0 ∧
    x.confirm.nvm.secFloor = max x.nvm.secFloor ((x.work.running.map (·.security)).getD 0) ∧
    x.confirm.work.upd = (if x.nvm.ckptHead.isSome then .suspended else .none) ∧
    (x.regsOk → x.confirm.sees Ev.CONFIRMED = true) ∧ x.confirm.up = x.up := by
  unfold State.confirm
  rw [State.raise_nvm, State.raise_work, State.raise_up]
  exact ⟨rfl, rfl, rfl, rfl, fun hs => (State.raise_shows _ (by decide)).sees hs, rfl⟩

theorem execAutoConfirm_confirms {s : State} {due : Nat} (hu : s.work.upd = .trial) (hf : s.firmwareUp = true)
    (hon : s.paramOn P.AUTO_CONFIRM = true) (he : s.work.engineFaulted = false) (hfatal : s.sched.fatal = false)
    (hdeg : s.sys.degraded = false) (hdram : s.sys.dramFail = false)
    (hdue : due = s.work.idleUp + s.param P.AUTO_CONFIRM_DELAY * 1000000000) :
    execAutoConfirm s = .next (s.reach due).confirm := by
  unfold execAutoConfirm
  rw [if_pos ⟨hu, hf, hon, he, hfatal, hdeg, hdram⟩, ← hdue]

/-- Settles O54: each command has one case for the state of the update, and `takeBytes` one for a record that is not complete and
one for the record that a packet completes. -/
theorem updatesAreVerifiedBeforeTheyAct : Obligations.UpdatesAreVerifiedBeforeTheyAct := by
  unfold Obligations.UpdatesAreVerifiedBeforeTheyAct
  intro s u r m st
  refine ⟨fun h hst => State.answers_of_body h ?_, fun h hfresh hj => ?_, fun h hu hm hoff h8 hok => ⟨fun hshort => ?_,
      fun out h12 hlen hout => ?_⟩, fun h hu hm hoff => State.answers_of_body h (bodyUpdBlock_gap hu hm hoff),
    fun h hu hm => ?_, execVerifyComplete_judges, fun h hu hd => ?_, fun h hu => State.answers_of_body h (if_pos hu),
    fun h hu => ⟨_, State.answers_of_body h (if_neg (by simp [hu])), ?_⟩, fun hu hf hon he hfatal hdeg hdram => ?_, fun h => ?_⟩
  · simp only [bodyUpdOpen, hst]
  · obtain ⟨t, hbody, hupd, hman, hblocks, hckpt, hslots⟩ := bodyUpdOpen_opens rfl hfresh hj
    obtain ⟨hver, hsec⟩ := State.judgeOpen_none hj
    exact ⟨t, State.answers_of_body h hbody, hupd, hman, hblocks, hckpt, hver, hsec, hslots⟩
  · exact ⟨_, State.answers_of_body h (bodyUpdBlock_takes hu hm hoff (State.takeBytes_waits 63 rfl h8 hok hshort)), rfl, rfl, rfl⟩
  · obtain ⟨t, ht, hblocks, hpart, hnext⟩ := State.takeBytes_builds (s := u.withBytes ((r.payload.take r.len.toNat).drop 4)) 62
      rfl h12 hok hlen hout
    exact ⟨t, State.answers_of_body h (bodyUpdBlock_takes hu hm hoff ht), hblocks, hpart, hnext⟩
  · obtain ⟨hall, hmissing⟩ := bodyUpdFinish_verifies (r := r) hu hm
    exact ⟨fun hl => State.answers_of_body h (hall hl), fun hl => State.answers_of_body h (hmissing hl)⟩
  · obtain ⟨t, hbody, ht⟩ := bodyUpdActivate_arms (r := r) hu hd
    exact ⟨t, State.answers_of_body h hbody, ht⟩
  · obtain ⟨hslot, htrial, hfloor, hupd, hsees, -⟩ := u.confirm_confirms
    exact ⟨hslot, htrial, hfloor, hupd, hsees⟩
  · obtain ⟨due, hdue⟩ : ∃ due, due = s.work.idleUp + s.param P.AUTO_CONFIRM_DELAY * 1000000000 := ⟨_, rfl⟩
    obtain ⟨hslot, htrial, hfloor, hupd, hsees, hup⟩ := (s.reach due).confirm_confirms
    rw [State.reach_nvm] at hslot hfloor hupd
    rw [State.reach_work] at hfloor
    refine ⟨_, execAutoConfirm_confirms hu hf hon he hfatal hdeg hdram hdue, ⟨hslot, htrial, hfloor, hupd, fun hs =>
      hsees (s.reach_keepsEvents due hs).1⟩, ?_⟩
    rw [hup, ← hdue]
    exact s.le_reach_up due
  · obtain ⟨out, hbody, hout⟩ := bodyUpdStatus_shows u r
    exact ⟨out, State.answers_of_body h hbody, hout⟩

end Sys2Proof.Machine
end

section
/-! ## Keys, passwords and unlocks: R482 to R487 -/

namespace Sys2Proof.Machine

/-! ### The grants of the host channel -/

/-- The step keeps what the host channel is granted. -/
def State.keepsGrant (s t : State) : Prop :=
  t.ctrl.ch0.rights = s.ctrl.ch0.rights ∧ t.ctrl.ch0.rightsUntil = s.ctrl.ch0.rightsUntil

theorem State.keepsGrant_refl (s : State) : s.keepsGrant s := ⟨rfl, rfl⟩

theorem State.keepsGrant.trans {s t u : State} (h : s.keepsGrant t) (h' : t.keepsGrant u) : s.keepsGrant u :=
  ⟨h'.1.trans h.1, h'.2.trans h.2⟩

theorem State.offer_keepsGrant (s : State) (e : JEntry) : s.keepsGrant (s.offer e) := by
  have hoffer : (s.ctrl.ch0.offer e).rights = s.ctrl.ch0.rights ∧
      (s.ctrl.ch0.offer e).rightsUntil = s.ctrl.ch0.rightsUntil := by
    unfold Client.offer
    split
    · split <;> exact ⟨rfl, rfl⟩
    · exact ⟨rfl, rfl⟩
  unfold State.offer
  split
  · dsimp only
    split <;> exact hoffer
  · exact s.keepsGrant_refl

theorem State.streamLoses_keepsGrant (s : State) (n : Nat) (e : Option JEntry) : s.keepsGrant (s.streamLoses n e) := by
  unfold State.streamLoses
  split <;> exact ⟨rfl, rfl⟩

theorem State.jAppend_keepsGrant (s : State) (e : JEntry) : s.keepsGrant (s.jAppend e) := by
  unfold State.jAppend
  split
  · exact s.keepsGrant_refl
  · dsimp only
    split
    · refine State.keepsGrant.trans (t := State.count _ Reg.JNL_OVERWRITTEN) ?_ (State.offer_keepsGrant _ _)
      exact State.keepsGrant.trans (t := { s with jnl := _ }) ⟨rfl, rfl⟩ (State.streamLoses_keepsGrant _ _ _)
    · exact State.keepsGrant.trans (t := { s with jnl := _ }) ⟨rfl, rfl⟩ (State.offer_keepsGrant _ _)

theorem State.jAccept_keepsGrant (s : State) (e : JEntry) : s.keepsGrant (s.jAccept e) := by
  unfold State.jAccept State.jOverflow
  split
  · refine (s.jAppend_keepsGrant e).trans (State.keepsGrant.trans (t := State.setReg _ _ _) ⟨rfl, rfl⟩
      (State.jAppend_keepsGrant _ _))
  · exact s.jAppend_keepsGrant e

theorem State.emit_keepsGrant (s : State) (src kind code payload : Nat) : s.keepsGrant (s.emit src kind code payload) := by
  have hfold : ∀ (l : List JEntry) (t : State), t.keepsGrant (l.foldl State.jAccept t) := fun l => by
    induction l with
    | nil => exact State.keepsGrant_refl
    | cons x l ih => exact fun t => (t.jAccept_keepsGrant x).trans (ih _)
  unfold State.emit State.jDrain
  dsimp only
  refine State.keepsGrant.trans (State.keepsGrant.trans ?_ (hfold _ _)) (State.jAccept_keepsGrant _ _)
  split <;> exact ⟨rfl, rfl⟩

theorem State.raise_keepsGrant (s : State) (e : Ev) : s.keepsGrant (s.raise e) := by
  unfold State.raise State.raiseWith
  dsimp only
  split
  · exact ⟨rfl, rfl⟩
  · exact State.keepsGrant.trans (t := s.setEv e) ⟨rfl, rfl⟩ (State.emit_keepsGrant _ _ _ _ _)

theorem State.serviceGone_keepsGrant (s : State) (rights : Nat) : s.keepsGrant (s.serviceGone rights) := by
  unfold State.serviceGone
  split
  · exact State.keepsGrant.trans (t := { s with ctrl := { s.ctrl with serviceEnds := true } }) ⟨rfl, rfl⟩
      (State.raise_keepsGrant _ _)
  · exact s.keepsGrant_refl

/-- R485: the rights of the host channel change. -/
theorem State.setRights_c0 (s : State) (ep : Endpoint) (rights until_ : Nat) :
    (s.setRights .c0 ep rights until_).ctrl.ch0.rights = rights ∧
      (s.setRights .c0 ep rights until_).ctrl.ch0.rightsUntil = until_ := by
  unfold State.setRights
  dsimp only
  split
  · exact ⟨rfl, rfl⟩
  · exact State.serviceGone_keepsGrant (s.setClient .c0 ep { s.client .c0 ep with rights := rights, rightsUntil := until_ }) _

/-- R485: the rights of another channel change. -/
theorem State.setRights_keepsGrant {ch : Chan} (h : ch = .c1 ∨ ch = .c2) (s : State) (ep : Endpoint) (rights until_ : Nat) :
    s.keepsGrant (s.setRights ch ep rights until_) := by
  have hset : ∀ c, s.keepsGrant (s.setClient ch ep c) := fun c => by
    rcases h with rfl | rfl <;> exact ⟨rfl, rfl⟩
  unfold State.setRights
  dsimp only
  split
  · exact hset _
  · exact (hset _).trans (State.serviceGone_keepsGrant _ _)

theorem State.relockAll_c0 (s : State) : s.relockAll.ctrl.ch0.rights = 0 := by
  have hfold : ∀ {ch : Chan}, ch = .c1 ∨ ch = .c2 → ∀ (l : List Client) (t : State),
      t.keepsGrant (l.foldl (fun s c => s.setRights ch c.ep 0 0) t) := fun h l => by
    induction l with
    | nil => exact State.keepsGrant_refl
    | cons c l ih => exact fun t => (State.setRights_keepsGrant h t _ 0 0).trans (ih _)
  unfold State.relockAll
  dsimp only
  exact (((hfold (Or.inl rfl) _ _).trans (hfold (Or.inr rfl) _ _)).1).trans (s.setRights_c0 _ 0 0).1

/-! ### OWNER_KEY_SET -/

theorem State.setLevel_nvm (s : State) (l : Nat) : (s.setLevel l).nvm = { s.nvm with level := l } := by
  unfold State.setLevel
  split
  · rename_i h
    rw [← h]
  · rw [State.raise_nvm]

section
variable {u : State} {r : Request}

theorem bodySetKey_sets (h : (keyData r).length = 32) : ∃ t : State, bodySetKey u r = (t, .plain Status.OK) ∧
    t.nvm = { u.nvm with key := some (keyData r), level := if u.nvm.level = 0 then 1 else u.nvm.level } := by
  refine ⟨_, if_neg (by simp [h]), ?_⟩
  dsimp only
  split
  · rw [State.setLevel_nvm]
  · rfl

theorem bodySetPassword_sets (hl : u.nvm.level ≠ 0) (h8 : 8 ≤ (keyData r).length) (h64 : (keyData r).length ≤ 64)
    (hr : byteAt r.payload 1 ≤ 7) : ∃ t : State, bodySetPassword u r = (t, .plain Status.OK) ∧ t.nvm.pwSalt.length = 16 ∧
      t.nvm.pwDigest = some (passwordDigest t.nvm.pwSalt (keyData r)) ∧ t.nvm.pwRights = byteAt r.payload 1 ∧
      t.nvm.level = u.nvm.level := by
  unfold bodySetPassword
  dsimp only
  rw [if_neg hl, if_neg (by omega)]
  exact ⟨_, rfl, by simp [State.randomBytes], rfl, rfl, rfl⟩

theorem bodyPlainKey_does {ok : Nat → Bool} {effect : State → State} (hok : ok u.nvm.level = true) (hd : keyData r = []) :
    bodyPlainKey ok effect u r = (effect u, .plain Status.OK) := by
  unfold bodyPlainKey
  rw [if_neg (by simp [hok]), if_neg (by simp [hd])]

/-! ### Challenges, unlocks and failures -/

theorem bodyUnlockChallenge_shows (hl : u.work.lockout = false) (hk : u.nvm.key.isSome = true) :
    ∃ (t : State) (x : List Byte), bodyUnlockChallenge u r = (t, .done Status.OK (x ++ beBytes 8 u.nvm.serial)) ∧
      x.length = 32 ∧ t.work.nonce = some x ∧ t.work.nonceUp = u.up := by
  unfold bodyUnlockChallenge
  rw [if_neg (by simp [hl]), if_neg (by rw [Option.isNone_iff_eq_none]; exact Option.isSome_iff_ne_none.mp hk)]
  exact ⟨_, _, rfl, by simp [State.randomBytes], rfl, rfl⟩

theorem unlockRangeOk_of_le (h31 : byteAt r.payload 0 ≤ 31) (hm : field r.payload 2 2 ≤ 1440) : unlockRangeOk r = true := by
  simp [unlockRangeOk, h31, hm]

/-- R485, R486: what the right answer does. -/
def State.grants (u t : State) (r : Request) : Prop :=
  t.nvm.failures = 0 ∧
    (r.chan = .c0 → t.ctrl.ch0.rights = byteAt r.payload 0 ∧ t.ctrl.ch0.rightsUntil =
      (if field r.payload 2 2 = 0 then 0 else u.up + field r.payload 2 2 * 60000000000)) ∧
    (u.regsOk → t.sees Ev.UNLOCKED = true)

/-- R486: what a wrong answer does. -/
def State.fails (u t : State) : Prop :=
  t.nvm.failures = u.nvm.failures + 1 ∧ t.ctrl.ch0.rights = u.ctrl.ch0.rights ∧
    (4 ≤ u.nvm.failures → t.work.lockout = true ∧
      t.work.lockoutUntil = u.up + min (2 ^ (u.nvm.failures - 4)) 1440 * 60000000000) ∧
    (u.nvm.failures < 4 → t.work.lockout = u.work.lockout) ∧ (u.regsOk → t.sees Ev.UNLOCK_FAILED = true)

theorem State.setRights_nvm (s : State) (ch : Chan) (ep : Endpoint) (rights until_ : Nat) :
    (s.setRights ch ep rights until_).nvm = s.nvm := by
  unfold State.setRights State.serviceGone
  dsimp only
  split
  · exact State.setClient_nvm _ _ _ _
  · split
    · rw [State.raise_nvm]
      exact State.setClient_nvm _ _ _ _
    · exact State.setClient_nvm _ _ _ _

theorem State.setRights_work (s : State) (ch : Chan) (ep : Endpoint) (rights until_ : Nat) :
    (s.setRights ch ep rights until_).work = s.work := by
  unfold State.setRights State.serviceGone
  dsimp only
  split
  · exact State.setClient_work _ _ _ _
  · split
    · rw [State.raise_work]
      exact State.setClient_work _ _ _ _
    · exact State.setClient_work _ _ _ _

theorem State.setRights_regsOk {s : State} (h : s.regsOk) (ch : Chan) (ep : Endpoint) (rights until_ : Nat) :
    (s.setRights ch ep rights until_).regsOk :=
  (State.setRights_keeps (State.keeps_self s) ch ep rights until_).regs h

theorem State.unlocks_grants (u : State) (r : Request) : u.grants (u.unlocks r).1 r ∧ (u.unlocks r).2.accepts = true := by
  obtain ⟨v, hv⟩ : ∃ v, v = ({ u with nvm := { u.nvm with failures := 0 } } : State).count Reg.UNLOCK_OK := ⟨_, rfl⟩
  obtain ⟨due, hdue⟩ : ∃ due, due = (if field r.payload 2 2 = 0 then 0 else u.up + field r.payload 2 2 * 60000000000) :=
    ⟨_, rfl⟩
  have hup : v.up = u.up := by rw [hv]; rfl
  have hnvm : v.nvm.failures = 0 := by rw [hv]; rfl
  have hregs : u.regsOk → v.regsOk := fun hs => by
    rw [hv]
    exact State.setRegN_regsOk hs _ _
  have ht : (u.unlocks r).1 = (v.setRights r.chan r.from_ (byteAt r.payload 0) due).raise Ev.UNLOCKED := by
    unfold State.unlocks
    dsimp only
    rw [← hv, hup, ← hdue]
  refine ⟨?_, rfl⟩
  unfold State.grants
  rw [ht, ← hdue]
  refine ⟨?_, fun hc => ?_, fun hs => (State.raise_shows _ (by decide)).sees (State.setRights_regsOk (hregs hs) _ _ _ _)⟩
  · rw [State.raise_nvm, State.setRights_nvm, hnvm]
  · obtain ⟨hrights, huntil⟩ := (v.setRights r.chan r.from_ (byteAt r.payload 0) due).raise_keepsGrant Ev.UNLOCKED
    rw [hrights, huntil, hc]
    exact v.setRights_c0 _ _ _

theorem State.startLockout_starts (v : State) : v.keepsGrant v.startLockout ∧ v.KeepsEvents v.startLockout ∧
    v.startLockout.nvm = v.nvm ∧ (v.nvm.failures < 5 → v.startLockout.work.lockout = v.work.lockout) ∧
    ∀ due, due = v.up + lockoutMinutes v.nvm.failures * 60000000000 → 5 ≤ v.nvm.failures →
      v.startLockout.work.lockout = true ∧ v.startLockout.work.lockoutUntil = due := by
  unfold State.startLockout
  split
  · rename_i hlt
    exact ⟨v.keepsGrant_refl, v.keepsEvents_refl, rfl, fun _ => rfl, fun _ _ hge => absurd hlt (Nat.not_lt.mpr hge)⟩
  · rename_i hge
    generalize v.up + lockoutMinutes v.nvm.failures * 60000000000 = until_
    refine ⟨State.keepsGrant.trans (t := { v with work := _ }) ⟨rfl, rfl⟩ (State.raise_keepsGrant _ _), ?_,
      State.raise_nvm _ _, fun hlt => absurd hlt hge, fun due hdue _ => ?_⟩
    · refine State.KeepsEvents.trans (t := { v with work := _ }) ?_ (State.raise_keepsEvents _ _)
      exact State.keepsEvents_of_regs rfl
    · rw [State.raise_work, hdue]
      exact ⟨rfl, rfl⟩

theorem State.unlockFailed_fails (u : State) : u.fails u.unlockFailed := by
  obtain ⟨v, hv⟩ : ∃ v, v = (({ u with nvm := { u.nvm with failures := u.nvm.failures + 1 } } : State).count
    Reg.UNLOCK_FAIL).raise Ev.UNLOCK_FAILED := ⟨_, rfl⟩
  have hup : v.up = u.up := by rw [hv, State.raise_up]; rfl
  have hnvm : v.nvm.failures = u.nvm.failures + 1 := by rw [hv, State.raise_nvm]; rfl
  have hlock : v.work.lockout = u.work.lockout := by rw [hv, State.raise_work]; rfl
  have hgrant : u.keepsGrant v := by
    rw [hv]
    exact State.raise_keepsGrant (State.count { u with nvm := { u.nvm with failures := u.nvm.failures + 1 } } Reg.UNLOCK_FAIL) _
  have hshows : u.Shows v Ev.UNLOCK_FAILED := fun hs => by
    rw [hv]
    exact State.raise_shows _ (by decide) (State.setRegN_regsOk (s := { u with nvm := _ }) hs _ _)
  obtain ⟨hkeep, hevents, hnvm', hbelow, habove⟩ := v.startLockout_starts
  rw [show u.unlockFailed = v.startLockout from hv ▸ rfl]
  refine ⟨by rw [hnvm', hnvm], hkeep.1.trans hgrant.1, fun h4 => ?_, fun h4 => ?_, (hshows.trans (by decide) hevents).sees⟩
  · refine habove _ ?_ (by omega)
    rw [hup, hnvm, lockoutMinutes, Nat.add_sub_add_right u.nvm.failures 1 4]
  · rw [hbelow (by omega), hlock]

theorem bodyUnlockResponse_judges {n : List Byte} (hl : u.work.lockout = false) (hn : u.validNonce = some n)
    (hrange : unlockRangeOk r = true) (hk : u.nvm.key.isSome = true) : bodyUnlockResponse u r =
      if (r.payload.drop 4).take 32 = hmacSha256 (u.nvm.key.getD []) (n ++ beBytes 8 u.nvm.serial ++ r.payload.take 4) then
        ({ u with work := { u.work with nonce := none } } : State).unlocks r
      else (({ u with work := { u.work with nonce := none } } : State).unlockFailed, .plain Status.CHECK_FAILED) := by
  unfold bodyUnlockResponse
  simp only [hl, hn, hrange, hk, Bool.true_eq_false, Bool.false_eq_true, if_false, true_and]

theorem bodyUnlockPassword_judges (hl : u.work.lockout = false) (hrange : unlockRangeOk r = true) : bodyUnlockPassword u r =
      if u.nvm.pwDigest = some (passwordDigest u.nvm.pwSalt ((r.payload.drop 8).take (byteAt r.payload 4))) then
        if byteAt r.payload 0 &&& u.nvm.pwRights = byteAt r.payload 0 then u.unlocks r else (u, .plain Status.DENIED_ACCESS)
      else (u.unlockFailed, .plain Status.CHECK_FAILED) := by
  unfold bodyUnlockPassword
  simp only [hl, hrange, Bool.true_eq_false, Bool.false_eq_true, if_false]

/-- R484: a nonce serves one response. -/
theorem State.unlocks_nonce (u : State) (r : Request) : (u.unlocks r).1.work.nonce = u.work.nonce := by
  unfold State.unlocks
  dsimp only
  rw [State.raise_work, State.setRights_work]
  rfl

theorem State.unlockFailed_nonce (u : State) : u.unlockFailed.work.nonce = u.work.nonce := by
  unfold State.unlockFailed State.startLockout
  dsimp only
  split
  · rw [State.raise_work]
    rfl
  · rw [State.raise_work, State.raise_work]
    rfl

theorem bodyRelock_relocks (hc : r.chan = .c0) : ∃ t : State, bodyRelock u r = (t, .plain Status.OK) ∧ t.ctrl.ch0.rights = 0 ∧
    (u.regsOk → t.sees Ev.RELOCKED = true) := by
  obtain ⟨v, hv⟩ : ∃ v, v = (if bit (byteAt r.payload 0) 0 then u.relockAll else u.setRights r.chan r.from_ 0 0) := ⟨_, rfl⟩
  have hrights : v.ctrl.ch0.rights = 0 := by
    rw [hv, hc]
    split
    · exact u.relockAll_c0
    · exact (u.setRights_c0 _ 0 0).1
  have hregs : u.regsOk → v.regsOk := fun hs => by
    rw [hv]
    split
    · exact (State.relockAll_keeps (State.keeps_self u)).regs hs
    · exact State.setRights_regsOk hs _ _ _ _
  refine ⟨v.raise Ev.RELOCKED, ?_, ((v.raise_keepsGrant _).1).trans hrights, fun hs =>
    (State.raise_shows _ (by decide)).sees (hregs hs)⟩
  rw [hv]
  rfl

end

/-! ### What ends by time -/

/-- R485: a grant of the host channel ends. -/
theorem execUnlockExpired_ends {s : State} {c : Client} (hc : c = s.client .c0 ⟨[], 0⟩) (hf : s.firmwareUp = true)
    (hr : c.rights ≠ 0) (hu : c.rightsUntil ≠ 0) : ∃ t, execUnlockExpired .c0 ⟨[], 0⟩ s = .next t ∧ t.ctrl.ch0.rights = 0 ∧
      c.rightsUntil ≤ t.up ∧ (s.regsOk → t.sees Ev.UNLOCK_EXPIRED = true) ∧
      (bit c.rights 2 = true → s.mode = .service → t.ctrl.serviceEnds = true) := by
  obtain ⟨v, hv⟩ : ∃ v, v = (s.reach c.rightsUntil).setClient .c0 ⟨[], 0⟩
    { (s.reach c.rightsUntil).client .c0 ⟨[], 0⟩ with rights := 0, rightsUntil := 0 } := ⟨_, rfl⟩
  obtain ⟨w, hw⟩ : ∃ w, w = (if bit c.rights 2 ∧ v.mode = .service then { v with ctrl := { v.ctrl with serviceEnds := true } }
    else v : State) := ⟨_, rfl⟩
  have hwv : w.ctrl.ch0 = v.ctrl.ch0 ∧ w.up = v.up ∧ w.regs = v.regs := by
    rw [hw]
    split <;> exact ⟨rfl, rfl, rfl⟩
  have hmode : v.mode = s.mode := by
    rw [hv]
    exact State.reach_mode _ _
  have hexec : execUnlockExpired .c0 ⟨[], 0⟩ s = .next (w.raise Ev.UNLOCK_EXPIRED) := by
    unfold execUnlockExpired
    dsimp only
    rw [← hc, if_neg (by simp [hf, hr, hu]), ← hv, ← hw]
  refine ⟨_, hexec, ?_, ?_, fun hs => (State.raise_shows _ (by decide)).sees ?_, fun hbit hservice => ?_⟩
  · rw [(w.raise_keepsGrant _).1, hwv.1, hv]
    rfl
  · rw [State.raise_up, hwv.2.1, hv]
    exact s.le_reach_up _
  · refine State.regsOk_of_regs (hwv.2.2.trans ?_) (s.reach_keepsEvents c.rightsUntil hs).1
    rw [hv]
    rfl
  · rw [State.raise_ctrl_serviceEnds, hw, if_pos ⟨hbit, hmode.trans hservice⟩]

theorem execLockoutEnd_ends {s : State} (h : s.work.lockout = true) : ∃ t, execLockoutEnd s = .next t ∧
    t.work.lockout = false ∧ s.work.lockoutUntil ≤ t.up := by
  unfold execLockoutEnd
  rw [if_pos h]
  exact ⟨_, rfl, rfl, s.le_reach_up _⟩

theorem execNonceExpiry_ends {s : State} {due : Nat} (h : s.work.nonce.isSome = true)
    (hdue : due = s.work.nonceUp + 60000000000) : ∃ t, execNonceExpiry s = .next t ∧ t.work.nonce = none ∧ due ≤ t.up := by
  unfold execNonceExpiry
  rw [if_pos h, ← hdue]
  exact ⟨_, rfl, rfl, s.le_reach_up _⟩

/-- Settles O55: a right answer is `unlocks` and a wrong one `unlockFailed`, for a MAC as for a password. -/
theorem accessFollowsKeysAndFailures : Obligations.AccessFollowsKeysAndFailures := by
  unfold Obligations.AccessFollowsKeysAndFailures
  intro s u r n
  refine ⟨fun h hk => ?_, fun h hl h8 h64 hr => ?_, fun h hl hd => State.answers_of_body h (bodyPlainKey_does ?_ hd),
    fun h hl hd => ⟨_, State.answers_of_body h (bodyPlainKey_does ?_ hd), State.setLevel_nvm _ _⟩,
    fun h hl hd => ⟨_, State.answers_of_body h (bodyPlainKey_does ?_ hd), State.setLevel_nvm _ _⟩,
    fun h hd => State.answers_of_body h (bodyPlainKey_does rfl hd), fun h hl hk => ?_, fun h hl hn hrange hk => ?_,
    fun h hl hrange => ?_, fun h hl => ⟨_, State.answers_of_body h (if_pos hl), rfl⟩, fun h hc => ?_,
    fun hf hr hu => execUnlockExpired_ends rfl hf hr hu, execLockoutEnd_ends, fun hn => ?_⟩
  · obtain ⟨t, hbody, ht⟩ := bodySetKey_sets (u := u) hk
    exact ⟨t, State.answers_of_body h hbody, ht⟩
  · obtain ⟨t, hbody, ht⟩ := bodySetPassword_sets hl h8 h64 hr
    exact ⟨t, State.answers_of_body h hbody, ht⟩
  · simpa using hl
  · simpa using hl
  · simpa using hl
  · obtain ⟨t, x, hbody, ht⟩ := bodyUnlockChallenge_shows (r := r) hl hk
    exact ⟨t, x, State.answers_of_body h hbody, ht⟩
  · have hbody := bodyUnlockResponse_judges hl hn (unlockRangeOk_of_le hrange.1 hrange.2) hk
    generalize hmacSha256 _ _ = mac at hbody ⊢
    by_cases hmac : (r.payload.drop 4).take 32 = mac
    · obtain ⟨hgrants, haccepts⟩ := State.unlocks_grants { u with work := { u.work with nonce := none } } r
      exact ⟨_, _, State.answers_of_body h (hbody.trans (if_pos hmac)), State.unlocks_nonce _ r, fun _ => ⟨hgrants, haccepts⟩,
        fun hno => absurd hmac hno⟩
    · have hfails := State.unlockFailed_fails { u with work := { u.work with nonce := none } }
      exact ⟨_, _, State.answers_of_body h (hbody.trans (if_neg hmac)), State.unlockFailed_nonce _, fun hyes => absurd hyes hmac,
        fun _ => ⟨hfails, rfl⟩⟩
  · have hbody := bodyUnlockPassword_judges hl (unlockRangeOk_of_le hrange.1 hrange.2)
    generalize passwordDigest _ _ = digest at hbody ⊢
    by_cases hpw : u.nvm.pwDigest = some digest
    · rw [if_pos hpw] at hbody
      by_cases hrights : byteAt r.payload 0 &&& u.nvm.pwRights = byteAt r.payload 0
      · exact ⟨_, _, State.answers_of_body h (hbody.trans (if_pos hrights)), fun _ _ => u.unlocks_grants r,
          fun hno => absurd hpw hno⟩
      · exact ⟨_, _, State.answers_of_body h (hbody.trans (if_neg hrights)), fun _ hyes => absurd hyes hrights,
          fun hno => absurd hpw hno⟩
    · exact ⟨_, _, State.answers_of_body h (hbody.trans (if_neg hpw)), fun hyes => absurd hyes hpw,
        fun _ => ⟨u.unlockFailed_fails, rfl⟩⟩
  · obtain ⟨t, hbody, ht⟩ := bodyRelock_relocks hc
    exact ⟨t, State.answers_of_body h hbody, ht⟩
  · obtain ⟨due, hdue⟩ : ∃ due, due = s.work.nonceUp + 60000000000 := ⟨_, rfl⟩
    rw [← hdue]
    exact execNonceExpiry_ends hn hdue

end Sys2Proof.Machine
end

section
/-! ## Tests and calibration: R503 to R515, R519 -/

namespace Sys2Proof.Machine

/-! ### What links, roles, halts and fatal faults leave as it is -/

/-- An event whose register is none of the counters of links and heartbeats. -/
def Ev.uncounted (e : Ev) : Prop :=
  e.flag ∧ (∀ p : Port, e.reg ≠ Reg.FWD_DROP p.index ∧ e.reg ≠ Reg.LINK_DOWN_COUNT p.index) ∧ e.reg ≠ Reg.HB_SENT

/-- The step ends no test but by giving it up, and keeps the results; it lets nothing new wait, and keeps the tasks, the locks
and the engines, the time, the mode and the events that show. -/
structure State.keepsService (s t : State) : Prop where
  results : t.bist.results = s.bist.results
  tests : ∀ x ∈ t.bist.tests, x ∈ s.bist.tests
  up : t.up = s.up
  mode : t.mode = s.mode
  sched : t.sched = { s.sched with fatal := t.sched.fatal }
  waiting : ∀ w ∈ t.ctrl.waiting, w ∈ s.ctrl.waiting
  events : ∀ e : Ev, e.uncounted → s.KeepsEvent t e

theorem State.keepsService_refl (s : State) : s.keepsService s :=
  ⟨rfl, fun _ h => h, rfl, rfl, rfl, fun _ h => h, fun _ _ => State.keepsEvent_of_regs rfl⟩

theorem State.keepsService.trans {s t u : State} (h : s.keepsService t) (h' : t.keepsService u) : s.keepsService u :=
  ⟨h'.results.trans h.results, fun x hx => h.tests x (h'.tests x hx), h'.up.trans h.up, h'.mode.trans h.mode,
    by have := h'.sched; rw [h.sched] at this; exact this,
    fun w hw => h.waiting w (h'.waiting w hw), fun e he => (h.events e he).trans (h'.events e he)⟩

theorem State.keepsService.after {s t u : State} (h' : t.keepsService u) (h : s.keepsService t) : s.keepsService u := h.trans h'

/-- A step that touches neither tests and tasks, nor the time or what waits. -/
theorem State.keepsService_of_eq {s t : State} (hb : t.bist = s.bist) (hup : t.up = s.up) (hmode : t.mode = s.mode)
    (hsched : t.sched = s.sched) (hw : t.ctrl.waiting = s.ctrl.waiting) (hr : ∀ e : Ev, e.uncounted → s.KeepsEvent t e) :
    s.keepsService t :=
  ⟨congrArg Bist.results hb, fun _ h => hb ▸ h, hup, hmode, by rw [hsched], fun _ h => hw ▸ h, hr⟩

/-- A step that touches no register either. -/
theorem State.keepsService_of_regs {s t : State} (hb : t.bist = s.bist) (hup : t.up = s.up) (hmode : t.mode = s.mode)
    (hsched : t.sched = s.sched) (hw : t.ctrl.waiting = s.ctrl.waiting) (hr : t.regs = s.regs) : s.keepsService t :=
  State.keepsService_of_eq hb hup hmode hsched hw fun _ _ => State.keepsEvent_of_regs hr

theorem State.keepsService_foldl {α : Type} {f : State → α → State} (hf : ∀ (t : State) (x : α), t.keepsService (f t x))
    (l : List α) (s : State) : s.keepsService (l.foldl f s) := by
  induction l generalizing s with
  | nil => exact s.keepsService_refl
  | cons x l ih => exact (hf s x).trans (ih _)

theorem State.raiseWith_keepsService (s : State) (e : Ev) (i d : Nat) : s.keepsService (s.raiseWith e i d) :=
  State.keepsService_of_eq (State.raiseWith_bist _ _ _ _) (State.raiseWith_up _ _ _ _) (State.raiseWith_mode _ _ _ _)
    (State.raiseWith_sched _ _ _ _) (State.raiseWith_ctrl_waiting _ _ _ _) fun _ he => (s.raiseWith_keepsEvents _ _ _).one he.1

theorem State.raise_keepsService (s : State) (e : Ev) : s.keepsService (s.raise e) := s.raiseWith_keepsService e 0 0

theorem State.raiseAt_keepsService (s : State) (e : Ev) (i : Nat) : s.keepsService (s.raiseAt e i) :=
  s.raiseWith_keepsService e i 0

theorem State.emit_keepsService (s : State) (src kind code payload : Nat) : s.keepsService (s.emit src kind code payload) :=
  State.keepsService_of_eq (State.emit_bist _ _ _ _ _) (State.emit_up _ _ _ _ _) (State.emit_mode _ _ _ _ _)
    (State.emit_sched _ _ _ _ _) (State.emit_ctrl_waiting _ _ _ _ _) fun _ he => (s.emit_keepsEvents _ _ _ _).one he.1

theorem State.setMac_keepsService (s : State) (p : Port) (m : Mac) : s.keepsService (s.setMac p m) :=
  State.keepsService_of_regs (State.setMac_bist _ _ _) (State.setMac_up _ _ _) (State.setMac_mode _ _ _) (State.setMac_sched _ _ _)
    (by cases p <;> rfl) (State.setMac_regs _ _ _)

theorem State.countN_keepsService (s : State) {a : Nat} (ha : ∀ e : Ev, e.uncounted → e.reg ≠ a) (n : Nat) : s.keepsService (s.countN a n) :=
  State.keepsService_of_eq rfl rfl rfl rfl rfl fun e he => State.setRegN_keepsEvent s (ha e he) _

theorem State.count_keepsService (s : State) {a : Nat} (ha : ∀ e : Ev, e.uncounted → e.reg ≠ a) : s.keepsService (s.count a) :=
  s.countN_keepsService ha 1

theorem State.sendOwn_keepsService (s : State) (p : Port) (f : OwnFrame) : s.keepsService (s.sendOwn p f) := by
  unfold State.sendOwn
  dsimp only
  split
  · exact s.setMac_keepsService _ _
  · exact s.keepsService_refl

theorem State.sendMirror_keepsService (s : State) (type : Nat) (p : MirrorPayload) : s.keepsService (s.sendMirror type p) := by
  unfold State.sendMirror
  split
  · exact State.keepsService_of_regs rfl rfl rfl rfl rfl rfl
  · exact s.keepsService_refl

theorem State.sendHeartbeat_keepsService (s : State) (type tick reason : Nat) (p : Port) :
    s.keepsService (s.sendHeartbeat type tick reason p) := by
  unfold State.sendHeartbeat
  dsimp only
  split
  · refine State.keepsService.after (State.count_keepsService _ fun _ he => he.2.2) ?_
    exact (s.sendOwn_keepsService _ _).trans (State.keepsService_of_regs rfl rfl rfl rfl rfl rfl)
  · exact s.keepsService_refl

theorem State.sendRelease_keepsService (s : State) (reason : Nat) : s.keepsService (s.sendRelease reason) := by
  unfold State.sendRelease State.sendHeartbeats
  exact (s.sendMirror_keepsService _ _).trans
    ((State.sendHeartbeat_keepsService _ _ _ _ _).trans (State.sendHeartbeat_keepsService _ _ _ _ _))

theorem State.domainLeaves_keepsService (s : State) (p : Port) (b : Bool) : s.keepsService (s.domainLeaves p b) := by
  unfold State.domainLeaves State.moveDomain State.setDom
  dsimp only
  split
  · split
    · split <;> exact State.keepsService_of_regs rfl rfl rfl rfl rfl rfl
    · exact s.keepsService_refl
  · exact s.keepsService_refl

theorem State.portDown_keepsService (s : State) (p : Port) : s.keepsService (s.portDown p) := by
  unfold State.portDown
  dsimp only
  split
  · exact s.setMac_keepsService p _
  · refine State.keepsService.trans ?_ ((State.domainLeaves_keepsService _ p false).trans (State.domainLeaves_keepsService _ p true))
    have hunbind : ∀ t : State, t.keepsService (t.unbindPort p) := fun t => State.keepsService_of_regs rfl rfl rfl rfl rfl rfl
    refine State.keepsService.after (hunbind _) ?_
    refine State.keepsService.after (State.count_keepsService _ fun _ he => (he.2.1 p).2) (State.keepsService.after (State.raiseAt_keepsService _ _ _) ?_)
    exact (s.setMac_keepsService p _).trans (State.countN_keepsService _ (fun _ he => (he.2.1 p).1) _)

theorem State.retrain_keepsService (s : State) (p : Port) : s.keepsService (s.retrain p) := by
  have hrestart : ∀ t : State, t.keepsService (t.restartSearch p) := fun t => by
    unfold State.restartSearch
    split
    · exact t.keepsService_refl
    · exact t.setMac_keepsService _ _
  unfold State.retrain
  split
  · exact (s.portDown_keepsService p).trans (hrestart _)
  · exact hrestart s

theorem State.setStale_keepsService (s : State) : s.keepsService s.setStale := by
  have hmark : s.keepsService s.markStale := by
    unfold State.markStale
    split
    · exact s.keepsService_refl
    · exact State.keepsService.trans (t := { s with red := { s.red with stale := true } })
        (State.keepsService_of_regs rfl rfl rfl rfl rfl rfl) (State.raise_keepsService _ _)
  have hwant : ∀ t : State, t.keepsService t.wantResync := fun t => by
    unfold State.wantResync
    split
    · exact t.keepsService_refl
    · exact State.keepsService.after (State.sendMirror_keepsService _ _ _) (State.keepsService_of_regs rfl rfl rfl rfl rfl rfl)
  exact State.setStale_eq s ▸ hmark.trans (hwant _)

theorem State.mirrorLinkDown_keepsService (s : State) : s.keepsService s.mirrorLinkDown := by
  have hdown : s.keepsService ({ s.breakRecord with red := { s.breakRecord.red with
      mirrorUp := false, mirrorLock := false, resyncWanted := false, copy := none } }.raise Ev.MIRROR_DOWN) :=
    State.keepsService.after (State.raise_keepsService _ _) (State.keepsService_of_regs rfl rfl rfl rfl rfl rfl)
  unfold State.mirrorLinkDown
  dsimp only
  split
  · exact s.keepsService_refl
  · split
    · exact hdown.trans (State.setStale_keepsService _)
    · exact hdown

theorem State.becomeRole_keepsService (s : State) (r : Role) : s.keepsService (s.becomeRole r) := by
  have hraise : s.keepsService ({ s with red := { s.red with role := r, takeoverDue := false } }.raise Ev.ROLE_CHANGE) :=
    State.keepsService.after (State.raise_keepsService _ _) (State.keepsService_of_regs rfl rfl rfl rfl rfl rfl)
  unfold State.becomeRole State.releaseOwnIl
  dsimp only
  split
  · exact s.keepsService_refl
  · split
    · exact hraise
    · split
      · exact hraise.trans (State.keepsService_of_regs rfl rfl rfl rfl rfl rfl)
      · exact hraise

theorem State.completeWaiting_keepsService (s : State) (f : Waiting → Option (Nat × List Byte)) :
    s.keepsService (s.completeWaiting f) where
  results := congrArg Bist.results (State.completeWaiting_bist s f)
  tests _ h := by rwa [State.completeWaiting_bist] at h
  up := State.completeWaiting_up s f
  mode := State.completeWaiting_mode s f
  sched := by rw [State.completeWaiting_sched]
  waiting w h := by
    rw [State.completeWaiting_waiting] at h
    exact (List.mem_filter.mp h).1
  events _ _ := State.keepsEvent_of_regs (State.completeWaiting_regs s f)

theorem State.haltStrand_keepsService (s : State) (n : Nat) : s.keepsService (s.haltStrand n) := by
  have hset : ∀ (t : State) (x : Strand), t.keepsService (t.setStrand n x) := fun t x =>
    State.keepsService_of_regs rfl rfl rfl rfl rfl rfl
  have hdrop : ∀ (t : State) (l : List RetSlot), t.keepsService (t.dropSlots n l) := fun t l => by
    unfold State.dropSlots
    refine State.keepsService_foldl (fun t r => ?_) l t
    split
    · exact t.completeWaiting_keepsService _
    · exact t.keepsService_refl
  have hwire : s.keepsService (s.wire n [.brk]) := by
    unfold State.wire
    dsimp only
    split
    · exact hset s _
    · exact s.keepsService_refl
  unfold State.haltStrand
  dsimp only
  split
  · exact (hwire.trans (hset _ _)).trans (hdrop _ _)
  · exact (hset s _).trans (hdrop _ _)

/-- R425: a fatal fault gives the tests up, and forgets no result. -/
theorem State.fatalFault_keepsService (s : State) (src code payload : Nat) : s.keepsService (s.fatalFault src code payload) := by
  unfold State.fatalFault
  dsimp only
  split
  · exact s.keepsService_refl
  · split
    · exact State.keepsService_of_regs rfl rfl rfl rfl rfl rfl
    · refine State.keepsService.trans ?_ (State.keepsService_foldl State.haltStrand_keepsService allStrands _)
      refine State.keepsService.trans ?_ (State.completeWaiting_keepsService _ _)
      have hsent := State.keepsService.after (State.sendRelease_keepsService { s with sys := { s.sys with faultN := true } } 1)
        (s := s) (State.keepsService_of_regs rfl rfl rfl rfl rfl rfl)
      refine (State.keepsService.after (State.emit_keepsService _ src Kind.FAULT code payload) hsent).trans ?_
      generalize State.emit _ src Kind.FAULT code payload = t
      exact ⟨rfl, fun _ h => absurd h List.not_mem_nil, rfl, rfl, rfl, fun _ h => h, fun _ _ hs =>
        ⟨State.setReg_regsOk (s := t) hs _ _, fun h => State.setEv_sees_of_sees (s := t) hs h⟩⟩

/-! ### A test begins, and ends -/

theorem Ev.BIST_DONE_uncounted : Ev.BIST_DONE.uncounted := ⟨by decide, fun p => by cases p <;> decide, by decide⟩

theorem Ev.BIST_FAIL_uncounted : Ev.BIST_FAIL.uncounted := ⟨by decide, fun p => by cases p <;> decide, by decide⟩

theorem State.reinitBlock_keepsService (s : State) (t : Test) : s.keepsService (s.reinitBlock t) := by
  have hset : ∀ q : QueueSet, s.keepsService (s.setQset t.index q) := fun q => by
    unfold State.setQset
    split <;> exact State.keepsService_of_regs rfl rfl rfl rfl rfl rfl
  have hstrand : ∀ (u : State) (n : Nat) (x : Strand), u.keepsService (u.setStrand n x) := fun u n x =>
    State.keepsService_of_regs rfl rfl rfl rfl rfl rfl
  have hanswer : ∀ u : State, u.keepsService (u.readAnswer 0) := fun u => State.keepsService_of_regs rfl rfl rfl rfl rfl rfl
  unfold State.reinitBlock
  dsimp only
  split
  · split
    · exact s.keepsService_refl
    · exact s.retrain_keepsService _
  · exact State.keepsService_foldl (fun u n => hstrand u n _) _ s
  · split
    · exact State.keepsService.after (hanswer _) (hset {})
    · exact hset {}
  · exact s.keepsService_refl

theorem State.useSpares_keepsService (s : State) (t : Test) (detail : Nat) : s.keepsService (s.useSpares t detail) := by
  unfold State.useSpares
  split
  · exact State.keepsService_of_regs rfl rfl rfl rfl rfl rfl
  · exact s.keepsService_refl

theorem State.loseMemory_keepsService (s : State) (t : Test) (detail : Nat) : s.keepsService (s.loseMemory t detail) := by
  have hdegraded : s.keepsService { s with sys := { s.sys with degraded := true } } := State.keepsService_of_regs rfl rfl rfl rfl rfl rfl
  unfold State.loseMemory
  dsimp only
  split
  · exact State.keepsService.after (State.raiseAt_keepsService _ _ _) (State.keepsService_of_regs rfl rfl rfl rfl rfl rfl)
  · split
    · exact hdegraded
    · split
      · exact State.keepsService.after (State.fatalFault_keepsService _ _ _ _) (State.keepsService_of_regs rfl rfl rfl rfl rfl rfl)
      · split
        · exact State.keepsService.after (State.raise_keepsService _ _)
            (State.keepsService.after (State.portDown_keepsService _ _) (State.keepsService_of_regs rfl rfl rfl rfl rfl rfl))
        · exact State.keepsService.after (State.raise_keepsService _ _) (State.keepsService.after (State.becomeRole_keepsService _ _)
            (State.keepsService.after (State.mirrorLinkDown_keepsService _) (State.keepsService_of_regs rfl rfl rfl rfl rfl rfl)))

/-- R508: with no command that waits for a test, the end of one runs none. -/
theorem State.resumeDeferred_of_none {s : State} (h : ∀ w ∈ s.ctrl.waiting, ∀ op q, w.why ≠ .selfTest op q) :
    s.resumeDeferred = s := by
  have hfold : ∀ l : List Waiting, (∀ w ∈ l, ∀ op q, w.why ≠ .selfTest op q) → l.foldl State.resumeOne s = s := fun l => by
    induction l with
    | nil => exact fun _ => rfl
    | cons w l ih =>
      intro hl
      have hone : s.resumeOne w = s := by
        unfold State.resumeOne
        split
        · next op q hw => exact absurd hw (hl w List.mem_cons_self op q)
        · rfl
      rw [List.foldl_cons, hone]
      exact ih fun x hx => hl x (List.mem_cons_of_mem _ hx)
  exact hfold _ h

/-- A result is kept behind the others, of which the last fifteen stay. -/
theorem State.keepResult_results (s : State) (d : TestDone) :
    (s.keepResult d).bist.results.getLast? = some d ∧ (s.keepResult d).bist.results.length ≤ 16 ∧
      ∀ x ∈ (s.keepResult d).bist.tests, x.id ≠ d.id := by
  refine ⟨?_, ?_, fun x hx => by simpa using (List.mem_filter.mp hx).2⟩
  · show ((s.bist.results ++ [d]).drop ((s.bist.results ++ [d]).length - 16)).getLast? = some d
    rw [List.getLast?_drop, if_neg (by simp only [List.length_append, List.length_singleton]; omega)]
    simp
  · show ((s.bist.results ++ [d]).drop _).length ≤ 16
    rw [List.length_drop]
    omega

/-- The state at which the result of a test is kept. -/
def State.endsTest (s : State) (t : Test) (id : Nat) (res : TestResult) (dur detail : Nat) : State :=
  ((s.reach (t.startUp + dur * 1000)).reinitBlock t).keepResult ⟨id, resultCode res, dur, detail⟩

/-- What follows the end of a test. -/
def State.afterTest (s : State) (t : Test) (res : TestResult) (detail : Nat) : State :=
  let s := s.raise Ev.BIST_DONE
  let s := if res = .fail then s.raise Ev.BIST_FAIL else s
  let s := s.useSpares t detail
  if res = .degraded then s.loseMemory t detail else s

theorem State.afterTest_keepsService (s : State) (t : Test) (res : TestResult) (detail : Nat) :
    s.keepsService (s.afterTest t res detail) ∧ s.Shows (s.afterTest t res detail) Ev.BIST_DONE ∧
      (res = .fail → s.Shows (s.afterTest t res detail) Ev.BIST_FAIL) := by
  have hlost : ∀ u : State, u.keepsService (if res = .degraded then u.loseMemory t detail else u) := fun u => by
    split
    · exact u.loseMemory_keepsService t detail
    · exact u.keepsService_refl
  have hrest : ∀ u : State, u.keepsService (if res = .degraded then (u.useSpares t detail).loseMemory t detail else u.useSpares t detail) :=
    fun u => (u.useSpares_keepsService t detail).trans (hlost _)
  have hdone := s.raise_shows (e := Ev.BIST_DONE) (by decide)
  have hkept := s.raise_keepsService Ev.BIST_DONE
  have hfail : (s.raise Ev.BIST_DONE).keepsService (if res = .fail then (s.raise Ev.BIST_DONE).raise Ev.BIST_FAIL else s.raise Ev.BIST_DONE) := by
    split
    · exact State.raise_keepsService _ _
    · exact State.keepsService_refl _
  refine ⟨hkept.trans (hfail.trans (hrest _)), hdone.keep ((hfail.trans (hrest _)).events _ Ev.BIST_DONE_uncounted), fun h => ?_⟩
  have hshows : s.Shows ((s.raise Ev.BIST_DONE).raise Ev.BIST_FAIL) Ev.BIST_FAIL :=
    (hkept.events _ Ev.BIST_FAIL_uncounted).shows (State.raise_shows _ (by decide))
  unfold State.afterTest
  dsimp only
  rw [if_pos h]
  exact hshows.keep ((hrest _).events _ Ev.BIST_FAIL_uncounted)

theorem execBistDone_ends {s : State} {t : Test} {id dur detail : Nat} {res : TestResult}
    (ht : (s.bist.tests.find? fun x => x.running && decide (x.id = id)) = some t) (hdur : dur ≤ testMaxUs t.target)
    (hw : ∀ w ∈ s.ctrl.waiting, ∀ op q, w.why ≠ .selfTest op q) :
    execBistDone id res dur detail s = .next ((s.endsTest t id res dur detail).afterTest t res detail) ∧
      s.KeepsEvent (s.endsTest t id res dur detail) Ev.BIST_DONE ∧ t.startUp + dur * 1000 ≤ (s.endsTest t id res dur detail).up := by
  have hinit := (s.reach (t.startUp + dur * 1000)).reinitBlock_keepsService t
  have hwait : ∀ w ∈ (s.endsTest t id res dur detail).ctrl.waiting, ∀ op q, w.why ≠ .selfTest op q := fun w h => by
    have := hinit.waiting w h
    rw [State.reach_ctrl_waiting] at this
    exact hw w this
  refine ⟨?_, ?_, Nat.le_trans (s.le_reach_up _) (Nat.le_of_eq hinit.up.symm)⟩
  · unfold execBistDone
    rw [ht]
    dsimp only
    rw [if_neg (Nat.not_lt.mpr hdur)]
    exact congrArg _ (State.resumeDeferred_of_none fun w h => hwait w
      (((s.endsTest t id res dur detail).afterTest_keepsService t res detail).1.waiting w h))
  · exact ((State.reach_keepsEvents s _).one (by decide)).trans (hinit.events _ Ev.BIST_DONE_uncounted)

/-! ### Links that are trained again -/

theorem State.portDown_trim (s : State) (p : Port) : (s.portDown p).trim = s.trim := by
  have hleave : ∀ (u : State) (b : Bool), (u.domainLeaves p b).trim = u.trim := fun u b => by
    unfold State.domainLeaves State.moveDomain
    dsimp only
    split
    · split <;> simp
    · rfl
  unfold State.portDown
  dsimp only
  split
  · exact State.setMac_trim _ _ _
  · rw [hleave, hleave]
    exact (State.raiseAt_trim _ _ _).trans (State.setMac_trim _ _ _)

theorem State.portDown_mac_other (s : State) {p q : Port} (h : q ≠ p) : (s.portDown p).mac q = s.mac q := by
  unfold State.portDown
  dsimp only
  split
  · exact State.setMac_mac_other s _ h
  · rw [State.domainLeaves_mac, State.domainLeaves_mac, State.unbindPort_mac, State.count_mac, State.raiseAt_mac, State.countN_mac,
      State.setMac_mac_other s _ h]

theorem State.retrain_trim (s : State) (p : Port) : (s.retrain p).trim = s.trim := by
  have hrestart : ∀ u : State, (u.restartSearch p).trim = u.trim := fun u => by
    unfold State.restartSearch
    split
    · rfl
    · exact State.setMac_trim _ _ _
  unfold State.retrain
  rw [hrestart]
  split
  · exact s.portDown_trim p
  · rfl

/-- Training a port again takes its link down. -/
theorem State.retrain_down (s : State) (p : Port) : ((s.retrain p).mac p).up = false := by
  have hrestart : ∀ u : State, (u.mac p).up = false → ((u.restartSearch p).mac p).up = false := fun u hu => by
    unfold State.restartSearch
    rw [if_neg (by rw [hu]; decide), State.setMac_mac]
    exact hu
  unfold State.retrain
  split
  · next h => exact hrestart _ (congrArg Mac.up (portDown_ends h).1)
  · next h => exact hrestart s (Bool.eq_false_iff.mpr h)

theorem State.retrain_mac_other (s : State) {p q : Port} (h : q ≠ p) : (s.retrain p).mac q = s.mac q := by
  have hrestart : ∀ u : State, (u.restartSearch p).mac q = u.mac q := fun u => by
    unfold State.restartSearch
    split
    · rfl
    · exact State.setMac_mac_other u _ h
  unfold State.retrain
  rw [hrestart]
  split
  · exact s.portDown_mac_other h
  · rfl

theorem State.setStale_trim_mac (s : State) : s.setStale.trim = s.trim ∧ ∀ q : Port, s.setStale.mac q = s.mac q := by
  have hmark : s.markStale.trim = s.trim ∧ ∀ q : Port, s.markStale.mac q = s.mac q := by
    unfold State.markStale
    split
    · exact ⟨rfl, fun _ => rfl⟩
    · exact ⟨State.raise_trim _ _, fun q => (State.raise_mac _ _ q).trans (State.mac_congr rfl rfl rfl q)⟩
  have hsend : ∀ (u : State) (x : MirrorPayload), (u.sendMirror 7 x).trim = u.trim ∧ ∀ q : Port, (u.sendMirror 7 x).mac q = u.mac q :=
    fun u x => by
      unfold State.sendMirror
      split
      · exact ⟨rfl, fun q => State.mac_congr rfl rfl rfl q⟩
      · exact ⟨rfl, fun _ => rfl⟩
  have hwant : ∀ u : State, u.wantResync.trim = u.trim ∧ ∀ q : Port, u.wantResync.mac q = u.mac q := fun u => by
    unfold State.wantResync
    split
    · exact ⟨rfl, fun _ => rfl⟩
    · exact ⟨(hsend _ _).1, fun q => ((hsend _ _).2 q).trans (State.mac_congr rfl rfl rfl q)⟩
  rw [State.setStale_eq]
  exact ⟨(hwant _).1.trans hmark.1, fun q => ((hwant _).2 q).trans (hmark.2 q)⟩

theorem State.mirrorLinkDown_trim_mac (s : State) : s.mirrorLinkDown.trim = s.trim ∧
    ∀ q : Port, s.mirrorLinkDown.mac q = s.mac q := by
  have hdown : ∀ u : State, (u.raise Ev.MIRROR_DOWN).trim = u.trim ∧ ∀ q : Port, (u.raise Ev.MIRROR_DOWN).mac q = u.mac q :=
    fun u => ⟨State.raise_trim _ _, State.raise_mac _ _⟩
  have hframe : ∀ q : Port, ({ s.breakRecord with red := { s.breakRecord.red with
      mirrorUp := false, mirrorLock := false, resyncWanted := false, copy := none } } : State).mac q = s.mac q :=
    fun q => State.mac_congr rfl rfl rfl q
  unfold State.mirrorLinkDown
  dsimp only
  split
  · exact ⟨rfl, fun _ => rfl⟩
  · split
    · exact ⟨(State.setStale_trim_mac _).1.trans (hdown _).1,
        fun q => ((State.setStale_trim_mac _).2 q).trans (((hdown _).2 q).trans (hframe q))⟩
    · exact ⟨(hdown _).1, fun q => ((hdown _).2 q).trans (hframe q)⟩

/-- A port is trained again if it is named. -/
def State.retrainNamed (s : State) (targets : Nat) (p : Port) : State := if bit targets p.index then s.retrain p else s

theorem State.retrainNamed_trim (s : State) (targets : Nat) (p : Port) : (s.retrainNamed targets p).trim = s.trim := by
  unfold State.retrainNamed
  split
  · exact s.retrain_trim p
  · rfl

theorem State.retrainNamed_down (s : State) {targets : Nat} {p : Port} (h : bit targets p.index = true) :
    ((s.retrainNamed targets p).mac p).up = false := by
  unfold State.retrainNamed
  rw [if_pos h]
  exact s.retrain_down p

theorem State.retrainNamed_mac_other (s : State) (targets : Nat) {p q : Port} (h : q ≠ p) :
    (s.retrainNamed targets p).mac q = s.mac q := by
  unfold State.retrainNamed
  split
  · exact s.retrain_mac_other h
  · rfl

/-- The state with the three ports trained again that are named. -/
def State.retrainPorts (s : State) (targets : Nat) : State :=
  ((s.retrainNamed targets .a).retrainNamed targets .b).retrainNamed targets .sv

theorem State.retrainLinks_eq (s : State) (targets : Nat) : s.retrainLinks targets =
    if bit targets 3 then (s.retrainPorts targets).mirrorLinkDown else s.retrainPorts targets := rfl

theorem State.retrainLinks_trim_mac (s : State) (targets : Nat) : (s.retrainLinks targets).trim = s.trim ∧
    (bit targets 0 = true → (s.retrainLinks targets).macA.up = false) ∧
      (bit targets 1 = true → (s.retrainLinks targets).macB.up = false) := by
  have hlast : (s.retrainLinks targets).trim = (s.retrainPorts targets).trim ∧
      ∀ q : Port, (s.retrainLinks targets).mac q = (s.retrainPorts targets).mac q := by
    rw [State.retrainLinks_eq]
    split
    · exact State.mirrorLinkDown_trim_mac _
    · exact ⟨rfl, fun _ => rfl⟩
  refine ⟨hlast.1.trans ?_, fun h => (congrArg Mac.up (hlast.2 .a)).trans ?_, fun h => (congrArg Mac.up (hlast.2 .b)).trans ?_⟩ <;>
    unfold State.retrainPorts
  · rw [State.retrainNamed_trim, State.retrainNamed_trim, State.retrainNamed_trim]
  · rw [State.retrainNamed_mac_other _ _ (by decide), State.retrainNamed_mac_other _ _ (by decide)]
    exact s.retrainNamed_down h
  · rw [State.retrainNamed_mac_other _ _ (by decide)]
    exact State.retrainNamed_down _ h

/-! ### What the reload leaves -/

theorem State.loadBanks_mode (s : State) : s.loadBanks.mode = s.mode := by
  have hput : ∀ (u : State) (id : Nat) (m : SMap Nat), (u.putTable id m).mode = u.mode := fun u id m => by
    unfold State.putTable State.setTableMap
    split
    · rfl
    · split <;> rfl
  have hload : ∀ (u : State) (b : FlashBank), (u.loadBank b).mode = u.mode := fun u b => by
    have hfold : ∀ (l : List (Nat × SMap Nat)) (v : State), (l.foldl (fun s q =>
        s.putTable q.1 (q.2.foldl (fun m e => SMap.set (s.tableDefault q.1) m e.1 e.2) [])) v).mode = v.mode := fun l => by
      induction l with
      | nil => exact fun _ => rfl
      | cons q l ih => exact fun v => (ih _).trans (hput _ _ _)
    exact hfold _ _
  unfold State.loadBanks
  dsimp only
  split
  · exact hload _ _
  · exact (hload _ _).trans (State.raise_mode _ _)
  · exact State.raise_mode _ _

theorem State.loadImages_mode (s : State) : s.loadImages.mode = s.mode := by
  have hbad : ∀ (u : State) (n : Nat) (f : Option FlashImage), (u.imageBad n f).mode = u.mode := fun u n f => by
    unfold State.imageBad
    split
    · exact State.raiseWith_mode _ _ _ _
    · split
      · rfl
      · exact State.raiseWith_mode _ _ _ _
  unfold State.loadImages
  dsimp only
  rw [hbad, hbad]

theorem State.foldl_mode {f : State → Nat → State} (hf : ∀ (u : State) (i : Nat), (f u i).mode = u.mode) (l : List Nat) (s : State) :
    (l.foldl f s).mode = s.mode := by
  induction l generalizing s with
  | nil => rfl
  | cons i l ih => exact (ih _).trans (hf s i)

theorem State.foldl_lastEntry {f : State → Nat → State} (hf : ∀ (u : State) (i : Nat), (f u i).fs.lastEntry = u.fs.lastEntry)
    (l : List Nat) (s : State) : (l.foldl f s).fs.lastEntry = s.fs.lastEntry := by
  induction l generalizing s with
  | nil => rfl
  | cons i l ih => exact (ih _).trans (hf s i)

theorem State.clearRing_mode (s : State) : s.clearRing.mode = s.mode := by
  have hlose : ∀ (u : State) (i : Nat), (u.loseMark i).mode = u.mode := fun u i => by
    unfold State.loseMark State.settle
    dsimp only
    split
    · exact State.raiseWith_mode _ _ _ _
    · rfl
  unfold State.clearRing
  dsimp only
  refine (State.foldl_mode (fun _ _ => State.setStream_mode _ _ _) _ _).trans ?_
  have hlost := State.foldl_mode hlose allStreams s
  generalize allStreams.foldl _ s = t at hlost ⊢
  exact hlost

theorem State.setStream_lastEntry (s : State) (i : Nat) (t : Stream) : (s.setStream i t).fs.lastEntry = s.fs.lastEntry := rfl

theorem State.clearRing_lastEntry (s : State) : s.clearRing.fs.lastEntry = [] := by
  unfold State.clearRing
  dsimp only
  exact State.foldl_lastEntry (fun _ _ => State.setStream_lastEntry _ _ _) _ _

/-! ### The commands of tests and calibration -/

/-- What BIST_RUN queues. -/
theorem bodyBistRun_queues {u : State} {r : Request}
    (hok : u.testOk (byteAt r.payload 0) (byteAt r.payload 1) (field r.payload 4 4) = true)
    (hidle : u.blockIdle (byteAt r.payload 0) (byteAt r.payload 1) = true)
    (hcost : testCost (byteAt r.payload 0) ≤ u.param P.BIST_POWER_BUDGET) :
    (u.testsWaiting.length < 8 → bodyBistRun u r = ({ u with
      draws := u.draws + 1
      bist := { u.bist with
        tests := u.bist.tests ++ [⟨u.bist.nextId, byteAt r.payload 0, byteAt r.payload 1, field r.payload 4 4, false, 0⟩]
        nextId := if u.bist.nextId = 65534 then 0 else u.bist.nextId + 1 } },
      .done Status.OK (beBytes 2 u.bist.nextId ++ ([0, 0] ++ beBytes 4 (u.expectedStart (byteAt r.payload 0) (byteAt r.payload 1)))))) ∧
    (8 ≤ u.testsWaiting.length → bodyBistRun u r = (u, .plain Status.BUSY)) := by
  constructor <;> intro hlen <;> unfold bodyBistRun <;> dsimp only <;>
    rw [if_neg (by rw [hok]; decide), if_neg (by rw [hidle]; decide), if_neg (Nat.not_lt.mpr hcost)]
  · rw [if_neg (Nat.not_le.mpr hlen), List.append_assoc]
  · rw [if_pos hlen]

/-- R509: what is isolated keeps the test that runs. -/
theorem State.isolate_bist (s : State) (t : Test) : (s.isolate t).bist.tests = s.bist.tests ∧
    (t.target = 6 → (s.isolate t).bist.dramTested = true ∧ (s.isolate t).anvil.rendering = false) := by
  have hdown : s.mirrorLinkDown.bist = s.bist := by
    unfold State.mirrorLinkDown State.setStale State.sendMirror
    dsimp only
    repeat' split
    all_goals simp [State.breakRecord]
  unfold State.isolate
  split
  · next h => exact ⟨congrArg Bist.tests hdown, fun h6 => absurd (h.1.symm.trans h6) (by decide)⟩
  · split
    · exact ⟨rfl, fun _ => ⟨rfl, rfl⟩⟩
    · next h => exact ⟨rfl, fun h6 => absurd h6 h⟩

theorem bodyTrimRun_trims {u : State} {r : Request} {named : Nat} (hn : field r.payload 0 2 = named) (hlt : named < 256) :
    ∃ v, bodyTrimRun u r = (v, .wait (.trim named)) ∧ (16 ≤ named → v.trim.due = true) ∧ (named < 16 → v.trim = u.trim) ∧
      (bit named 0 = true → v.macA.up = false) ∧ (bit named 1 = true → v.macB.up = false) := by
  obtain ⟨htrim, ha, hb⟩ := u.retrainLinks_trim_mac named
  unfold bodyTrimRun
  rw [hn, Nat.mod_eq_of_lt hlt]
  by_cases h : 16 ≤ named
  · refine ⟨_, rfl, ?_⟩
    rw [if_pos (show trimsClass2 named = true from decide_eq_true h)]
    exact ⟨fun _ => rfl, fun h' => absurd h (Nat.not_le.mpr h'), ha, hb⟩
  · refine ⟨_, rfl, ?_⟩
    rw [if_neg (by simpa [trimsClass2] using h)]
    exact ⟨fun h' => absurd h' h, fun _ => htrim, ha, hb⟩

/-- R510: the state that the reload leaves, from that with the banks, the images and the ring. -/
def State.reloaded (c : State) : State :=
  let c := c.freeBuffers
  { c with bist := { c.bist with reloading := false, dramTested := false } }

theorem execReloadComplete_eq {s c : State} (h : s.bist.reloading = true) (hc : c = s.loadBanks.loadImages.clearRing) :
    ∃ answers, execReloadComplete s = .next (c.reloaded.completeWaiting answers) := by
  subst hc
  unfold execReloadComplete
  rw [if_neg (by rw [h]; decide)]
  exact ⟨_, rfl⟩

/-- R510: the reload frees the overlay buffers and forgets the frames. -/
theorem execReloadComplete_reloads {s : State} (h : s.bist.reloading = true) :
    ∃ v, execReloadComplete s = .next v ∧ v.bist.reloading = false ∧ v.bist.dramTested = false ∧
      v.fs.buffers = [] ∧ v.fs.layer1 = {} ∧ v.fs.layer2 = {} ∧ v.fs.lastEntry = [] ∧ v.mode = s.mode := by
  obtain ⟨c, hc⟩ : ∃ c, c = s.loadBanks.loadImages.clearRing := ⟨_, rfl⟩
  obtain ⟨answers, hexec⟩ := execReloadComplete_eq h hc
  have hmode : c.mode = s.mode := by
    rw [hc, State.clearRing_mode, State.loadImages_mode, State.loadBanks_mode]
  have hlast : c.fs.lastEntry = [] := by rw [hc, State.clearRing_lastEntry]
  refine ⟨_, hexec, ?_⟩
  rw [State.completeWaiting_bist, State.completeWaiting_fs, State.completeWaiting_mode]
  exact ⟨rfl, rfl, rfl, rfl, rfl, hlast, hmode⟩

/-- Settles O56: the tests and class 2 calibration, command by command. -/
theorem testsAndCalibrationRunInOrder : Obligations.TestsAndCalibrationRunInOrder := by
  unfold Obligations.TestsAndCalibrationRunInOrder
  intro s u r t d id dur detail res f ch p target index named new fits
  refine ⟨fun h hfits hlen => ?_, fun h hfits hlen => ?_, fun hnext hstarts => ?_, fun ht hdur hw => ?_, fun h hall hno hd => ?_,
    fun h => execReloadComplete_reloads h, fun h hlt => ?_, fun h => ?_, fun hup hdue hfree => ?_, fun hok => ?_⟩
  · obtain ⟨hok, hidle, hcost⟩ := hfits
    exact ⟨_, _, State.answers_of_body h ((bodyBistRun_queues hok hidle hcost).1 hlen), rfl, rfl⟩
  · obtain ⟨hok, hidle, hcost⟩ := hfits
    exact State.answers_of_body h ((bodyBistRun_queues hok hidle hcost).2 hlen)
  · refine ⟨(s.markRunning t.id).isolate t, ?_, (State.isolate_bist _ t).1, (State.isolate_bist _ t).2⟩
    simp only [exec, execBistStart, hnext, hstarts, if_true]
  · obtain ⟨hrun, hkeep, htime⟩ := execBistDone_ends ht hdur hw (res := res) (detail := detail)
    obtain ⟨hafter, hdone, hfail⟩ := (s.endsTest t id res dur detail).afterTest_keepsService t res detail
    obtain ⟨hlast, hlen, hgone⟩ := ((s.reach (t.startUp + dur * 1000)).reinitBlock t).keepResult_results
      ⟨id, resultCode res, dur, detail⟩
    refine ⟨_, hrun, Nat.le_trans htime (Nat.le_of_eq hafter.up.symm), ?_, ?_, fun x hx => hgone x (hafter.tests x hx), (hkeep.shows hdone).sees,
      fun hres hs => (hfail hres).sees (hkeep hs).1⟩
    · exact hafter.results ▸ hlast
    · exact hafter.results ▸ hlen
  · refine State.answers_of_body h ?_
    unfold bodyBistResult
    dsimp only
    rw [if_neg hall, hno, hd]
  · obtain ⟨v, hbody, hv⟩ := bodyTrimRun_trims (u := u) (r := r) rfl hlt
    exact ⟨v, State.answers_of_body h hbody, hv⟩
  · refine ⟨_, State.answers_of_body h rfl, ?_⟩
    simp only [List.append_assoc]
    exact field_beBytes_append_of_lt (BitVec.isLt _) _
  · simp only [exec, execClass2Calibration]
    rw [if_neg (by simp [hup, hdue, hfree])]
  · refine ⟨_, by simp only [exec, execRetrainSlice]; rw [if_pos hok], rfl, ?_, rfl⟩
    simp [State.sliceOk]

end Sys2Proof.Machine
end

section
/-! ## Tasks: R337 to R342 -/

namespace Sys2Proof

namespace SMap

variable {α : Type} {d : Nat → α} {m : SMap α} {k : Nat} {v : α}

/-- A canonical store lists no key that has its unlisted value. -/
theorem ne_of_mem [DecidableEq α] (h : wf d m = true) (hm : (k, v) ∈ m) : v ≠ d k := by
  induction m with
  | nil => exact absurd hm List.not_mem_nil
  | cons p m ih =>
    obtain ⟨i, w⟩ := p
    simp only [wf, Bool.and_eq_true, decide_eq_true_eq] at h
    rcases List.mem_cons.mp hm with heq | hm
    · obtain ⟨rfl, rfl⟩ := Prod.mk.inj heq
      exact h.1.1
    · exact ih h.2 hm

/-- What a canonical store lists is what is read there. -/
theorem get_of_mem [DecidableEq α] (h : wf d m = true) (hm : (k, v) ∈ m) : get d m k = v := by
  induction m with
  | nil => exact absurd hm List.not_mem_nil
  | cons p m ih =>
    obtain ⟨i, w⟩ := p
    simp only [wf, Bool.and_eq_true, decide_eq_true_eq] at h
    rcases List.mem_cons.mp hm with heq | hin
    · obtain ⟨rfl, rfl⟩ := Prod.mk.inj heq
      simp [get]
    · have hget := ih h.2 hin
      have hne : k ≠ i := fun hki => by
        subst hki
        have hd := get_of_above h.2 h.1.2 (Nat.le_refl k)
        exact ne_of_mem h.2 hin (hget.symm.trans hd)
      simp only [get, hne, if_false]
      exact hget

/-- What is not the value of an unlisted key is listed. -/
theorem mem_of_get_ne (h : get d m k ≠ d k) : (k, get d m k) ∈ m := by
  induction m with
  | nil => exact absurd rfl h
  | cons p m ih =>
    obtain ⟨i, w⟩ := p
    by_cases hki : k = i
    · subst hki
      simp [get]
    · simp only [get, hki, if_false] at h ⊢
      exact List.mem_cons_of_mem _ (ih h)

end SMap

namespace Machine

/-! ### The stores stay canonical -/

/-- The step leaves the sparse stores as they are. -/
theorem State.storesOk_of_eq {s t : State} (hs : s.storesOk) (htasks : t.sched.tasks = s.sched.tasks)
    (hlocks : t.sched.locks = s.sched.locks) (hengines : t.sched.engines = s.sched.engines) (hstrands : t.strands = s.strands)
    (hstreams : t.fs.streams = s.fs.streams) (hshadows : t.shadows = s.shadows) (hmemory : t.memory = s.memory) : t.storesOk := by
  unfold State.storesOk
  rw [htasks, hlocks, hengines, hstrands, hstreams, hshadows, hmemory]
  exact hs

theorem State.setTask_storesOk {s : State} (h : s.storesOk) (n : Nat) (t : Task) : (s.setTask n t).storesOk :=
  ⟨SMap.wf_set h.1 n t, h.2⟩

theorem State.setEngine_storesOk {s : State} (h : s.storesOk) (n : Nat) (e : Engine) : (s.setEngine n e).storesOk :=
  have ⟨htasks, hlocks, hengines, hrest⟩ := h
  ⟨htasks, hlocks, SMap.wf_set hengines n e, hrest⟩

theorem State.setStrand_storesOk {s : State} (h : s.storesOk) (n : Nat) (x : Strand) : (s.setStrand n x).storesOk :=
  have ⟨htasks, hlocks, hengines, hstrands, hrest⟩ := h
  ⟨htasks, hlocks, hengines, SMap.wf_set hstrands n x, hrest⟩

theorem State.setStream_storesOk {s : State} (h : s.storesOk) (n : Nat) (x : Stream) : (s.setStream n x).storesOk :=
  have ⟨htasks, hlocks, hengines, hstrands, hstreams, hrest⟩ := h
  ⟨htasks, hlocks, hengines, hstrands, SMap.wf_set hstreams n x, hrest⟩

/-! ### The best of the tasks -/

section
variable {s : State} {e k : Nat}

/-- One step of the search for the best task. -/
def State.better (s : State) (e : Nat) (b : Option Nat) (p : Nat × Task) : Option Nat :=
  if s.eligibleTask p.1 && p.2.targets.contains e then
    match b with
    | none => some p.1
    | some m => if p.2.before (s.task m) then some p.1 else b
  else b

theorem Task.not_before_trans {a b c : Task} (hab : a.before b = false) (hbc : b.before c = false) : a.before c = false := by
  simp only [Task.before, Bool.or_eq_false_iff, Bool.and_eq_false_iff, decide_eq_false_iff_not] at *
  omega

theorem Task.not_before_of_before {a b : Task} (h : a.before b = true) : b.before a = false := by
  simp only [Task.before, Bool.or_eq_true, Bool.and_eq_true, Bool.or_eq_false_iff, Bool.and_eq_false_iff, decide_eq_true_eq,
    decide_eq_false_iff_not] at *
  omega

theorem Task.not_before_self (a : Task) : a.before a = false := by
  simp [Task.before]

/-- The task named so far is eligible, and none of the tasks of `l` comes before it. -/
def State.bestOf (s : State) (e : Nat) (l : List (Nat × Task)) (b : Option Nat) : Prop :=
  match b with
  | some m => s.eligibleTask m = true ∧
      ∀ p ∈ l, s.eligibleTask p.1 = true → p.2.targets.contains e = true → p.2.before (s.task m) = false
  | none => ∀ p ∈ l, s.eligibleTask p.1 = true → p.2.targets.contains e = false

theorem State.bestOf_better {l : List (Nat × Task)} {b : Option Nat} (h : s.bestOf e l b) {p : Nat × Task} (hp : s.task p.1 = p.2) :
    s.bestOf e (l ++ [p]) (s.better e b p) := by
  obtain ⟨j, t⟩ := p
  unfold State.better
  by_cases hc : (s.eligibleTask j && t.targets.contains e) = true
  · rw [if_pos hc]
    have hel := (Bool.and_eq_true _ _ ▸ hc).1
    cases b with
    | none =>
      refine ⟨hel, fun q hq hqe hqt => ?_⟩
      rcases List.mem_append.mp hq with hq | hq
      · exact absurd hqt (by rw [h q hq hqe]; decide)
      · obtain rfl := List.mem_singleton.mp hq
        rw [show s.task j = t from hp]
        exact t.not_before_self
    | some m =>
      obtain ⟨hm, hbest⟩ := h
      dsimp only
      by_cases hlt : t.before (s.task m) = true
      · rw [if_pos hlt]
        refine ⟨hel, fun q hq hqe hqt => ?_⟩
        rw [show s.task j = t from hp]
        rcases List.mem_append.mp hq with hq | hq
        · exact Task.not_before_trans (hbest q hq hqe hqt) (Task.not_before_of_before hlt)
        · obtain rfl := List.mem_singleton.mp hq
          exact t.not_before_self
      · rw [if_neg hlt]
        refine ⟨hm, fun q hq hqe hqt => ?_⟩
        rcases List.mem_append.mp hq with hq | hq
        · exact hbest q hq hqe hqt
        · obtain rfl := List.mem_singleton.mp hq
          exact Bool.eq_false_iff.mpr hlt
  · rw [if_neg hc]
    have hnot : s.eligibleTask j = true → t.targets.contains e = false := fun he => by
      rw [he, Bool.true_and] at hc
      exact Bool.eq_false_iff.mpr hc
    cases b with
    | none =>
      intro q hq hqe
      rcases List.mem_append.mp hq with hq | hq
      · exact h q hq hqe
      · obtain rfl := List.mem_singleton.mp hq
        exact hnot hqe
    | some m =>
      refine ⟨h.1, fun q hq hqe hqt => ?_⟩
      rcases List.mem_append.mp hq with hq | hq
      · exact h.2 q hq hqe hqt
      · obtain rfl := List.mem_singleton.mp hq
        exact absurd hqt (by rw [hnot hqe]; decide)

theorem State.bestOf_foldl {l : List (Nat × Task)} (hl : ∀ p ∈ l, s.task p.1 = p.2) {done : List (Nat × Task)} {b : Option Nat}
    (h : s.bestOf e done b) : s.bestOf e (done ++ l) (l.foldl (s.better e) b) := by
  induction l generalizing done b with
  | nil => simpa using h
  | cons p l ih =>
    rw [List.foldl_cons, ← List.singleton_append, ← List.append_assoc]
    exact ih (fun q hq => hl q (List.mem_cons_of_mem _ hq)) (State.bestOf_better h (hl p List.mem_cons_self))

theorem State.eligibleTask_ready {j : Nat} (h : s.eligibleTask j = true) : (s.task j).st = .ready := by
  simp only [State.eligibleTask, Bool.and_eq_true, decide_eq_true_eq] at h
  exact h.1

/-- R340: the best task may be dispatched, and no other that may comes before it. -/
theorem State.bestTask_best (hs : s.storesOk) (hk : s.bestTask e = some k) : s.eligibleTask k = true ∧
    ∀ j, s.eligibleTask j = true → (s.task j).targets.contains e = true → (s.task j).before (s.task k) = false := by
  have hbest : s.bestOf e s.sched.tasks (s.bestTask e) :=
    State.bestOf_foldl (done := []) (b := none) (fun p hp => SMap.get_of_mem hs.1 hp) fun p hp => absurd hp List.not_mem_nil
  rw [hk] at hbest
  refine ⟨hbest.1, fun j hj ht => hbest.2 (j, s.task j) (SMap.mem_of_get_ne fun heq => ?_) hj ht⟩
  have hready := State.eligibleTask_ready hj
  rw [show s.task j = {} from heq] at hready
  cases hready

end

/-! ### What the moves of a task do -/

section
variable {s : State} {n : Nat}

theorem State.makeReady_task (hs : s.storesOk) (n : Nat) : (s.makeReady n).task n =
    { s.task n with st := .ready, readyOrder := s.sched.order } :=
  have h := State.task_setTask_same hs n { s.task n with st := .ready, readyOrder := s.sched.order }
  h

theorem State.makeReady_task_other {j : Nat} (h : j ≠ n) : (s.makeReady n).task j = s.task j :=
  have hset := State.task_setTask_other s { s.task n with st := .ready, readyOrder := s.sched.order } h
  hset

theorem State.endTask_task (hs : s.storesOk) (n result : Nat) :
    (s.endTask n result).task n = { s.task n with st := .done, result := result, cancelReq := false } :=
  State.task_setTask_same hs n _

theorem State.dispatch_task (hs : s.storesOk) (e n : Nat) : (s.dispatch e n).task n = { s.task n with st := .dispatched, engine := e } :=
  have h := State.task_setTask_same hs n { s.task n with st := .dispatched, engine := e }
  h

theorem State.dispatch_task_other {j : Nat} (h : j ≠ n) (e : Nat) : (s.dispatch e n).task j = s.task j :=
  have hset := State.task_setTask_other s { s.task n with st := .dispatched, engine := e } h
  hset

theorem State.dispatch_engine (hs : s.storesOk) (e n : Nat) : ((s.dispatch e n).engine e).task = some n :=
  congrArg Engine.task (State.engine_setEngine_same (State.setTask_storesOk hs n _) e _)

theorem State.freeSlot_ge {k : Nat} (h : s.freeSlot = some k) : 64 ≤ k := by
  obtain ⟨i, -, rfl⟩ := List.mem_map.mp (List.mem_of_find?_eq_some h)
  omega

theorem execTaskSubmit_takes {e : Fin 20} {prio : Fin 8} {targets : List (Fin 21)} {flow : Option (Fin 256)} {wait : TaskWait}
    {k : Nat} (hs : s.storesOk) (hrun : s.engineRuns e = true) (hk : s.freeSlot = some k) :
    ∃ t, execTaskSubmit e prio targets flow wait s = .next t ∧ 64 ≤ k ∧
      (t.task k).st = (if wait = .now then .ready else .waiting) ∧ (t.task k).prio = prio.val ∧
      (t.task k).targets = targets.map (·.val) ∧ (t.task k).flow = flow.map (·.val) ∧ ∀ j, j ≠ k → t.task j = s.task j := by
  unfold execTaskSubmit
  rw [if_neg (by rw [hrun]; decide), hk]
  dsimp only
  generalize hx : ({ st := .waiting, prio := prio, targets := targets.map (·.val), flow := flow.map (·.val), wait := wait, order := s.sched.order } : Task) = x
  obtain ⟨u, hu⟩ : ∃ u, u = (State.setTask { s with sched := { s.sched with refusing := false } } k x).nextOrder := ⟨_, rfl⟩
  have hok : u.storesOk := hu ▸ State.setTask_storesOk (s := { s with sched := { s.sched with refusing := false } }) hs k x
  have htask : u.task k = x := hu ▸ State.task_setTask_same (s := { s with sched := { s.sched with refusing := false } }) hs k x
  have hother : ∀ j, j ≠ k → u.task j = s.task j := fun j hj =>
    hu ▸ State.task_setTask_other { s with sched := { s.sched with refusing := false } } x hj
  rw [← hu]
  refine ⟨_, rfl, State.freeSlot_ge hk, ?_⟩
  by_cases hw : wait = .now
  · rw [if_pos hw, if_pos hw, State.makeReady_task hok, htask, ← hx]
    exact ⟨rfl, rfl, rfl, rfl, fun j hj => (State.makeReady_task_other hj).trans (hother j hj)⟩
  · rw [if_neg hw, if_neg hw, htask, ← hx]
    exact ⟨rfl, rfl, rfl, rfl, hother⟩

theorem execTaskReady_ready {n : Fin 512} (hs : s.storesOk) (hst : (s.task n).st = .waiting) (hreset : s.sys.inReset = false) :
    ∃ t, execTaskReady n s = .next t ∧ (t.task n).st = .ready ∧ ∀ j, j ≠ n.val → t.task j = s.task j := by
  have hready : ∀ u : State, u.storesOk → (∀ j, u.task j = s.task j) →
      ((u.makeReady n).task n).st = .ready ∧ ∀ j, j ≠ n.val → (u.makeReady n).task j = s.task j := fun u hu htasks =>
    ⟨congrArg Task.st (State.makeReady_task hu n), fun j hj => (State.makeReady_task_other hj).trans (htasks j)⟩
  unfold execTaskReady
  dsimp only
  rw [if_neg (by simp [hst, hreset])]
  split
  · refine ⟨_, rfl, hready _ (State.storesOk_of_eq hs ?_ ?_ ?_ ?_ ?_ ?_ ?_) fun j => State.pass_task s _ j⟩ <;> simp
  · exact ⟨_, rfl, hready s hs fun _ => rfl⟩

/-- The yield point of an engine: the stamp of its watchdog is new. -/
def State.yields (s : State) (e : Nat) : State := s.setEngine e { s.engine e with yieldUp := s.up }

theorem State.yields_engine (hs : s.storesOk) (e : Nat) : (s.yields e).engine e = { s.engine e with yieldUp := s.up } :=
  State.engine_setEngine_same hs e _

theorem execTaskDispatch_eq {g : Fin 21} (hrun : s.engineRuns g = true) (hlive : g.val = 20 → s.dead = false) :
    execTaskDispatch g s = match ((s.yields g).engine g).task with
      | none => .next ((s.yields g).giveTask g)
      | some n =>
        if (s.task n).cancelReq then .next ((((s.yields g).endTask n 1).idleEngine g).giveTask g)
        else
          match s.bestTask g with
          | some m => if (s.task m).prio < (s.task n).prio then
              .next (((s.yields g).setTask n { s.task n with st := .suspended }).dispatch g m) else .next (s.yields g)
          | none => .next (s.yields g) := by
  unfold execTaskDispatch
  rw [if_neg fun h => h.elim (fun h => by rw [hrun] at h; cases h) fun h => by rw [hlive h.1] at h; cases h.2]
  rfl

theorem execTaskDispatch_idle {g : Fin 21} {k : Nat} (hs : s.storesOk) (hrun : s.engineRuns g = true)
    (hlive : g.val = 20 → s.dead = false) (hidle : (s.engine g).task = none) (hsusp : s.suspendedTask g = none)
    (hk : s.bestTask g = some k) : ∃ t, execTaskDispatch g s = .next t ∧ (t.engine g).task = some k ∧
      (t.task k).st = .dispatched ∧ (t.task k).engine = g.val := by
  have hgive : (s.yields g).giveTask g = (s.yields g).dispatch g k := by
    unfold State.giveTask
    rw [show (s.yields g).suspendedTask g = none from hsusp, show (s.yields g).bestTask g = some k from hk]
  have hok := State.setEngine_storesOk hs g { s.engine g with yieldUp := s.up }
  refine ⟨(s.yields g).dispatch g k, ?_, State.dispatch_engine hok g k, ?_, ?_⟩
  · rw [execTaskDispatch_eq hrun hlive, State.yields_engine hs, hidle]
    exact congrArg _ hgive
  · exact congrArg Task.st (State.dispatch_task hok g k)
  · exact congrArg Task.engine (State.dispatch_task hok g k)

theorem execTaskDispatch_preempts {g : Fin 21} {k m : Nat} (hs : s.storesOk) (hrun : s.engineRuns g = true)
    (hlive : g.val = 20 → s.dead = false) (hbusy : (s.engine g).task = some m) (hreq : (s.task m).cancelReq = false)
    (hk : s.bestTask g = some k) (hprio : (s.task k).prio < (s.task m).prio) : ∃ t, execTaskDispatch g s = .next t ∧
      (t.engine g).task = some k ∧ (t.task k).st = .dispatched ∧ (t.task m).st = .suspended := by
  have hne : m ≠ k := fun h => by rw [h] at hprio; exact Nat.lt_irrefl _ hprio
  have hok := State.setEngine_storesOk hs g { s.engine g with yieldUp := s.up }
  have hok' := State.setTask_storesOk hok m { s.task m with st := .suspended }
  refine ⟨((s.yields g).setTask m { s.task m with st := .suspended }).dispatch g k, ?_, State.dispatch_engine hok' g k,
    congrArg Task.st (State.dispatch_task hok' g k), ?_⟩
  · rw [execTaskDispatch_eq hrun hlive, State.yields_engine hs, hbusy]
    dsimp only
    rw [if_neg (by rw [hreq]; decide), hk]
    exact if_pos hprio
  · rw [State.dispatch_task_other hne]
    exact congrArg Task.st (State.task_setTask_same hok m _)

theorem execTaskDone_ends {g : Fin 21} {k : Nat} (hs : s.storesOk) (hrun : s.engineRuns g = true) (hk : (s.engine g).task = some k) :
    ∃ t, execTaskDone g s = .next t ∧ (t.engine g).task = none ∧ (t.task k).st = .done ∧ (t.task k).result = 0 := by
  have htask : ((s.endTask k 0).idleEngine g).task k = { s.task k with st := .done, result := 0, cancelReq := false } :=
    State.endTask_task hs k 0
  refine ⟨(s.endTask k 0).idleEngine g, ?_, ?_, congrArg Task.st htask, congrArg Task.result htask⟩
  · unfold execTaskDone
    rw [hk]
    exact if_pos hrun
  · exact congrArg Engine.task (State.engine_setEngine_same (State.setTask_storesOk hs k _) g _)

theorem State.cancelTask_pending (h : (s.task n).st = .waiting ∨ (s.task n).st = .ready) : s.cancelTask n = s.endTask n 1 := by
  unfold State.cancelTask
  rcases h with h | h <;> simp only [h]

theorem State.cancelTask_inService (h : (s.task n).inService = true) :
    s.cancelTask n = s.setTask n { s.task n with cancelReq := true } := by
  simp only [Task.inService, Bool.or_eq_true, decide_eq_true_eq] at h
  unfold State.cancelTask
  rcases h with h | h <;> simp only [h]

end

/-- Settles O38: each move of a task, with the best task of R340 found by the fold over the slots. -/
theorem tasksRunInPriorityOrder : Obligations.TasksRunInPriorityOrder := by
  unfold Obligations.TasksRunInPriorityOrder
  intro s e g n prio targets flow wait v k m hs
  refine ⟨fun hrun hk => execTaskSubmit_takes hs hrun hk, fun hrun hk href => ?_, fun hst hreset => execTaskReady_ready hs hst hreset,
    fun hrun hlive hidle hsusp hk => ⟨execTaskDispatch_idle hs hrun hlive hidle hsusp hk, State.bestTask_best hs hk⟩,
    fun hrun hlive hbusy hreq hk hprio => execTaskDispatch_preempts hs hrun hlive hbusy hreq hk hprio,
    fun hrun hk => execTaskDone_ends hs hrun hk, fun hst => ⟨s.cancelTask (v.toNat % 512), rfl, ?_⟩,
    fun hserv => ⟨s.cancelTask (v.toNat % 512), rfl, ?_⟩, fun hdone => ⟨s.setTask n {}, ?_, ?_⟩⟩
  · refine ⟨({ s with sched := { s.sched with refusing := true } } : State).raise Ev.TASK_SLOTS_FULL, ?_, State.raise_sched _ _,
      fun hregs => State.Shows.sees (State.raise_shows _ (by decide)) hregs⟩
    simp only [exec, execTaskSubmit]
    rw [if_neg (by rw [hrun]; decide), hk]
    exact if_neg (by rw [href]; decide)
  · rw [State.cancelTask_pending hst, State.endTask_task hs]
    exact ⟨rfl, rfl⟩
  · rw [State.cancelTask_inService hserv, State.task_setTask_same hs]
  · simp only [exec, execCompletionRecordRead, hdone, if_true]
  · rw [State.task_setTask_same hs]

end Machine
end Sys2Proof
end

section
/-! ## Locks and engine faults: R345 to R352 -/

namespace Sys2Proof

/-! ### Stores whose keys rise -/

namespace SMap

variable {α : Type} {d : Nat → α} {m : SMap α} {k : Nat} {v : α}

/-- The keys of a store, as a store. -/
def keys (m : SMap α) : SMap Bool := m.map fun p => (p.1, true)

/-- The keys rise strictly, whatever is stored. -/
def rises (m : SMap α) : Prop := wf (fun _ => false) (keys m) = true

theorem above_keys (k : Nat) (m : SMap α) : above k (keys m) = above k m := by
  cases m <;> rfl

theorem rises_of_wf [DecidableEq α] (h : wf d m = true) : rises m := by
  induction m with
  | nil => rfl
  | cons p m ih =>
    obtain ⟨i, w⟩ := p
    simp only [wf, Bool.and_eq_true] at h
    simp only [rises, keys, List.map_cons, wf, Bool.and_eq_true]
    exact ⟨⟨by decide, (above_keys i m).trans h.1.2⟩, ih h.2⟩

theorem keys_erase (m : SMap α) (k : Nat) : keys (erase m k) = erase (keys m) k := by
  induction m with
  | nil => rfl
  | cons p m ih =>
    obtain ⟨i, w⟩ := p
    by_cases hki : k = i
    · simp [keys, erase, hki]
    · simp only [keys, erase, hki, if_false, List.map_cons] at ih ⊢
      exact congrArg _ ih

theorem keys_insert (m : SMap α) (k : Nat) (v : α) : keys (insert m k v) = insert (keys m) k true := by
  induction m with
  | nil => rfl
  | cons p m ih =>
    obtain ⟨i, w⟩ := p
    by_cases hlt : k < i
    · simp [keys, insert, hlt]
    · by_cases hki : k = i
      · subst hki
        simp [keys, insert]
      · simp only [keys, insert, hlt, hki, if_false, List.map_cons] at ih ⊢
        exact congrArg _ ih

theorem rises_set [DecidableEq α] (h : rises m) (k : Nat) (v : α) : rises (set d m k v) := by
  unfold set
  split
  · rw [rises, keys_erase]
    exact wf_erase h
  · rw [rises, keys_insert]
    exact wf_insert h (by decide)

theorem get_of_keys (h : get (fun _ => false) (keys m) k = false) : get d m k = d k := by
  induction m with
  | nil => rfl
  | cons p m ih =>
    obtain ⟨i, w⟩ := p
    by_cases hki : k = i
    · simp [keys, get, hki] at h
    · simp only [keys, get, hki, if_false, List.map_cons] at h ⊢
      exact ih h

/-- A write to a store whose keys rise is read back. -/
theorem get_set_same_of_rises [DecidableEq α] (h : rises m) (k : Nat) (v : α) : get d (set d m k v) k = v := by
  unfold set
  split
  · next hv =>
    rw [hv]
    refine get_of_keys ?_
    rw [keys_erase]
    exact get_erase_same h
  · exact get_insert_same d m k v

/-- What is done to every entry is read, where it leaves an unlisted one as it is. -/
theorem get_map {f : α → α} (hf : ∀ k, f (d k) = d k) (m : SMap α) (k : Nat) :
    get d (m.map fun p => (p.1, f p.2)) k = f (get d m k) := by
  induction m with
  | nil => exact (hf k).symm
  | cons p m ih =>
    obtain ⟨i, w⟩ := p
    by_cases hki : k = i
    · simp [get, hki]
    · simp only [List.map_cons, get, hki, if_false]
      exact ih

theorem rises_map {f : α → α} (h : rises m) : rises (m.map fun p => (p.1, f p.2)) := by
  unfold rises keys at h ⊢
  rwa [List.map_map]

end SMap

namespace Machine

/-! ### A lock passes on -/

section
variable {s : State} {n e : Nat}

theorem State.keepShadow_locks (s : State) (n : Nat) (c : Option Shadow) : (s.keepShadow n c).sched = s.sched := by
  unfold State.keepShadow
  split <;> rfl

theorem State.lock_of_sched {s t : State} (h : t.sched.locks = s.sched.locks) (j : Nat) : t.lock j = s.lock j := by
  rw [State.lock, State.lock, h]

theorem State.lock_setLock_of_rises (hs : SMap.rises s.sched.locks) (n : Nat) (l : Lock) : (s.setLock n l).lock n = l :=
  SMap.get_set_same_of_rises (d := fun _ => ({} : Lock)) hs n l

theorem State.setLock_rises (hs : SMap.rises s.sched.locks) (n : Nat) (l : Lock) : SMap.rises (s.setLock n l).sched.locks :=
  SMap.rises_set (d := fun _ => ({} : Lock)) hs n l

theorem State.grantLock_lock (hs : SMap.rises s.sched.locks) (n e : Nat) (ws : List Nat) :
    (s.grantLock n e ws).lock n = { owner := some e, waiters := ws, sinceUp := s.up } :=
  (State.lock_of_sched (congrArg Sched.locks (State.keepShadow_locks _ n _)) n).trans (State.lock_setLock_of_rises hs n _)

theorem State.passLock_lock (hs : SMap.rises s.sched.locks) (n : Nat) : ((s.passLock n).lock n).owner = (s.lock n).waiters.head? ∧
    ((s.passLock n).lock n).waiters = (s.lock n).waiters.drop 1 := by
  unfold State.passLock
  split
  · next w ws hw => rw [State.grantLock_lock hs, hw]; exact ⟨rfl, rfl⟩
  · next hw =>
    have hfree : ((s.setLock n {}).keepShadow n none).lock n = {} :=
      (State.lock_of_sched (congrArg Sched.locks (State.keepShadow_locks _ n _)) n).trans (State.lock_setLock_of_rises hs n _)
    rw [hfree, hw]
    exact ⟨rfl, rfl⟩

theorem State.passLock_lock_other {j : Nat} (h : j ≠ n) : (s.passLock n).lock j = s.lock j := by
  have hset : ∀ (l : Lock) (c : Option Shadow), ((s.setLock n l).keepShadow n c).lock j = s.lock j := fun l c =>
    (State.lock_of_sched (congrArg Sched.locks (State.keepShadow_locks _ n _)) j).trans (State.lock_setLock_other s l h)
  unfold State.passLock State.grantLock
  split <;> exact hset _ _

theorem State.passLock_rises (hs : SMap.rises s.sched.locks) (n : Nat) : SMap.rises (s.passLock n).sched.locks := by
  unfold State.passLock State.grantLock
  split <;> rw [State.keepShadow_locks] <;> exact State.setLock_rises hs n _

end

/-! ### What the release of locks leaves as it is -/

/-- The step is one of locks and of what they protect. -/
structure State.keepsButLocks (s t : State) : Prop where
  up : t.up = s.up
  mode : t.mode = s.mode
  regs : t.regs = s.regs
  sched : t.sched = { s.sched with locks := t.sched.locks }

theorem State.keepsButLocks_refl (s : State) : s.keepsButLocks s := ⟨rfl, rfl, rfl, rfl⟩

theorem State.keepsButLocks.trans {s t u : State} (h : s.keepsButLocks t) (h' : t.keepsButLocks u) : s.keepsButLocks u :=
  ⟨h'.up.trans h.up, h'.mode.trans h.mode, h'.regs.trans h.regs, by have := h'.sched; rw [h.sched] at this; exact this⟩

theorem State.keepsButLocks_foldl {α : Type} {f : State → α → State} (hf : ∀ (t : State) (x : α), t.keepsButLocks (f t x))
    (l : List α) (s : State) : s.keepsButLocks (l.foldl f s) := by
  induction l generalizing s with
  | nil => exact s.keepsButLocks_refl
  | cons x l ih => exact (hf s x).trans (ih _)

/-- R350: what is restored is no lock. -/
theorem State.restoreShadow_sched (s : State) (n : Nat) : s.keepsButLocks (s.restoreShadow n) ∧
    (s.restoreShadow n).sched = s.sched := by
  have hfold : ∀ {f : State → Nat → State}, (∀ (t : State) (x : Nat), t.keepsButLocks (f t x) ∧ (f t x).sched = t.sched) →
      ∀ (l : List Nat) (u : State), u.keepsButLocks (l.foldl f u) ∧ (l.foldl f u).sched = u.sched := fun {f} hf l => by
    induction l with
    | nil => exact fun u => ⟨u.keepsButLocks_refl, rfl⟩
    | cons x l ih => exact fun u => ⟨(hf u x).1.trans (ih _).1, (ih _).2.trans (hf u x).2⟩
  have hparam : ∀ (t : State) (id : Nat) (v : List Byte), t.keepsButLocks (t.setParam id v) ∧ (t.setParam id v).sched = t.sched :=
    fun t id v => ⟨⟨rfl, rfl, rfl, rfl⟩, rfl⟩
  have hstream : ∀ (t : State) (i : Nat) (x : Stream), t.keepsButLocks (t.setStream i x) ∧ (t.setStream i x).sched = t.sched :=
    fun t i x => ⟨⟨rfl, rfl, rfl, rfl⟩, rfl⟩
  unfold State.restoreShadow
  split
  · unfold State.restoreStructure
    split
    · exact ⟨⟨rfl, rfl, rfl, rfl⟩, rfl⟩
    · split
      · exact hfold (fun t x => hparam t _ _) _ s
      · split
        · exact hfold (fun t x => hstream t _ _) _ s
        · exact ⟨⟨rfl, rfl, rfl, rfl⟩, rfl⟩
  · exact ⟨s.keepsButLocks_refl, rfl⟩

theorem State.passLock_keepsButLocks (s : State) (n : Nat) : s.keepsButLocks (s.passLock n) := by
  have hkeep : ∀ (t : State) (c : Option Shadow), t.keepsButLocks (t.keepShadow n c) := fun t c => by
    unfold State.keepShadow
    split
    · exact ⟨rfl, rfl, rfl, rfl⟩
    · exact t.keepsButLocks_refl
  unfold State.passLock State.grantLock
  split <;> exact State.keepsButLocks.trans (t := s.setLock n _) ⟨rfl, rfl, rfl, rfl⟩ (hkeep _ _)

/-- One lock that a fault releases. -/
def State.letGo (s : State) (n : Nat) : State := (s.restoreShadow n).passLock n

theorem State.letGo_keepsButLocks (s : State) (n : Nat) : s.keepsButLocks (s.letGo n) :=
  (s.restoreShadow_sched n).1.trans (State.passLock_keepsButLocks _ n)

/-- The locks while those of engine `e` are released: none waits for it any more, and it owns at most those of `l`. -/
structure State.lettingGo (s : State) (e : Nat) (l : List Nat) : Prop where
  rises : SMap.rises s.sched.locks
  waiters : ∀ j, e ∉ (s.lock j).waiters
  owner : ∀ j, tryOnlyLock j = false → (s.lock j).owner = some e → j ∈ l

theorem State.lettingGo_letGo {s : State} {e n : Nat} {l : List Nat} (h : s.lettingGo e (n :: l)) : (s.letGo n).lettingGo e l := by
  obtain ⟨hrises, hwaiters, howner⟩ := h
  have hlocks : ∀ j, (s.restoreShadow n).lock j = s.lock j :=
    State.lock_of_sched (congrArg Sched.locks (s.restoreShadow_sched n).2)
  have hrises' : SMap.rises (s.restoreShadow n).sched.locks := by rwa [(s.restoreShadow_sched n).2]
  obtain ⟨hown, hwait⟩ := State.passLock_lock hrises' n
  rw [hlocks] at hown hwait
  have hother : ∀ j, j ≠ n → (s.letGo n).lock j = s.lock j := fun j hj =>
    (State.passLock_lock_other hj).trans (hlocks j)
  refine ⟨State.passLock_rises hrises' n, fun j => ?_, fun j ht ho => ?_⟩
  · by_cases hj : j = n
    · subst hj
      exact fun hmem => hwaiters j (List.mem_of_mem_drop (hwait ▸ hmem))
    · exact hother j hj ▸ hwaiters j
  · by_cases hj : j = n
    · subst hj
      exact absurd (List.mem_of_mem_head? (hown.symm.trans ho)) (hwaiters j)
    · rw [hother j hj] at ho
      exact (List.mem_cons.mp (howner j ht ho)).resolve_left hj

theorem State.lettingGo_foldl {e : Nat} (l : List Nat) {s : State} (h : s.lettingGo e l) : (l.foldl State.letGo s).lettingGo e [] := by
  induction l generalizing s with
  | nil => exact h
  | cons n l ih => exact ih (State.lettingGo_letGo h)

/-- R350: an engine whose locks are released owns none but session locks. -/
theorem State.releaseLocks_free {s : State} (hs : s.storesOk) (e : Nat) :
    (∀ j, tryOnlyLock j = false → ((s.releaseLocks e).lock j).owner ≠ some e) ∧ s.keepsButLocks (s.releaseLocks e) := by
  obtain ⟨-, hlocks, -⟩ := hs
  obtain ⟨held, hheld⟩ : ∃ held, held = ((s.sched.locks.filter fun p =>
      decide (p.2.owner = some e) && !tryOnlyLock p.1).map Prod.fst).reverse := ⟨_, rfl⟩
  obtain ⟨u, hu⟩ : ∃ u : State, u = { s with sched := { s.sched with
      locks := s.sched.locks.map fun p => (p.1, { p.2 with waiters := p.2.waiters.filter fun w => decide (w ≠ e) }) } } := ⟨_, rfl⟩
  have heq : s.releaseLocks e = held.foldl State.letGo u := by
    rw [hheld, hu]
    rfl
  have hget : ∀ j, u.lock j = { s.lock j with waiters := (s.lock j).waiters.filter fun w => decide (w ≠ e) } := fun j => by
    rw [hu]
    exact SMap.get_map (d := fun _ => ({} : Lock)) (f := fun l => { l with waiters := l.waiters.filter fun w => decide (w ≠ e) })
      (fun _ => rfl) s.sched.locks j
  have hgo : u.lettingGo e held := by
    refine ⟨?_, fun j => ?_, fun j ht ho => ?_⟩
    · rw [hu]
      exact SMap.rises_map (f := fun l : Lock => { l with waiters := l.waiters.filter fun w => decide (w ≠ e) })
        (SMap.rises_of_wf hlocks)
    · rw [hget]
      simp
    · rw [hget] at ho
      have hmem : (j, s.lock j) ∈ s.sched.locks := SMap.mem_of_get_ne fun hd => by
        rw [show s.lock j = {} from hd] at ho
        cases ho
      rw [hheld, List.mem_reverse, List.mem_map]
      exact ⟨(j, s.lock j), List.mem_filter.mpr ⟨hmem, by simp only [show (s.lock j).owner = some e from ho, ht]; simp⟩, rfl⟩
  rw [heq]
  refine ⟨fun j ht ho => absurd ((State.lettingGo_foldl held hgo).owner j ht ho) List.not_mem_nil,
    State.keepsButLocks.trans (t := u) ?_ (State.keepsButLocks_foldl State.letGo_keepsButLocks held u)⟩
  rw [hu]
  exact ⟨rfl, rfl, rfl, rfl⟩

/-! ### The tasks of a faulted engine -/

/-- The step is one of tasks. -/
structure State.keepsButTasks (s t : State) : Prop where
  up : t.up = s.up
  mode : t.mode = s.mode
  regs : t.regs = s.regs
  sched : t.sched = { s.sched with tasks := t.sched.tasks, order := t.sched.order }

theorem State.keepsButTasks_refl (s : State) : s.keepsButTasks s := ⟨rfl, rfl, rfl, rfl⟩

theorem State.keepsButTasks.trans {s t u : State} (h : s.keepsButTasks t) (h' : t.keepsButTasks u) : s.keepsButTasks u :=
  ⟨h'.up.trans h.up, h'.mode.trans h.mode, h'.regs.trans h.regs, by have := h'.sched; rw [h.sched] at this; exact this⟩

theorem State.returnTask_keepsButTasks (s : State) (n : Nat) (b : Bool) : s.keepsButTasks (s.returnTask n b) := by
  unfold State.returnTask
  dsimp only
  split
  · exact ⟨rfl, rfl, rfl, rfl⟩
  · split <;> exact ⟨rfl, rfl, rfl, rfl⟩

theorem State.foldl_returnTask_keepsButTasks (l : List Nat) (s : State) :
    s.keepsButTasks (l.foldl (fun s n => s.returnTask n false) s) := by
  induction l generalizing s with
  | nil => exact s.keepsButTasks_refl
  | cons n l ih => exact (s.returnTask_keepsButTasks n false).trans (ih _)

/-- The faulted task, before the suspended ones. -/
def State.returnOwn (s : State) (e : Nat) : State :=
  match (s.engine e).task with
  | some n => s.returnTask n true
  | none => s

/-- The tasks that are suspended on the engine. -/
def State.suspendedOn (s : State) (e : Nat) : List Nat :=
  (s.sched.tasks.filter fun p => decide (p.2.st = .suspended) && decide (p.2.engine = e)).map Prod.fst

theorem State.returnTasks_eq (s : State) (e : Nat) :
    s.returnTasks e = ((s.returnOwn e).suspendedOn e).foldl (fun s n => s.returnTask n false) (s.returnOwn e) := rfl

theorem State.returnTasks_keepsButTasks (s : State) (e : Nat) : s.keepsButTasks (s.returnTasks e) := by
  rw [State.returnTasks_eq]
  refine State.keepsButTasks.trans ?_ (State.foldl_returnTask_keepsButTasks _ _)
  unfold State.returnOwn
  split
  · exact s.returnTask_keepsButTasks _ _
  · exact s.keepsButTasks_refl

theorem State.returnTask_task_other {j n : Nat} (h : j ≠ n) (s : State) (b : Bool) : (s.returnTask n b).task j = s.task j := by
  unfold State.returnTask
  dsimp only
  split
  · exact State.task_setTask_other s _ h
  · split
    · exact State.task_setTask_other s _ h
    · exact (State.makeReady_task_other h).trans (State.task_setTask_other s _ h)

theorem State.foldl_returnTask_task_other {j : Nat} {l : List Nat} (h : j ∉ l) (s : State) :
    (l.foldl (fun s n => s.returnTask n false) s).task j = s.task j := by
  induction l generalizing s with
  | nil => rfl
  | cons n l ih =>
    rw [List.foldl_cons, ih (List.not_mem_of_not_mem_cons h)]
    exact State.returnTask_task_other (List.ne_of_not_mem_cons h) s false

theorem State.makeReady_of_task {s : State} {n : Nat} {x : Task} (hwf : SMap.wf (fun _ => ({} : Task)) s.sched.tasks = true)
    (h : s.task n = x) : (s.makeReady n).task n = { x with st := .ready, readyOrder := s.sched.order } := by
  subst h
  have hset := SMap.get_set_same hwf n { s.task n with st := .ready, readyOrder := s.sched.order }
  exact hset

/-- R351: after its first fault a task is READY again. -/
theorem State.returnTasks_first {s : State} {e k : Nat} (hwf : SMap.wf (fun _ => ({} : Task)) s.sched.tasks = true)
    (hk : (s.engine e).task = some k) (hreq : (s.task k).cancelReq = false) (hfaults : (s.task k).faults = 0) :
    ((s.returnTasks e).task k).st = .ready ∧ ((s.returnTasks e).task k).faults = 1 := by
  obtain ⟨x, hx⟩ : ∃ x : Task, x = { s.task k with faults := (s.task k).faults + b2n true } := ⟨_, rfl⟩
  have hown : s.returnOwn e = (s.setTask k x).makeReady k := by
    unfold State.returnOwn State.returnTask
    rw [hk]
    dsimp only
    rw [if_neg (by rw [hreq]; decide), if_neg (by rw [hfaults]; decide), hx]
  have hset : (s.setTask k x).task k = x := SMap.get_set_same hwf k x
  have hready : (s.returnOwn e).task k = { x with st := .ready, readyOrder := s.sched.order } := by
    rw [hown]
    exact State.makeReady_of_task (SMap.wf_set hwf k x) hset
  have hwf' : SMap.wf (fun _ => ({} : Task)) (s.returnOwn e).sched.tasks = true := by
    rw [hown]
    have hmade := SMap.wf_set (SMap.wf_set hwf k x) k { (s.setTask k x).task k with st := .ready, readyOrder := s.sched.order }
    exact hmade
  have hnot : k ∉ (s.returnOwn e).suspendedOn e := fun hmem => by
    obtain ⟨p, hp, hpk⟩ := List.mem_map.mp hmem
    obtain ⟨hp, hst⟩ := List.mem_filter.mp hp
    obtain ⟨j, t⟩ := p
    obtain rfl : j = k := hpk
    have ht : (s.returnOwn e).task j = t := SMap.get_of_mem hwf' hp
    rw [hready] at ht
    rw [← ht] at hst
    simp at hst
  rw [State.returnTasks_eq, State.foldl_returnTask_task_other hnot, hready, hx]
  exact ⟨rfl, by rw [hfaults]; rfl⟩

/-! ### An engine faults -/

theorem State.requeuePopped_frame (s : State) (n : Nat) : (s.requeuePopped n).up = s.up ∧ (s.requeuePopped n).mode = s.mode ∧
    (s.requeuePopped n).regs = s.regs ∧ (s.requeuePopped n).sched = s.sched := by
  unfold State.requeuePopped State.setQset
  dsimp only
  split <;> exact ⟨rfl, rfl, rfl, rfl⟩

theorem State.returnFrames_frame (s : State) (e : Nat) : (s.returnFrames e).up = s.up ∧ (s.returnFrames e).mode = s.mode ∧
    (s.returnFrames e).regs = s.regs ∧ (s.returnFrames e).sched = s.sched := by
  unfold State.returnFrames
  split
  · exact s.requeuePopped_frame 3
  · obtain ⟨hup, hmode, hregs, hsched⟩ := s.requeuePopped_frame 0
    obtain ⟨hup', hmode', hregs', hsched'⟩ := (s.requeuePopped 0).requeuePopped_frame 2
    exact ⟨hup'.trans hup, hmode'.trans hmode, hregs'.trans hregs, hsched'.trans hsched⟩
  · exact s.requeuePopped_frame 1
  · exact ⟨rfl, rfl, rfl, rfl⟩

theorem State.engineAway_keepsService (s : State) (e : Nat) : s.keepsService (s.engineAway e) := by
  have hset : ∀ (t : State) (n : Nat) (x : Strand), t.keepsService (t.setStrand n x) := fun t n x =>
    State.keepsService_of_regs rfl rfl rfl rfl rfl rfl
  unfold State.engineAway
  split
  · exact State.keepsService_of_regs rfl rfl rfl rfl rfl rfl
  · exact State.keepsService_foldl (fun t n => (t.haltStrand_keepsService n).trans (hset _ n _)) _ s

/-- R349: the fault's entry, event and count. -/
def State.faultShown (s : State) (e : Nat) (cause : FaultCause) (payload : Nat) : State :=
  let s := ((s.emit (engineSource e) Kind.FAULT (faultCode cause) payload).raise Ev.ENGINE_FAULT).countFault e
  { s with work := { s.work with engineFaulted := true } }

/-- R350: the engine without its locks, tasks and frames. -/
def State.faultCleared (s : State) (e : Nat) (g : Engine) : State :=
  (((s.releaseLocks e).returnTasks e).returnFrames e).setEngine e { g with task := none, lastFaultUp := some s.up, restarting := true }

/-- R350, R353: the engine restarts, or halts for good. -/
def State.faultEnds (s : State) (e payload : Nat) (forGood : Bool) : State :=
  if e = 1 ∨ forGood ∨ s.mode = .boot then
    (s.setEngine e { s.engine e with restarting := false, halted := true }).fatalFault (engineSource e)
      (if e = 1 then 0x101 else 0x100) payload
  else s.engineAway e

theorem State.engineFault_eq {s : State} {e : Nat} (hrun : s.engineRuns e = true) (cause : FaultCause) (pc lock : Nat) :
    ∃ payload forGood, ((s.engine e).lastFaultUp = none → forGood = false) ∧ s.engineFault e cause pc lock =
      ((s.faultShown e cause payload).faultCleared e (s.engine e)).faultEnds e payload forGood := by
  unfold State.engineFault
  rw [if_neg (by rw [hrun]; decide)]
  unfold State.faultEnds State.faultCleared State.faultShown
  refine ⟨_, _, ?_, Eq.refl _⟩
  intro h
  simp only [h]

theorem State.faultShown_shows (s : State) (e : Nat) (cause : FaultCause) (payload : Nat) :
    s.Shows (s.faultShown e cause payload) Ev.ENGINE_FAULT ∧ (s.faultShown e cause payload).sched = s.sched ∧
      (s.faultShown e cause payload).up = s.up ∧ (s.faultShown e cause payload).mode = s.mode := by
  have hreg : Ev.ENGINE_FAULT.reg ≠ Reg.ENG_STATUS e := by
    unfold Ev.ENGINE_FAULT Reg.SCHED_EVENTS Reg.ENG_STATUS
    simp only
    omega
  have hshows : s.Shows ((s.emit (engineSource e) Kind.FAULT (faultCode cause) payload).raise Ev.ENGINE_FAULT) Ev.ENGINE_FAULT :=
    (State.emit_keepsEvents s _ _ _ _).shows (State.raise_shows _ (by decide))
  have hcount : ∀ t : State, t.KeepsEvent (t.countFault e) Ev.ENGINE_FAULT ∧ (t.countFault e).sched = t.sched ∧
      (t.countFault e).up = t.up ∧ (t.countFault e).mode = t.mode := fun t => ⟨t.setRegN_keepsEvent hreg _, rfl, rfl, rfl⟩
  obtain ⟨hev, hsched, hup, hmode⟩ := hcount ((s.emit (engineSource e) Kind.FAULT (faultCode cause) payload).raise Ev.ENGINE_FAULT)
  have hev := hshows.keep hev
  rw [State.raise_sched, State.emit_sched] at hsched
  rw [State.raise_up, State.emit_up] at hup
  rw [State.raise_mode, State.emit_mode] at hmode
  unfold State.faultShown
  dsimp only
  generalize State.countFault _ e = c at hev hsched hup hmode ⊢
  exact ⟨hev.keep (State.keepsEvent_of_regs rfl), hsched, hup, hmode⟩

/-- What is left of the state when the engine has let go. -/
structure State.faultLeft (s t : State) (e : Nat) (g : Engine) : Prop where
  free : ∀ j, tryOnlyLock j = false → (t.lock j).owner ≠ some e
  engine : t.engine e = { g with task := none, lastFaultUp := some s.up, restarting := true }
  up : t.up = s.up
  mode : t.mode = s.mode
  regs : t.regs = s.regs
  first : ∀ k, (s.engine e).task = some k → (s.task k).cancelReq = false → (s.task k).faults = 0 →
    (t.task k).st = .ready ∧ (t.task k).faults = 1

theorem State.engine_of_sched {s t : State} (h : t.sched.engines = s.sched.engines) (j : Nat) : t.engine j = s.engine j := by
  rw [State.engine, State.engine, h]

theorem State.task_of_sched {s t : State} (h : t.sched.tasks = s.sched.tasks) (j : Nat) : t.task j = s.task j := by
  rw [State.task, State.task, h]

theorem State.faultCleared_left {s : State} (hs : s.storesOk) (e : Nat) (g : Engine) : s.faultLeft (s.faultCleared e g) e g := by
  obtain ⟨hfree, hbut⟩ := State.releaseLocks_free hs e
  obtain ⟨hup1, hmode1, hregs1, hsched1⟩ := hbut
  obtain ⟨hup2, hmode2, hregs2, hsched2⟩ := (s.releaseLocks e).returnTasks_keepsButTasks e
  obtain ⟨hup3, hmode3, hregs3, hsched3⟩ := ((s.releaseLocks e).returnTasks e).returnFrames_frame e
  have hlocks : (((s.releaseLocks e).returnTasks e).returnFrames e).sched.locks = (s.releaseLocks e).sched.locks := by
    rw [hsched3, hsched2]
  refine ⟨fun j ht => ?_, ?_, hup3.trans (hup2.trans hup1), hmode3.trans (hmode2.trans hmode1), hregs3.trans (hregs2.trans hregs1),
    fun k hk hreq hfaults => ?_⟩
  · exact State.lock_of_sched hlocks j ▸ hfree j ht
  · exact SMap.get_set_same_ne (fun _ => ({} : Engine)) _ (v :=
      { g with task := none, lastFaultUp := some s.up, restarting := true }) fun h =>
      Bool.noConfusion (congrArg Engine.restarting h : true = false)
  · have hengine : (s.releaseLocks e).engine e = s.engine e := State.engine_of_sched (by rw [hsched1]) e
    have htask : (s.releaseLocks e).task k = s.task k := State.task_of_sched (by rw [hsched1]) k
    have hleft := State.returnTasks_first (s := s.releaseLocks e) (e := e) (k := k) (by rw [hsched1]; exact hs.1)
      (hengine ▸ hk) (htask ▸ hreq) (htask ▸ hfaults)
    have hreturned : (s.faultCleared e g).task k = ((s.releaseLocks e).returnTasks e).task k :=
      State.task_of_sched (congrArg Sched.tasks hsched3) k
    rw [hreturned]
    exact hleft

/-- R349 to R353: what a fault leaves of its engine. -/
structure State.faulted (s t : State) (e : Nat) : Prop where
  free : ∀ j, tryOnlyLock j = false → (t.lock j).owner ≠ some e
  task : (t.engine e).task = none
  stops : (t.engine e).restarting = true ∨ (t.engine e).halted = true
  up : t.up = s.up
  shows : s.Shows t Ev.ENGINE_FAULT

theorem Ev.ENGINE_FAULT_uncounted : Ev.ENGINE_FAULT.uncounted := ⟨by decide, fun p => by cases p <;> decide, by decide⟩

theorem State.faultShown_storesOk {s : State} (hs : s.storesOk) (e : Nat) (cause : FaultCause) (payload : Nat) :
    (s.faultShown e cause payload).storesOk := by
  have hcount : ∀ t : State, t.storesOk → (t.countFault e).storesOk := fun t ht => ht
  have hraised : ((s.emit (engineSource e) Kind.FAULT (faultCode cause) payload).raise Ev.ENGINE_FAULT).storesOk :=
    State.storesOk_of_eq hs (by simp) (by simp) (by simp) (by simp) (by simp) (by simp) (by simp)
  have hcounted := hcount _ hraised
  unfold State.faultShown
  dsimp only
  generalize State.countFault _ e = c at hcounted ⊢
  exact hcounted

theorem State.engineFault_faulted {s : State} {e : Nat} (hs : s.storesOk) (hrun : s.engineRuns e = true) (cause : FaultCause)
    (pc lock : Nat) : s.faulted (s.engineFault e cause pc lock) e ∧
      (e ≠ 1 → (s.engine e).lastFaultUp = none → s.mode ≠ .boot → ((s.engineFault e cause pc lock).engine e).restarting = true ∧
        ∀ k, (s.engine e).task = some k → (s.task k).cancelReq = false → (s.task k).faults = 0 →
          ((s.engineFault e cause pc lock).task k).st = .ready ∧ ((s.engineFault e cause pc lock).task k).faults = 1) := by
  obtain ⟨payload, forGood, hfor, heq⟩ := State.engineFault_eq hrun cause pc lock
  obtain ⟨hshows, hsched, hup, hmode⟩ := s.faultShown_shows e cause payload
  have hleft := State.faultCleared_left (State.faultShown_storesOk hs e cause payload) e (s.engine e)
  rw [heq]
  generalize s.faultShown e cause payload = u at hshows hsched hup hmode hleft ⊢
  have hengine : u.engine e = s.engine e := State.engine_of_sched (congrArg Sched.engines hsched) e
  have htask : ∀ k, u.task k = s.task k := State.task_of_sched (congrArg Sched.tasks hsched)
  generalize u.faultCleared e (s.engine e) = t at hleft ⊢
  obtain ⟨hfree, hstop, hup', hmode', hregs, hfirst⟩ := hleft
  have hkeep : s.Shows t Ev.ENGINE_FAULT := hshows.keep (State.keepsEvent_of_regs hregs)
  by_cases hgood : e = 1 ∨ forGood = true ∨ t.mode = .boot
  · obtain ⟨x, hx⟩ : ∃ x, x = t.setEngine e { t.engine e with restarting := false, halted := true } := ⟨_, rfl⟩
    have hends : t.faultEnds e payload forGood = x.fatalFault (engineSource e) (if e = 1 then 0x101 else 0x100) payload := by
      rw [hx]
      exact if_pos hgood
    have hxe : x.engine e = { t.engine e with restarting := false, halted := true } := by
      rw [hx]
      exact SMap.get_set_same_ne (fun _ => ({} : Engine)) _ (v := { t.engine e with restarting := false, halted := true }) fun h =>
        Bool.noConfusion (congrArg Engine.halted h : true = false)
    have hserv := x.fatalFault_keepsService (engineSource e) (if e = 1 then 0x101 else 0x100) payload
    rw [← hends] at hserv
    have hlocks : (t.faultEnds e payload forGood).sched.locks = t.sched.locks := by rw [hserv.sched, hx]; rfl
    have hfe : (t.faultEnds e payload forGood).engine e = x.engine e :=
      State.engine_of_sched (by rw [hserv.sched]) e
    refine ⟨⟨fun j hj => State.lock_of_sched hlocks j ▸ hfree j hj, ?_, .inr ?_, ?_, ?_⟩, fun he1 hlast hboot => ?_⟩
    · rw [hfe, hxe, hstop]
    · rw [hfe, hxe]
    · rw [hserv.up, hx]
      exact hup'.trans hup
    · refine hkeep.keep ((State.keepsEvent_of_regs ?_).trans (hserv.events _ Ev.ENGINE_FAULT_uncounted))
      rw [hx]
      rfl
    · rcases hgood with h | h | h
      · exact absurd h he1
      · exact absurd h (by rw [hfor hlast]; decide)
      · exact absurd (hmode.symm.trans (hmode'.symm.trans h)) hboot
  · have hserv := t.engineAway_keepsService e
    have hends : t.faultEnds e payload forGood = t.engineAway e := if_neg hgood
    rw [← hends] at hserv
    have hlocks : (t.faultEnds e payload forGood).sched.locks = t.sched.locks := by rw [hserv.sched]
    have hfe : (t.faultEnds e payload forGood).engine e = t.engine e := State.engine_of_sched (by rw [hserv.sched]) e
    have hft : ∀ k, (t.faultEnds e payload forGood).task k = t.task k := State.task_of_sched (by rw [hserv.sched])
    refine ⟨⟨fun j hj => State.lock_of_sched hlocks j ▸ hfree j hj, ?_, .inl ?_, hserv.up.trans (hup'.trans hup),
      hkeep.keep (hserv.events _ Ev.ENGINE_FAULT_uncounted)⟩, fun he1 hlast hboot => ⟨?_, fun k hk hreq hfaults => ?_⟩⟩
    · rw [hfe, hstop]
    · rw [hfe, hstop]
    · rw [hfe, hstop]
    · rw [hft]
      exact hfirst k (hengine ▸ hk) (htask k ▸ hreq) (htask k ▸ hfaults)

/-! ### The CP restarts -/

/-- An event whose register counts no requests. -/
def Ev.notCounted (e : Ev) : Prop :=
  e.flag ∧ e.reg ≠ Reg.MBX_STALE ∧ e.reg ≠ Reg.MBX_DUPLICATES ∧ e.reg ≠ Reg.MBX_BUSY ∧ e.reg ≠ Reg.MBX_REQUESTS

theorem State.answer_regs (s : State) (r : Request) (op : Nat) (rep : Reply) : (s.answer op r rep).regs = s.regs := by
  unfold State.answer
  cases rep with
  | done st p => exact State.complete_regs _ _ _ _ _ _
  | wait w => rfl

section Channel0
variable {r : Request} (hchan : r.chan = .c0)
include hchan

theorem State.forward_c0_regs (s : State) (op : Nat) (rep : Reply) : (s.forward op r rep).regs = s.regs := by
  unfold State.forward
  rw [if_neg (by rw [hchan]; decide)]
  split
  · unfold State.sendRequest State.sendMirror
    dsimp only
    split <;> rfl
  · rfl

theorem State.defer_c0_regs (s : State) (op : Nat) : (s.defer op r).regs = s.regs := by
  unfold State.defer
  dsimp only
  rw [if_pos hchan, State.answer_regs]
  split
  · exact State.setClient_regs _ _ _ _
  · rfl

theorem State.execute_rowless_regs (s : State) (op : Nat) : (s.execute op r bodyRowless).regs = s.regs := by
  have habort : (s.takeAborted r).1.regs = s.regs := by
    unfold State.takeAborted
    split
    · split <;> rfl
    · rfl
  unfold State.execute
  split
  · rw [State.answer_regs, State.forward_c0_regs hchan]
  · split
    · split
      · exact State.defer_c0_regs hchan s op
      · exact State.answer_regs s r op _
    · dsimp only
      split
      · rw [State.answer_regs, habort]
      · rw [State.answer_regs, State.forward_c0_regs hchan]
        exact habort

theorem State.sequence_rowless_keepsEvent {e : Ev} (he : e.notCounted) (s : State) (op : Nat) :
    s.KeepsEvent (s.sequence op r bodyRowless) e := by
  obtain ⟨hflag, hstale, hdup, hbusy, hreq⟩ := he
  have hcount : ∀ {a : Nat}, e.reg ≠ a → s.KeepsEvent (s.count a) e := fun h => s.setRegN_keepsEvent h _
  unfold State.sequence
  dsimp only
  split
  · split
    · exact hcount hstale
    · rw [hchan, State.sendSlot_c0]
      exact hcount hdup
  · split
    · exact (hcount hstale).trans ((State.raise_keepsEvents _ _).one hflag)
    · split
      · rw [State.sendBusy, hchan]
        exact hcount hbusy
      · refine State.KeepsEvent.trans ?_ (State.keepsEvent_of_regs (State.execute_rowless_regs hchan _ op))
        exact (State.keepsEvent_of_regs (State.setClient_regs s _ _ _)).trans (State.setRegN_keepsEvent _ hreq _)

end Channel0

theorem State.abandonSubmitted_keepsEvent {e : Ev} (he : e.notCounted) (s : State) (st : Nat) (q : List Byte) :
    s.KeepsEvent (s.abandonSubmitted st q) e := by
  unfold State.abandonSubmitted
  dsimp only
  split
  · exact State.keepsEvent_of_regs rfl
  · split
    · exact State.sequence_rowless_keepsEvent rfl he s _
    · exact (State.keepsEvent_of_regs (State.setClient_regs s _ _ _)).trans (State.keepsEvent_of_regs (State.complete_regs _ _ _ _ _ _))

/-- R352: what the restart of the CP does is done to requests and staged work. -/
theorem State.cpRestarted_keepsEngines {e : Ev} (he : e.notCounted) (s : State) :
    s.cpRestarted.sched = s.sched ∧ s.cpRestarted.up = s.up ∧ s.KeepsEvent s.cpRestarted e := by
  have hdiscard : ∀ (l : List Session) (t : State), (l.foldl (fun s x => s.discardStaged x.scope) t).sched = t.sched ∧
      (l.foldl (fun s x => s.discardStaged x.scope) t).up = t.up ∧
      (l.foldl (fun s x => s.discardStaged x.scope) t).regs = t.regs := fun l => by
    induction l with
    | nil => exact fun t => ⟨rfl, rfl, rfl⟩
    | cons x l ih =>
      intro t
      obtain ⟨hsched, hup, hregs⟩ := ih (t.discardStaged x.scope)
      rw [State.discardStaged_eq] at hsched hup hregs
      rw [List.foldl_cons, State.discardStaged_eq]
      exact ⟨hsched, hup, hregs⟩
  have habandon : ∀ (l : List (List Byte)) (t : State),
      t.KeepsEvent (l.foldl (fun s q => s.abandonSubmitted Status.INTERNAL q) t) e := fun l => by
    induction l with
    | nil => exact fun t => State.keepsEvent_of_regs rfl
    | cons q l ih => exact fun t => (State.abandonSubmitted_keepsEvent he t _ q).trans (ih _)
  unfold State.cpRestarted
  dsimp only
  obtain ⟨u, hu⟩ : ∃ u, u = State.completeWaiting ({ s with ctrl := { s.ctrl with
      cpRestarting := false, submitted := [], ch0 := { s.ctrl.ch0 with staging := [] }
      ch1 := s.ctrl.ch1.map fun c => { c with staging := [] }, ch2 := s.ctrl.ch2.map fun c => { c with staging := [] }
      ch3 := { s.ctrl.ch3 with staging := [] } } } : State) (fun _ => some (Status.INTERNAL, [])) := ⟨_, rfl⟩
  have husched : u.sched = s.sched := hu ▸ State.completeWaiting_sched _ _
  have huup : u.up = s.up := hu ▸ State.completeWaiting_up _ _
  have huregs : u.regs = s.regs := hu ▸ State.completeWaiting_regs _ _
  rw [← hu]
  obtain ⟨hsched, hup, -, -⟩ := State.foldl_abandonSubmitted_sameHolders s.ctrl.submitted u Status.INTERNAL
  have hev := habandon s.ctrl.submitted u
  generalize s.ctrl.submitted.foldl (fun s q => s.abandonSubmitted Status.INTERNAL q) u = v at hsched hup hev ⊢
  obtain ⟨hsched', hup', hregs'⟩ := hdiscard v.ctrl.sessions v
  generalize v.ctrl.sessions.foldl (fun s x => s.discardStaged x.scope) v = w at hsched' hup' hregs' ⊢
  refine ⟨hsched'.trans (hsched.trans husched), hup'.trans (hup.trans huup), ?_⟩
  exact (State.keepsEvent_of_regs huregs).trans (hev.trans (State.keepsEvent_of_regs hregs'))

/-! ### The commands of locks and engines -/

theorem Ev.ENGINE_RESTARTED_notCounted : Ev.ENGINE_RESTARTED.notCounted := ⟨by decide, by decide, by decide, by decide, by decide⟩

section
variable {s : State} {e : Fin 20} {n : Fin 64}

/-- R345: the engine may ask for the lock. -/
theorem State.mayAcquire (hrun : s.engineRuns e = true) (hblocked : s.lockBlocked e = false)
    (horder : tryOnlyLock n = false → s.lockOrderOk e n = true) {tryOnly : Bool} (htry : tryOnlyLock n = true → tryOnly = true) :
    ¬(s.engineRuns e = false ∨ s.lockBlocked e = true ∨ (tryOnlyLock n = true ∧ tryOnly = false)) ∧
      ¬(tryOnlyLock n = false ∧ s.lockOrderOk e n = false) := by
  refine ⟨fun h => ?_, fun h => ?_⟩
  · rcases h with h | h | ⟨h, h'⟩
    · rw [hrun] at h; cases h
    · rw [hblocked] at h; cases h
    · rw [htry h] at h'; cases h'
  · have := horder h.1
    rw [h.2] at this
    cases this

theorem execLockAcquire_free (hrun : s.engineRuns e = true) (hblocked : s.lockBlocked e = false)
    (horder : tryOnlyLock n = false → s.lockOrderOk e n = true) {tryOnly : Bool} (htry : tryOnlyLock n = true → tryOnly = true)
    (hfree : (s.lock n).owner = none) : execLockAcquire e n tryOnly s =
      .next (if tryOnly then { s.grantLock n e [] with ctrl := { (s.grantLock n e []).ctrl with regOut := BitVec.ofNat 32 e } }
        else s.grantLock n e []) := by
  obtain ⟨hmay, hok⟩ := State.mayAcquire hrun hblocked horder htry
  unfold execLockAcquire
  rw [if_neg hmay, if_neg hok]
  dsimp only
  rw [hfree]

theorem execLockAcquire_held {o : Nat} (hrun : s.engineRuns e = true) (hblocked : s.lockBlocked e = false)
    (horder : tryOnlyLock n = false → s.lockOrderOk e n = true) {tryOnly : Bool} (htry : tryOnlyLock n = true → tryOnly = true)
    (ho : (s.lock n).owner = some o) : execLockAcquire e n tryOnly s =
      if tryOnly then .next { s with ctrl := { s.ctrl with regOut := BitVec.ofNat 32 o } }
      else .next (s.setLock n { s.lock n with waiters := (s.lock n).waiters ++ [e.val] }) := by
  obtain ⟨hmay, hok⟩ := State.mayAcquire hrun hblocked horder htry
  unfold execLockAcquire
  rw [if_neg hmay, if_neg hok]
  dsimp only
  rw [ho]

theorem State.freePc_storesOk (hs : s.storesOk) : s.freePc.1.storesOk := hs

theorem State.reach_storesOk (hs : s.storesOk) (due : Nat) : (s.reach due).storesOk :=
  State.storesOk_of_eq hs (congrArg Sched.tasks (State.reach_sched s due)) (congrArg Sched.locks (State.reach_sched s due))
    (congrArg Sched.engines (State.reach_sched s due)) (State.reach_strands s due)
    (congrArg FrameStore.streams (State.reach_fs s due)) (State.reach_shadows s due) (State.reach_memory s due)

/-- A fault after some time, at a program counter that no command states. -/
theorem State.reach_engineFault_faulted {due : Nat} (hs : s.storesOk) (hrun : s.engineRuns e = true) (cause : FaultCause) (lock : Nat) :
    (s.reach due).faulted ((s.reach due).freePc.1.engineFault e cause (s.reach due).freePc.2 lock) e := by
  have hrun' : (s.reach due).freePc.1.engineRuns e = true := by
    rw [State.engineRuns, show (s.reach due).freePc.1.engine e = s.engine e from State.reach_engine s due e]
    rw [show (s.reach due).freePc.1.sys = s.sys from State.reach_sys s due]
    exact hrun
  obtain ⟨⟨hfree, htask, hstops, hup, hshows⟩, -⟩ :=
    State.engineFault_faulted (State.freePc_storesOk (State.reach_storesOk hs due)) hrun' cause (s.reach due).freePc.2 lock
  exact ⟨hfree, htask, hstops, hup, hshows⟩

theorem execEngineRestarted_restarts (hs : s.storesOk) (hrest : (s.engine e).restarting = true) :
    ∃ t, execEngineRestarted e s = .next t ∧ (t.engine e).restarting = false ∧
      (s.regsOk → t.sees Ev.ENGINE_RESTARTED = true) ∧ ((s.engine e).lastFaultUp.getD 0) + restartNs e ≤ t.up ∧
      (e.val ≠ 0 → ∀ j, j ∈ sqStrands e → (t.strand j).engineDown = false) := by
  obtain ⟨due, hdue⟩ : ∃ due, due = ((s.engine e).lastFaultUp.getD 0) + restartNs e := ⟨_, rfl⟩
  obtain ⟨u, hu⟩ : ∃ u, u = ((s.reach due).setEngine e
    { s.engine e with restarting := false, yieldUp := (s.reach due).up }).raise Ev.ENGINE_RESTARTED := ⟨_, rfl⟩
  have heq : execEngineRestarted e s = if e.val = 0 then .next u.cpRestarted
      else .next ((sqStrands e).foldl (fun s n => s.setStrand n { s.strand n with engineDown := false }) u) := by
    unfold execEngineRestarted
    dsimp only
    rw [if_neg (by rw [hrest]; decide), ← hdue, ← hu]
  have hengine : (u.engine e).restarting = false := by
    rw [hu, State.raise_engine]
    exact congrArg Engine.restarting (State.engine_setEngine_same (State.reach_storesOk hs due) e _)
  have hup : due ≤ u.up := by
    rw [hu, State.raise_up]
    exact s.le_reach_up due
  have hshows : s.Shows u Ev.ENGINE_RESTARTED := by
    rw [hu]
    refine State.KeepsEvents.shows (t := (s.reach due).setEngine e _) ?_ (State.raise_shows _ (by decide))
    exact (s.reach_keepsEvents due).trans (State.keepsEvents_of_regs rfl)
  rw [← hdue]
  by_cases he : e.val = 0
  · obtain ⟨hsched, hup', hev⟩ := u.cpRestarted_keepsEngines Ev.ENGINE_RESTARTED_notCounted
    refine ⟨u.cpRestarted, heq.trans (if_pos he), ?_, (hshows.keep hev).sees, hup'.symm ▸ hup, fun h => absurd he h⟩
    rw [State.engine_of_sched (congrArg Sched.engines hsched)]
    exact hengine
  · have hfold : ∀ (l : List Nat) (v : State), v.storesOk → ∀ t, t = l.foldl (fun s n => s.setStrand n { s.strand n with engineDown := false }) v →
        t.sched = v.sched ∧ t.up = v.up ∧ t.regs = v.regs ∧
          ∀ j, (j ∈ l ∨ (v.strand j).engineDown = false) → (t.strand j).engineDown = false := fun l => by
      induction l with
      | nil => exact fun v _ t ht => ⟨ht ▸ rfl, ht ▸ rfl, ht ▸ rfl, fun j hj => ht ▸ hj.resolve_left List.not_mem_nil⟩
      | cons n l ih =>
        intro v hv t ht
        have hset : ∀ j, (j = n ∨ (v.strand j).engineDown = false) →
            ((v.setStrand n { v.strand n with engineDown := false }).strand j).engineDown = false := fun j hj => by
          by_cases hjn : j = n
          · rw [hjn, State.strand_setStrand_same hv]
          · rw [State.strand_setStrand_other _ _ hjn]
            exact hj.resolve_left hjn
        obtain ⟨hsched, hup, hregs, hdown⟩ := ih _ (State.setStrand_storesOk hv n { v.strand n with engineDown := false }) t ht
        refine ⟨hsched, hup, hregs, fun j hj => hdown j ?_⟩
        rcases hj with hj | hj
        · exact (List.mem_cons.mp hj).elim (fun h => .inr (hset j (.inl h))) .inl
        · exact .inr (hset j (.inr hj))
    have huok : u.storesOk := by
      rw [hu]
      refine State.storesOk_of_eq (State.setEngine_storesOk (State.reach_storesOk hs due) e
        { s.engine e with restarting := false, yieldUp := (s.reach due).up }) ?_ ?_ ?_ ?_ ?_ ?_ ?_ <;> simp
    obtain ⟨hsched, hup', hregs, hdown⟩ := hfold (sqStrands e) u huok _ rfl
    refine ⟨_, heq.trans (if_neg he), ?_, (hshows.keep (State.keepsEvent_of_regs hregs)).sees, hup'.symm ▸ hup,
      fun _ j hj => hdown j (.inl hj)⟩
    rw [State.engine_of_sched (congrArg Sched.engines hsched)]
    exact hengine

end

/-- Settles O39: the locks by their store, the faults by what their engine leaves. -/
theorem locksAndEngineFaultsFollowTheirRules : Obligations.LocksAndEngineFaultsFollowTheirRules := by
  unfold Obligations.LocksAndEngineFaultsFollowTheirRules
  intro s e n tryOnly cause pc o k hs free down
  have hdown : ∀ {u t : State}, s.KeepsEvents u → u.faulted t e → down t e := fun hk ⟨hfree, htask, hstops, _, hshows⟩ =>
    ⟨hfree, htask, hstops, (hk.shows hshows).sees⟩
  refine ⟨fun hrun hblocked horder => ⟨fun hfree htry => ?_, fun ho ht => ?_, fun ho => ?_⟩, fun hrun hblocked ht horder => ?_,
    fun hrun ho => ?_, fun ho ht hrun => ?_, fun hrun => ?_, fun htask hrun => ?_, fun hrest => execEngineRestarted_restarts hs hrest⟩
  · have hlock := State.grantLock_lock (SMap.rises_of_wf hs.2.1) n e []
    have htasks : (s.grantLock n e []).sched.tasks = s.sched.tasks := by
      rw [State.grantLock, State.keepShadow_locks]
      rfl
    refine ⟨_, execLockAcquire_free hrun hblocked horder htry hfree, ?_⟩
    cases tryOnly
    · exact ⟨congrArg Lock.owner hlock, fun h => absurd h (by decide), htasks⟩
    · exact ⟨congrArg Lock.owner hlock, fun _ => rfl, htasks⟩
  · refine ⟨_, (execLockAcquire_held hrun hblocked horder (fun h => absurd h (by rw [ht]; decide)) ho).trans (if_neg (by decide)), ?_⟩
    exact State.lock_setLock_same hs n _
  · exact (execLockAcquire_held hrun hblocked horder (fun _ => rfl) ho).trans (if_pos rfl)
  · refine ⟨s.freePc.1.engineFault e .lockOrder s.freePc.2 n, ?_, ?_⟩
    · simp only [exec, execLockAcquire]
      rw [if_neg (by simp [hrun, hblocked, ht]), if_pos ⟨ht, horder⟩]
    · have hfault := (State.engineFault_faulted (State.freePc_storesOk hs) (s := s.freePc.1) hrun .lockOrder s.freePc.2 n).1
      exact hdown (State.keepsEvents_of_regs (t := s.freePc.1) rfl) hfault
  · obtain ⟨howner, hwait⟩ := State.passLock_lock (SMap.rises_of_wf hs.2.1) n.val
    refine ⟨s.passLock n, ?_, howner, hwait, fun j hj => State.passLock_lock_other hj⟩
    simp only [exec, execLockRelease]
    rw [if_pos ⟨ho, hrun⟩]
  · obtain ⟨due, hdue⟩ : ∃ due, due = (s.lock n).sinceUp + 20001 := ⟨_, rfl⟩
    have hfault := State.reach_engineFault_faulted (due := due) hs hrun .lockHold n
    refine ⟨(s.reach due).freePc.1.engineFault e .lockHold (s.reach due).freePc.2 n, ?_,
      hdown (s.reach_keepsEvents due) hfault, ?_⟩
    · simp only [exec, execLockHold, ho]
      rw [if_neg (by simp [ht, hrun]), hdue]
    · have hle := s.le_reach_up due
      rw [hfault.up]
      omega
  · obtain ⟨hfault, hfirst⟩ := State.engineFault_faulted hs hrun cause pc.toNat 0
    refine ⟨s.engineFault e cause pc.toNat 0, rfl, hdown s.keepsEvents_refl hfault, fun he1 hlast hboot hk hreq hfaults => ?_⟩
    obtain ⟨hrestart, hready⟩ := hfirst he1 hlast hboot
    exact ⟨hrestart, hready k hk hreq hfaults⟩
  · obtain ⟨due, hdue⟩ : ∃ due, due = (s.engine e).yieldUp + 5 * yieldNs e := ⟨_, rfl⟩
    have hfault := State.reach_engineFault_faulted (due := due) hs hrun .taskWdt 0
    refine ⟨(s.reach due).freePc.1.engineFault e .taskWdt (s.reach due).freePc.2 0, ?_,
      hdown (s.reach_keepsEvents due) hfault, ?_⟩
    · simp only [exec, execTaskWdt]
      rw [if_pos ⟨by rw [htask]; rfl, hrun⟩, hdue]
    · rw [hfault.up, ← hdue]
      exact s.le_reach_up due

end Machine
end Sys2Proof
end

section
/-! ## The arbiter: R355 to R360 -/

namespace Sys2Proof.Machine

/-! ### The class that is granted -/

theorem rankOf_lt (ranks k : Nat) : rankOf ranks k < 8 := by
  have h : 3 * k + 2 + 1 - 3 * k = 3 := by omega
  rw [rankOf, bits, h]
  exact Nat.mod_lt _ (by decide)

/-- The fold of R357 ends at a lower bound, which is reached unless it is the start. -/
theorem foldl_min_rank (ranks : Nat) (l : List (Nat × Nat)) (m : Nat) :
    l.foldl (fun m w => min m (rankOf ranks w.1)) m ≤ m ∧
    (∀ w ∈ l, l.foldl (fun m w => min m (rankOf ranks w.1)) m ≤ rankOf ranks w.1) ∧
    (l.foldl (fun m w => min m (rankOf ranks w.1)) m = m ∨ ∃ w ∈ l, l.foldl (fun m w => min m (rankOf ranks w.1)) m = rankOf ranks w.1) := by
  induction l generalizing m with
  | nil => exact ⟨Nat.le_refl _, fun _ h => absurd h List.not_mem_nil, .inl rfl⟩
  | cons x l ih =>
    obtain ⟨hle, hall, hor⟩ := ih (min m (rankOf ranks x.1))
    rw [List.foldl_cons]
    refine ⟨by omega, fun w hw => ?_, ?_⟩
    · rcases List.mem_cons.mp hw with rfl | hw
      · omega
      · exact hall w hw
    · rcases hor with h | ⟨w, hw, h⟩
      · rcases Nat.le_total m (rankOf ranks x.1) with hm | hm
        · exact .inl (h.trans (Nat.min_eq_left hm))
        · exact .inr ⟨x, List.mem_cons_self, h.trans (Nat.min_eq_right hm)⟩
      · exact .inr ⟨w, List.mem_cons_of_mem _ hw, h⟩

theorem ArbChannel.lowestRank_reached {a : ArbChannel} (h : a.waiting ≠ []) : (∀ w ∈ a.waiting, a.lowestRank ≤ rankOf a.ranks w.1) ∧
    ∃ w ∈ a.waiting, a.lowestRank = rankOf a.ranks w.1 := by
  obtain ⟨-, hall, hor⟩ := foldl_min_rank a.ranks a.waiting 8
  refine ⟨hall, hor.resolve_left fun h8 => ?_⟩
  obtain ⟨w, hw⟩ := List.exists_mem_of_ne_nil _ h
  have hle := hall w hw
  have hlt := rankOf_lt a.ranks w.1
  omega

/-- R357: a waiting class of the lowest rank is found. -/
theorem ArbChannel.nextClass_waits {a : ArbChannel} (h : a.waiting ≠ []) (h8 : ∀ w ∈ a.waiting, w.1 < 8) :
    ∃ k, a.nextClass = some k ∧ a.waits k = true ∧ ∀ w ∈ a.waiting, rankOf a.ranks k ≤ rankOf a.ranks w.1 := by
  obtain ⟨hlow, w, hw, hrank⟩ := ArbChannel.lowestRank_reached h
  obtain ⟨last, hlast⟩ : ∃ last, last = SMap.get (fun _ => 7) a.lastAtRank a.lowestRank := ⟨_, rfl⟩
  have heq : a.nextClass = ((List.range 8).map fun i => (last + 1 + i) % 8).find?
      fun k => a.waits k && decide (rankOf a.ranks k = a.lowestRank) := by
    rw [hlast]
    rfl
  have hmem : w.1 ∈ (List.range 8).map fun i => (last + 1 + i) % 8 := by
    have := h8 w hw
    exact List.mem_map.mpr ⟨(w.1 + 7 - last % 8) % 8, List.mem_range.mpr (Nat.mod_lt _ (by decide)), by omega⟩
  have hgood : (a.waits w.1 && decide (rankOf a.ranks w.1 = a.lowestRank)) = true := by
    rw [Bool.and_eq_true]
    exact ⟨List.any_eq_true.mpr ⟨w, hw, decide_eq_true rfl⟩, decide_eq_true hrank.symm⟩
  obtain ⟨k, hk⟩ := Option.isSome_iff_exists.mp (List.find?_isSome.mpr ⟨w.1, hmem, hgood⟩ :
    (((List.range 8).map fun i => (last + 1 + i) % 8).find?
      fun k => a.waits k && decide (rankOf a.ranks k = a.lowestRank)).isSome = true)
  have hfound := List.find?_some hk
  simp only [Bool.and_eq_true, decide_eq_true_eq] at hfound
  exact ⟨k, heq.trans hk, hfound.1, fun x hx => hfound.2 ▸ hlow x hx⟩

/-- A class that waits has its oldest request taken. -/
theorem takeRequest_of_waits {k : Nat} (l : List (Nat × Nat)) (h : (l.any fun w => decide (w.1 = k)) = true) :
    ∃ since rest, takeRequest k l = some (since, rest) ∧ rest.length + 1 = l.length := by
  induction l with
  | nil => cases h
  | cons w l ih =>
    by_cases hw : w.1 = k
    · exact ⟨w.2, l, by simp [takeRequest, hw], rfl⟩
    · rw [List.any_cons, decide_eq_false hw, Bool.false_or] at h
      obtain ⟨since, rest, htake, hlen⟩ := ih h
      exact ⟨since, w :: rest, by simp [takeRequest, hw, htake], by simp [hlen]⟩

/-! ### The channels of the arbiter -/

section
variable {s : State} {c : Fin 2}

theorem State.channelArb_setChannelArb (s : State) (c : Nat) (a : ArbChannel) : (s.setChannelArb c a).channelArb c = a := by
  unfold State.setChannelArb State.channelArb
  split <;> rfl

theorem State.channelArb_setChannelArb_other {d : Fin 2} (h : d ≠ c) (s : State) (a : ArbChannel) :
    (s.setChannelArb c a).channelArb d.val = s.channelArb d.val := by
  unfold State.setChannelArb State.channelArb
  by_cases hc : c.val = 0
  · have hd : d.val ≠ 0 := fun hd => h (Fin.ext (hd.trans hc.symm))
    rw [if_pos hc, if_neg hd, if_neg hd]
  · have hd : d.val = 0 := by have := Fin.val_ne_of_ne h; omega
    rw [if_neg hc, if_pos hd, if_pos hd]

theorem State.setChannelArb_arb (s : State) (c : Nat) (a : ArbChannel) : s.setChannelArb c a = { s with arb := (s.setChannelArb c a).arb } := by
  unfold State.setChannelArb
  split <;> rfl

/-- The step is one of the arbiter: the channels, and what it journals. -/
structure State.keepsRequests (s t : State) (c : Fin 2) : Prop where
  waiting : (t.channelArb c).waiting = (s.channelArb c).waiting
  withdrawn : (t.channelArb c).withdrawn = (s.channelArb c).withdrawn
  ranks : (t.channelArb c).ranks = (s.channelArb c).ranks
  other : ∀ d, d ≠ c → t.channelArb d.val = s.channelArb d.val
  anvil : t.anvil = s.anvil
  strands : t.strands = s.strands
  mode : t.mode = s.mode

theorem State.keepsRequests_refl (s : State) (c : Fin 2) : s.keepsRequests s c := ⟨rfl, rfl, rfl, fun _ _ => rfl, rfl, rfl, rfl⟩

theorem State.keepsRequests.trans {t u : State} (h : s.keepsRequests t c) (h' : t.keepsRequests u c) : s.keepsRequests u c :=
  ⟨h'.waiting.trans h.waiting, h'.withdrawn.trans h.withdrawn, h'.ranks.trans h.ranks,
    fun d hd => (h'.other d hd).trans (h.other d hd), h'.anvil.trans h.anvil, h'.strands.trans h.strands, h'.mode.trans h.mode⟩

/-- The channel after a starvation is noted. -/
theorem State.starve_channelArb (s : State) (c k now since : Nat) : (s.starve c k now since).channelArb c =
    { s.channelArb c with cycle := max (s.channelArb c).cycle now, warned := (s.channelArb c).warned ++ [k] } :=
  (State.raiseWith_channelArb _ _ _ _ _).trans (s.channelArb_setChannelArb c _)

theorem State.starve_keepsRequests (s : State) (c : Fin 2) (k now since : Nat) : s.keepsRequests (s.starve c k now since) c := by
  have harb := s.starve_channelArb c k now since
  have hset := s.setChannelArb_arb c { s.channelArb c with
    cycle := max (s.channelArb c).cycle now, warned := (s.channelArb c).warned ++ [k] }
  refine ⟨by rw [harb], by rw [harb], by rw [harb], fun d hd => ?_, ?_, ?_, ?_⟩
  · exact (State.raiseWith_channelArb _ _ _ _ _).trans (State.channelArb_setChannelArb_other hd s _)
  · exact (State.raiseWith_anvil _ _ _ _).trans (by rw [hset])
  · exact (State.raiseWith_strands _ _ _ _).trans (by rw [hset])
  · exact (State.raiseWith_mode _ _ _ _).trans (by rw [hset])

theorem State.sentinel_keepsRequests (c : Fin 2) (s : State) (k : Nat) : s.keepsRequests (State.sentinel c s k) c := by
  unfold State.sentinel
  dsimp only
  split
  · exact s.keepsRequests_refl c
  · split
    · exact s.keepsRequests_refl c
    · exact s.starve_keepsRequests c _ _ _

theorem State.sentinels_keepsRequests (c : Fin 2) (l : List Nat) (s : State) :
    s.keepsRequests (l.foldl (State.sentinel c) s) c := by
  induction l generalizing s with
  | nil => exact s.keepsRequests_refl c
  | cons k l ih => exact (s.sentinel_keepsRequests c k).trans (ih _)

/-- R360: while no wait crosses its threshold, the sentinels do nothing. -/
theorem State.sentinels_quiet (hquiet : ∀ w ∈ (s.channelArb c).waiting, w.1 ∈ (s.channelArb c).warned ∨
    s.arbCycle (s.channelArb c) < w.2 + s.starveLimit c w.1) (l : List Nat) : l.foldl (State.sentinel c) s = s := by
  have hone : ∀ k, State.sentinel c s k = s := fun k => by
    unfold State.sentinel
    dsimp only
    split
    · rfl
    · next w hw =>
      have hk : w.1 = k := of_decide_eq_true (p := w.1 = k) (List.find?_some (p := fun w : Nat × Nat => decide (w.1 = k)) hw)
      have := hquiet w (List.mem_of_find?_eq_some hw)
      rw [hk] at this
      exact if_pos (this.imp List.contains_iff_mem.mpr id)
  induction l with
  | nil => rfl
  | cons k l ih => rw [List.foldl_cons, hone k, ih]

/-! ### What a decision leaves -/

theorem ArbChannel.withdraw_length (a : ArbChannel) :
    a.withdraw.waiting.length + a.withdraw.withdrawn.length = a.waiting.length + a.withdrawn.length := by
  have hsplit : ∀ (p : Nat × Nat → Bool) (l : List (Nat × Nat)),
      (l.filter fun w => !p w).length + (l.filter p).length = l.length := fun p l => by
    induction l with
    | nil => rfl
    | cons x l ih => cases hp : p x <;> simp [hp] <;> omega
  have h := hsplit (fun w => decide (5 ≤ w.1) && decide (256 < a.forecast w.1)) a.waiting
  simp only [ArbChannel.withdraw, List.length_append, List.length_map]
  omega

theorem ArbChannel.withdraw_withdrawn (a : ArbChannel) : ∀ w ∈ a.withdraw.withdrawn, w ∉ a.withdrawn → 5 ≤ w.1 := by
  intro w hw hnew
  rcases List.mem_append.mp hw with hw | hw
  · exact absurd hw hnew
  · obtain ⟨x, hx, rfl⟩ := List.mem_map.mp hw
    have := (List.mem_filter.mp hx).2
    simp only [Bool.and_eq_true, decide_eq_true_eq] at this
    exact this.1

/-- A read ahead adds requests, and no more. -/
theorem State.issueOn_channelArb (s : State) (cls d : Nat) (c : Fin 2) : ((s.issueOn cls d).channelArb c).owner = (s.channelArb c).owner ∧
    ((s.issueOn cls d).channelArb c).withdrawn = (s.channelArb c).withdrawn := by
  unfold State.issueOn
  split
  · by_cases hd : d = 0 <;> by_cases hc : c.val = 0 <;>
      simp only [State.setChannelArb, State.channelArb, hd, hc, if_true, if_false, and_self]
  · exact ⟨rfl, rfl⟩

/-- What the losers of a decision do, beside withdrawing. -/
structure State.readsAhead (s t : State) (c : Fin 2) : Prop where
  owner : (t.channelArb c).owner = (s.channelArb c).owner
  withdrawn : (t.channelArb c).withdrawn = (s.channelArb c).withdrawn
  same : t.anvil.readAhead = s.anvil.readAhead → ∀ d : Nat, t.channelArb d = s.channelArb d
  jnl : t.jnl = s.jnl
  strands : t.strands = s.strands
  mode : t.mode = s.mode

theorem State.readAhead_reads (s : State) (c : Fin 2) : s.readsAhead (s.readAhead c) c := by
  have hrefl : s.readsAhead s c := ⟨rfl, rfl, fun _ _ => rfl, rfl, rfl, rfl⟩
  unfold State.readAhead
  dsimp only
  split
  · exact hrefl
  · next hcond =>
    have hoff : s.anvil.readAhead = false := Bool.eq_false_iff.mpr fun h => hcond (.inl h)
    split
    · exact hrefl
    · next n hn =>
      obtain ⟨u, hu⟩ : ∃ u : State, u = { s with anvil := { s.anvil with readAhead := true } } := ⟨_, rfl⟩
      rw [← hu]
      obtain ⟨arb, harb⟩ := u.issue_arb (s.mapClass n)
      obtain ⟨ho, hw⟩ := u.issueOn_channelArb (s.mapClass n) 0 c
      obtain ⟨ho', hw'⟩ := (u.issueOn (s.mapClass n) 0).issueOn_channelArb (s.mapClass n) 1 c
      have hchan : u.channelArb c = s.channelArb c := by rw [hu]; rfl
      refine ⟨(ho'.trans ho).trans (by rw [hchan]), (hw'.trans hw).trans (by rw [hchan]), fun h => ?_, ?_, ?_, ?_⟩
      · rw [harb, hu, hoff] at h
        cases h
      · rw [harb, hu]
      · rw [harb, hu]
      · rw [harb, hu]

theorem State.maxReg_frame (s : State) (a v : Nat) : (s.maxReg a v).anvil = s.anvil ∧ (s.maxReg a v).arb = s.arb ∧
    (s.maxReg a v).jnl = s.jnl ∧ (s.maxReg a v).strands = s.strands ∧ (s.maxReg a v).mode = s.mode := by
  unfold State.maxReg
  split <;> exact ⟨rfl, rfl, rfl, rfl, rfl⟩

/-- The channel as class `k` is granted. -/
def ArbChannel.granted (a : ArbChannel) (k now : Nat) (rest : List (Nat × Nat)) : ArbChannel :=
  { a with
    waiting := rest, owner := k, cycle := now + 1, lastAtRank := SMap.set (fun _ => 7) a.lastAtRank (rankOf a.ranks k) k }

theorem execBurstGrant_eq {t : State} {k since : Nat} {rest : List (Nat × Nat)} (hpop : s.channelPopulated c = true)
    (ht : t = (List.range 8).foldl (State.sentinel c) s) (hnext : (t.channelArb c).nextClass = some k)
    (htake : takeRequest k (t.channelArb c).waiting = some (since, rest)) : ∃ n v, execBurstGrant c s = .next
      (((t.setChannelArb c ((t.channelArb c).granted k (t.arbCycle (t.channelArb c)) rest)).settleArb c).maxReg n v) := by
  subst ht
  refine ⟨Reg.ARB_WAIT_MAX c k, min (2 ^ 24 - 1) (State.arbCycle ((List.range 8).foldl (State.sentinel c) s)
    (State.channelArb ((List.range 8).foldl (State.sentinel c) s) c) - since), ?_⟩
  unfold execBurstGrant
  rw [if_neg (by rw [hpop]; decide)]
  dsimp only
  rw [hnext]
  dsimp only
  rw [htake]
  rfl

theorem execBurstGrant_grants (hpop : s.channelPopulated c = true) (hne : (s.channelArb c).waiting ≠ [])
    (h8 : ∀ w ∈ (s.channelArb c).waiting, w.1 < 8) : ∃ t, execBurstGrant c s = .next t ∧
      (∀ w ∈ (s.channelArb c).waiting, rankOf (s.channelArb c).ranks (t.channelArb c).owner ≤ rankOf (s.channelArb c).ranks w.1) ∧
      (s.channelArb c).waits (t.channelArb c).owner = true ∧
      (t.anvil.readAhead = s.anvil.readAhead →
        (t.channelArb c).waiting.length + (t.channelArb c).withdrawn.length + 1 =
          (s.channelArb c).waiting.length + (s.channelArb c).withdrawn.length ∧
        ∀ d, d ≠ c → t.channelArb d.val = s.channelArb d.val) ∧
      (∀ w ∈ (t.channelArb c).withdrawn, w ∉ (s.channelArb c).withdrawn → 5 ≤ w.1) ∧
      ((∀ w ∈ (s.channelArb c).waiting, w.1 ∈ (s.channelArb c).warned ∨
        s.arbCycle (s.channelArb c) < w.2 + s.starveLimit c w.1) → t.jnl = s.jnl) ∧
      t.strands = s.strands ∧ t.mode = s.mode := by
  obtain ⟨u, hu⟩ : ∃ u, u = (List.range 8).foldl (State.sentinel c) s := ⟨_, rfl⟩
  have hkeep : s.keepsRequests u c := hu ▸ State.sentinels_keepsRequests c _ s
  obtain ⟨hwaiting, hwithdrawn, hranks, hother, hanvil, hstrands, hmode⟩ := hkeep
  rw [← hwaiting] at hne h8 ⊢
  obtain ⟨k, hnext, hwaits, hlow⟩ := ArbChannel.nextClass_waits hne h8
  obtain ⟨since, rest, htake, hlen⟩ := takeRequest_of_waits _ hwaits
  obtain ⟨n, v, heq⟩ := execBurstGrant_eq hpop hu hnext htake
  obtain ⟨a, ha⟩ : ∃ a, a = (u.channelArb c).granted k (u.arbCycle (u.channelArb c)) rest := ⟨_, rfl⟩
  rw [← ha] at heq
  obtain ⟨x, hx⟩ : ∃ x, x = (u.setChannelArb c a).setChannelArb c a.withdraw := ⟨_, rfl⟩
  have hsettle : (u.setChannelArb c a).settleArb c = x.readAhead c := by
    rw [hx, State.settleArb, State.channelArb_setChannelArb]
  have hxc : x.channelArb c = a.withdraw := by rw [hx, State.channelArb_setChannelArb]
  have hxd : ∀ d, d ≠ c → x.channelArb d.val = s.channelArb d.val := fun d hd => by
    rw [hx, State.channelArb_setChannelArb_other hd, State.channelArb_setChannelArb_other hd, hother d hd]
  have hxarb : x = { u with arb := x.arb } := by
    rw [hx, State.setChannelArb_arb (u.setChannelArb c a), State.setChannelArb_arb u]
  obtain ⟨howner, hdrawn, hsame, hjnl, hstr, hmod⟩ := x.readAhead_reads c
  obtain ⟨fanvil, farb, fjnl, fstrands, fmode⟩ := (x.readAhead c).maxReg_frame n v
  rw [hsettle] at heq
  have hchan : ∀ d : Nat, ((x.readAhead c).maxReg n v).channelArb d = (x.readAhead c).channelArb d := fun d => by
    rw [State.channelArb, State.channelArb, farb]
  have hown : (((x.readAhead c).maxReg n v).channelArb c).owner = k := by
    rw [hchan, howner, hxc, ha]
    rfl
  refine ⟨_, heq, ?_, ?_, fun hra => ⟨?_, fun d hd => ?_⟩, ?_, fun hquiet => ?_, ?_, ?_⟩
  · rw [hown, ← hranks]
    exact hlow
  · rw [hown, ArbChannel.waits, ← hwaiting]
    exact hwaits
  · have hno : (x.readAhead c).anvil.readAhead = x.anvil.readAhead := by
      rw [← fanvil, hra, hxarb]
      exact congrArg Anvil.readAhead hanvil.symm
    have hlength := a.withdraw_length
    rw [hchan, hsame hno, hxc]
    rw [ha] at hlength ⊢
    simp only [ArbChannel.granted] at hlength ⊢
    rw [← hwithdrawn]
    omega
  · have hno : (x.readAhead c).anvil.readAhead = x.anvil.readAhead := by
      rw [← fanvil, hra, hxarb]
      exact congrArg Anvil.readAhead hanvil.symm
    rw [hchan, hsame hno, hxd d hd]
  · rw [hchan, hdrawn, hxc, ← hwithdrawn]
    intro w hw hnew
    refine a.withdraw_withdrawn w hw ?_
    rw [ha]
    exact hnew
  · rw [fjnl, hjnl, hxarb]
    rw [hwaiting] at hquiet
    have hsame : u = s := hu.trans (State.sentinels_quiet hquiet _)
    have hj : u.jnl = s.jnl := congrArg State.jnl hsame
    exact hj
  · rw [fstrands, hstr, hxarb]
    exact hstrands
  · rw [fmode, hmod, hxarb]
    exact hmode

/-- Settles O40: the decision by its steps, the others by the channel they set. -/
theorem arbiterServesTheLowestRank : Obligations.ArbiterServesTheLowestRank := by
  unfold Obligations.ArbiterServesTheLowestRank
  intro s c k v a
  refine ⟨fun hpop hne h8 => execBurstGrant_grants hpop hne h8, fun due rest htake => ?_, fun hwaits hwarned => ?_, ?_⟩
  · refine ⟨_, max due (s.arbCycle a), by simp only [exec, execTurnForecastReissue]; rw [htake], Nat.le_max_left _ _, ?_⟩
    rw [State.channelArb_setChannelArb]
    exact ⟨rfl, rfl, rfl⟩
  · obtain ⟨w, hw⟩ : ∃ w, (a.waiting.find? fun w => decide (w.1 = k.val)) = some w :=
      Option.isSome_iff_exists.mp (List.find?_isSome.mpr (List.any_eq_true.mp hwaits))
    obtain ⟨now, hnow⟩ : ∃ now, now = max (s.arbCycle a) (w.2 + s.starveLimit c k) := ⟨_, rfl⟩
    have harb := s.starve_channelArb c k now w.2
    refine ⟨s.starve c k now w.2, ?_, by rw [harb], by rw [harb], fun hs => ?_, fun j hj => ?_⟩
    · simp only [exec, execStarveWarn]
      rw [hw]
      dsimp only
      rw [if_neg (by simpa using hwarned), hnow]
    · refine State.Shows.sees (s := s.setChannelArb c _) (State.raiseWith_shows _ (by decide) _ _) ?_
      rw [State.setChannelArb_arb]
      exact hs
    · simp only [exec, execStarveWarn, harb] at hj
      rw [hw] at hj
      dsimp only at hj
      rw [if_pos (by simp)] at hj
      exact (Host.Outcome.next.inj hj).symm
  · exact ⟨_, rfl, State.channelArb_setChannelArb _ _ _, fun d hd => State.channelArb_setChannelArb_other hd s _⟩

end

end Sys2Proof.Machine
end

section
/-! ## The journal's order: R363 to R373 -/

namespace Sys2Proof

namespace SMap

variable {α : Type} {m : SMap α} {j k : Nat} {v w : α}

theorem mem_insert_self (m : SMap α) (k : Nat) (v : α) : (k, v) ∈ insert m k v := by
  induction m with
  | nil => exact List.mem_singleton.mpr rfl
  | cons p m ih =>
    obtain ⟨i, x⟩ := p
    unfold insert
    split
    · exact List.mem_cons_self
    · split
      · exact List.mem_cons_self
      · exact List.mem_cons_of_mem _ ih

theorem mem_insert_of_mem (h : (j, w) ∈ m) (hne : j ≠ k) (v : α) : (j, w) ∈ insert m k v := by
  induction m with
  | nil => exact absurd h List.not_mem_nil
  | cons p m ih =>
    obtain ⟨i, x⟩ := p
    unfold insert
    split
    · exact List.mem_cons_of_mem _ h
    · split
      · next hki =>
        rcases List.mem_cons.mp h with heq | h
        · exact absurd ((Prod.mk.inj heq).1.trans hki.symm) hne
        · exact List.mem_cons_of_mem _ h
      · rcases List.mem_cons.mp h with heq | h
        · exact heq ▸ List.mem_cons_self
        · exact List.mem_cons_of_mem _ (ih h)

/-- What is put in under keys of their own stands there in the end. -/
theorem mem_foldl_insert {l : List (Nat × α)} (hl : (l.map Prod.fst).Nodup) (h : (j, w) ∈ l) :
    ∀ m : SMap α, (j, w) ∈ l.foldl (fun m p => insert m p.1 p.2) m := by
  have hkeep : ∀ (l : List (Nat × α)) (m : SMap α), j ∉ l.map Prod.fst → (j, w) ∈ m →
      (j, w) ∈ l.foldl (fun m p => insert m p.1 p.2) m := fun l => by
    induction l with
    | nil => exact fun _ _ h => h
    | cons p l ih =>
      exact fun m hn hm => ih _ (List.not_mem_of_not_mem_cons hn) (mem_insert_of_mem hm (List.ne_of_not_mem_cons hn) p.2)
  induction l with
  | nil => exact absurd h List.not_mem_nil
  | cons p l ih =>
    intro m
    rw [List.map_cons, List.nodup_cons] at hl
    rcases List.mem_cons.mp h with heq | h
    · subst heq
      exact hkeep l _ hl.1 (mem_insert_self m j w)
    · exact ih hl.2 h _

end SMap

namespace Machine

/-! ### An entry arrives -/

section
variable {s : State} {src : Nat}

theorem State.jSource_setJSource {b : JSource} (h : b ≠ {}) (s : State) (src : Nat) : (s.setJSource src b).jSource src = b :=
  SMap.get_set_same_ne (fun _ => ({} : JSource)) s.jnl.sources h

theorem State.jSource_setJSource_other {j : Nat} (h : j ≠ src) (s : State) (b : JSource) :
    (s.setJSource src b).jSource j = s.jSource j := SMap.get_set_other (fun _ => ({} : JSource)) s.jnl.sources b h

theorem State.jSource_count (s : State) (a j : Nat) : (s.count a).jSource j = s.jSource j := rfl

theorem JSource.ne_default_of_wait {b : JSource} (h : b.wait ≠ []) : b ≠ {} := fun he => h (by rw [he])

theorem putUrgent_eq (e : JEntry) (l : List JEntry) : putUrgent e l = l.takeWhile (·.urgent) ++ [e] ++ l.dropWhile (·.urgent) := by
  induction l with
  | nil => rfl
  | cons x l ih =>
    unfold putUrgent
    by_cases hx : x.urgent = true
    · rw [if_pos hx, ih, List.takeWhile_cons_of_pos hx, List.dropWhile_cons_of_pos hx]
      rfl
    · rw [if_neg hx, List.takeWhile_cons_of_neg hx, List.dropWhile_cons_of_neg hx]
      rfl

/-- R368: what arrives in the buffer of its source while the journal runs. -/
theorem State.jArrive_running {e : JEntry} (hs : s.jnl.started = true) (hf : s.jnl.frozen = false) (he : e.source = src) :
    (e.urgent = false → ((s.jSource src).wait.filter fun x => !x.urgent && decide (x.kind ≠ Kind.LOSS)).length < 4 →
      (s.jSource src).dropped = 0 → ((s.jArrive e).jSource src).wait = (s.jSource src).wait ++ [e] ∧
        ∀ j, j ≠ src → (s.jArrive e).jSource j = s.jSource j) ∧
    (e.urgent = false → 4 ≤ ((s.jSource src).wait.filter fun x => !x.urgent && decide (x.kind ≠ Kind.LOSS)).length →
      ((s.jArrive e).jSource src).wait = (s.jSource src).wait ∧
        ((s.jArrive e).jSource src).dropped = (s.jSource src).dropped + 1) ∧
    (e.urgent = true → ((s.jArrive e).jSource src).wait =
      (s.jSource src).wait.takeWhile (·.urgent) ++ [e] ++ (s.jSource src).wait.dropWhile (·.urgent)) := by
  subst he
  unfold State.jArrive
  rw [if_neg (by simp [hs, hf])]
  dsimp only
  refine ⟨fun hu hroom hd => ?_, fun hu hfull => ?_, fun hu => ?_⟩
  · rw [if_neg (by rw [hu]; decide), if_neg (Nat.not_le.mpr hroom), if_pos hd, List.append_nil,
      State.jSource_setJSource (JSource.ne_default_of_wait (by simp))]
    exact ⟨rfl, fun j hj => State.jSource_setJSource_other hj s _⟩
  · rw [if_neg (by rw [hu]; decide), if_pos hfull]
    have hset := State.jSource_setJSource (b := { s.jSource e.source with dropped := (s.jSource e.source).dropped + 1 })
      (fun h => Nat.succ_ne_zero _ (congrArg JSource.dropped h)) s e.source
    rw [State.jSource_count, hset]
    exact ⟨rfl, rfl⟩
  · rw [if_pos hu, State.jSource_setJSource (JSource.ne_default_of_wait (by rw [putUrgent_eq]; simp))]
    exact putUrgent_eq e _

/-! ### A block is spilled -/

theorem State.streamLoses_frame (s : State) (n : Nat) (e : Option JEntry) : (s.streamLoses n e).jnl.ring = s.jnl.ring ∧
    (s.streamLoses n e).jnl.next = s.jnl.next := by
  unfold State.streamLoses
  split <;> exact ⟨rfl, rfl⟩

/-- The entries of the block that is spilled, under their numbers. -/
def State.spillBlock (s : State) : List (Nat × JEntry) :=
  (List.range 256).filterMap fun i =>
    (s.jAt (s.jnl.next - s.jnl.unspilled + i)).map fun e => (s.jnl.next - s.jnl.unspilled + i, e)

theorem State.spillBlock_nodup (s : State) : (s.spillBlock.map Prod.fst).Nodup := by
  have hpair : s.spillBlock.Pairwise fun p q => p.1 < q.1 := by
    unfold State.spillBlock
    rw [List.pairwise_filterMap]
    refine List.pairwise_lt_range.imp fun {i j} hij p hp q hq => ?_
    obtain ⟨x, -, rfl⟩ := Option.map_eq_some_iff.mp hp
    obtain ⟨y, -, rfl⟩ := Option.map_eq_some_iff.mp hq
    exact Nat.add_lt_add_left hij _
  exact List.pairwise_map.mpr (hpair.imp fun h => Nat.ne_of_lt h)

/-- R368: the DRAM ring with the block in it. -/
def State.spilledRing (s : State) : SMap JEntry := s.spillBlock.foldl (fun (m : SMap JEntry) p => SMap.insert m p.1 p.2) s.jnl.dram

theorem State.mem_spilledRing {i : Nat} {x : JEntry} (hi : i < 256) (hx : s.jAt (s.jnl.next - s.jnl.unspilled + i) = some x) :
    (s.jnl.next - s.jnl.unspilled + i, x) ∈ s.spilledRing := by
  refine SMap.mem_foldl_insert s.spillBlock_nodup ?_ _
  exact List.mem_filterMap.mpr ⟨i, List.mem_range.mpr hi, by rw [hx]; rfl⟩

theorem execJournalSpill_spills {first : Nat} (hfirst : first = s.jnl.next - s.jnl.unspilled) (hf : s.jnl.frozen = false)
    (hn : 256 ≤ s.jnl.unspilled) : ∃ t, execJournalSpill s = .next t ∧
      t.jnl.unspilled = s.jnl.unspilled - 256 ∧ t.jnl.ring = s.jnl.ring ∧ t.jnl.next = s.jnl.next ∧
      ∀ i, i < 256 → ∀ x, s.jAt (first + i) = some x → (first + i, x) ∈ t.jnl.dram := by
  subst hfirst
  obtain ⟨first, hfirst⟩ : ∃ first, first = s.jnl.next - s.jnl.unspilled := ⟨_, rfl⟩
  obtain ⟨dram, hdram⟩ : ∃ dram, dram = s.spilledRing.filter fun p => decide (first + 256 ≤ p.1 + dramRing) := ⟨_, rfl⟩
  obtain ⟨u, hu⟩ : ∃ u, u = (s.spilledRing.filter fun p => decide (p.1 + dramRing < first + 256)).foldl
      (fun s p => s.streamLoses p.1 (some p.2)) s := ⟨_, rfl⟩
  have hframe : u.jnl.ring = s.jnl.ring ∧ u.jnl.next = s.jnl.next := by
    have hfold : ∀ (l : List (Nat × JEntry)) (t : State), (l.foldl (fun s p => s.streamLoses p.1 (some p.2)) t).jnl.ring = t.jnl.ring ∧
        (l.foldl (fun s p => s.streamLoses p.1 (some p.2)) t).jnl.next = t.jnl.next := fun l => by
      induction l with
      | nil => exact fun t => ⟨rfl, rfl⟩
      | cons p l ih =>
        intro t
        obtain ⟨hring, hnext⟩ := ih (t.streamLoses p.1 (some p.2))
        obtain ⟨hring', hnext'⟩ := t.streamLoses_frame p.1 (some p.2)
        exact ⟨hring.trans hring', hnext.trans hnext'⟩
    rw [hu]
    exact hfold _ s
  have heq : execJournalSpill s =
      .next (({ u with jnl := { u.jnl with dram := dram, unspilled := s.jnl.unspilled - 256 } } : State).issue 6) := by
    unfold execJournalSpill
    dsimp only
    rw [if_neg (by simp only [hf, Bool.false_eq_true, false_or]; omega), hdram, hu, hfirst]
    rfl
  obtain ⟨arb, harb⟩ := State.issue_arb { u with jnl := { u.jnl with dram := dram, unspilled := s.jnl.unspilled - 256 } } 6
  refine ⟨_, heq, ?_⟩
  rw [harb]
  refine ⟨rfl, hframe.1, hframe.2, fun i hi x hx => ?_⟩
  show _ ∈ dram
  rw [hdram]
  refine List.mem_filter.mpr ⟨State.mem_spilledRing hi hx, decide_eq_true ?_⟩
  have hbig : 256 ≤ dramRing := by decide
  omega

/-! ### The stream -/

/-- The step hears nothing: where the stream's receiver was heard stays known. -/
def State.keepsHeard (s t : State) : Prop := t.jnl.heardOn = s.jnl.heardOn

theorem State.keepsHeard_foldl {α : Type} {f : State → α → State} (hf : ∀ (t : State) (x : α), t.keepsHeard (f t x)) (l : List α)
    (s : State) : s.keepsHeard (l.foldl f s) := by
  induction l generalizing s with
  | nil => rfl
  | cons x l ih => exact (ih _).trans (hf s x)

theorem State.jAppend_keepsHeard (s : State) (e : JEntry) : s.keepsHeard (s.jAppend e) := by
  have hloses : ∀ (t : State) (n : Nat) (x : Option JEntry), (t.streamLoses n x).jnl.heardOn = t.jnl.heardOn := fun t n x => by
    unfold State.streamLoses
    split <;> rfl
  unfold State.keepsHeard State.jAppend
  split
  · rfl
  · dsimp only
    rw [State.offer_jnl]
    split
    · exact hloses _ _ _
    · rfl

theorem State.jAccept_keepsHeard (s : State) (e : JEntry) : s.keepsHeard (s.jAccept e) := by
  unfold State.jAccept State.jOverflow
  split
  · exact (State.jAppend_keepsHeard ((s.jAppend e).setReg _ _) _).trans (s.jAppend_keepsHeard e)
  · exact s.jAppend_keepsHeard e

theorem State.emit_keepsHeard (s : State) (src kind code payload : Nat) : s.keepsHeard (s.emit src kind code payload) := by
  unfold State.emit State.jDrain
  dsimp only
  refine (State.jAccept_keepsHeard _ _).trans ((State.keepsHeard_foldl State.jAccept_keepsHeard _ _).trans ?_)
  split <;> rfl

theorem State.journalTo_keepsHeard (s : State) (u : Nat) : s.keepsHeard (s.journalTo u) := by
  have hturn : ∀ t : State, t.keepsHeard t.journalTurn := fun t => by
    unfold State.journalTurn
    split
    · split
      · exact State.jAccept_keepsHeard _ _
      · rfl
    · rfl
  have hturns : ∀ (n : Nat) (t : State), t.keepsHeard (State.journalTurns n t) := fun n => by
    induction n with
    | zero => exact fun t => rfl
    | succ n ih => exact fun t => (ih _).trans (hturn t)
  exact hturns _ s

theorem State.reach_keepsHeard (s : State) (due : Nat) : s.keepsHeard (s.reach due) := by
  have hepoch : ∀ (t : State) (b : Nat), t.keepsHeard (t.crossEpoch b) := fun t b => by
    obtain ⟨u, hu⟩ : ∃ u, u = b * 2 ^ 30 * 2 ^ 32 := ⟨_, rfl⟩
    rw [State.crossEpoch_eq hu]
    refine (State.emit_keepsHeard _ _ _ _ _).trans ?_
    rw [State.atEpoch, State.setUnits_jnl]
    exact t.journalTo_keepsHeard u
  have hadvance : ∀ u : Nat, s.keepsHeard (s.advanceTo u) := fun u => by
    unfold State.advanceTo
    split
    · rfl
    · rw [State.keepsHeard, State.setClock_jnl]
      exact (State.journalTo_keepsHeard _ u).trans (State.keepsHeard_foldl hepoch _ s)
  unfold State.reach
  split
  · exact hadvance _
  · rfl

theorem State.streamWaiting_rises (s : State) : s.streamWaiting.Pairwise fun p q => p.1 < q.1 := by
  unfold State.streamWaiting
  refine List.Pairwise.filter _ ?_
  rw [List.pairwise_filterMap]
  refine List.pairwise_lt_range.imp fun {i j} hij p hp q hq => ?_
  obtain ⟨x, -, rfl⟩ := Option.map_eq_some_iff.mp hp
  obtain ⟨y, -, rfl⟩ := Option.map_eq_some_iff.mp hq
  exact Nat.add_lt_add_left hij _

/-- In a rising list the last number is the greatest. -/
theorem last_of_rises {w : List (Nat × JEntry)} (hw : w.Pairwise fun p q => p.1 < q.1) {last : Nat × JEntry}
    (h : w.getLast? = some last) : last ∈ w ∧ ∀ p ∈ w, p.1 < last.1 + 1 := by
  obtain ⟨l, rfl⟩ := List.getLast?_eq_some_iff.mp h
  refine ⟨by simp, fun p hp => ?_⟩
  rcases List.mem_append.mp hp with hp | hp
  · have := (List.pairwise_append.mp hw).2.2 p hp last (List.mem_singleton.mpr rfl)
    omega
  · rw [List.mem_singleton.mp hp]
    omega

theorem execJournalDatagram_sends {w : List (Nat × JEntry)} (hw : w = s.streamWaiting.take s.dgramMax) (hon : s.streamOn = true)
    (hreset : s.sys.inReset = false) (hne : w ≠ []) : ∃ t, execJournalDatagram s = .next t ∧
      (∀ p ∈ w, p.1 < t.jnl.streamNext) ∧ (∃ p ∈ w, t.jnl.streamNext = p.1 + 1) ∧
      ((s.mac s.streamEgress).up = true → ∃ f, (t.mac s.streamEgress).own = (s.mac s.streamEgress).own ++ [f] ∧
        f.dst = s.paramBytes P.JNL_STREAM_DEST ∧ f.payload.drop 24 = w.flatMap fun p => p.2.bytes) := by
  obtain ⟨first, rest, rfl⟩ := List.exists_cons_of_ne_nil hne
  obtain ⟨last, hlast⟩ : ∃ last, (first :: rest).getLast? = some last := ⟨_, List.getLast?_cons⟩
  obtain ⟨hmem, hbelow⟩ := last_of_rises (hw ▸ s.streamWaiting_rises.sublist (List.take_sublist _ _)) hlast
  obtain ⟨due, hdue⟩ : ∃ due, due = s.up + s.param P.JNL_STREAM_PERIOD * 1000000 -
      (s.nowNs + 2 ^ 32 - first.2.short.toNat) % 2 ^ 32 := ⟨_, rfl⟩
  obtain ⟨lost, hlost⟩ : ∃ lost, lost = s.jnl.skipped % 2 ^ 32 := ⟨_, rfl⟩
  obtain ⟨u, hu⟩ : ∃ u, u = if (first :: rest).length = s.dgramMax then s else s.reach due := ⟨_, rfl⟩
  obtain ⟨bytes, hbytes⟩ : ∃ bytes, bytes = beBytes 2 0x4A4C ++ [1] ++ beBytes 1 (first :: rest).length ++ beBytes 4 lost ++ beBytes 8 u.nvm.serial ++
      beBytes 8 first.1 ++ (first :: rest).flatMap fun p => p.2.bytes := ⟨_, rfl⟩
  obtain ⟨f, hf⟩ : ∃ f : OwnFrame, f = {
      kind := .udp, cls0 := false, dst := u.paramBytes P.JNL_STREAM_DEST, sport := 47812
      dport := u.param P.JNL_STREAM_PORT, payload := bytes } := ⟨_, rfl⟩
  have heq : execJournalDatagram s = .next { (u.sendOwn u.streamEgress f).count Reg.JNL_STREAM_DGRAMS with
      jnl := { ((u.sendOwn u.streamEgress f).count Reg.JNL_STREAM_DGRAMS).jnl with streamNext := last.1 + 1, skipped := 0 } } := by
    unfold execJournalDatagram
    rw [if_neg (by simp [hon, hreset])]
    dsimp only
    rw [← hw, hlast]
    dsimp only
    rw [← hdue, ← hlost, ← hu, ← hbytes, ← hf]
  have hsame : u.streamEgress = s.streamEgress ∧ (∀ q : Port, u.mac q = s.mac q) ∧
      u.paramBytes P.JNL_STREAM_DEST = s.paramBytes P.JNL_STREAM_DEST := by
    rw [hu]
    split
    · exact ⟨rfl, fun _ => rfl, rfl⟩
    · have hctrl : (s.reach due).ctrl.live = s.ctrl.live := State.reach_ctrl_live s due
      refine ⟨?_, State.reach_mac s due, ?_⟩
      · unfold State.streamEgress
        rw [State.reach_param, s.reach_keepsHeard due]
      · unfold State.paramBytes
        rw [hctrl, State.reach_nvm]
  obtain ⟨hegress, hmac, hdest⟩ := hsame
  refine ⟨_, heq, hbelow, ⟨last, hmem, rfl⟩, fun hup => ⟨f, ?_, ?_, ?_⟩⟩
  · have hown : ((u.sendOwn u.streamEgress f).mac s.streamEgress).own = (s.mac s.streamEgress).own ++ [f] := by
      rw [hegress, State.sendOwn_of_up (by rw [hmac]; exact hup), State.setMac_mac, hmac]
    exact (congrArg Mac.own (State.mac_congr rfl rfl rfl s.streamEgress)).trans hown
  · rw [hf]
    exact hdest
  · rw [hf, hbytes]
    exact List.drop_left' (by simp [length_beBytes])

/-! ### A mark -/

theorem Journal.ringWith_length_le (j : Journal) (e : JEntry) : (j.ringWith e).length ≤ j.ring.length + 1 := by
  unfold Journal.ringWith
  split <;> simp

/-- The entries in the ring are at most those that have a number. -/
def State.numbered (s : State) : Prop := s.jnl.ring.length ≤ s.jnl.next

theorem State.jAppend_numbered (h : s.numbered) (e : JEntry) : (s.jAppend e).numbered := by
  by_cases hrun : (!s.jnl.started || s.jnl.frozen) = true
  · rw [State.jAppend, if_pos hrun]
    exact h
  · have hnext : (s.jAppend e).jnl.next = s.jnl.next + 1 := by
      simp only [Bool.or_eq_true, Bool.not_eq_true', not_or, Bool.not_eq_false, Bool.not_eq_true] at hrun
      simp [State.jAppend_next, hrun]
    simp only [Bool.or_eq_true, Bool.not_eq_true', not_or, Bool.not_eq_false, Bool.not_eq_true] at hrun
    unfold State.numbered at h ⊢
    rw [hnext, (State.jAppend_running e hrun.1 hrun.2).2]
    have := s.jnl.ringWith_length_le e
    omega

theorem State.jAccept_numbered (h : s.numbered) (e : JEntry) : (s.jAccept e).numbered := by
  unfold State.jAccept State.jOverflow
  split
  · exact State.jAppend_numbered (s := (s.jAppend e).setReg _ _) (State.jAppend_numbered h e) _
  · exact State.jAppend_numbered h e

theorem State.jDrain_numbered (h : s.numbered) (src : Nat) (f : JEntry → Bool) : (s.jDrain src f).numbered := by
  have hfold : ∀ (l : List JEntry) (t : State), t.numbered → (l.foldl State.jAccept t).numbered := fun l => by
    induction l with
    | nil => exact fun _ h => h
    | cons x l ih => exact fun t ht => ih _ (State.jAccept_numbered ht x)
  unfold State.jDrain
  dsimp only
  refine hfold _ _ ?_
  split
  · exact h
  · exact h

/-- The entry that stands in the ring behind `l` and before `m`. -/
theorem State.jAt_of_ring {l m : List JEntry} {e : JEntry} {i : Nat} (hring : s.jnl.ring = l ++ e :: m)
    (hi : i + m.length + 1 = s.jnl.next) (hnum : s.numbered) : s.jAt i = some e := by
  have hlen : s.jnl.ring.length = l.length + (m.length + 1) := by simp [hring]
  unfold State.numbered at hnum
  unfold State.jAt State.jRingFirst
  rw [if_pos (by omega), show i - (s.jnl.next - s.jnl.ring.length) = l.length by omega, hring]
  simp

/-- A ring that has dropped some of its oldest, with one more behind the newest of two. -/
theorem Journal.ringWith_of_last {j : Journal} {l : List JEntry} {e : JEntry} (f : JEntry) (h2 : 2 ≤ j.ringCap)
    (hring : j.ring = l ++ [e]) : ∃ l', j.ringWith f = l' ++ [e, f] := by
  unfold Journal.ringWith
  split
  · have hlen : j.ring.length = l.length + 1 := by simp [hring]
    rw [hlen, hring, List.drop_append_of_le_length (by omega)]
    exact ⟨l.drop (l.length + 1 + 1 - j.ringCap), by simp⟩
  · exact ⟨l, by simp [hring]⟩

/-- R368: an entry is found under the number that it gets. -/
theorem State.jAt_jAccept (e : JEntry) (hs : s.jnl.started = true) (hf : s.jnl.frozen = false)
    (h2 : 2 ≤ s.jnl.ringCap) (hnum : s.numbered) : (s.jAccept e).jAt s.jnl.next = some e := by
  obtain ⟨⟨hs1, hf1, hc1, -⟩, hring⟩ := State.jAppend_running e hs hf
  have hnext : (s.jAppend e).jnl.next = s.jnl.next + 1 := by simp [State.jAppend_next, hs, hf]
  have hnum1 := State.jAppend_numbered hnum e
  unfold State.jAccept
  split
  · obtain ⟨u, hu⟩ : ∃ u, u = (s.jAppend e).setReg Reg.CTRL_EVENTS ((s.jAppend e).reg Reg.CTRL_EVENTS |||
      BitVec.ofNat 32 (2 ^ Ev.EVENT_OVERFLOW.bit)) := ⟨_, rfl⟩
    obtain ⟨f, hfl⟩ : ∃ f : JEntry, f = ⟨e.short, Src.SYS, Kind.EVENT, Ev.EVENT_OVERFLOW.bit, 0⟩ := ⟨_, rfl⟩
    have hjnl : u.jnl = (s.jAppend e).jnl := by rw [hu]; rfl
    have hover : (s.jAppend e).jOverflow e.short = u.jAppend f := by rw [hu, hfl]; rfl
    obtain ⟨-, hring'⟩ := State.jAppend_running (s := u) f (by rw [hjnl, hs1, hs]) (by rw [hjnl, hf1, hf])
    obtain ⟨l', hl'⟩ := Journal.ringWith_of_last (j := u.jnl) f (by rw [hjnl, hc1]; exact h2)
      (show u.jnl.ring = _ ++ [e] by rw [hjnl]; exact hring)
    have hnext' : (u.jAppend f).jnl.next = s.jnl.next + 2 := by
      rw [State.jAppend_next, hjnl, hs1, hf1, hs, hf, hnext]
      rfl
    rw [hover]
    refine State.jAt_of_ring (m := [f]) (hring'.trans hl') (by rw [hnext']; rfl) (State.jAppend_numbered ?_ f)
    unfold State.numbered at hnum1 ⊢
    rw [hjnl]
    exact hnum1
  · exact State.jAt_of_ring (m := []) hring (by rw [hnext]; rfl) hnum1

theorem State.jAt_emit (src kind code payload : Nat) (hs : s.jnl.started = true) (hf : s.jnl.frozen = false)
    (h2 : 2 ≤ s.jnl.ringCap) (hnum : s.numbered) :
    ∃ i, s.jnl.next ≤ i ∧ (s.emit src kind code payload).jAt i = some ⟨s.short, src, kind, code, payload⟩ := by
  obtain ⟨hs1, hf1, hc1, hn1⟩ := s.jDrain_journalRuns src fun x => x.urgent || !(⟨s.short, src, kind, code, payload⟩ : JEntry).urgent
  exact ⟨_, hn1, State.jAt_jAccept _ (hs1.trans hs) (hf1.trans hf) (hc1.symm ▸ h2) (State.jDrain_numbered hnum src _)⟩

end

/-! ### The entry numbers -/

theorem halves_of_lt {n : Nat} (h : n < 2 ^ 64) : (BitVec.ofNat 32 (n / 2 ^ 32)).toNat * 2 ^ 32 + n % 2 ^ 32 = n := by
  rw [BitVec.toNat_ofNat]
  omega

theorem State.jOldest_le (s : State) : s.jOldest ≤ s.jnl.next := by
  have hfirst : s.jRingFirst ≤ s.jnl.next := Nat.sub_le _ _
  unfold State.jOldest
  split
  · exact Nat.le_trans (Nat.min_le_right _ _) hfirst
  · exact hfirst

/-- Settles O41: the buffers by their entry, the DRAM ring by its inserts, the stream by its rising numbers. -/
theorem journalKeepsEntriesInOrder : Obligations.JournalKeepsEntriesInOrder := by
  unfold Obligations.JournalKeepsEntriesInOrder
  intro s src kind code payload v e b normal first w
  refine ⟨fun hs hf => ?_, fun hstop => ?_, fun hf hn => execJournalSpill_spills rfl hf hn,
    fun hon hreset hne => execJournalDatagram_sends rfl hon hreset hne, fun hs hf h2 hnum => ?_, ⟨_, rfl, fun h => halves_of_lt h⟩,
    ⟨_, rfl, fun h => halves_of_lt (Nat.lt_of_le_of_lt s.jOldest_le h)⟩⟩
  · obtain ⟨hroom, hfull, hurgent⟩ := State.jArrive_running (e := e) (src := src) hs hf rfl
    exact ⟨fun hu hlen hd => ⟨_, rfl, hroom hu hlen hd⟩, fun hu hlen => ⟨_, rfl, hfull hu hlen⟩, fun hu => ⟨_, rfl, hurgent hu⟩⟩
  · simp only [exec, execJournalEntry, State.jArrive]
    rw [if_pos hstop]
  · obtain ⟨x, hx⟩ : ∃ x, x = v.toNat * 2 ^ 32 := ⟨_, rfl⟩
    obtain ⟨i, hi, hat⟩ := State.jAt_emit 0x0A Kind.CONFIG Code.HOST_MARK x hs hf h2 hnum
    rw [← hx]
    refine ⟨s.emit 0x0A Kind.CONFIG Code.HOST_MARK x, i, ?_, hi, hat⟩
    simp only [exec, execJnlMark, State.journalMark, hx]

end Machine
end Sys2Proof
end

section
/-! ## The host window: R376 to R383, R372 -/

namespace Sys2Proof.Machine

section
variable {s : State} {id : Fin 8} {a : BitVec 16}

/-! ### Transactions -/

theorem State.spiWrite_taken (h : s.sys.inReset = false ∧ (id.val = s.sys.idStrap ∨ (id.val = 7 ∧ s.ctrl.bcastEn = true)))
    (ws : List Word) : s.spiWrite id a ws = (s.winWrites (wordAddr a) ws).answerSpi true [] := by
  have htakes : s.takesWrite id = true := by
    simp only [State.takesWrite, Bool.and_eq_true, Bool.or_eq_true, Bool.not_eq_true', decide_eq_true_eq]
    exact h
  exact if_pos htakes

theorem State.spiWrite_passed (h : ¬(s.sys.inReset = false ∧ (id.val = s.sys.idStrap ∨ (id.val = 7 ∧ s.ctrl.bcastEn = true))))
    (ws : List Word) : s.spiWrite id a ws = s.answerSpi false [] := by
  have htakes : ¬s.takesWrite id = true := by
    simp only [State.takesWrite, Bool.and_eq_true, Bool.or_eq_true, Bool.not_eq_true', decide_eq_true_eq]
    exact h
  exact if_neg htakes

theorem State.spiRead_taken (h : s.sys.inReset = false ∧ id.val = s.sys.idStrap) (n : Nat) : s.spiRead id a n =
    ((s.winReads (wordAddr a) n).1.markRead (wordAddr a) n).answerSpi true (s.winReads (wordAddr a) n).2 :=
  if_neg fun hnot => hnot.elim (fun hreset => by rw [h.1] at hreset; cases hreset) fun hne => hne h.2

theorem State.spiRead_passed (h : ¬(s.sys.inReset = false ∧ id.val = s.sys.idStrap)) (n : Nat) :
    s.spiRead id a n = s.answerSpi false [] := by
  refine if_pos ?_
  by_cases hreset : s.sys.inReset = true
  · exact .inl hreset
  · exact .inr fun hid => h ⟨Bool.eq_false_iff.mpr hreset, hid⟩

/-! ### What a read of the window touches -/

/-- What a read leaves: it moves only the answers of channel 0 and the snapshot of the time. -/
structure State.windowRead (s t : State) : Prop where
  frame : t = { s with ctrl := t.ctrl, hearth := t.hearth }
  staged : t.ctrl.staged = s.ctrl.staged
  waiting : t.ctrl.waiting = s.ctrl.waiting
  submitted : t.ctrl.submitted = s.ctrl.submitted
  timing : t.hearth.timing = s.hearth.timing

theorem State.windowRead_refl (s : State) : s.windowRead s := ⟨rfl, rfl, rfl, rfl, rfl⟩

theorem State.windowRead.trans {s t u : State} (h : s.windowRead t) (h' : t.windowRead u) : s.windowRead u :=
  ⟨by have := h'.frame; rw [h.frame] at this; exact this, h'.staged.trans h.staged, h'.waiting.trans h.waiting,
    h'.submitted.trans h.submitted, h'.timing.trans h.timing⟩

theorem State.winRead_windowRead (s : State) (a : Nat) : s.windowRead (s.winRead a).1 := by
  unfold State.winRead
  repeat' split
  all_goals exact ⟨rfl, rfl, rfl, rfl, rfl⟩

theorem State.winReads_windowRead (n : Nat) (s : State) (a : Nat) : s.windowRead (s.winReads a n).1 ∧ (s.winReads a n).2.length = n := by
  induction n generalizing s a with
  | zero => exact ⟨s.windowRead_refl, rfl⟩
  | succ n ih =>
    obtain ⟨hread, hlen⟩ := ih (s.winRead a).1 ((a + 4) % 65536)
    exact ⟨(s.winRead_windowRead a).trans hread, congrArg (· + 1) hlen⟩

theorem State.markRead_windowRead (s : State) (a n : Nat) : s.windowRead (s.markRead a n) := by
  unfold State.markRead
  dsimp only
  repeat' split
  all_goals exact ⟨rfl, rfl, rfl, rfl, rfl⟩

theorem State.spiRead_reads (h : s.sys.inReset = false ∧ id.val = s.sys.idStrap) (n : Nat) : s.windowRead (s.spiRead id a n) ∧
    (s.spiRead id a n).ctrl.spiAnswered = true ∧ (s.spiRead id a n).ctrl.spiOut.length = n := by
  obtain ⟨hread, hlen⟩ := State.winReads_windowRead n s (wordAddr a)
  rw [State.spiRead_taken h]
  exact ⟨(hread.trans (State.markRead_windowRead _ _ _)).trans ⟨rfl, rfl, rfl, rfl, rfl⟩, rfl, hlen⟩

/-! ### The request buffer -/

theorem State.winWrite_request {base : Nat} {w : Word} (hboot : s.mode ≠ .boot) (hfree : s.ctrl.reqFree = true)
    (hlow : 0x1000 ≤ base) (hhigh : base < 0x1400) : s.winWrite base w =
      { s with ctrl := { s.ctrl with mbxReq := SMap.set (fun _ => 0) s.ctrl.mbxReq (base % 0x400 / 4) w } } := by
  unfold State.winWrite
  rw [if_neg (by omega), if_neg (by omega), if_neg (by omega), if_neg hboot, if_neg (by omega), if_neg (by omega),
    if_pos ⟨hlow, hhigh⟩, if_pos hfree]

theorem State.winRead_request {base : Nat} (hboot : s.mode ≠ .boot) (hlow : 0x1000 ≤ base) (hhigh : base < 0x1400) :
    s.winRead base = (s, SMap.get (fun _ => 0) s.ctrl.mbxReq (base % 0x400 / 4)) := by
  unfold State.winRead
  rw [if_neg (by omega), if_neg hboot, if_neg (by omega), if_neg (by omega), if_pos ⟨hlow, hhigh⟩]

/-! ### Submission -/

theorem State.drainRowless_of_front {q : List Byte} {rest : List (List Byte)} (hq : s.ctrl.submitted = q :: rest)
    (hrow : rowless q = false) (n : Nat) : s.drainRowless n = s := by
  cases n with
  | zero => rfl
  | succ n =>
    unfold State.drainRowless
    rw [hq]
    dsimp only
    rw [if_neg (by rw [hrow]; decide)]

theorem State.submit_free {q : List Byte} (hq : q = (bytesOfWords ((List.range 256).map fun i =>
      SMap.get (fun _ => 0) s.ctrl.mbxReq i)).take (16 + field (bytesOfWords ((List.range 256).map fun i =>
        SMap.get (fun _ => 0) s.ctrl.mbxReq i)) 10 2))
    (hfree : s.served = true ∧ s.ctrl.reqFree = true ∧ s.inFlight0 < 4)
    (hrow : ∀ y ∈ (s.ctrl.submitted ++ [q]).head?, rowless y = false) :
    s.submit = ({ s with ctrl := { s.ctrl with submitted := s.ctrl.submitted ++ [q] } } : State).irq Irq.REQ_FREE := by
  obtain ⟨hserved, hreq, hroom⟩ := hfree
  unfold State.submit
  dsimp only
  rw [if_neg (by simp [hserved, hreq, hroom]), ← hq]
  obtain ⟨y, rest, hy⟩ := List.exists_cons_of_ne_nil (l := s.ctrl.submitted ++ [q]) (by simp)
  exact State.drainRowless_of_front (q := y) (rest := rest) hy (hrow y (by rw [hy]; rfl)) 4

theorem State.submit_overrun (h : ¬(s.served = true ∧ s.ctrl.reqFree = true ∧ s.inFlight0 < 4)) :
    s.submit = ({ s with ctrl := { s.ctrl with overrun := true } } : State).count Reg.MBX_OVERRUN := by
  refine if_pos ?_
  rw [← Nat.not_lt]
  by_cases hserved : s.served = true
  · by_cases hreq : s.ctrl.reqFree = true
    · exact .inr (.inr fun hroom => h ⟨hserved, hreq, hroom⟩)
    · exact .inr (.inl (Bool.eq_false_iff.mpr hreq))
  · exact .inl (Bool.eq_false_iff.mpr hserved)

/-! ### The response window -/

theorem length_responseBytes {c : Client} {t : Slot} (hd : t.done = true) : (c.responseBytes t).length = 16 + t.payload.length := by
  simp only [Client.responseBytes, hd, Bool.true_and, if_true, List.length_append, length_beBytes]

/-- R383: the words of a complete response, one by one. -/
theorem State.winReads_response {x : Slot} (hup : s.mode ≠ .boot) (hx : s.ctrl.ch0.holds s.ctrl.mbxSel = some x) (hd : x.done = true)
    (hack : x.acked = false) (n o : Nat) (hroom : o + 4 * n ≤ 0x400)
    (hlen : n ≠ 0 → o + 4 * (n - 1) < (s.ctrl.ch0.responseBytes x).length) :
    (s.winReads (0x1400 + o) n).2 = wordsOf ((s.ctrl.ch0.responseBytes x).drop o) n ∧
      ∃ k, (s.winReads (0x1400 + o) n).1 = { s with ctrl := { s.ctrl with undefReads := k } } := by
  induction n generalizing s o with
  | zero => exact ⟨rfl, s.ctrl.undefReads, rfl⟩
  | succ n ih =>
    have hread : s.winRead (0x1400 + o) =
        ({ s with ctrl := { s.ctrl with undefReads := s.ctrl.undefReads + 1 } }, s.rspWord o) := by
      unfold State.winRead
      rw [if_neg (by omega), if_neg hup, if_neg (by omega), if_neg (by omega), if_neg (by omega), if_pos (by omega),
        show (0x1400 + o) % 0x400 = o by omega]
    have hword : s.rspWord o = BitVec.ofNat 32 (field (s.ctrl.ch0.responseBytes x) o 4) := by
      have hlt := hlen (Nat.succ_ne_zero n)
      unfold State.rspWord
      dsimp only
      rw [hx]
      dsimp only
      rw [if_neg (by rw [hack]; decide), if_pos (.inl hd), if_pos (by omega)]
    obtain ⟨hwords, k, hstate⟩ := ih (s := { s with ctrl := { s.ctrl with undefReads := s.ctrl.undefReads + 1 } }) hup hx (o + 4)
      (by omega) fun hn => by
        have hlt := hlen (Nat.succ_ne_zero n)
        show o + 4 + 4 * (n - 1) < (s.ctrl.ch0.responseBytes x).length
        omega
    rw [State.winReads, hread]
    dsimp only
    rw [show (0x1400 + o + 4) % 65536 = 0x1400 + (o + 4) by omega, hwords, hword]
    refine ⟨?_, k, hstate⟩
    rw [wordsOf, List.drop_drop]
    refine congrArg (· :: _) (congrArg (BitVec.ofNat 32) ?_)
    unfold field
    rw [List.drop_drop, Nat.add_zero]

theorem Client.holds_setSlot {c : Client} {q : Word} {t : Slot} (h : t.seq = q) : (c.setSlot q (some t)).holds q = some t := by
  have hslot : (c.setSlot q (some t)).slot q = some t := by
    have hcases : q.toNat % 4 = 0 ∨ q.toNat % 4 = 1 ∨ q.toNat % 4 = 2 ∨ q.toNat % 4 = 3 := by omega
    rcases hcases with hq | hq | hq | hq <;> simp only [Client.slot, Client.setSlot, hq]
  unfold Client.holds
  rw [hslot]
  exact if_pos h

theorem Client.seq_of_holds {c : Client} {q : Word} {t : Slot} (h : c.holds q = some t) : t.seq = q := by
  unfold Client.holds at h
  split at h
  · split at h
    · next heq => exact Option.some.inj h ▸ heq
    · cases h
  · cases h

theorem execMbxRsp_reads {x : Slot} (hup : s.firmwareUp = true) (hx : s.ctrl.ch0.holds s.ctrl.mbxSel = some x) (hd : x.done = true)
    (hack : x.acked = false) (hlen : x.payload.length ≤ 1008) : ∃ t, execMbxRsp s = .next t ∧
      t.ctrl.spiOut = wordsOf (s.ctrl.ch0.responseBytes x) (4 + ceilDiv x.payload.length 4) ∧
      t.ctrl.ch0.holds s.ctrl.mbxSel = some { x with seen := true } := by
  have hboot : s.mode ≠ .boot := by
    simp only [State.firmwareUp, Bool.and_eq_true, decide_eq_true_eq] at hup
    exact hup.2
  have hwords : s.rspWords = 4 + ceilDiv x.payload.length 4 := by
    unfold State.rspWords
    rw [hx]
    exact if_pos hd
  have hceil : 4 * ceilDiv x.payload.length 4 ≤ x.payload.length + 3 ∧ x.payload.length ≤ 4 * ceilDiv x.payload.length 4 := by
    unfold ceilDiv
    omega
  obtain ⟨hout, k, hstate⟩ := State.winReads_response hboot hx hd hack s.rspWords 0 (by rw [hwords]; omega) fun _ => by
    rw [length_responseBytes hd, hwords]
    omega
  have hcovers : covers 0x1400 s.rspWords 0x1400 = true := by
    rw [hwords]
    exact decide_eq_true (by omega)
  refine ⟨_, if_neg (by rw [hup]; decide), ?_, ?_⟩
  · rw [← hwords]
    exact hout
  · show (State.markRead (s.winReads 0x1400 s.rspWords).1 0x1400 s.rspWords).ctrl.ch0.holds s.ctrl.mbxSel = _
    rw [hstate]
    unfold State.markRead
    dsimp only
    rw [if_pos ⟨hcovers, hboot⟩, hx]
    dsimp only
    rw [if_pos hd]
    exact Client.holds_setSlot (t := { x with seen := true }) (show x.seq = _ from Client.seq_of_holds hx)

/-! ### Interrupt flags -/

theorem testBit_causes (x y : Bool) (b : Nat) : (b2n x * 2 ^ Irq.EVENT + b2n y * 2 ^ Irq.FATAL).testBit b =
    ((decide (b = Irq.EVENT) && x) || (decide (b = Irq.FATAL) && y)) := by
  have hevent : (4 : Nat).testBit b = decide (b = 2) := by
    rw [show (4 : Nat) = 2 ^ 2 from rfl, Nat.testBit_two_pow]
    exact decide_eq_decide.mpr eq_comm
  have hfatal : (16 : Nat).testBit b = decide (b = 4) := by
    rw [show (16 : Nat) = 2 ^ 4 from rfl, Nat.testBit_two_pow]
    exact decide_eq_decide.mpr eq_comm
  have hboth : (20 : Nat).testBit b = (decide (b = 2) || decide (b = 4)) := by
    rw [show (20 : Nat) = 4 ||| 16 from rfl, Nat.testBit_or, hevent, hfatal]
  rw [show Irq.EVENT = 2 from rfl, show Irq.FATAL = 4 from rfl]
  cases x <;> cases y <;> simp [b2n, hevent, hfatal, hboth]

/-- R379, R380: what a write of ones leaves of the flags. -/
theorem State.clearIrq_bit (s : State) (v b : Nat) : bit (s.clearIrq v).ctrl.irq b = (bit s.ctrl.irq b &&
    (!bit v b || (decide (b = Irq.EVENT) && !s.ctrl.ch0.queue.isEmpty) || (decide (b = Irq.FATAL) && s.sched.fatal))) := by
  unfold bit State.clearIrq
  dsimp only
  rw [Nat.testBit_or, testBit_sub_and, Nat.testBit_and, testBit_causes]
  cases s.ctrl.irq.testBit b <;> cases v.testBit b <;> simp

end

/-- Settles O42: the transactions by their ID, the offsets by their words. -/
theorem hostTransactionsReachTheWindow : Obligations.HostTransactionsReachTheWindow := by
  unfold Obligations.HostTransactionsReachTheWindow
  intro s id a w v ws n x base mine heard quiet buffer q free
  refine ⟨fun h => ⟨?_, rfl⟩, fun h => ⟨_, rfl, rfl, State.spiWrite_passed h ws⟩, fun h hboot hfree hlow hhigh hw => ?_, fun h => ?_,
    fun h => ⟨_, rfl, rfl, State.spiRead_passed h n⟩, fun h hbase => ?_, fun hup hv hfree hrow => ?_, fun hup hv hfree => ?_,
    fun hup hx hd hack hlen => execMbxRsp_reads hup hx hd hack hlen, fun hreset => ?_, fun hup => ?_⟩
  · exact congrArg Host.Outcome.next (State.spiWrite_taken h (w :: ws))
  · have hwrite : s.spiWrite id a [w] = (s.winWrite base w).answerSpi true [] := State.spiWrite_taken h [w]
    rw [State.winWrite_request hboot hfree hlow hhigh] at hwrite
    refine ⟨_, congrArg Host.Outcome.next hwrite, ?_, rfl⟩
    have hback : ∀ t : State, t.mode = s.mode → (t.winRead base).2 = SMap.get (fun _ => 0) t.ctrl.mbxReq (base % 0x400 / 4) :=
      fun t ht => congrArg Prod.snd (State.winRead_request (fun hb => hboot (ht.symm.trans hb)) hlow hhigh)
    rw [hback]
    · exact SMap.get_set_same_ne (fun _ => (0 : Word)) _ hw
    · rfl
  · obtain ⟨⟨hframe, hstaged, hwaiting, hsubmitted, htiming⟩, hanswered, hlen⟩ := State.spiRead_reads (a := a) h n
    exact ⟨_, rfl, rfl, hframe, hstaged, hwaiting, hsubmitted, hanswered, hlen, htiming⟩
  · have hread := State.spiRead_taken (a := a) h 1
    rw [show wordAddr a = 0 from hbase] at hread
    exact congrArg Host.Outcome.next hread
  · have hsubmit := State.submit_free (q := q) rfl hfree hrow
    refine ⟨s.submit, ?_, ?_, ?_, ?_⟩
    · simp only [exec, execMbxCtrl, State.writeMbxCtrl, hup, hv, if_true]
    · rw [hsubmit]
      rfl
    · rw [hsubmit]
      show Nat.testBit (s.ctrl.irq ||| 2 ^ Irq.REQ_FREE) Irq.REQ_FREE = true
      rw [Nat.testBit_or, Nat.testBit_two_pow_self, Bool.or_true]
    · rw [hsubmit]
      rfl
  · have hsubmit := State.submit_overrun hfree
    refine ⟨s.submit, ?_, ?_, ?_⟩
    · simp only [exec, execMbxCtrl, State.writeMbxCtrl, hup, hv, if_true]
    · rw [hsubmit]
      rfl
    · rw [hsubmit]
      rfl
  · refine ⟨s.clearIrq v.toNat, ?_, rfl, fun b => s.clearIrq_bit v.toNat b⟩
    simp only [exec, execIrqStatus, hreset, Bool.false_eq_true, if_false]
  · simp only [exec, execJwFirstLo, hup, if_true]
    rfl

end Sys2Proof.Machine
end

section
/-! ## The peer and the election: R414 to R434 -/

namespace Sys2Proof.Machine

/-! ### A frame that passes a class queue -/

theorem State.sameButQueues_refl (s : State) : s.sameButQueues s := rfl

theorem State.sameButQueues.trans {s t u : State} (h : s.sameButQueues t) (h' : t.sameButQueues u) : s.sameButQueues u := by
  unfold State.sameButQueues at *
  rw [h] at h'
  exact h'

theorem State.sameButRecords.sameButQueues {s t : State} (h : s.sameButRecords t) : s.sameButQueues t := by
  unfold State.sameButRecords at h
  unfold State.sameButQueues
  rw [h]

theorem State.sameButQueues_foldl {α : Type} {f : State → α → State} (hf : ∀ (t : State) (x : α), t.sameButQueues (f t x))
    (l : List α) (s : State) : s.sameButQueues (l.foldl f s) := by
  induction l generalizing s with
  | nil => exact s.sameButQueues_refl
  | cons x l ih => exact (hf s x).trans (ih _)

theorem State.setQset_sameButQueues (s : State) (n : Nat) (q : QueueSet) : s.sameButQueues (s.setQset n q) := by
  unfold State.setQset
  split <;> rfl

theorem State.settleQueue_sameButQueues (s : State) (n c : Nat) : s.sameButQueues (s.settleQueue n c) := by
  have hissue : ∀ (t : State) (_ : Nat), t.sameButQueues (t.issue 5) := fun t _ => by
    obtain ⟨arb, harb⟩ := t.issue_arb 5
    rw [harb]
    rfl
  have hmoved := (s.setQset_sameButQueues n ((s.qset n).setQ c (((s.qset n).q c).pass ((s.qset n).oldest c + headBytes)).spillOut)).trans
    (State.sameButQueues_foldl hissue (List.range (((s.qset n).q c).pass ((s.qset n).oldest c + headBytes)).blocks) _)
  unfold State.settleQueue
  dsimp only
  split
  · exact hmoved.trans (State.raiseWith_sameButRecords _ _ _ _).sameButQueues
  · exact hmoved

theorem State.popFrom_sameButQueues (s : State) (n c : Nat) : s.sameButQueues (s.popFrom n c) := by
  have hlatch : ∀ (t : State) (a v : Nat) (w : Word) (b x : Nat), t.sameButQueues (((t.setRegN a v).setReg b w).readAnswer x) :=
    fun t a v w b x => rfl
  unfold State.popFrom
  dsimp only
  split
  · exact (s.setQset_sameButQueues n _).trans (hlatch _ _ _ _ _ _)
  · exact s.sameButQueues_refl

theorem State.wakePop_sameButQueues (s : State) (n : Nat) : s.sameButQueues (s.wakePop n) := by
  have hanswer : ∀ (t : State) (x : Nat), t.sameButQueues (t.readAnswer x) := fun t x => rfl
  unfold State.wakePop State.consumerPop State.notValid
  dsimp only
  split
  · split
    · exact s.popFrom_sameButQueues n _
    · split
      · exact (s.setQset_sameButQueues n _).trans (hanswer _ _)
      · exact s.setQset_sameButQueues n _
  · exact s.sameButQueues_refl

theorem State.mirrorArrives_sameButQueues (s : State) (len : Nat) : s.sameButQueues (s.mirrorArrives len).1 := by
  have hdraws : ∀ k : Nat, s.sameButQueues { s with draws := k } := fun k => rfl
  unfold State.mirrorArrives State.enqueue
  dsimp only
  split
  · exact s.sameButQueues_refl
  · exact (hdraws _).trans (((State.setQset_sameButQueues _ _ _).trans (State.settleQueue_sameButQueues _ _ _)).trans
      (State.wakePop_sameButQueues _ _))

theorem State.popDone_sameButQueues (s : State) (n addr : Nat) : s.sameButQueues (s.popDone n addr) := by
  unfold State.popDone
  dsimp only
  exact ((s.setQset_sameButQueues n _).trans (State.sameButQueues_foldl (fun t c => t.settleQueue_sameButQueues n c) _ _)).trans
    (State.wakePop_sameButQueues _ _)

theorem State.mirrorTaken_sameButQueues (s : State) : s.sameButQueues s.mirrorTaken := by
  have hout : ∀ (t : State) (w : Word), t.sameButQueues { t with ctrl := { t.ctrl with regOut := w } } := fun t w => rfl
  unfold State.mirrorTaken
  dsimp only
  refine State.sameButQueues.trans (State.sameButQueues.trans ?_ (State.sameButQueues_foldl (fun t a => t.popDone_sameButQueues 3 a) _ _))
    (hout _ _)
  split
  · exact s.popFrom_sameButQueues 3 _
  · exact s.sameButQueues_refl

/-- R431: what a mirror frame touches on its way. -/
theorem State.mirrorBase_sameButQueues (s : State) (len : Nat) : s.sameButQueues (s.mirrorBase len) :=
  (s.mirrorArrives_sameButQueues len).trans (State.mirrorTaken_sameButQueues _)

theorem State.mirrorBase_regsOk {s : State} (h : s.regsOk) (len : Nat) : (s.mirrorBase len).regsOk :=
  (State.mirrorTaken_keeps (State.mirrorArrives_keeps (State.keeps_self s) len)).regs h

/-- R431: the SC takes a frame at once when it runs and the queue is open. -/
theorem State.fromMirror_open {s : State} {len : Nat} (h : s.mirrorOpen len = true) (f : State → State) :
    s.fromMirror len f = f (s.mirrorBase len) := by
  simp only [State.mirrorOpen, Bool.and_eq_true, Bool.not_eq_true'] at h
  obtain ⟨⟨hroom, hen⟩, haway⟩ := h
  have htaken : (s.mirrorArrives len).2 = true := by
    unfold State.mirrorArrives
    dsimp only
    rw [if_neg (by simp [hroom, hen]), haway]
    rfl
  unfold State.fromMirror
  dsimp only
  rw [if_pos htaken]
  rfl

theorem State.sameButQueues.red {s t : State} (h : s.sameButQueues t) : t.red = s.red := by
  unfold State.sameButQueues at h
  rw [h]

theorem State.sameButQueues.mirrorVersion {s t : State} (h : s.sameButQueues t) : t.mirrorVersion = s.mirrorVersion := by
  unfold State.sameButQueues at h
  rw [h]
  rfl

theorem State.sameButQueues.nvm {s t : State} (h : s.sameButQueues t) : t.nvm = s.nvm := by
  unfold State.sameButQueues at h
  rw [h]

/-! ### The role changes -/

section
variable {s : State}

/-- R429: what a change of role leaves of the pair's state. -/
theorem State.becomeRole_red (s : State) (r : Role) : ∃ due out check inn, (s.becomeRole r).red =
    { s.red with role := r, takeoverDue := due, ownIlOut := out, ownIlCheck := check, ownIlIn := inn } ∧
      (s.red.ownIlOut = false → out = false) := by
  unfold State.becomeRole
  dsimp only
  split
  · next h => exact ⟨s.red.takeoverDue, s.red.ownIlOut, s.red.ownIlCheck, s.red.ownIlIn, by rw [← h], id⟩
  · have hraise := State.raise_red { s with red := { s.red with role := r, takeoverDue := false } } Ev.ROLE_CHANGE
    generalize State.raise _ Ev.ROLE_CHANGE = t at hraise ⊢
    split
    · exact ⟨false, s.red.ownIlOut, s.red.ownIlCheck, s.red.ownIlIn, hraise, id⟩
    · unfold State.releaseOwnIl
      split
      · exact ⟨false, false, false, true, by rw [hraise], fun _ => rfl⟩
      · next hout =>
        rw [hraise] at hout
        exact ⟨false, s.red.ownIlOut, s.red.ownIlCheck, s.red.ownIlIn, hraise, id⟩

theorem State.becomeRole_role (s : State) (r : Role) : (s.becomeRole r).red.role = r := by
  obtain ⟨due, out, check, inn, h, -⟩ := s.becomeRole_red r
  rw [h]

theorem State.releaseOwnIl_keepsEvents (s : State) : s.KeepsEvents s.releaseOwnIl := by
  unfold State.releaseOwnIl
  split
  · exact State.keepsEvents_of_regs rfl
  · exact s.keepsEvents_refl

theorem State.becomeRole_keepsEvents (s : State) (r : Role) : s.KeepsEvents (s.becomeRole r) := by
  have hraise : s.KeepsEvents ({ s with red := { s.red with role := r, takeoverDue := false } }.raise Ev.ROLE_CHANGE) := by
    refine State.KeepsEvents.after ?_ (State.raise_keepsEvents _ _)
    rfl
  unfold State.becomeRole
  dsimp only
  split
  · exact s.keepsEvents_refl
  · split
    · exact hraise
    · exact hraise.trans (State.releaseOwnIl_keepsEvents _)

theorem State.becomeRole_up (s : State) (r : Role) : (s.becomeRole r).up = s.up := (s.becomeRole_keepsService r).up

/-- R414: who wins an election. -/
theorem State.electWith_elects (s : State) (role : Role) (strap : Bool) :
    (s.electWith role strap).red.peerHeard = s.red.peerHeard ∧ (s.electWith role strap).red.peerRole = s.red.peerRole ∧
    (s.electWith role strap).red.peerSerial = s.red.peerSerial ∧ (s.electWith role strap).red.peerAddr = s.red.peerAddr ∧
    (s.electWith role strap).red.expiry = s.red.expiry ∧ (s.electWith role strap).red.releaseRx = s.red.releaseRx ∧
    (s.red.role = .electing → role = .active → (s.electWith role strap).red.role = .standby) ∧
    (s.red.role = .electing → role = .electing → (s.electWith role strap).red.role =
      if (if s.red.roleStrap = strap then decide (s.nvm.serial < s.red.peerSerial) else s.red.roleStrap) then .active else .standby) ∧
    (s.red.role ≠ .electing → (s.electWith role strap).red.role = s.red.role) := by
  have hrole : ∀ r : Role, (s.becomeRole r).red.peerHeard = s.red.peerHeard ∧ (s.becomeRole r).red.peerRole = s.red.peerRole ∧
      (s.becomeRole r).red.peerSerial = s.red.peerSerial ∧ (s.becomeRole r).red.peerAddr = s.red.peerAddr ∧
      (s.becomeRole r).red.expiry = s.red.expiry ∧ (s.becomeRole r).red.releaseRx = s.red.releaseRx := fun r => by
    obtain ⟨due, out, check, inn, h, -⟩ := s.becomeRole_red r
    rw [h]
    exact ⟨rfl, rfl, rfl, rfl, rfl, rfl⟩
  unfold State.electWith
  by_cases hel : s.red.role = .electing
  · rw [if_neg (by simp [hel])]
    cases role with
    | active =>
      obtain ⟨h1, h2, h3, h4, h5, h6⟩ := hrole .standby
      exact ⟨h1, h2, h3, h4, h5, h6, fun _ _ => s.becomeRole_role .standby, fun _ h => (by cases h), fun h => absurd hel h⟩
    | electing =>
      dsimp only
      generalize (if s.red.roleStrap = strap then decide (s.nvm.serial < s.red.peerSerial) else s.red.roleStrap) = wins
      cases wins
      · obtain ⟨h1, h2, h3, h4, h5, h6⟩ := hrole .standby
        exact ⟨h1, h2, h3, h4, h5, h6, fun _ h => (by cases h), fun _ _ => s.becomeRole_role .standby, fun h => absurd hel h⟩
      · obtain ⟨h1, h2, h3, h4, h5, h6⟩ := hrole .active
        exact ⟨h1, h2, h3, h4, h5, h6, fun _ h => (by cases h), fun _ _ => s.becomeRole_role .active, fun h => absurd hel h⟩
    | _ =>
      exact ⟨rfl, rfl, rfl, rfl, rfl, rfl, fun _ h => (by cases h), fun _ h => (by cases h), fun h => absurd hel h⟩
  · rw [if_pos hel]
    exact ⟨rfl, rfl, rfl, rfl, rfl, rfl, fun h => absurd h hel, fun h => absurd h hel, fun _ => rfl⟩

/-! ### The commands by which the peer is heard -/

theorem execLinkHelloSend_sends (hfw : s.firmwareUp = true) (hel : s.red.role = .electing) :
    ∃ t, execLinkHelloSend s = .next t ∧ s.red.helloUp + 10000000 ≤ t.red.helloUp ∧ t.red.helloUp = t.up ∧
      (s.red.mirrorUp = true → ∃ f, t.red.mirrorSent = f :: s.red.mirrorSent ∧ f.type = 1 ∧ f.payload = .bytes t.helloBytes) := by
  obtain ⟨due, hdue⟩ : ∃ due, due = s.red.helloUp + 10000000 := ⟨_, rfl⟩
  obtain ⟨u, hu⟩ : ∃ u : State, u = { s.reach due with red := { (s.reach due).red with helloUp := (s.reach due).up } } := ⟨_, rfl⟩
  have hred : u.red = { s.red with helloUp := (s.reach due).up } := by rw [hu, State.reach_red]
  have hup : u.up = (s.reach due).up := by rw [hu]
  have heq : execLinkHelloSend s = .next (u.sendMirror 1 (.bytes u.helloBytes)) := by
    unfold execLinkHelloSend
    rw [if_pos ⟨hel, hfw⟩, ← hdue, hu]
    rfl
  have hbytes : (u.sendMirror 1 (.bytes u.helloBytes)).helloBytes = u.helloBytes := by
    unfold State.sendMirror
    split <;> rfl
  have hframe : (u.sendMirror 1 (.bytes u.helloBytes)).red.helloUp = u.red.helloUp ∧
      (u.sendMirror 1 (.bytes u.helloBytes)).up = u.up := by
    unfold State.sendMirror
    split <;> exact ⟨rfl, rfl⟩
  rw [← hdue]
  refine ⟨_, heq, ?_, ?_, fun hm => ?_⟩
  · rw [hframe.1, hred]
    exact s.le_reach_up due
  · rw [hframe.1, hframe.2, hred, hup]
  · rw [hbytes]
    refine ⟨⟨1, u.mirrorHeader 1 (MirrorPayload.bytes u.helloBytes).len, .bytes u.helloBytes⟩, ?_, rfl, rfl⟩
    unfold State.sendMirror
    rw [if_pos (by rw [hred]; exact hm), hred]

theorem execLinkHello_heard {h : HelloFrame} (hfw : s.firmwareUp = true) (hm : s.red.mirrorUp = true)
    (hopen : s.mirrorOpen 64 = true) : execLinkHello h s = .next ((s.mirrorBase 64).hearHello h) := by
  unfold execLinkHello
  rw [if_neg (by simp [hfw, hm]), State.fromMirror_open hopen]

theorem State.hearHello_other {s : State} {h : HelloFrame} (hv : h.mirrorVersion ≠ s.mirrorVersion) :
    (s.hearHello h).red = { s.red with versionOk := false, peerHeard := false } ∧
      s.Shows (s.hearHello h) Ev.MIRROR_VERSION_MISMATCH := by
  rw [State.hearHello, if_pos hv]
  refine ⟨State.raise_red _ _, State.Shows.after ?_ (State.raise_shows (e := Ev.MIRROR_VERSION_MISMATCH) _ (by decide))⟩
  rfl

theorem State.hearHello_same {h : HelloFrame} (hv : h.mirrorVersion = s.mirrorVersion) : s.hearHello h =
    ({ s with red := { s.red with
        versionOk := true, peerHeard := true, peerRole := h.role, peerSerial := h.serial, peerAddr := h.portA
        peerDigest := h.digest } } : State).electWith h.role h.roleStrap := if_neg fun hne => hne hv

theorem State.busConflict_stands (hrole : s.red.role = .electing) : s.busConflict.red.role = .standby ∧
    s.busConflict.red.stale = true ∧ s.Shows s.busConflict Ev.BUS_CONFLICT ∧ s.busConflict.up = s.up := by
  have hraised : (s.raise Ev.BUS_CONFLICT).red = s.red := State.raise_red _ _
  have heq : s.busConflict = ((s.raise Ev.BUS_CONFLICT).becomeRole .standby).setStale := by
    unfold State.busConflict
    dsimp only
    rw [if_neg (by rw [hraised, hrole]; decide)]
  obtain ⟨hstale, -, hkeeps⟩ := State.setStale_frame ((s.raise Ev.BUS_CONFLICT).becomeRole .standby)
  have hstalerole : ∀ t : State, t.setStale.red.role = t.red.role := fun t => by
    have hmark : t.markStale.red.role = t.red.role := by
      unfold State.markStale
      split
      · rfl
      · rw [State.raise_red]
    have hwant : ∀ v : State, v.wantResync.red.role = v.red.role := fun v => by
      unfold State.wantResync State.sendMirror
      split
      · rfl
      · split <;> rfl
    rw [State.setStale_eq, hwant, hmark]
  rw [heq]
  refine ⟨?_, hstale, ?_, ?_⟩
  · rw [hstalerole, State.becomeRole_role]
  · exact (State.raise_shows s (by decide)).trans (by decide) ((State.becomeRole_keepsEvents _ _).trans hkeeps)
  · rw [(State.setStale_keepsService _).up, State.becomeRole_up, State.raise_up]

theorem State.reach_allSilent (s : State) (due : Nat) : (s.reach due).allSilent = s.allSilent := by
  unfold State.allSilent
  simp only [State.reach_strand]

theorem execElectWait_ends {wait : Nat} (hwait : wait = s.param P.ELECT_WAIT * 1000000) (hfw : s.firmwareUp = true)
    (hel : s.red.role = .electing) (hheard : s.red.peerHeard = false) : ∃ t, execElectWait s = .next t ∧
      (s.red.roleStrap = true → t.red.role = .active ∧ s.red.electStartUp + wait ≤ t.up) ∧
      (s.red.roleStrap = false → s.red.electStartUp + 2 * wait ≤ t.up ∧
        (s.allSilent = true → s.arbMode = 0 → t.red.role = .active) ∧
        (s.allSilent = false → t.red.role = .standby ∧ t.red.stale = true ∧ (s.regsOk → t.sees Ev.BUS_CONFLICT = true))) := by
  unfold execElectWait
  rw [if_neg (by simp [hel, hheard, hfw])]
  dsimp only
  rw [← hwait]
  cases hstrap : s.red.roleStrap
  · obtain ⟨u, hu⟩ : ∃ u, u = s.reach (s.red.electStartUp + 2 * wait) := ⟨_, rfl⟩
    have hup : s.red.electStartUp + 2 * wait ≤ u.up := hu ▸ s.le_reach_up _
    have hsil : u.allSilent = s.allSilent := hu ▸ s.reach_allSilent _
    have harb : u.arbMode = s.arbMode := by rw [hu, State.arbMode, State.arbMode, State.reach_param]
    have hrole : u.red.role = .electing := by rw [hu, State.reach_red]; exact hel
    rw [if_neg (by decide), ← hu, hsil]
    obtain ⟨hbrole, hbstale, hbshows, hbup⟩ := State.busConflict_stands hrole
    cases hs : s.allSilent
    · refine ⟨u.busConflict, rfl, fun h => absurd h (by decide), fun _ => ⟨by rw [hbup]; exact hup, fun h => absurd h (by decide),
        fun _ => ⟨hbrole, hbstale, fun hok => hbshows.sees ?_⟩⟩⟩
      rw [hu]
      exact ((s.reach_keepsEvents _) hok).1
    · by_cases hcond : (true && (decide (u.arbMode = 0) || u.red.ownIlHigh && u.red.ownIlHighLast)) = true
      · rw [if_pos hcond]
        exact ⟨u.becomeRole .active, rfl, fun h => absurd h (by decide), fun _ => ⟨by rw [State.becomeRole_up]; exact hup,
          fun _ _ => State.becomeRole_role _ _, fun h => absurd h (by decide)⟩⟩
      · rw [if_neg hcond]
        refine ⟨u.busConflict, rfl, fun h => absurd h (by decide), fun _ => ⟨by rw [hbup]; exact hup, fun _ h0 => absurd ?_ hcond,
          fun h => absurd h (by decide)⟩⟩
        rw [harb, h0]
        rfl
  · refine ⟨_, if_pos rfl, fun _ => ⟨State.becomeRole_role _ _, ?_⟩, fun h => absurd h (by decide)⟩
    rw [State.becomeRole_up]
    exact s.le_reach_up _

/-- R421, R414: the lease after a renewal. -/
theorem State.renewed_renews (s : State) (serial : Option Nat) (expiry : Nat) : (s.renewed serial expiry).red.expiry = expiry ∧
    (s.renewed serial expiry).red.releaseRx = false ∧ (s.renewed serial expiry).red.peerHeard = true ∧
    (s.renewed serial expiry).red.peerSerial = serial.getD s.red.peerSerial ∧
    (s.red.role = .electing → (s.renewed serial expiry).red.role = .standby) := by
  obtain ⟨hheard, -, hserial, -, hexp, hrel, hact, -, -⟩ := State.electWith_elects { s with red := { s.red with
      peerHeard := true, peerRole := .active, peerSerial := serial.getD s.red.peerSerial
      expiry := expiry, releaseRx := false, lostPeer := false, unheard := false } } .active false
  exact ⟨hexp, hrel, hheard, hserial, fun h => hact h rfl⟩

/-- R423, R443: what a RELEASE of the peer does. -/
theorem State.released_releases (s : State) (reason : Nat) : (s.released reason).red.releaseRx = true ∧
    (s.released reason).red.role = s.red.role ∧ s.Shows (s.released reason) Ev.RELEASE_RX ∧
    (s.red.role = .active → reason < 2 → s.red.peerHeard = true → s.red.peerRole = .standby →
      (s.released reason).red.peerHeard = false ∧ s.Shows (s.released reason) Ev.PEER_LOST) := by
  obtain ⟨u, hu⟩ : ∃ u, u = ({ s with red := { s.red with releaseRx := true } } : State).raise Ev.RELEASE_RX := ⟨_, rfl⟩
  have hred : u.red = { s.red with releaseRx := true } := hu ▸ State.raise_red _ _
  have hrx : s.Shows u Ev.RELEASE_RX := by
    rw [hu]
    refine State.Shows.after ?_ (State.raise_shows _ (by decide))
    rfl
  have heq : s.released reason = if u.red.role = .active ∧ reason < 2 ∧ u.red.peerHeard ∧ u.red.peerRole = .standby then
      ({ u with red := { u.red with peerHeard := false } } : State).raise Ev.PEER_LOST else u := by
    rw [hu]
    rfl
  obtain ⟨v, hv⟩ : ∃ v, v = ({ u with red := { u.red with peerHeard := false } } : State).raise Ev.PEER_LOST := ⟨_, rfl⟩
  have hlost : u.Shows v Ev.PEER_LOST := by
    rw [hv]
    refine State.Shows.after ?_ (State.raise_shows _ (by decide))
    rfl
  have hkeep : u.KeepsEvents v := by
    rw [hv]
    refine State.KeepsEvents.after ?_ (State.raise_keepsEvents _ _)
    rfl
  have hvred : v.red = { u.red with peerHeard := false } := hv ▸ State.raise_red _ _
  rw [← hv] at heq
  rw [heq]
  by_cases hc : u.red.role = .active ∧ reason < 2 ∧ u.red.peerHeard ∧ u.red.peerRole = .standby
  · rw [if_pos hc, hvred, hred]
    exact ⟨rfl, rfl, hrx.trans (by decide) hkeep, fun _ _ _ _ => ⟨rfl, fun hs => hlost (hrx hs).1⟩⟩
  · rw [if_neg hc, hred]
    refine ⟨rfl, rfl, hrx, fun hact hr hh hp => absurd ⟨?_, hr, ?_, ?_⟩ hc⟩ <;> rw [hred]
    · exact hact
    · exact hh
    · exact hp

theorem execRenew_heard {byHb : Bool} {serial expiry : Nat} (hfw : s.firmwareUp = true)
    (hm : byHb = false → s.red.mirrorUp = true) (hfor : s.foreign byHb serial = false) : execRenew byHb serial expiry s =
      if byHb then .next (s.hearBeat.renewed (some serial) expiry) else .next (s.fromMirror 8 (·.renewed none expiry)) := by
  unfold execRenew
  rw [if_neg fun hc => ?_, if_neg (by rw [hfor]; decide)]
  rcases hc with hc | ⟨hbyHb, hc⟩
  · exact absurd (hfw.symm.trans hc) (by decide)
  · exact absurd ((hm hbyHb).symm.trans hc) (by decide)

theorem execRelease_heard {byHb : Bool} {serial last : Nat} {reason : Fin 4} (hfw : s.firmwareUp = true)
    (hm : byHb = false → s.red.mirrorUp = true) (hfor : s.foreign byHb serial = false) : execRelease byHb serial last reason s =
      if byHb then .next (s.hearBeat.released reason) else .next (s.fromMirror 10 (·.released reason)) := by
  unfold execRelease
  rw [if_neg fun hc => ?_, if_neg (by rw [hfor]; decide)]
  rcases hc with hc | ⟨hbyHb, hc⟩
  · exact absurd (hfw.symm.trans hc) (by decide)
  · exact absurd ((hm hbyHb).symm.trans hc) (by decide)

theorem State.foreign_byHeartbeat {byHb : Bool} {serial : Nat} (h : s.foreign byHb serial = true) : byHb = true := by
  simp only [State.foreign, Bool.and_eq_true] at h
  exact h.1.1

/-- The state that has noted a level of OWN_IL (R429). -/
def State.lineSeen (s : State) (level : Bool) : State := { s with red := { s.red with
  ownIlIn := level && !s.red.ownIlOut
  ownIlHigh := if level then s.red.ownIlHigh || decide (s.up ≤ s.hearth.lastTickUp + s.swapWindowNs) else false } }

theorem execOwnIl_eq (level : Bool) : execOwnIl level s =
    if level = false ∧ s.red.ownIlOut ∧ s.red.ownIlCheck ∧ s.up ≤ s.red.ownIlPullUp + 1000 ∧ s.red.peerHeard ∧
        s.red.peerRole = .active then .next (s.lineSeen level).ownIlConflict
    else .next (s.lineSeen level) := rfl

/-- R429: an active that finds the line pulled by its active peer. -/
theorem State.ownIlConflict_yields (s : State) (hout : s.red.ownIlOut = true) : s.ownIlConflict.red.role = .standby ∧
    s.ownIlConflict.red.ownIlOut = false ∧ (s.regsOk → s.ownIlConflict.sees Ev.OWN_IL_CONFLICT = true) := by
  obtain ⟨u, hu⟩ : ∃ u, u = s.releaseOwnIl := ⟨_, rfl⟩
  have huout : u.red.ownIlOut = false := by
    rw [hu, State.releaseOwnIl, if_pos hout]
  have hsent : ∀ (v : State) (type tick reason : Nat) (p : Port), (v.sendHeartbeat type tick reason p).red.ownIlOut = v.red.ownIlOut :=
    fun v type tick reason p => by
      unfold State.sendHeartbeat State.sendOwn
      dsimp only
      split
      · split <;> cases p <;> rfl
      · rfl
  have hrelease : (u.sendRelease 3).red.ownIlOut = false := by
    unfold State.sendRelease State.sendHeartbeats
    rw [hsent, hsent, ← huout]
    unfold State.sendMirror
    split <;> rfl
  have hregs : u.regsOk → (u.sendRelease 3).regsOk := (State.sendRelease_keeps (State.keeps_self u) 3).regs
  have hraised : ((u.sendRelease 3).raise Ev.OWN_IL_CONFLICT).red.ownIlOut = false := by
    rw [State.raise_red]
    exact hrelease
  have heq : s.ownIlConflict = ((u.sendRelease 3).raise Ev.OWN_IL_CONFLICT).becomeRole .standby := by
    rw [hu]
    rfl
  rw [heq]
  refine ⟨State.becomeRole_role _ _, ?_, fun hs => ?_⟩
  · obtain ⟨due, out, check, inn, hred, hfalse⟩ := ((u.sendRelease 3).raise Ev.OWN_IL_CONFLICT).becomeRole_red .standby
    rw [hred]
    exact hfalse hraised
  · have hok : u.regsOk := by
      rw [hu]
      exact ((s.releaseOwnIl_keepsEvents) hs).1
    exact ((State.raise_shows _ (by decide)).trans (by decide) (State.becomeRole_keepsEvents _ _)).sees (hregs hok)

end

/-- Settles O48: the frames by the queue that they pass, the roles by what a change of role leaves. -/
theorem peerIsHeardAndElectionEnds : Obligations.PeerIsHeardAndElectionEnds := by
  unfold Obligations.PeerIsHeardAndElectionEnds
  intro s h byHb serial expiry last n reason level wins wait heard
  refine ⟨s.mirrorBase_sameButQueues n, fun hfw hel => execLinkHelloSend_sends hfw hel, fun hfw hm hopen hv => ?_,
    fun hfw hm hopen hv => ?_, fun hfw hel hheard => execElectWait_ends rfl hfw hel hheard, fun hheard hfor hopen => ?_,
    fun hheard hfor => ?_, fun hheard hfor hopen => ?_, fun hfree => ?_, fun hl hout hcheck hup hheard hrole => ?_⟩
  · have hbase := s.mirrorBase_sameButQueues 64
    have heq := execLinkHello_heard (h := h) hfw hm hopen
    rw [State.hearHello_same (hv.trans hbase.mirrorVersion.symm), hbase.red] at heq
    obtain ⟨hh, hr, hs, ha, -, -, hact, hel, hother⟩ := State.electWith_elects { s.mirrorBase 64 with red := { s.red with
        versionOk := true, peerHeard := true, peerRole := h.role, peerSerial := h.serial, peerAddr := h.portA
        peerDigest := h.digest } } h.role h.roleStrap
    refine ⟨_, heq, hh, hr, hs, ha, hact, fun h1 h2 => (hel h1 h2).trans ?_, hother⟩
    show (if (if s.red.roleStrap = h.roleStrap then decide ((s.mirrorBase 64).nvm.serial < h.serial) else s.red.roleStrap) then
      Role.active else Role.standby) = _
    rw [hbase.nvm]
  · have hbase := s.mirrorBase_sameButQueues 64
    obtain ⟨hred, hshows⟩ := State.hearHello_other fun hne => hv (hne.trans hbase.mirrorVersion)
    refine ⟨_, execLinkHello_heard (h := h) hfw hm hopen, hred.trans ?_, fun hs => hshows.sees (State.mirrorBase_regsOk hs 64)⟩
    rw [hbase.red]
  · obtain ⟨hfw, hm⟩ := hheard
    have heq := execRenew_heard (expiry := expiry) hfw hm hfor
    cases byHb
    · have hbase := s.mirrorBase_sameButQueues 8
      obtain ⟨hexp, hrel, hh, -, hel⟩ := (s.mirrorBase 8).renewed_renews none expiry
      rw [hbase.red] at hel
      exact ⟨_, heq.trans (congrArg Host.Outcome.next (State.fromMirror_open (hopen rfl) _)), hexp, hrel, hh, fun h => absurd h (by decide), hel⟩
    · obtain ⟨hexp, hrel, hh, hser, hel⟩ := s.hearBeat.renewed_renews (some serial) expiry
      exact ⟨_, heq, hexp, hrel, hh, fun _ => hser, hel⟩
  · obtain ⟨hfw, hm⟩ := hheard
    have hbyHb := State.foreign_byHeartbeat hfor
    have hcond : ¬(s.firmwareUp = false ∨ (byHb = false ∧ s.red.mirrorUp = false)) := fun hc => hc.elim
      (fun h => by rw [hfw] at h; cases h) fun h => by rw [hbyHb] at h; cases h.1
    constructor
    · simp only [exec, execRenew]
      rw [if_neg hcond, if_pos hfor]
    · simp only [exec, execRelease]
      rw [if_neg hcond, if_pos hfor]
  · obtain ⟨hfw, hm⟩ := hheard
    have heq := execRelease_heard (last := last) (reason := reason) hfw hm hfor
    cases byHb
    · have hbase := s.mirrorBase_sameButQueues 10
      obtain ⟨hrx, hrole, hshows, hlost⟩ := (s.mirrorBase 10).released_releases reason
      rw [hbase.red] at hrole hlost
      exact ⟨_, heq.trans (congrArg Host.Outcome.next (State.fromMirror_open (hopen rfl) _)), hrx, hrole, fun hs => hshows.sees (State.mirrorBase_regsOk hs 10),
        fun ha hr hh hp => ⟨(hlost ha hr hh hp).1, fun hs => (hlost ha hr hh hp).2.sees (State.mirrorBase_regsOk hs 10)⟩⟩
    · obtain ⟨hrx, hrole, hshows, hlost⟩ := s.hearBeat.released_releases reason
      have hok : s.regsOk → s.hearBeat.regsOk := fun hs => State.count_regsOk (s := { s with red := _ }) hs Reg.HB_RX
      exact ⟨_, heq, hrx, hrole, fun hs => hshows.sees (hok hs),
        fun ha hr hh hp => ⟨(hlost ha hr hh hp).1, fun hs => (hlost ha hr hh hp).2.sees (hok hs)⟩⟩
  · refine ⟨s.lineSeen level, (execOwnIl_eq level).trans (if_neg fun hc => ?_), rfl, rfl, rfl, fun hl => if_neg (by rw [hl]; decide)⟩
    obtain ⟨hl, hout, -⟩ := hc
    exact absurd (hfree.resolve_left (by rw [hl]; decide)) (by rw [hout]; decide)
  · obtain ⟨hyield, hlow, hshows⟩ := (s.lineSeen level).ownIlConflict_yields hout
    exact ⟨_, (execOwnIl_eq level).trans (if_pos ⟨hl, hout, hcheck, hup, hheard, hrole⟩), hyield, hlow, hshows⟩

end Sys2Proof.Machine
end

section
/-! ## A standby that follows its peer: R30, R431, R433, R435, R439, R441 -/

namespace Sys2Proof.Machine

theorem State.sameButQueues.mode {s t : State} (h : s.sameButQueues t) : t.mode = s.mode := by
  unfold State.sameButQueues at h
  rw [h]

theorem State.sameButQueues.strands {s t : State} (h : s.sameButQueues t) : t.strands = s.strands := by
  unfold State.sameButQueues at h
  rw [h]

/-! ### What the installing of a full-state copy leaves as it is (R441) -/

/-- The parts of the state that O49 reads after a copy, apart from what the copy itself brings. -/
def State.keepsCopied (s t : State) : Prop :=
  t.red = s.red ∧ t.mode = s.mode ∧ t.strands = s.strands ∧ t.lamp.faultMap = s.lamp.faultMap ∧ t.fs.buffers = s.fs.buffers ∧
    t.fs.safeImage = s.fs.safeImage ∧ t.fs.emergImage = s.fs.emergImage

theorem State.keepsCopied_refl (s : State) : s.keepsCopied s := ⟨rfl, rfl, rfl, rfl, rfl, rfl, rfl⟩

theorem State.keepsCopied_of_eq {s t : State} (hred : t.red = s.red) (hmode : t.mode = s.mode) (hstrands : t.strands = s.strands)
    (hlamp : t.lamp = s.lamp) (hfs : t.fs = s.fs) : s.keepsCopied t :=
  ⟨hred, hmode, hstrands, by rw [hlamp], by rw [hfs], by rw [hfs], by rw [hfs]⟩

theorem State.keepsCopied.trans {s t u : State} (h1 : s.keepsCopied t) (h2 : t.keepsCopied u) : s.keepsCopied u := by
  obtain ⟨a1, b1, c1, d1, e1, f1, g1⟩ := h1
  obtain ⟨a2, b2, c2, d2, e2, f2, g2⟩ := h2
  exact ⟨a2.trans a1, b2.trans b1, c2.trans c1, d2.trans d1, e2.trans e1, f2.trans f1, g2.trans g1⟩

theorem State.keepsCopied_foldl {α : Type} {f : State → α → State} (hf : ∀ (t : State) (x : α), t.keepsCopied (f t x))
    (l : List α) (s : State) : s.keepsCopied (l.foldl f s) := by
  induction l generalizing s with
  | nil => exact s.keepsCopied_refl
  | cons x l ih => exact (hf s x).trans (ih _)

theorem State.setRegN_keepsCopied (s : State) (a n : Nat) : s.keepsCopied (s.setRegN a n) :=
  State.keepsCopied_of_eq rfl rfl rfl rfl rfl

theorem State.sendOwn_keepsCopied (s : State) (p : Port) (f : OwnFrame) : s.keepsCopied (s.sendOwn p f) := by
  apply State.keepsCopied_of_eq <;> unfold State.sendOwn <;> simp only <;> split <;> simp

theorem State.loadParamReg_keepsCopied (s : State) (id : Nat) : s.keepsCopied (s.loadParamReg id) := by
  apply State.keepsCopied_of_eq <;> unfold State.loadParamReg State.setPortField State.writeArbRank State.setField <;> simp only <;>
    split <;> (try split) <;> simp

theorem State.syncGroups_keepsCopied (s old : State) : s.keepsCopied (s.syncGroups old) := by
  have filters : ∀ (p : Port) (l : List (Nat × Bool)) (t : State), t.keepsCopied (t.loadFilters p l) := fun p l t =>
    State.keepsCopied_foldl (fun v i => by
      split <;> exact (v.setRegN_keepsCopied _ _).trans (State.setRegN_keepsCopied _ _ _)) _ _
  have report : ∀ (t : State) (g : List Byte), t.keepsCopied (t.sendReport g) := fun t g =>
    State.keepsCopied_foldl (fun v p => v.sendOwn_keepsCopied p _) _ _
  unfold State.syncGroups
  refine State.keepsCopied.trans ?_ (State.keepsCopied_foldl report _ _)
  refine State.keepsCopied.trans ?_ ((filters .a _ _).trans ((filters .b _ _).trans (filters .sv _ _)))
  exact State.keepsCopied_of_eq rfl rfl rfl rfl rfl

theorem State.putTable_keepsCopied (s : State) (id : Nat) (m : SMap Nat) : s.keepsCopied (s.putTable id m) := by
  unfold State.putTable
  split
  · exact State.keepsCopied_of_eq rfl rfl rfl rfl rfl
  · split <;> exact ⟨rfl, rfl, rfl, rfl, rfl, rfl, rfl⟩

theorem State.applyLayer_keepsCopied (s : State) (r : LayerReq) : s.keepsCopied (s.applyLayer r) := by
  unfold State.applyLayer State.setLayer
  split
  · exact ⟨rfl, rfl, rfl, rfl, rfl, rfl, rfl⟩
  · dsimp only
    split <;> exact ⟨rfl, rfl, rfl, rfl, rfl, rfl, rfl⟩

/-- R441: what the standby shows of the copy that it has taken. -/
theorem State.install_installs (s : State) (c : FullCopy) : (s.install c).red = s.red ∧ (s.install c).mode = s.mode ∧
    (s.install c).strands = s.strands ∧ (s.install c).lamp.faultMap = c.faultMap ∧ (s.install c).fs.buffers = c.buffers ∧
    (s.install c).fs.safeImage = c.safeImage ∧ (s.install c).fs.emergImage = c.emergImage := by
  have htables : ∀ u : State, u.keepsCopied u.tableParams := fun u => State.keepsCopied_of_eq rfl rfl rfl rfl rfl
  have hrest : ∀ u : State, u.keepsCopied (c.layers.foldl State.applyLayer
      (c.tables.foldl (fun s q => s.putTable q.1 q.2) u.tableParams)).loadParamRegs := fun u =>
    (htables u).trans ((State.keepsCopied_foldl (fun t q => t.putTable_keepsCopied _ _) _ _).trans
      ((State.keepsCopied_foldl State.applyLayer_keepsCopied _ _).trans
        (State.keepsCopied_foldl State.loadParamReg_keepsCopied _ _)))
  unfold State.install
  exact hrest { s with ctrl := _, anvil := _, lamp := _, fs := _ }

/-- R441: the last chunk of the copy is acknowledged, and the copy takes effect. -/
theorem State.takeState_installs (s : State) (off : Nat) (c : FullCopy) (hrole : s.red.role = .standby)
    (hup : s.red.mirrorUp = true) : (s.takeState off (some c)).red.awaitDigest = true ∧
    (s.takeState off (some c)).red.resyncWanted = false ∧ (s.takeState off (some c)).lamp.faultMap = c.faultMap ∧
    (s.takeState off (some c)).fs.buffers = c.buffers ∧ (s.takeState off (some c)).fs.safeImage = c.safeImage ∧
    (s.takeState off (some c)).fs.emergImage = c.emergImage ∧
    (s.takeState off (some c)).red.mirrorSent = ⟨8, s.mirrorHeader 8 8, .bytes (beBytes 8 off)⟩ :: s.red.mirrorSent ∧
    (s.takeState off (some c)).mode = s.mode ∧ (s.takeState off (some c)).strands = s.strands := by
  obtain ⟨u, hu⟩ : ∃ u, u = s.sendMirror 8 (.bytes (beBytes 8 off)) := ⟨_, rfl⟩
  have hsent : u = { s with red := { s.red with
      mirrorSent := ⟨8, s.mirrorHeader 8 8, .bytes (beBytes 8 off)⟩ :: s.red.mirrorSent
      mirrorSeq := (s.red.mirrorSeq + 1) % 2 ^ 32 } } := by
    rw [hu]
    exact if_pos hup
  obtain ⟨v, hv⟩ : ∃ v, v = ((u.install c).count Reg.RESYNCS).syncGroups u := ⟨_, rfl⟩
  have heq : s.takeState off (some c) = { v with red := { v.red with awaitDigest := true, resyncWanted := false } } := by
    rw [hv, hu, State.takeState, if_neg (by rw [hrole]; decide)]
  obtain ⟨ired, imode, istrands, ifault, ibuf, isafe, iemerg⟩ := u.install_installs c
  have hkeep : (u.install c).keepsCopied v := by
    rw [hv]
    exact State.keepsCopied.trans (State.setRegN_keepsCopied _ _ _) (State.syncGroups_keepsCopied _ _)
  obtain ⟨kred, kmode, kstrands, kfault, kbuf, ksafe, kemerg⟩ := hkeep
  rw [heq]
  refine ⟨rfl, rfl, kfault.trans ifault, kbuf.trans ibuf, ksafe.trans isafe, kemerg.trans iemerg, ?_, (kmode.trans imode).trans ?_,
    (kstrands.trans istrands).trans ?_⟩
  · show v.red.mirrorSent = _
    rw [kred, ired, hsent]
  · rw [hsent]
  · rw [hsent]

/-! ### The copy that is sent (R433, R441) -/

/-- R441: a chunk leaves while bytes are left. -/
theorem State.sendCopy_sends {s : State} {x : CopySend} (hup : s.red.mirrorUp = true) (hleft : x.next < x.size) :
    (s.sendCopy x).red.copy = some { x with next := x.next + min 8184 (x.size - x.next) } ∧
      ∃ h, (s.sendCopy x).red.mirrorSent =
        ⟨6, h, .state x.next (min 8184 (x.size - x.next)) x.copy⟩ :: s.red.mirrorSent := by
  obtain ⟨u, hu⟩ : ∃ u : State, u = { s with red := { s.red with
      copy := some { x with next := x.next + min 8184 (x.size - x.next) } } } := ⟨_, rfl⟩
  have hsend : ∀ y, u.sendMirror 6 y = { u with red := { u.red with
      mirrorSent := ⟨6, u.mirrorHeader 6 y.len, y⟩ :: u.red.mirrorSent, mirrorSeq := (u.red.mirrorSeq + 1) % 2 ^ 32 } } := fun y => by
    refine if_pos ?_
    rw [hu]
    exact hup
  have heq : s.sendCopy x = (u.sendMirror 6 (.state x.next (min 8184 (x.size - x.next)) x.copy)).issue 4 := by
    rw [hu, State.sendCopy, if_pos hleft]
  obtain ⟨arb, harb⟩ := State.issue_arb (u.sendMirror 6 (.state x.next (min 8184 (x.size - x.next)) x.copy)) 4
  have hred : (s.sendCopy x).red = (u.sendMirror 6 (.state x.next (min 8184 (x.size - x.next)) x.copy)).red := by
    rw [heq, harb]
  rw [hred, hsend, hu]
  exact ⟨rfl, _, rfl⟩

theorem State.sendCopy_ends {s : State} {x : CopySend} (hend : x.size ≤ x.next) :
    s.sendCopy x = { s with red := { s.red with copy := none } } := if_neg (Nat.not_lt.mpr hend)

theorem State.acked_copy {s : State} {x : CopySend} (h : s.red.copy = some x) (off : Nat) :
    s.acked (some off) = s.sendCopy x := by
  simp only [State.acked, h]

/-- R441: the first chunk of a copy of at least one byte leaves. -/
theorem State.startCopy_sends {s : State} (hup : s.red.mirrorUp = true) : ∃ y, s.startCopy.red.copy = some y ∧ y.next ≤ y.size ∧
    0 < y.next ∧ ∃ h, s.startCopy.red.mirrorSent = ⟨6, h, .state 0 y.next y.copy⟩ :: s.red.mirrorSent := by
  obtain ⟨n, hn⟩ : ∃ n, n = Config.freeNat s.draws + 1 := ⟨_, rfl⟩
  obtain ⟨c, hc⟩ : ∃ c, c = s.fullCopy := ⟨_, rfl⟩
  obtain ⟨u, hu⟩ : ∃ u : State, u = { s with draws := s.draws + 1, red := { s.red with
      toldZones := s.lamp.zones, toldFaults := s.lamp.faultMap, toldLatency := [], zoneQueue := [], faultQueue := [] } } := ⟨_, rfl⟩
  have heq : s.startCopy = u.sendCopy ⟨c, n, 0⟩ := by
    rw [hu, hn, hc]
    rfl
  obtain ⟨hcopy, h, hsent⟩ := State.sendCopy_sends (s := u) (x := ⟨c, n, 0⟩) (by rw [hu]; exact hup) (by show 0 < n; omega)
  rw [← heq] at hcopy hsent
  refine ⟨_, hcopy, ?_, ?_, h, ?_⟩
  · show 0 + min 8184 (n - 0) ≤ n
    omega
  · show 0 < 0 + min 8184 (n - 0)
    omega
  · rw [hsent, hu]
    simp only [Nat.zero_add]

/-! ### Frames of the peer (R431) -/

theorem State.mirrorOpen_anti {s : State} {m n : Nat} (h : s.mirrorOpen n = true) (hle : m ≤ n) : s.mirrorOpen m = true := by
  simp only [State.mirrorOpen, ClassQueue.full, Bool.and_eq_true, Bool.not_eq_true', Bool.and_eq_false_iff,
    decide_eq_false_iff_not] at h ⊢
  obtain ⟨⟨hroom, hen⟩, haway⟩ := h
  exact ⟨⟨hroom.imp_left (by omega), hen⟩, haway⟩

/-- R431: a frame that finds the SC halted waits in queue set 3. -/
theorem State.fromMirror_away {s : State} (h : s.consumerAway 3 = true) (len : Nat) (f : State → State) :
    s.fromMirror len f = (s.mirrorArrives len).1 := by
  have hnot : (s.mirrorArrives len).2 = false := by
    unfold State.mirrorArrives
    dsimp only
    split
    · rfl
    · rw [h]
      rfl
  unfold State.fromMirror
  dsimp only
  rw [hnot]
  rfl

section Frames

variable {s : State} (hfw : s.firmwareUp = true) (hup : s.red.mirrorUp = true)
include hfw hup

theorem State.mirror_serves : ¬(s.firmwareUp = false ∨ s.red.mirrorUp = false) := by
  rw [hfw, hup]
  decide

theorem execRecord_badCrc {f : RecordFrame} (hcrc : f.crcOk = false) : execRecord f s = .next (s.count Reg.MR_CRC_ERR) := by
  rw [execRecord, if_neg (State.mirror_serves hfw hup), if_pos hcrc]

theorem execRecord_good {f : RecordFrame} (hcrc : f.crcOk = true) :
    execRecord f s = .next (s.fromMirror (4 + f.bytes) (·.takeRecord f)) := by
  rw [execRecord, if_neg (State.mirror_serves hfw hup), if_neg (by rw [hcrc]; decide)]

theorem execState_badCrc (off : Nat) (c : Option FullCopy) : execState off false c s = .next (s.count Reg.MR_CRC_ERR) := by
  rw [execState, if_neg (State.mirror_serves hfw hup), if_pos rfl]

/-- The state that has drawn the length of a chunk of the copy (log 133). -/
def State.drawn (s : State) : State := { s with draws := s.draws + 1 }

/-- R431: a chunk passes queue set 3; its length is a free value. -/
theorem execState_passes (off : Nat) (c : Option FullCopy) (hopen : s.mirrorOpen 8192 = true) :
    ∃ b, s.sameButQueues b ∧ execState off true c s = .next (b.takeState off c) := by
  have hlen : 8 + Config.freeNat s.draws % 8185 ≤ 8192 := by
    have := Nat.mod_lt (Config.freeNat s.draws) (show 0 < 8185 by decide)
    omega
  have hdrawn : s.drawn.mirrorOpen (8 + Config.freeNat s.draws % 8185) = true := State.mirrorOpen_anti (s := s) hopen hlen
  have hbase : s.sameButQueues s.drawn := rfl
  refine ⟨_, hbase.trans (s.drawn.mirrorBase_sameButQueues (8 + Config.freeNat s.draws % 8185)), ?_⟩
  rw [execState, if_neg (State.mirror_serves hfw hup), if_neg (by decide)]
  exact congrArg Host.Outcome.next (State.fromMirror_open hdrawn _)

theorem execResyncReq_passes (hopen : s.mirrorOpen 0 = true) (hrole : s.red.role = .active) :
    execResyncReq s = .next (s.mirrorBase 0).startCopy := by
  rw [execResyncReq, if_neg (State.mirror_serves hfw hup), State.fromMirror_open hopen,
    if_pos (by rw [(s.mirrorBase_sameButQueues 0).red]; exact hrole)]

theorem execAck_passes {tick : Nat} {off : Option Nat} (hopen : s.mirrorOpen (if off.isSome then 8 else 4) = true) :
    execAck tick off s = .next ((s.mirrorBase (if off.isSome then 8 else 4)).acked off) := by
  rw [execAck, if_neg (State.mirror_serves hfw hup), State.fromMirror_open hopen]

theorem execMailbox_passes {response : Bool} {op : BitVec 16} {q : Request} (hopen : s.mirrorOpen (16 + q.len.toNat) = true) :
    execMailbox response op q s = .next (if response then s.mirrorBase (16 + q.len.toNat) else
      (s.mirrorBase (16 + q.len.toNat)).mailbox op.toNat { q with chan := .c3, from_ := ⟨[], 0⟩ } (bodyOf op.toNat)) := by
  rw [execMailbox, if_neg (State.mirror_serves hfw hup), State.fromMirror_open hopen]

end Frames

/-- R435: a forwarded command that fails on the standby makes it stale. -/
theorem State.replied_stale {s : State} {op : Nat} {r : Request} {rep : Reply} (hchan : r.chan = .c3)
    (hop : forwarded.contains op = true) (hrep : rep.accepts = false) : (s.replied op r rep).red.stale = true := by
  have hforward : s.forward op r rep = s.setStale := by
    rw [State.forward, if_pos hchan, hop, hrep]
    rfl
  have hanswer : ∀ t : State, (t.answer op r rep).red.stale = t.red.stale := fun t => by
    cases rep with
    | done st p => exact State.complete_red_stale _ _ _ _ _ _
    | wait w => rfl
  unfold State.replied State.afterRequest
  rw [hforward, if_neg (by rw [hchan]; decide), hanswer]
  exact (State.setStale_frame s).1

/-- Settles O49: each frame by the queue that it passes and by what the SC makes of it. -/
theorem standbyFollowsItsPeer : Obligations.StandbyFollowsItsPeer := by
  unfold Obligations.StandbyFollowsItsPeer
  intro s u f r c off tick op q x q3 rec0 ack0 ack1 box chunk hfw hup
  refine ⟨execRecord_badCrc hfw hup, fun hcrc hopen hrole hf => ?_, fun hcrc haway => ?_, execState_badCrc hfw hup off _,
    fun hopen hrole => ⟨?_, ?_⟩, fun hopen hrole => ?_, fun hopen => ?_, fun hopen hcopy => ⟨fun hleft => ?_, fun hend => ?_⟩,
    fun hopen => ⟨execMailbox_passes hfw hup hopen, fun hbegun => ⟨_, ?_, rfl, fun hop hrep => ?_⟩⟩⟩
  · have hred : rec0.red = s.red := (s.mirrorBase_sameButQueues (4 + f.bytes)).red
    refine (execRecord_good hfw hup hcrc).trans ?_
    rw [State.fromMirror_open hopen]
    show Host.Outcome.next (rec0.takeRecord f) = _
    rw [State.takeRecord, if_neg (by rw [hred, hrole]; decide), hf, hred]
  · exact ⟨_, (execRecord_good hfw hup hcrc).trans (congrArg Host.Outcome.next (State.fromMirror_away haway _ _)),
      s.mirrorArrives_sameButQueues _⟩
  · obtain ⟨b, hb, heq⟩ := execState_passes hfw hup off none hopen
    refine ⟨_, b.mirrorHeader 8 8, heq, ?_⟩
    rw [State.takeState, if_neg (by rw [hb.red, hrole]; decide), State.sendMirror, if_pos (by rw [hb.red]; exact hup), ← hb.red]
    rfl
  · obtain ⟨b, hb, heq⟩ := execState_passes hfw hup off (some c) hopen
    obtain ⟨h1, h2, h3, h4, h5, h6, h7, h8, h9⟩ := b.takeState_installs off c (by rw [hb.red]; exact hrole)
      (by rw [hb.red]; exact hup)
    exact ⟨_, _, heq, h1, h2, h3, h4, h5, h6, by rw [h7, hb.red], h8.trans hb.mode, h9.trans hb.strands⟩
  · have hred := (s.mirrorBase_sameButQueues 0).red
    obtain ⟨y, hy, hle, hpos, h, hsent⟩ := State.startCopy_sends (s := s.mirrorBase 0) (by rw [hred]; exact hup)
    exact ⟨_, y, execResyncReq_passes hfw hup hopen hrole, hy, hle, hpos, h, by rw [hsent, hred]⟩
  · refine (execAck_passes (tick := tick) (off := none) hfw hup hopen).trans ?_
    show Host.Outcome.next (ack0.acked none) = _
    rw [State.acked, (s.mirrorBase_sameButQueues 4).red]
  · have hred := (s.mirrorBase_sameButQueues 8).red
    obtain ⟨hnext, h, hsent⟩ := State.sendCopy_sends (s := s.mirrorBase 8) (x := x) (by rw [hred]; exact hup) hleft
    have heq := State.acked_copy (s := s.mirrorBase 8) (by rw [hred]; exact hcopy) off
    refine ⟨_, execAck_passes (tick := tick) (off := some off) hfw hup hopen, ?_, h, ?_⟩
    · exact (congrArg (fun t => t.red.copy) heq).trans hnext
    · refine (congrArg (fun t => t.red.mirrorSent) heq).trans (hsent.trans ?_)
      rw [hred]
  · have hred := (s.mirrorBase_sameButQueues 8).red
    have heq := State.acked_copy (s := s.mirrorBase 8) (by rw [hred]; exact hcopy) off
    refine (execAck_passes (tick := tick) (off := some off) hfw hup hopen).trans (congrArg Host.Outcome.next (heq.trans ?_))
    rw [State.sendCopy_ends hend, hred]
  · exact (execMailbox_passes hfw hup hopen).trans (congrArg Host.Outcome.next (State.mailbox_begun_of_body hbegun rfl))
  · exact State.replied_stale (r := q3) rfl hop hrep

end Sys2Proof.Machine
end

section
/-! ## Takeover and switchover: R423 to R425, R430 -/

namespace Sys2Proof.Machine

/-! ### What decides which strands are driven -/

/-- The step leaves what decides, beside mode and role, which strands can be driven: banks, supplies, parameters and the tick;
it lets nothing new wait and keeps the sparse stores canonical. -/
structure State.keepsBoard (s t : State) : Prop where
  hearth : t.hearth = s.hearth
  banks : t.banks = s.banks
  sys : t.sys = s.sys
  sched : t.sched = s.sched
  live : t.ctrl.live = s.ctrl.live
  waiting : t.ctrl.waiting = s.ctrl.waiting
  nvm : t.nvm = s.nvm
  up : t.up = s.up
  stores : s.storesOk → t.storesOk

theorem State.keepsBoard_refl (s : State) : s.keepsBoard s := ⟨rfl, rfl, rfl, rfl, rfl, rfl, rfl, rfl, id⟩

theorem State.keepsBoard.trans {s t u : State} (h : s.keepsBoard t) (h' : t.keepsBoard u) : s.keepsBoard u :=
  ⟨h'.hearth.trans h.hearth, h'.banks.trans h.banks, h'.sys.trans h.sys, h'.sched.trans h.sched, h'.live.trans h.live,
    h'.waiting.trans h.waiting, h'.nvm.trans h.nvm, h'.up.trans h.up, fun hs => h'.stores (h.stores hs)⟩

theorem State.keepsBoard.after {s t u : State} (h' : t.keepsBoard u) (h : s.keepsBoard t) : s.keepsBoard u := h.trans h'

theorem State.setStrand_keepsBoard (s : State) (n : Nat) (t : Strand) : s.keepsBoard (s.setStrand n t) :=
  ⟨rfl, rfl, rfl, rfl, rfl, rfl, rfl, rfl, fun hs => State.setStrand_storesOk hs n t⟩

theorem State.setRegN_keepsBoard (s : State) (a n : Nat) : s.keepsBoard (s.setRegN a n) :=
  ⟨rfl, rfl, rfl, rfl, rfl, rfl, rfl, rfl, id⟩

theorem State.raiseWith_keepsBoard (s : State) (e : Ev) (i d : Nat) : s.keepsBoard (s.raiseWith e i d) := by
  refine ⟨?_, ?_, ?_, ?_, ?_, ?_, ?_, ?_, fun hs => State.storesOk_of_eq hs ?_ ?_ ?_ ?_ ?_ ?_ ?_⟩ <;> simp

theorem State.raise_keepsBoard (s : State) (e : Ev) : s.keepsBoard (s.raise e) := s.raiseWith_keepsBoard e 0 0

theorem State.emit_keepsBoard (s : State) (src kind code payload : Nat) : s.keepsBoard (s.emit src kind code payload) := by
  refine ⟨?_, ?_, ?_, ?_, ?_, ?_, ?_, ?_, fun hs => State.storesOk_of_eq hs ?_ ?_ ?_ ?_ ?_ ?_ ?_⟩ <;> simp

theorem State.changeMode_keepsBoard (s : State) (m : Mode) (trigger : Nat) : s.keepsBoard (s.changeMode m trigger) := by
  unfold State.changeMode
  split
  · exact s.keepsBoard_refl
  · exact State.keepsBoard.after (State.emit_keepsBoard _ _ _ _ _) ⟨rfl, rfl, rfl, rfl, rfl, rfl, rfl, rfl, id⟩

theorem State.changeMode_mode (s : State) (m : Mode) (trigger : Nat) : (s.changeMode m trigger).mode = m := by
  unfold State.changeMode
  split
  · next h => exact h
  · exact State.emit_mode _ _ _ _ _

theorem State.changeMode_red (s : State) (m : Mode) (trigger : Nat) : (s.changeMode m trigger).red = s.red := by
  unfold State.changeMode
  split
  · rfl
  · exact State.emit_red _ _ _ _ _

theorem State.changeMode_strands (s : State) (m : Mode) (trigger : Nat) : (s.changeMode m trigger).strands = s.strands := by
  unfold State.changeMode
  split
  · rfl
  · exact State.emit_strands _ _ _ _ _

theorem State.endSnapshot_frame (s : State) : s.keepsBoard s.endSnapshot ∧ s.endSnapshot.mode = s.mode ∧
    s.endSnapshot.red = s.red ∧ s.endSnapshot.strands = s.strands := by
  have hfold : ∀ (l : List (Nat × Stream)) (u : State), u.keepsBoard (l.foldl (fun s p => s.settle p.1) u) ∧
      (l.foldl (fun s p => s.settle p.1) u).mode = u.mode ∧ (l.foldl (fun s p => s.settle p.1) u).red = u.red ∧
      (l.foldl (fun s p => s.settle p.1) u).strands = u.strands := fun l => by
    induction l with
    | nil => exact fun u => ⟨u.keepsBoard_refl, rfl, rfl, rfl⟩
    | cons p l ih =>
      intro u
      obtain ⟨hb, hm, hr, hs⟩ := ih (u.settle p.1)
      exact ⟨hb.after ⟨rfl, rfl, rfl, rfl, rfl, rfl, rfl, rfl, fun hs => State.setStream_storesOk hs _ _⟩, hm, hr, hs⟩
  obtain ⟨hb, hm, hr, hs⟩ := hfold s.fs.streams { s with fs := { s.fs with holdSrc := [], holdTicks := 0 } }
  exact ⟨hb.after ⟨rfl, rfl, rfl, rfl, rfl, rfl, rfl, rfl, id⟩, hm, hr, hs⟩

/-- R194: what another mode leaves as it is, on a device that does not leave SERVICE. -/
theorem State.enterMode_frame {s : State} (hmode : s.mode ≠ .service) (m : Mode) (trigger : Nat) :
    s.keepsBoard (s.enterMode m trigger) ∧ (s.enterMode m trigger).mode = m ∧ (s.enterMode m trigger).red = s.red ∧
      (s.enterMode m trigger).strands = s.strands := by
  obtain ⟨u, hu⟩ : ∃ u, u = (s.changeMode m trigger).restartRuns := ⟨_, rfl⟩
  have hboard : s.keepsBoard u := hu ▸ (s.changeMode_keepsBoard m trigger).trans
    ⟨rfl, rfl, rfl, rfl, rfl, rfl, rfl, rfl, id⟩
  have hm : u.mode = m := hu ▸ s.changeMode_mode m trigger
  have hr : u.red = s.red := hu ▸ s.changeMode_red m trigger
  have hs : u.strands = s.strands := hu ▸ s.changeMode_strands m trigger
  have heq : s.enterMode m trigger = if s.mode = .hold then u.endSnapshot else u := by
    rw [hu, State.enterMode, State.afterMode, if_neg hmode]
  obtain ⟨eb, em, er, es⟩ := u.endSnapshot_frame
  rw [heq]
  split
  · exact ⟨hboard.trans eb, em.trans hm, er.trans hr, es.trans hs⟩
  · exact ⟨hboard, hm, hr, hs⟩

/-! ### The device presents again (R194, R424) -/

theorem State.present_frame {s : State} (hmode : s.mode = .shadow) (trigger : Nat) : s.keepsBoard (s.present trigger) ∧
    (s.present trigger).mode = (if s.recordMode = some .hold then .hold else .live) ∧ (s.present trigger).red = s.red := by
  obtain ⟨u, hu⟩ : ∃ u, u = s.enterMode .live trigger := ⟨_, rfl⟩
  obtain ⟨hb, hm, hr, -⟩ := State.enterMode_frame (s := s) (by rw [hmode]; decide) .live trigger
  rw [← hu] at hb hm hr
  obtain ⟨v, hv⟩ : ∃ v, v = if decide (s.recordMode = some .hold) then (u.changeMode .hold Trigger.HOLD_RULE).raise Ev.HOLD_ENTER
    else u := ⟨_, rfl⟩
  have hheld : s.keepsBoard v ∧ v.mode = (if s.recordMode = some .hold then .hold else .live) ∧ v.red = s.red := by
    rw [hv]
    by_cases hold : s.recordMode = some .hold
    · rw [if_pos hold, if_pos (decide_eq_true hold), State.raise_mode, State.raise_red, State.changeMode_mode,
        State.changeMode_red]
      exact ⟨hb.trans ((u.changeMode_keepsBoard _ _).trans (State.raise_keepsBoard _ _)), rfl, hr⟩
    · rw [if_neg hold, if_neg (by simpa using hold)]
      exact ⟨hb, hm, hr⟩
  obtain ⟨b, hb'⟩ : ∃ b : Bool, b = (decide (s.recordMode = some .hold) && (decide (s.param P.HOLD_POLICY = 1) &&
    s.layer0Streams.all fun i => decide ((s.stream i).mark = none))) := ⟨_, rfl⟩
  obtain ⟨w, hw⟩ : ∃ w, w = if b then v.raise Ev.REPLAY_NO_MARK else v := ⟨_, rfl⟩
  have hlast : v.keepsBoard w ∧ w.mode = v.mode ∧ w.red = v.red := by
    rw [hw]
    split
    · exact ⟨State.raise_keepsBoard _ _, State.raise_mode _ _, State.raise_red _ _⟩
    · exact ⟨v.keepsBoard_refl, rfl, rfl⟩
  have heq : s.present trigger = { w with fs := { w.fs with
      shortRun := s.fs.shortRun, goodRun := s.fs.goodRun, holdTicks := s.fs.holdTicks } } := by
    rw [hw, hb', hv, hu]
    rfl
  rw [heq]
  exact ⟨(hheld.1.trans hlast.1).trans ⟨rfl, rfl, rfl, rfl, rfl, rfl, rfl, rfl, id⟩, hlast.2.1.trans hheld.2.1,
    hlast.2.2.trans hheld.2.2⟩

/-! ### Steps that keep mode and role -/

/-- The step leaves the mode and the pair's state as well. -/
def State.keepsDuty (s t : State) : Prop := s.keepsBoard t ∧ t.mode = s.mode ∧ t.red = s.red

theorem State.keepsDuty_refl (s : State) : s.keepsDuty s := ⟨s.keepsBoard_refl, rfl, rfl⟩

theorem State.keepsDuty.trans {s t u : State} (h : s.keepsDuty t) (h' : t.keepsDuty u) : s.keepsDuty u :=
  ⟨h.1.trans h'.1, h'.2.1.trans h.2.1, h'.2.2.trans h.2.2⟩

theorem State.keepsDuty_foldl {α : Type} {f : State → α → State} (hf : ∀ (t : State) (x : α), t.keepsDuty (f t x))
    (l : List α) (s : State) : s.keepsDuty (l.foldl f s) := by
  induction l generalizing s with
  | nil => exact s.keepsDuty_refl
  | cons x l ih => exact (hf s x).trans (ih _)

theorem State.setStrand_keepsDuty (s : State) (n : Nat) (t : Strand) : s.keepsDuty (s.setStrand n t) :=
  ⟨s.setStrand_keepsBoard n t, rfl, rfl⟩

theorem State.raise_keepsDuty (s : State) (e : Ev) : s.keepsDuty (s.raise e) :=
  ⟨s.raise_keepsBoard e, State.raise_mode _ _, State.raise_red _ _⟩

theorem State.count_keepsDuty (s : State) (a : Nat) : s.keepsDuty (s.count a) := ⟨s.setRegN_keepsBoard a _, rfl, rfl⟩

theorem State.wire_keepsDuty (s : State) (n : Nat) (l : List StrandItem) : s.keepsDuty (s.wire n l) := by
  unfold State.wire
  dsimp only
  split
  · exact s.setStrand_keepsDuty _ _
  · exact s.keepsDuty_refl

/-- R513: giving up a test of a strand or a bank touches strands at most. -/
theorem State.abortTest_keepsDuty (s : State) {t : Test} (ht : t.target = 1 ∨ t.target = 4) : s.keepsDuty (s.abortTest t) := by
  have hinit : ∀ u : State, u.keepsDuty (u.reinitBlock t) := fun u => by
    unfold State.reinitBlock
    rcases ht with h | h <;> rw [h]
    · exact u.keepsDuty_refl
    · exact State.keepsDuty_foldl (fun v n => v.setStrand_keepsDuty _ _) _ _
  obtain ⟨u, hu⟩ : ∃ u, u = ({ s with draws := s.draws + 1 } : State).keepResult
    ⟨t.id, resultAborted, if t.running then (s.up - t.startUp) / 1000 else 0, Config.freeNat s.draws⟩ := ⟨_, rfl⟩
  have hkept : s.keepsDuty u := by
    rw [hu]
    exact ⟨⟨rfl, rfl, rfl, rfl, rfl, rfl, rfl, rfl, id⟩, rfl, rfl⟩
  have heq : s.abortTest t = ((if t.running then u.reinitBlock t else u).raise Ev.BIST_DONE).raise Ev.BIST_ABORTED := by
    rw [hu]
    rfl
  rw [heq]
  refine hkept.trans (State.keepsDuty.trans ?_ ((State.raise_keepsDuty _ _).trans (State.raise_keepsDuty _ _)))
  split
  · exact hinit u
  · exact u.keepsDuty_refl

theorem State.abortTests_keepsDuty {s : State} (hit : Nat → Bool) (hw : ∀ w ∈ s.ctrl.waiting, ∀ op r, w.why ≠ .selfTest op r) :
    s.keepsDuty (s.abortTests hit) := by
  obtain ⟨out, hout⟩ : ∃ out, out = s.bist.tests.filter fun t => (decide (t.target = 1) || decide (t.target = 4)) && hit t.index :=
    ⟨_, rfl⟩
  have htarget : ∀ t ∈ out, t.target = 1 ∨ t.target = 4 := fun t ht => by
    rw [hout, List.mem_filter] at ht
    obtain ⟨-, ht⟩ := ht
    simp only [Bool.and_eq_true, Bool.or_eq_true, decide_eq_true_eq] at ht
    exact ht.1
  have haborts : ∀ (l : List Test) (u : State), (∀ t ∈ l, t.target = 1 ∨ t.target = 4) → u.keepsDuty (l.foldl State.abortTest u) := by
    intro l
    induction l with
    | nil => exact fun u _ => u.keepsDuty_refl
    | cons x l ih =>
      exact fun u hl => (u.abortTest_keepsDuty (hl x List.mem_cons_self)).trans (ih _ fun t ht => hl t (List.mem_cons_of_mem _ ht))
  obtain ⟨u, hu⟩ : ∃ u, u = (out.filter (·.running)).foldl (fun s t =>
    (bankStrands t.index).foldl (fun s n => s.setStrand n { s.strand n with nswNext := true }) s) (out.foldl State.abortTest s) :=
    ⟨_, rfl⟩
  have hkept : s.keepsDuty u := by
    rw [hu]
    exact (haborts out s htarget).trans (State.keepsDuty_foldl (fun v t => State.keepsDuty_foldl
      (fun w n => w.setStrand_keepsDuty _ _) _ _) _ _)
  have heq : s.abortTests hit = u.resumeDeferred := by
    rw [hu, hout]
    rfl
  rw [heq, State.resumeDeferred_of_none (by rw [hkept.1.waiting]; exact hw)]
  exact hkept

/-! ### Which strands are driven -/

/-- The strand's coder, bank and supply let it be driven, and the device runs. -/
def State.drivable (s : State) (n : Nat) : Prop :=
  (s.isNsp n = true ∨ s.isLegacy n = true) ∧ s.bankOk n = true ∧ s.sys.inReset = false ∧ s.dead = false

theorem State.drivable.congr {s t : State} {n : Nat} (h : s.drivable n) (hlive : t.ctrl.live = s.ctrl.live) (hnvm : t.nvm = s.nvm)
    (hbanks : t.banks = s.banks) (hsys : t.sys = s.sys) (hsched : t.sched = s.sched) : t.drivable n := by
  have hcoder : t.coder n = s.coder n := by
    unfold State.coder State.strandCfg State.paramBytes
    rw [hlive, hnvm]
  obtain ⟨hkind, hbank, hreset, hdead⟩ := h
  refine ⟨?_, ?_, by rw [hsys]; exact hreset, ?_⟩
  · unfold State.isNsp State.isLegacy at hkind ⊢
    rw [hcoder]
    exact hkind
  · unfold State.bankOk State.bankSupplied State.bank at hbank ⊢
    rw [hbanks, hsys]
    exact hbank
  · unfold State.dead at hdead ⊢
    rw [hsched]
    exact hdead

theorem State.drivable.keep {s t : State} {n : Nat} (h : s.drivable n) (hb : s.keepsBoard t) : t.drivable n :=
  h.congr hb.live hb.nvm hb.banks hb.sys hb.sched

theorem State.drivable.wantsDrive {s : State} {n : Nat} (h : s.drivable n) (hmode : s.mode = .live ∨ s.mode = .hold)
    (hrole : s.red.role = .active) : s.wantsDrive n = true := by
  obtain ⟨hkind, hbank, hreset, hdead⟩ := h
  have hfw : s.firmwareUp = true := by
    unfold State.firmwareUp
    rcases hmode with h | h <;> rw [h, hreset] <;> rfl
  have hshadow : s.mode ≠ .shadow := by
    rcases hmode with h | h <;> rw [h] <;> decide
  simp only [State.wantsDrive, hbank, hfw, hdead, hrole, Bool.and_eq_true, Bool.or_eq_true, decide_eq_true_eq]
  simp [hkind, hshadow]

/-- A pass over the strands drives each one that can be driven, once no visit lets one go. -/
theorem State.foldl_drives {f : State → Nat → State} (hkeep : ∀ (t : State) (m : Nat), t.keepsDuty (f t m))
    (hself : ∀ (t : State) (n : Nat), t.wantsDrive n = true → ((f t n).strand n).driving = true)
    (hother : ∀ (t : State) (m n : Nat), (t.strand n).driving = true → ((f t m).strand n).driving = true)
    {s : State} (hmode : s.mode = .live ∨ s.mode = .hold) (hrole : s.red.role = .active) {n : Nat} (hn : s.drivable n)
    {l : List Nat} (hmem : n ∈ l) : ((l.foldl f s).strand n).driving = true := by
  have hstays : ∀ (l : List Nat) (t : State), (t.strand n).driving = true → ((l.foldl f t).strand n).driving = true := fun l => by
    induction l with
    | nil => exact fun t h => h
    | cons m l ih => exact fun t h => ih _ (hother t m n h)
  induction l generalizing s with
  | nil => cases hmem
  | cons m l ih =>
    obtain ⟨hb, hm, hr⟩ := hkeep s m
    by_cases hnm : n = m
    · rw [List.foldl_cons, ← hnm]
      exact hstays l _ (hself s n (hn.wantsDrive hmode hrole))
    · exact ih (by rw [hm]; exact hmode) (by rw [hr]; exact hrole) (hn.keep hb) ((List.mem_cons.mp hmem).resolve_left hnm)

theorem State.setStrand_driving {s : State} {m n : Nat} {x : Strand} (hx : x.driving = true) (h : (s.strand n).driving = true) :
    ((s.setStrand m x).strand n).driving = true := by
  by_cases hnm : n = m
  · rw [hnm, State.strand_setStrand_of_ne fun h => by rw [h] at hx; cases hx]
    exact hx
  · rw [State.strand_setStrand_other s x hnm]
    exact h

theorem State.setStrand_drives {s : State} {n : Nat} {x : Strand} (hx : x.driving = true) :
    ((s.setStrand n x).strand n).driving = true := by
  rw [State.strand_setStrand_of_ne fun h => by rw [h] at hx; cases hx]
  exact hx

theorem State.wire_driving {s : State} {m n : Nat} {l : List StrandItem} (h : (s.strand n).driving = true) :
    ((s.wire m l).strand n).driving = true := by
  unfold State.wire
  dsimp only
  split
  · next hm => exact State.setStrand_driving hm h
  · exact h

/-! ### The strands of a takeover (R424, R430) -/

/-- R424: the strand as it is driven from the takeover tick, before NSW. -/
def State.takenStrand (s : State) (tested : Nat → Bool) (hot : Bool) (n : Nat) : Strand :=
  let t := { s.strand n with driving := true }
  let idle : Strand := { t with kind := .render, lines := 0, eof := true, nswNext := true, swapped := false }
  if tested (n / 16) then idle
  else
    let t := if hot then { t with ret := if s.isNsp n then s.pollSlots n else [] } else idle
    { t with swapped := s.isNsp n, swapBanks := [], lastSwp := false }

theorem State.takenStrand_driving (s : State) (tested : Nat → Bool) (hot : Bool) (n : Nat) :
    (s.takenStrand tested hot n).driving = true := by
  unfold State.takenStrand
  dsimp only
  split
  · rfl
  · split <;> rfl

theorem State.takeStrand_eq (s : State) (tested : Nat → Bool) (hot : Bool) (n : Nat) : s.takeStrand tested hot n =
    if s.wantsDrive n = false then s
    else if tested (n / 16) = false ∧ s.isNsp n = true then
      ((s.setStrand n (s.takenStrand tested hot n)).wire n [.nsw]).count (Reg.FRAMES_NSW n)
    else s.setStrand n (s.takenStrand tested hot n) := by
  unfold State.takeStrand State.takenStrand
  dsimp only
  split
  · rfl
  · cases tested (n / 16)
    · cases s.isNsp n <;> rfl
    · rfl

theorem State.takeStrand_keepsDuty (s : State) (tested : Nat → Bool) (hot : Bool) (n : Nat) :
    s.keepsDuty (s.takeStrand tested hot n) := by
  rw [State.takeStrand_eq]
  split
  · exact s.keepsDuty_refl
  · split
    · exact (s.setStrand_keepsDuty _ _).trans ((State.wire_keepsDuty _ _ _).trans (State.count_keepsDuty _ _))
    · exact s.setStrand_keepsDuty _ _

theorem State.takeStrand_drives {s : State} {tested : Nat → Bool} {hot : Bool} {n : Nat} (h : s.wantsDrive n = true) :
    ((s.takeStrand tested hot n).strand n).driving = true := by
  have hset := State.setStrand_drives (s := s) (n := n) (s.takenStrand_driving tested hot n)
  rw [State.takeStrand_eq, if_neg (by rw [h]; decide)]
  split
  · exact State.wire_driving hset
  · exact hset

theorem State.takeStrand_driving {s : State} {tested : Nat → Bool} {hot : Bool} (m n : Nat) (h : (s.strand n).driving = true) :
    ((s.takeStrand tested hot m).strand n).driving = true := by
  have hset := State.setStrand_driving (m := m) (s.takenStrand_driving tested hot m) h
  rw [State.takeStrand_eq]
  split
  · exact h
  · split
    · exact State.wire_driving hset
    · exact hset

/-- R430: strand `n` starts to drive when it may. -/
def State.startStrand (s : State) (n : Nat) : State :=
  if s.wantsDrive n then
    s.setStrand n { s.strand n with driving := true, ret := if s.isNsp n then s.pollSlots n else [] }
  else s

theorem State.startStrand_keepsDuty (s : State) (n : Nat) : s.keepsDuty (s.startStrand n) := by
  unfold State.startStrand
  split
  · exact s.setStrand_keepsDuty _ _
  · exact s.keepsDuty_refl

theorem State.startStrand_drives {s : State} {n : Nat} (h : s.wantsDrive n = true) :
    ((s.startStrand n).strand n).driving = true := by
  rw [State.startStrand, if_pos h]
  exact State.setStrand_drives rfl

theorem State.startStrand_driving {s : State} (m n : Nat) (h : (s.strand n).driving = true) :
    ((s.startStrand m).strand n).driving = true := by
  unfold State.startStrand
  split
  · exact State.setStrand_driving rfl h
  · exact h

/-! ### What a takeover leaves (R424, R429) -/

theorem State.noteTakeover_notes (s : State) : s.noteTakeover.red = { s.red with
      takeoverNs := s.hearth.lastTickNs, lastSwapTick := s.hearth.k, switchX := none } ∧ s.noteTakeover.mode = s.mode ∧
    s.noteTakeover.strands = s.strands ∧ s.noteTakeover.ctrl.live = s.ctrl.live ∧ s.noteTakeover.nvm = s.nvm ∧
    s.Shows s.noteTakeover Ev.TAKEOVER := by
  obtain ⟨u, hu⟩ : ∃ u : State, u = { s with red := { s.red with
      takeoverNs := s.hearth.lastTickNs, lastSwapTick := s.hearth.k, switchX := none } } := ⟨_, rfl⟩
  have heq : s.noteTakeover = (u.raise Ev.TAKEOVER).count Reg.TAKEOVERS := by
    rw [hu]
    rfl
  obtain ⟨hb, hm, hr⟩ := (u.raise_keepsDuty Ev.TAKEOVER).trans (State.count_keepsDuty _ Reg.TAKEOVERS)
  rw [← heq] at hb hm hr
  have hregs : u.regs = s.regs := by rw [hu]
  refine ⟨hr.trans (by rw [hu]), hm.trans (by rw [hu]), ?_, hb.live.trans (by rw [hu]), hb.nvm.trans (by rw [hu]), ?_⟩
  · rw [heq]
    exact (State.raise_strands _ _).trans (by rw [hu])
  · have hshows : u.Shows s.noteTakeover Ev.TAKEOVER := by
      rw [heq]
      exact (State.raise_shows (e := Ev.TAKEOVER) u (by decide)).keep (State.setRegN_keepsEvent _ (by decide) _)
    exact (State.KeepsEvents.shows (State.keepsEvents_of_regs hregs) hshows)

/-- R429: without a conflict on the line, the active at most pulls it. -/
theorem State.pullOwnIl_pulls {s : State} (h : s.arbMode = 0 ∨ s.red.ownIlIn = true ∨ s.red.ownIlPulled = true) :
    ∃ out pulled up check inn high, s.pullOwnIl = { s with red := { s.red with
      ownIlOut := out, ownIlPulled := pulled, ownIlPullUp := up, ownIlCheck := check, ownIlIn := inn, ownIlHigh := high } } := by
  have hstay : ∃ out pulled up check inn high, s = { s with red := { s.red with
      ownIlOut := out, ownIlPulled := pulled, ownIlPullUp := up, ownIlCheck := check, ownIlIn := inn, ownIlHigh := high } } :=
    ⟨s.red.ownIlOut, s.red.ownIlPulled, s.red.ownIlPullUp, s.red.ownIlCheck, s.red.ownIlIn, s.red.ownIlHigh, rfl⟩
  unfold State.pullOwnIl
  split
  · unfold State.releaseOwnIl
    split
    · exact ⟨false, s.red.ownIlPulled, s.red.ownIlPullUp, false, true, s.red.ownIlHigh, rfl⟩
    · exact hstay
  · split
    · exact hstay
    · next hpull =>
      dsimp only
      rw [if_neg]
      · exact ⟨_, _, _, _, _, _, rfl⟩
      · intro hc
        simp only [Bool.and_eq_true, Bool.not_eq_true'] at hc
        obtain ⟨⟨⟨hlow, hfirst⟩, -⟩, -⟩ := hc
        rcases h with h | h | h
        · exact hpull (Or.inl h)
        · exact absurd (h.symm.trans hlow) (by decide)
        · exact absurd (h.symm.trans hfirst) (by decide)

/-- A takeover from `s`, which is active already: the device presents again, `f` takes the strands, and TAKEOVER is told. -/
def State.takenOver (s : State) (hit : Nat → Bool) (f : State → State) : State :=
  ((f ((s.present Trigger.TAKEOVER).abortTests hit)).noteTakeover).pullOwnIl

/-- R424: what the takeover of a standby in SHADOW leaves, whose peer is then `peer`. -/
structure State.takesOver (s t : State) (peer : Role) : Prop where
  role : t.red.role = .active
  peerRole : t.red.peerRole = peer
  switchX : t.red.switchX = none
  mode : t.mode = if s.recordMode = some .hold then .hold else .live
  tick : t.red.lastSwapTick = s.hearth.k
  time : t.red.takeoverNs = s.hearth.lastTickNs
  event : s.regsOk → t.sees Ev.TAKEOVER = true
  drives : ∀ n, n < 128 → s.drivable n → (t.strand n).driving = true

theorem State.takenOver_takesOver {s : State} {hit : Nat → Bool} {f : State → State} {g : State → Nat → State}
    (hf : ∀ t, t = (s.present Trigger.TAKEOVER).abortTests hit → f t = allStrands.foldl g t) (hmode : s.mode = .shadow)
    (hrole : s.red.role = .active) (hw : ∀ w ∈ s.ctrl.waiting, ∀ op r, w.why ≠ .selfTest op r)
    (hline : s.arbMode = 0 ∨ s.red.ownIlIn = true ∨ s.red.ownIlPulled = true)
    (hregs : ∀ t : State, t.regsOk → (f t).regsOk)
    (hkeep : ∀ (t : State) (m : Nat), t.keepsDuty (g t m))
    (hself : ∀ (t : State) (n : Nat), t.wantsDrive n = true → ((g t n).strand n).driving = true)
    (hother : ∀ (t : State) (m n : Nat), (t.strand n).driving = true → ((g t m).strand n).driving = true) :
    s.takesOver (s.takenOver hit f) s.red.peerRole := by
  obtain ⟨u, hu⟩ : ∃ u, u = (s.present Trigger.TAKEOVER).abortTests hit := ⟨_, rfl⟩
  obtain ⟨pb, pm, pr⟩ := State.present_frame hmode Trigger.TAKEOVER
  obtain ⟨ab, am, ar⟩ := State.abortTests_keepsDuty (s := s.present Trigger.TAKEOVER) hit (by rw [pb.waiting]; exact hw)
  rw [← hu] at ab am ar
  have hub : s.keepsBoard u := pb.trans ab
  have hum := am.trans pm
  have hur := ar.trans pr
  obtain ⟨v, hfv⟩ : ∃ v, v = f u := ⟨_, rfl⟩
  have hv : v = allStrands.foldl g u := hfv.trans (hf u hu)
  obtain ⟨vb, vm, vr⟩ : u.keepsDuty v := hv ▸ State.keepsDuty_foldl hkeep allStrands u
  have hvb := hub.trans vb
  obtain ⟨nr, nm, ns, nl, nn, ne⟩ := v.noteTakeover_notes
  have hvline : v.noteTakeover.arbMode = 0 ∨ v.noteTakeover.red.ownIlIn = true ∨ v.noteTakeover.red.ownIlPulled = true := by
    have harb : v.noteTakeover.arbMode = s.arbMode := by
      unfold State.arbMode State.param State.paramBytes
      rw [nl, nn, hvb.live, hvb.nvm]
    rw [harb, nr, vr, hur]
    exact hline
  obtain ⟨out, pulled, up, check, inn, high, hpull⟩ := State.pullOwnIl_pulls hvline
  have heq : s.takenOver hit f = v.noteTakeover.pullOwnIl := by
    rw [hfv, hu]
    rfl
  have hregs' : s.regsOk → v.regsOk := fun hs => by
    rw [hfv, hu]
    exact hregs _ ((State.abortTests_keeps (State.present_keeps (State.keeps_self s) Trigger.TAKEOVER) hit).regs hs)
  rw [heq, hpull]
  refine ⟨?_, ?_, ?_, nm.trans (vm.trans hum), ?_, ?_, fun hs => ?_, fun n hn hd => ?_⟩
  · show v.noteTakeover.red.role = _
    rw [nr, vr, hur]
    exact hrole
  · show v.noteTakeover.red.peerRole = _
    rw [nr, vr, hur]
  · show v.noteTakeover.red.switchX = _
    rw [nr]
  · show v.noteTakeover.red.lastSwapTick = _
    rw [nr, hvb.hearth]
  · show v.noteTakeover.red.takeoverNs = _
    rw [nr, hvb.hearth]
  · exact ne.sees (hregs' hs)
  · have hdrive : (v.strand n).driving = true := by
      rw [hv]
      refine State.foldl_drives hkeep hself hother ?_ (by rw [hur]; exact hrole) (hd.keep hub) (List.mem_range.mpr hn)
      rw [hum]
      split
      · exact Or.inr rfl
      · exact Or.inl rfl
    have hstrand : ∀ t : State, t.strands = v.strands → (t.strand n).driving = true := fun t ht => by
      rw [State.strand, ht]
      exact hdrive
    exact hstrand _ ns

/-! ### The roles that change (R415, R430) -/

theorem State.becomeRole_keepsBoard (s : State) (r : Role) : s.keepsBoard (s.becomeRole r) := by
  obtain ⟨u, hu⟩ : ∃ u : State, u = { s with red := { s.red with role := r, takeoverDue := false } } := ⟨_, rfl⟩
  have hboard : s.keepsBoard u := by
    rw [hu]
    exact ⟨rfl, rfl, rfl, rfl, rfl, rfl, rfl, rfl, id⟩
  have heq : s.becomeRole r = if s.red.role = r then s else if r = .active then u.raise Ev.ROLE_CHANGE else
      (u.raise Ev.ROLE_CHANGE).releaseOwnIl := by
    rw [hu]
    rfl
  have hraised := hboard.trans (u.raise_keepsBoard Ev.ROLE_CHANGE)
  rw [heq]
  split
  · exact s.keepsBoard_refl
  · split
    · exact hraised
    · unfold State.releaseOwnIl
      split
      · exact hraised.trans ⟨rfl, rfl, rfl, rfl, rfl, rfl, rfl, rfl, id⟩
      · exact hraised

theorem State.becomeRole_strands (s : State) (r : Role) : (s.becomeRole r).strands = s.strands := by
  unfold State.becomeRole
  split
  · rfl
  · dsimp only
    split
    · exact State.raise_strands _ _
    · unfold State.releaseOwnIl
      split <;> exact State.raise_strands _ _

/-- R429: the new active keeps the levels of OWN_IL that it knows. -/
theorem State.becomeRole_active_red (s : State) :
    ∃ due, (s.becomeRole .active).red = { s.red with role := .active, takeoverDue := due } := by
  unfold State.becomeRole
  split
  · next h => exact ⟨s.red.takeoverDue, by rw [← h]⟩
  · exact ⟨false, State.raise_red _ _⟩

theorem State.becomeRole_peerRole (s : State) : (s.becomeRole .active).red.peerRole = s.red.peerRole := by
  obtain ⟨due, hr⟩ := s.becomeRole_active_red
  rw [hr]

/-- R424: what a takeover leaves, told of the standby that it finds. -/
theorem State.takesOver.of_becomeRole {s t : State} {peer : Role} (h : (s.becomeRole .active).takesOver t peer) :
    s.takesOver t peer := by
  have hb := s.becomeRole_keepsBoard .active
  obtain ⟨due, hr⟩ := s.becomeRole_active_red
  refine ⟨h.role, h.peerRole, h.switchX, ?_, by rw [h.tick, hb.hearth], by rw [h.time, hb.hearth],
    fun hs => h.event ((State.becomeRole_keeps (State.keeps_self s) .active).regs hs), fun n hn hd => h.drives n hn (hd.keep hb)⟩
  rw [h.mode, State.recordMode, hr]
  rfl

/-- A pass that sets strands so that none is driven. -/
theorem State.foldl_releases {f : State → Nat → Strand} (hf : ∀ t m, (f t m).driving = false) {s : State} (hs : s.storesOk)
    {n : Nat} {l : List Nat} (hmem : n ∈ l) : ((l.foldl (fun t m => t.setStrand m (f t m)) s).strand n).driving = false := by
  have hstep : ∀ (t : State) (m : Nat), t.storesOk → (n = m ∨ (t.strand n).driving = false) →
      ((t.setStrand m (f t m)).strand n).driving = false := fun t m ht h => by
    by_cases hnm : n = m
    · rw [hnm, State.strand_setStrand_same ht]
      exact hf t m
    · rw [State.strand_setStrand_other t _ hnm]
      exact h.resolve_left hnm
  have hstays : ∀ (l : List Nat) (t : State), t.storesOk → (t.strand n).driving = false →
      ((l.foldl (fun t m => t.setStrand m (f t m)) t).strand n).driving = false := fun l => by
    induction l with
    | nil => exact fun t _ h => h
    | cons m l ih => exact fun t ht h => ih _ (State.setStrand_storesOk ht _ _) (hstep t m ht (Or.inr h))
  induction l generalizing s with
  | nil => cases hmem
  | cons m l ih =>
    have hs' := State.setStrand_storesOk hs m (f s m)
    by_cases hnm : n = m
    · exact hstays l _ hs' (hstep s m hs (Or.inl hnm))
    · exact ih hs' ((List.mem_cons.mp hmem).resolve_left hnm)

/-- R427: the RELEASE that is sent touches no strand, nor the mode or the time. -/
theorem State.sendRelease_frame (s : State) (reason : Nat) : (s.sendRelease reason).strands = s.strands ∧
    (s.sendRelease reason).mode = s.mode ∧ (s.sendRelease reason).up = s.up := by
  have hmirror : ∀ (t : State) (y : MirrorPayload), (t.sendMirror 3 y).strands = t.strands := fun t y => by
    unfold State.sendMirror
    split <;> rfl
  have hbeat : ∀ (t : State) (tick : Nat) (p : Port), (t.sendHeartbeat 1 tick reason p).strands = t.strands := fun t tick p => by
    unfold State.sendHeartbeat State.sendOwn
    dsimp only
    split
    · split <;> cases p <;> rfl
    · rfl
  have hservice := s.sendRelease_keepsService reason
  refine ⟨?_, hservice.mode, hservice.up⟩
  unfold State.sendRelease State.sendHeartbeats
  rw [hbeat, hbeat, hmirror]

/-- R430: what the active leaves that hands its strands over. -/
theorem State.handOver_hands {s : State} (hs : s.storesOk) (hmode : s.mode ≠ .service) : s.handOver.red.role = .standby ∧
    s.handOver.mode = .shadow ∧ s.handOver.red.peerRole = .active ∧ s.handOver.red.switchX = none ∧ s.handOver.up = s.up ∧
    ∀ n, n < 128 → (s.handOver.strand n).driving = false := by
  obtain ⟨warm, hwarm⟩ : ∃ warm, warm = decide (s.red.flavour = .warm) := ⟨_, rfl⟩
  obtain ⟨f, hf⟩ : ∃ f : State → Nat → Strand, f = fun t n =>
    let x := { t.strand n with driving := false, ret := [], retLate := [], awaiting := none }
    if warm then { x with kind := .none, lines := 0 } else x := ⟨_, rfl⟩
  obtain ⟨u, hu⟩ : ∃ u, u = allStrands.foldl (fun t n => t.setStrand n (f t n)) s := ⟨_, rfl⟩
  have hreleased : ∀ n, n < 128 → (u.strand n).driving = false := fun n hn => by
    rw [hu]
    refine State.foldl_releases (fun t m => ?_) hs (List.mem_range.mpr hn)
    rw [hf]
    cases warm <;> rfl
  obtain ⟨-, um, -⟩ : s.keepsDuty u := hu ▸ State.keepsDuty_foldl (fun t n => t.setStrand_keepsDuty n _) allStrands s
  have uup : u.up = s.up := by
    rw [hu]
    exact (State.keepsDuty_foldl (fun t n => t.setStrand_keepsDuty n (f t n)) allStrands s).1.up
  obtain ⟨rs, rm, rup⟩ := u.sendRelease_frame 2
  obtain ⟨v, hv⟩ : ∃ v, v = (u.sendRelease 2).becomeRole .standby := ⟨_, rfl⟩
  have hvrole : v.red.role = .standby := hv ▸ State.becomeRole_role _ _
  have hvs : v.strands = u.strands := (hv ▸ State.becomeRole_strands _ _ : v.strands = (u.sendRelease 2).strands).trans rs
  have hvm : v.mode = s.mode :=
    (hv ▸ (State.becomeRole_keepsService _ _).mode : v.mode = (u.sendRelease 2).mode).trans (rm.trans um)
  have hvup : v.up = s.up := (hv ▸ State.becomeRole_up _ _ : v.up = (u.sendRelease 2).up).trans (rup.trans uup)
  obtain ⟨w, hw⟩ : ∃ w : State, w = { v with
      red := { v.red with peerRole := .active, releaseRx := false, switchX := none }
      anvil := if warm then { v.anvil with rendering := false } else v.anvil } := ⟨_, rfl⟩
  have heq : s.handOver = w.enterMode .shadow Trigger.ROLE := by
    rw [hw, hv, hu, hf]
    unfold State.handOver State.mapStrands
    rw [← hwarm]
    cases warm <;> rfl
  obtain ⟨eb, em, er, es⟩ := State.enterMode_frame (s := w) (by rw [hw]; exact hvm ▸ hmode) .shadow Trigger.ROLE
  rw [← heq] at eb em er es
  have hwred : w.red = { v.red with peerRole := .active, releaseRx := false, switchX := none } := by rw [hw]
  have hwup : w.up = v.up := by rw [hw]
  have hws : w.strands = v.strands := by rw [hw]
  refine ⟨by rw [er, hwred]; exact hvrole, em, by rw [er, hwred], by rw [er, hwred], eb.up.trans (hwup.trans hvup),
    fun n hn => ?_⟩
  rw [State.strand, es, hws, hvs]
  exact hreleased n hn

/-! ### Takeover and switchover -/

section
variable {s : State}

theorem State.drivable_of (hfw : s.firmwareUp = true) {n : Nat} (hkind : s.isNsp n = true ∨ s.isLegacy n = true)
    (hbank : s.bankOk n = true) (hdead : s.dead = false) : s.drivable n := by
  simp only [State.firmwareUp, Bool.and_eq_true, Bool.not_eq_true'] at hfw
  exact ⟨hkind, hbank, hfw.1, hdead⟩

/-- What the takeover of `s` asks of the device once it is active. -/
theorem State.becomeRole_ready (hmode : s.mode = .shadow) (hw : ∀ w ∈ s.ctrl.waiting, ∀ op r, w.why ≠ .selfTest op r)
    (hline : s.arbMode = 0 ∨ s.red.ownIlIn = true ∨ s.red.ownIlPulled = true) :
    (s.becomeRole .active).mode = .shadow ∧ (∀ w ∈ (s.becomeRole .active).ctrl.waiting, ∀ op r, w.why ≠ .selfTest op r) ∧
      ((s.becomeRole .active).arbMode = 0 ∨ (s.becomeRole .active).red.ownIlIn = true ∨
        (s.becomeRole .active).red.ownIlPulled = true) := by
  have hb := s.becomeRole_keepsBoard .active
  obtain ⟨due, hr⟩ := s.becomeRole_active_red
  refine ⟨(s.becomeRole_keepsService .active).mode.trans hmode, by rw [hb.waiting]; exact hw, ?_⟩
  have harb : (s.becomeRole .active).arbMode = s.arbMode := by
    unfold State.arbMode State.param State.paramBytes
    rw [hb.live, hb.nvm]
  rw [harb, hr]
  exact hline

theorem State.takeStrands_takesOver (hit tested : Nat → Bool) (hmode : s.mode = .shadow)
    (hw : ∀ w ∈ s.ctrl.waiting, ∀ op r, w.why ≠ .selfTest op r)
    (hline : s.arbMode = 0 ∨ s.red.ownIlIn = true ∨ s.red.ownIlPulled = true) :
    s.takesOver ((s.becomeRole .active).takenOver hit (·.takeStrands tested)) s.red.peerRole := by
  obtain ⟨hmode', hw', hline'⟩ := State.becomeRole_ready hmode hw hline
  rw [← State.becomeRole_peerRole]
  obtain ⟨hot, hhot⟩ : ∃ hot, hot =
    decide ((((s.becomeRole .active).present Trigger.TAKEOVER).abortTests hit).red.flavour = .hot) := ⟨_, rfl⟩
  refine State.takesOver.of_becomeRole (State.takenOver_takesOver (g := fun t n => t.takeStrand tested hot n) (fun t ht => ?_)
    hmode' (State.becomeRole_role _ _) hw' hline' (fun t => (State.takeStrands_keeps (State.keeps_self t) tested).regs)
    (fun t n => t.takeStrand_keepsDuty _ _ n) (fun _ _ => State.takeStrand_drives) fun _ => State.takeStrand_driving)
  rw [hhot, ← ht]
  rfl

theorem State.startDriving_takesOver (hit : Nat → Bool) (hmode : s.mode = .shadow)
    (hw : ∀ w ∈ s.ctrl.waiting, ∀ op r, w.why ≠ .selfTest op r)
    (hline : s.arbMode = 0 ∨ s.red.ownIlIn = true ∨ s.red.ownIlPulled = true) :
    s.takesOver ((s.becomeRole .active).takenOver hit State.startDriving) s.red.peerRole := by
  obtain ⟨hmode', hw', hline'⟩ := State.becomeRole_ready hmode hw hline
  rw [← State.becomeRole_peerRole]
  exact State.takesOver.of_becomeRole (State.takenOver_takesOver (g := State.startStrand) (fun t _ => rfl) hmode'
    (State.becomeRole_role _ _) hw' hline' (fun t => (State.startDriving_keeps (State.keeps_self t)).regs)
    State.startStrand_keepsDuty (fun _ _ => State.startStrand_drives) fun _ => State.startStrand_driving)

theorem State.takesOver.taken {t : State} {peer : Role} (h : s.takesOver t peer) (hfw : s.firmwareUp = true) : t.red.role = .active ∧
    t.mode = (if s.recordMode = some .hold then .hold else .live) ∧ t.red.lastSwapTick = s.hearth.k ∧
    t.red.takeoverNs = s.hearth.lastTickNs ∧ (s.regsOk → t.sees Ev.TAKEOVER = true) ∧
    (∀ n, n < 128 → (s.isNsp n = true ∨ s.isLegacy n = true) → s.bankOk n = true → s.dead = false →
      (t.strand n).driving = true) :=
  ⟨h.role, h.mode, h.tick, h.time, h.event, fun n hn hkind hbank hdead =>
    h.drives n hn (State.drivable_of hfw hkind hbank hdead)⟩

/-- R424, R430: a takeover after a stretch of time is one of the state before it. -/
theorem State.takesOver.of_reach {due : Nat} {t : State} {peer : Role} (h : (s.reach due).takesOver t peer) :
    s.takesOver t peer := by
  refine ⟨h.role, h.peerRole, h.switchX, ?_, by rw [h.tick, State.reach_hearth],
    by rw [h.time, State.reach_hearth], fun hs => h.event (s.reach_keepsEvents due hs).1, fun n hn hd => h.drives n hn ?_⟩
  · rw [h.mode, State.recordMode, State.reach_red]
    rfl
  · exact hd.congr (State.reach_ctrl_live _ _) (State.reach_nvm _ _) (State.reach_banks _ _) (State.reach_sys _ _)
      (State.reach_sched _ _)

theorem State.reach_arbMode (s : State) (due : Nat) : (s.reach due).arbMode = s.arbMode := by
  unfold State.arbMode State.param State.paramBytes
  rw [State.reach_ctrl_live, State.reach_nvm]

/-- R430: the standby that knows that its peer becomes one. -/
def State.peerYields (s : State) : State := { s with red := { s.red with peerRole := .standby } }

/-- R430: the standby of a switchover takes the strands when no edge is near. -/
theorem State.takeOver_takesOver (hmode : s.mode = .shadow) (hw : ∀ w ∈ s.ctrl.waiting, ∀ op r, w.why ≠ .selfTest op r)
    (hline : s.arbMode = 0 ∨ s.red.ownIlIn = true ∨ s.red.ownIlPulled = true) (hedge : s.edgeNear = false) :
    s.peerYields.takesOver s.takeOver .standby := by
  have heq : s.takeOver =
      (s.peerYields.becomeRole .active).takenOver (s.peerYields.becomeRole .active).bankUsed State.startDriving := by
    rw [State.takeOver, if_neg (by rw [hedge]; decide)]
    rfl
  rw [heq]
  exact State.startDriving_takesOver (s := s.peerYields) _ hmode hw hline

theorem State.takesOver.of_peerYields {t : State} {peer : Role} (h : s.peerYields.takesOver t peer) :
    s.takesOver t peer := ⟨h.role, h.peerRole, h.switchX, h.mode, h.tick, h.time, h.event, h.drives⟩

/-- R430: an edge that is near keeps the standby from driving. -/
theorem State.takeOver_waits (hedge : s.edgeNear = true) :
    s.takeOver = ({ s with red := { s.red with switchX := none } } : State).raise Ev.BUS_CONFLICT := if_pos hedge

end

/-- Settles O50: the takeover by the passes over the strands, the switchover by what each member leaves. -/
theorem takeoverAndSwitchoverMoveTheOutput : Obligations.TakeoverAndSwitchoverMoveTheOutput := by
  unfold Obligations.TakeoverAndSwitchoverMoveTheOutput
  intro s hs hfw hw hline taken
  have hswitch : s.red.switchX = some s.hearth.k → s.dead = false →
      ¬(s.red.switchX ≠ some s.hearth.k ∨ s.firmwareUp = false ∨ s.dead = true) := fun hx hd => by
    rw [hx, hfw, hd]
    simp
  obtain ⟨u, hu⟩ : ∃ u, u = s.reach (s.hearth.lastTickUp + s.swapWindowNs) := ⟨_, rfl⟩
  have hured : u.red = s.red := hu ▸ State.reach_red _ _
  have humode : u.mode = s.mode := hu ▸ State.reach_mode _ _
  have hustrands : u.strands = s.strands := by
    rw [hu]
    exact State.reach_strands _ _
  have huregs : s.regsOk → u.regsOk := fun hok => by
    rw [hu]
    exact (s.reach_keepsEvents _ hok).1
  have heq : ∀ hx hd, execSwitchoverAtTick s = if u.red.role = .active ∧ u.mayHandOver then .next u.handOver
      else if u.red.role = .standby ∧ u.mode = .shadow then .next u.takeOver
      else .next { u with red := { u.red with switchX := none } } := fun hx hd => by
    rw [execSwitchoverAtTick, if_neg (hswitch hx hd), hu]
  have hmay : u.mayHandOver = s.mayHandOver := by
    rw [State.mayHandOver, hured, humode]
    rfl
  refine ⟨fun hdue hmode => ?_, fun hx hd hrole hno => ?_, fun hx hd hrole hyes => ?_, fun hx hd hrole hmode => ?_⟩
  · refine ⟨_, ?_, (State.takeStrands_takesOver s.bankUsed s.bankTested hmode hw hline).taken hfw⟩
    simp only [exec, execTakeover]
    rw [if_neg (by rw [hdue, hmode]; decide)]
    rfl
  · refine ⟨{ u with red := { u.red with switchX := none } }, (heq hx hd).trans ?_,
      congrArg (fun r : Red => { r with switchX := none }) hured, humode, hustrands⟩
    rw [if_neg (by rw [hmay, hno]; simp), if_neg (by rw [hured, hrole]; simp)]
  · have huok : u.storesOk := hu ▸ State.reach_storesOk hs _
    obtain ⟨hr, hm, hp, hsw, hup, hdriving⟩ := State.handOver_hands huok (by
      simp only [State.mayHandOver, Bool.and_eq_true, Bool.or_eq_true, decide_eq_true_eq] at hyes
      rw [humode]
      rcases hyes with ⟨-, (h | h) | h⟩ <;> rw [h] <;> decide)
    refine ⟨_, (heq hx hd).trans (if_pos ⟨by rw [hured]; exact hrole, by rw [hmay]; exact hyes⟩), hr, hm, hp, hsw, ?_, hdriving⟩
    rw [hup, hu]
    exact s.le_reach_up _
  · rw [← hu]
    have hover : u.edgeNear = false → u.peerYields.takesOver u.takeOver .standby := State.takeOver_takesOver (by rw [humode]; exact hmode)
      (by rw [hu, State.reach_ctrl_waiting]; exact hw) (by rw [hured, hu, State.reach_arbMode]; exact hline)
    refine ⟨u.takeOver, (heq hx hd).trans ?_, ?_, fun hedge => ?_, fun hedge => ?_⟩
    · rw [if_neg (by rw [hured, hrole]; simp), if_pos ⟨by rw [hured]; exact hrole, by rw [humode]; exact hmode⟩]
    · by_cases hedge : u.edgeNear = true
      · rw [State.takeOver_waits hedge, State.raise_red]
      · exact (hover (by simpa using hedge)).switchX
    · have h := hover hedge
      refine ⟨(State.takesOver.of_reach (due := s.hearth.lastTickUp + s.swapWindowNs) (peer := .standby) ?_).taken hfw, h.peerRole⟩
      rw [← hu]
      exact h.of_peerYields
    · rw [State.takeOver_waits hedge]
      refine ⟨?_, ?_, fun hok => ?_⟩
      · rw [State.raise_red]
        exact hured ▸ hrole
      · exact (State.raise_strands _ _).trans hustrands
      · exact (State.raise_shows (e := Ev.BUS_CONFLICT) _ (by decide)).sees
          (huregs hok)

end Sys2Proof.Machine
end

section
/-! ## What a tick can change: R68, R208 -/

namespace Sys2Proof.Machine

/-! ### A tick that a frame's end makes late (R68, R269)

A statement over all states covers strands whose frame has not ended when the next tick is due. The tick sends such a frame's
EOF first, where the strand's position on the wire puts it, and that takes the counter past the grid's instant. -/

/-- R68: after its edge the tick leaves the counter where it is. -/
theorem State.tickAll_units (s : State) : s.tickAll.time.units = s.tickOpen.time.units := by
  unfold State.tickAll
  refine State.Keeps.units (pins := false) (State.tickClose_keeps ?_)
  exact State.tickFrames_keeps (State.tickGrid_keeps (State.tickChanges_keeps (State.keeps_refl _) _ _) _)

/-- An IDLE device whose strand 0, an NSP strand, is dark and has an EOF to send 120 ms into an interval of 16.7 ms. -/
def lateFrame : State := { State.reset with
  mode := .idle, sys := { inReset := false, clockRuns := true, phase := 5, faultN := false }
  ctrl := { live := [(P.STRAND_CFG 0, [1])] }, strands := [(0, { kind := .dark, pos := 30000000 })] }

theorem lateFrame_late : lateFrame.tickOpen.time.units ≠ max lateFrame.time.units lateFrame.nextTickUnits := by decide +kernel

/-- Refutes O11: the EOF of a frame that is still open takes the counter past the instant of the tick. -/
theorem not_tickGridAdvances : ¬ Obligations.TickGridAdvances := by
  unfold Obligations.TickGridAdvances
  intro h
  obtain ⟨htick, -, -⟩ := h lateFrame 0 (by decide)
  obtain ⟨t, hexec, -, hunits, -, -⟩ := htick (by decide +kernel)
  simp only [exec, execTick] at hexec
  rw [if_pos (by decide)] at hexec
  rw [← Host.Outcome.next.inj hexec, State.tickAll_units] at hunits
  exact lateFrame_late hunits

/-! ### A load of the time that reaches the tick of a retime (R88, R208)

When EMERG_N is asserted the tests of mapped banks end, and the commands that waited for them run. One of them can write
TIME_NS: a load that takes the counter past tick T of a retime runs that tick within the same step, and the tick raises the
emergency layer. -/

/-- R208: with EMERG_N asserted the layer is raised at the tick. -/
theorem State.emergencyTick_raises {s : State} (h : s.fs.emergPin = true) : s.emergencyTick.fs.raised = true := by
  have hlater : ∀ (t : State) (e : Ev), ((t.raise e).irq Irq.EMERG).fs.raised = t.fs.raised := fun t e => by
    show (t.raise e).fs.raised = _
    exact (State.raise_keeps (clock := true) (State.keeps_refl t) e).emerg.2
  unfold State.emergencyTick
  rw [h, Bool.true_or]
  dsimp only
  split
  · next heq => exact heq.symm
  · rw [if_pos rfl, hlater]

/-- R208: a tick with EMERG_N asserted raises the emergency layer. -/
theorem State.tickAll_raises {s : State} (h : s.fs.emergPin = true) : s.tickAll.fs.raised = true := by
  obtain ⟨u, hu⟩ : ∃ u, u = ((s.tickOpen).tickChanges s.hearth.k s.hearth.recordDone).tickGrid (decide (s.hearth.lastTickUp = 0)) :=
    ⟨_, rfl⟩
  obtain ⟨v, hv⟩ : ∃ v, v = u.layer0Streams.foldl (fun (t : State) i => t.presentStream t.hearth.k i) u := ⟨_, rfl⟩
  have hpin : v.fs.emergPin = true := by
    have hgrid : s.Keeps false true u := hu ▸ State.tickGrid_keeps (State.tickChanges_keeps (State.tickOpen_keeps
      (State.keeps_refl s)) _ _) _
    have hframes : u.Keeps false true v := hv ▸ State.keeps_foldl (fun t i => State.presentStream_keeps (State.keeps_refl t) _ i)
      (State.keeps_refl u) _
    exact (hgrid.trans hframes).emerg.1.trans h
  obtain ⟨w, hw⟩ : ∃ w, w = v.emergencyTick := ⟨_, rfl⟩
  have hrest : w.Keeps false true s.tickAll := by
    have hselect : w.Keeps false true (if w.hearth.gap = 1 then w else w.selectTick (decide (w.hearth.gap = 2))) :=
      State.keeps_of_ite (State.keeps_refl w) (State.selectTick_keeps (State.keeps_refl w) _)
    rw [hw, hv, hu] at hselect
    exact hw ▸ hv ▸ hu ▸ State.tickClose_keeps (State.silenceTick_keeps hselect)
  exact hrest.emerg.2.trans (hw ▸ State.emergencyTick_raises hpin)

/-- R513: where no test is queued or runs, the commands that waited for one run at once. -/
theorem State.abortTests_of_untested {s : State} (h : s.bist.tests = []) (hit : Nat → Bool) : s.abortTests hit = s.resumeDeferred := by
  unfold State.abortTests
  rw [h]
  rfl

/-- R508: the one command that waits for a test runs. -/
theorem State.resumeDeferred_of_one {s : State} {w : Waiting} {op : Nat} {r : Request} (hw : s.ctrl.waiting = [w])
    (hwhy : w.why = .selfTest op r) (hblock : s.blockTest op r = none) :
    s.resumeDeferred = ({ s with ctrl := { s.ctrl with waiting := [] } } : State).execute op r (bodyOf op) := by
  have hone : s.resumeOne w = ({ s with ctrl := { s.ctrl with waiting := s.ctrl.waiting.filter fun x => decide (x ≠ w) } } :
      State).execute op r (bodyOf op) := by
    simp only [State.resumeOne, hwhy]
    rw [if_neg (by rw [hblock]; decide)]
  have hrest : (s.ctrl.waiting.filter fun x => decide (x ≠ w)) = [] := by
    rw [hw]
    simp
  unfold State.resumeDeferred
  rw [hw, List.foldl_cons, List.foldl_nil, hone, hrest]

/-- The state of a device whose EMERG_N has been asserted (R533). -/
def State.pinAsserted (s : State) : State := { s with fs := { s.fs with emergPin := true } }

theorem execEmergNAsserted_idle {s : State} (hreset : s.sys.inReset = false) (hpin : s.fs.emergPin = false) (hmode : s.mode = .idle) :
    execEmergNAsserted s = .next (s.pinAsserted.abortTests s.pinAsserted.bankMapped) := by
  unfold execEmergNAsserted
  rw [if_neg (by rw [hreset, hpin]; decide)]
  dsimp only
  split
  · rfl
  · next h => exact absurd (hmode.symm.trans h) (by decide)
  · next h _ => exact absurd hmode h

/-- R392: a command that nothing refuses runs, and is answered. -/
theorem State.execute_of_passed {s : State} {op : Nat} {r : Request} (body : Body) (hjudge : s.judge op r = none)
    (hblock : s.blockTest op r = none) (haborted : s.takeAborted r = (s, false)) :
    s.execute op r body = ((body s r).1.forward op r (body s r).2).answer op r (body s r).2 := by
  unfold State.execute
  rw [hjudge]
  dsimp only
  rw [hblock, ite_self]
  dsimp only
  rw [haborted]
  exact if_neg Bool.false_ne_true

/-- R435: a command that is none of the forwarded ones goes to no peer. -/
theorem State.forward_of_unforwarded {s : State} {op : Nat} {r : Request} {rep : Reply} (hchan : r.chan ≠ .c3)
    (hop : forwarded.contains op = false) : s.forward op r rep = s := by
  simp only [State.forward, hchan, if_false, hop, Bool.false_and, Bool.false_eq_true]

/-- R410: a REG_WRITE of one word. -/
theorem bodyRegWrite_of_one {s : State} {r : Request} {a : Nat} {w : Word}
    (hrange : regRangeOk (field r.payload 0 4) (field r.payload 4 2) 250 ≠ false) (haddr : field r.payload 0 4 = a)
    (hwords : wordsOf (r.payload.drop 8) (field r.payload 4 2) = [w]) :
    ∃ p, bodyRegWrite s r = (s.regWriteWord (.client r.chan r.from_) a w, .done Status.OK p) := by
  unfold bodyRegWrite
  dsimp only
  rw [if_neg hrange, haddr, hwords]
  exact ⟨_, rfl⟩

/-- A REG_WRITE that loads 20 ms into the counter. -/
def timeLoad : Request :=
  { chan := .c0, from_ := ⟨[], 0⟩, port := .a, flags := 0, seq := 1, len := 12, client := 1
    payload := beBytes 4 Reg.TIME_NS ++ beBytes 2 1 ++ [0, 0] ++ beBytes 4 20000000 }

/-- An IDLE device without a servo that waits for tick T = 1 of a retime, due at 16.7 ms, and for a test to end before it runs
that REG_WRITE. -/
def retiming : State := { State.reset with
  mode := .idle, sys := { inReset := false, clockRuns := true, phase := 5, faultN := false }, regs := [(Reg.TIME_CTRL, 0)]
  hearth := { State.reset.hearth with retime := some ⟨1, 0, 2, 33333333, State.reset.hearth.timing⟩ }
  ctrl := { waiting := [{
    chan := .c0, ep := ⟨[], 0⟩, seq := 1, opcode := Op.REG_WRITE, client := 1, why := .selfTest Op.REG_WRITE timeLoad }] } }

/-- The same with EMERG_N asserted, as the REG_WRITE finds it. -/
def resuming : State := { retiming with fs := { retiming.fs with emergPin := true }, ctrl := {} }

/-- The counter has been loaded. -/
def loaded : State := resuming.writeTimeNs (.client .c0 ⟨[], 0⟩) 20000000

theorem loaded_settles : loaded.settleStep resuming = loaded.tickAll := by
  have hcond : ∃ r, loaded.hearth.retime = some r ∧ (loaded.firmwareUp = true ∧ loaded.hearth.gap = 0 ∧
      loaded.reachedT r = true ∧ resuming.reachedT r = false) := by
    refine ⟨_, rfl, ?_⟩
    decide +kernel
  obtain ⟨r, hr, hdue⟩ := hcond
  unfold State.settleStep
  rw [hr]
  exact if_pos hdue

theorem resuming_write : resuming.writeReg (.client .c0 ⟨[], 0⟩) Reg.TIME_NS 20000000 = loaded.tickAll := by
  rw [← loaded_settles]
  rfl

theorem resuming_regWriteWord : loaded.tickAll.Keeps false true
    (resuming.regWriteWord (.client .c0 ⟨[], 0⟩) Reg.TIME_NS 20000000) := by
  unfold State.regWriteWord
  rw [resuming_write]
  exact State.keeps_of_ite (State.keeps_refl _) (State.emit_keeps (State.keeps_refl _) _ _ _ _)

theorem resuming_body : ∃ p, bodyOf Op.REG_WRITE resuming timeLoad =
    (resuming.regWriteWord (.client .c0 ⟨[], 0⟩) Reg.TIME_NS 20000000, .done Status.OK p) :=
  bodyRegWrite_of_one (r := timeLoad) (by decide +kernel) (by decide +kernel) (by decide +kernel)

theorem resuming_execute : ∃ u : State, loaded.tickAll.Keeps false true u ∧
    resuming.execute Op.REG_WRITE timeLoad (bodyOf Op.REG_WRITE) = u := by
  refine ⟨_, ?_, State.execute_of_passed _ (by decide +kernel) (by decide +kernel) rfl⟩
  obtain ⟨p, hp⟩ := resuming_body
  obtain ⟨v, hv⟩ : ∃ v, v = resuming.regWriteWord (.client .c0 ⟨[], 0⟩) Reg.TIME_NS 20000000 := ⟨_, rfl⟩
  have hkeep : loaded.tickAll.Keeps false true v := hv ▸ resuming_regWriteWord
  rw [hp, ← hv, State.forward_of_unforwarded (by decide) (by decide)]
  exact State.answer_keeps hkeep _ _ _

theorem retiming_resumes : exec .emergNAsserted retiming =
    .next (resuming.execute Op.REG_WRITE timeLoad (bodyOf Op.REG_WRITE)) :=
  (execEmergNAsserted_idle (s := retiming) rfl rfl rfl).trans (congrArg Host.Outcome.next
    ((State.abortTests_of_untested (s := retiming.pinAsserted) rfl _).trans
      (State.resumeDeferred_of_one (s := retiming.pinAsserted) rfl rfl (by decide +kernel))))

/-- Refutes O36: asserting EMERG_N in IDLE can run a deferred load of the time, and with it the tick that raises the layer. -/
theorem not_sensorsAndSuppliesAreWatched : ¬ Obligations.SensorsAndSuppliesAreWatched := by
  unfold Obligations.SensorsAndSuppliesAreWatched
  intro h
  obtain ⟨-, -, -, -, -, -, hemerg, -⟩ := h retiming 0 0 0 0 0 (by decide) (by decide)
  obtain ⟨t, hexec, -, hraised⟩ := hemerg rfl
  obtain ⟨u, hkeep, hu⟩ := resuming_execute
  rw [retiming_resumes, hu] at hexec
  rw [← Host.Outcome.next.inj hexec, hkeep.emerg.2, State.tickAll_raises (by decide +kernel)] at hraised
  exact absurd hraised (by decide)

end Sys2Proof.Machine
end
